-- ==== Sys2Proof/Word.lean ====
section
/-! DEFINITION. The word and byte types of the register map (R7, R115) and their plainest arithmetic. -/
namespace Sys2Proof

/-- A register or window word: 32 bits (R115). -/
abbrev Word := BitVec 32

/-- A byte of LPDDR4X. -/
abbrev Byte := BitVec 8

/-- The word that holds a number, wrapping at 32 bits. -/
def word (n : Nat) : Word := BitVec.ofNat 32 n

end Sys2Proof
end

