-- ==== Sys2Proof/Machine/Parts.lean ====
section
/-! DEFINITION. The parts that the state is made of: the time base, and for each chapter what its block holds beside its
registers, as plain data. Every field names the rule of the chapter that gives it. -/
namespace Sys2Proof.Machine

/-- Registers by address; an unlisted word reads `regReset`. -/
abbrev RegTable := List (Nat × Word)

/-- The time base (R69, R70): the frame number, the cycle offset in the frame, the SITE_TIME of the frame's opening
boundary, the frame's actual length, and the FCLK cycles since power-on, which no region restart clears. -/
structure TimeBase where
  /-- FRAME_NO, 48 bits (02 R70). -/
  frameNo : BitVec 48 := 0
  /-- The cycle offset in the current frame, below `len` (02 R71). -/
  offset : Nat := 0
  /-- SITE_TIME of the boundary that opened the frame, 64 bits (02 R69, R73). -/
  bndTime : BitVec 64 := 0
  /-- The current frame's actual length in cycles (02 R33, R62). -/
  len : Nat := 25000
  /-- FCLK cycles since power-on, for the windows that outlast a region's restart (03 R107, R109). -/
  up : Nat := 0
  deriving DecidableEq, Repr

/-- One event-log entry: stamp, source and class word, detail (R167). -/
structure LogEntry where
  /-- Words 0 and 1: TS_LO and TS_HI (05 R167). -/
  ts : BitVec 64 := 0
  /-- Word 2: TYPE, INSTANCE, CLASS (05 R167). -/
  src : Word := 0
  /-- Word 3: DETAIL (05 R167). -/
  detail : Word := 0
  deriving DecidableEq, Repr

/-- One set of snapshot copies (R162, R163): the registers of each region as a boundary captured them. -/
structure SnapBank where
  /-- SEQ: FRAME_NO[31:0] of the boundary that filled it (05 R164, R166). -/
  seq : Word := 0
  /-- Control and Service registers as captured (05 R162). -/
  chip : RegTable := []
  /-- Heath registers as captured (05 R162). -/
  heath : RegTable := []
  /-- Metrology registers as captured (05 R162). -/
  met : RegTable := []
  deriving DecidableEq, Repr

/-- A plane's reader: its two banks, the one it reads, and its hold's age (R163, R165). -/
structure SnapPlane where
  /-- The bank that a capture fills when `readB` is true (05 R163). -/
  bankA : SnapBank := {}
  /-- The bank that a capture fills when `readB` is false (05 R163). -/
  bankB : SnapBank := {}
  /-- Bank B is the read bank (05 R163). -/
  readB : Bool := false
  /-- The boundary filled the bank that is not read since the hold was set (05 R165). -/
  fresh : Bool := false
  /-- Boundaries since the hold was set (05 R165). -/
  age : Nat := 0
  deriving DecidableEq, Repr

/-- A plane's private latch of the time words (R73). -/
structure NowLatch where
  /-- FRM.NOW_LO as returned (02 R73). -/
  nowLo : Word := 0
  /-- FRM.NOW_HI (02 R73). -/
  nowHi : Word := 0
  /-- FRM.SITE_TIME_LO (02 R73). -/
  siteLo : Word := 0
  /-- FRM.SITE_TIME_HI (02 R73). -/
  siteHi : Word := 0
  /-- FRM.BND_TIME_LO (02 R73). -/
  bndLo : Word := 0
  /-- FRM.BND_TIME_HI (02 R73). -/
  bndHi : Word := 0
  deriving DecidableEq, Repr

/-- What the frame engine holds beside the FRM page (ch. 2). -/
structure FrameSt where
  /-- How many cuts of the frame have passed: bundle cut-off, Solve start, Emit start, Mirror/Impose start, verdicts fixed (02 R35,
  05 R153). -/
  phase : Nat := 0
  /-- The error of an edge seen before its boundary, which pulls the frame that the boundary opens (02 R60, R62). -/
  earlyEdge : Option Int := none
  /-- The current boundary's window has its evaluated edge (02 R61). -/
  winEdge : Bool := false
  /-- The current boundary's window has closed (02 R60). -/
  winClosed : Bool := true
  /-- SLEW mode before its first lock (02 R66). -/
  prelock : Bool := false
  /-- The frames run free since an edge outside every window, until lock is gained (02 R65). -/
  freeRun : Bool := false
  /-- The mode that governs the current boundary's window (02 R770). -/
  wmode : Nat := 0
  /-- Pulls of edges before the boundary that SLEW assigns to it: their sum and the sum of their absolutes (02 R66). -/
  slew : Int := 0
  slewAbs : Nat := 0
  /-- Consecutive misses while locked (02 R64). -/
  missRun : Nat := 0
  /-- The sum of the absolute pulls since the last anchor (02 R74). -/
  pullSum : Nat := 0
  /-- Overruns in a row in frozen-grant mode (02 R54). -/
  frozenOvr : Nat := 0
  /-- Frozen-grant mode is due from the next boundary (02 R50). -/
  freezeDue : Bool := false
  /-- The Allocator completed in this frame, or does not run in it (02 R46, R51). -/
  alcDone : Bool := false
  /-- The Control Engine completed in this frame (02 R46). -/
  cenDone : Bool := false
  /-- The current frame's Solve is running (02 R41). -/
  solving : Bool := false
  /-- FSYNC_OUT is high (02 R67). -/
  fsyncOut : Bool := false
  /-- The anchor of this boundary is still to be written (02 R74). -/
  anchorDue : Bool := false
  deriving DecidableEq, Repr

/-- A Galley slot beside its registers (ch. 5). -/
structure GalSlot where
  /-- The staging list in order of arrival: address and value (05 R139). -/
  list : List (Nat × Word) := []
  /-- The structural pass that runs or waits: 0 none, 1 for PROOF, 2 for COMMIT (05 R144). -/
  pass : Nat := 0
  /-- The target boundary opens the frame with this number (05 R145). -/
  target : BitVec 48 := 0
  /-- This chip's boundary verdict: a reason code, 0 for a pass (05 R153, R160). -/
  verdict : Option Nat := none
  /-- The partner's boundary verdict (05 R160). -/
  partner : Option Nat := none
  /-- The address and list index of the entry at which the boundary pass failed (05 R150). -/
  at' : Nat × Nat := (0, 0)
  /-- The MRAM marker is written (05 R156). -/
  marker : Bool := false
  deriving DecidableEq, Repr

/-- The Galley beside its registers (ch. 5). -/
structure Galley where
  /-- The four transaction slots by number (05 R135). -/
  slots : List (Nat × GalSlot) := []
  /-- Slots whose structural pass runs (first) or waits, in order of arrival (05 R148). -/
  queue : List Nat := []
  /-- FCLK cycles since power-on at which each slot's pass was last asked for (05 R148). -/
  came : List (Nat × Nat) := []
  /-- Committed slots that await Imposition, in acceptance order (05 R147). -/
  accepted : List Nat := []
  /-- The committed set of this frame's boundary, fixed at the commit cut (05 R153). -/
  cut : List Nat := []
  /-- The commit cut of this frame is past (05 R143). -/
  past : Bool := false
  /-- Forwarded entries are missing on a standby (05 R159). -/
  gap : Bool := false
  /-- Outcomes of a restart, still to be logged: slot, imposed, detail (05 R156). -/
  ended : List (Nat × Bool × Nat) := []
  deriving DecidableEq, Repr

/-- A parity replay or scrub in progress (R89, R90). -/
structure Replay where
  /-- Repeats done (03 R89). -/
  tries : Nat := 0
  /-- A scrub of the word is requested (03 R90). -/
  scrub : Bool := false
  /-- The value that the partner has supplied for a scrub of control state (03 R90). -/
  supplied : Option Word := none
  deriving DecidableEq, Repr

/-- The four variants (R2). -/
inductive Variant where
  | v5120 | v5120N | v5116 | v5108
  deriving DecidableEq, Repr

/-- What the part and its board fix: no command changes it. -/
structure Part where
  /-- The variant, fixed at manufacture (00 R1, R2). -/
  variant : Variant := .v5120
  /-- The level at the ROLE_PRI strap (25 R762). -/
  rolePri : Bool := false
  /-- The level at the SAFE_MASTER strap, sampled at power-on (25 R762, 15 R534). -/
  safeMaster : Bool := false
  /-- LPDDR4X installed, in MiB (24 R729). -/
  ddrMib : Nat := 4096
  deriving DecidableEq, Repr

/-- What every command may read: the part and the time. -/
structure Env where
  /-- The part in hand. -/
  part : Part := {}
  /-- The time base (02 R69 to R71). -/
  time : TimeBase := {}
  deriving DecidableEq, Repr
/-- A stage's feedback from its CIN (11, Table: STAGE_CMD and STAGE_FB). -/
structure StgIn where
  /-- The current frame's accepted bundle carried its record (11 R365). -/
  got : Bool := false
  /-- STATE as reported (11 R366). -/
  state : Nat := 0
  /-- CLOSE_REFUSED (07 R217). -/
  refused : Bool := false
  /-- FB_CL as reported (07 R216). -/
  fb : Nat := 0
  /-- AVAIL_I in 0.1 A (11 R366). -/
  avail : Nat := 0
  /-- I_MEAS in 0.1 A (11 R366). -/
  iMeas : Int := 0
  /-- V_OUT in 0.1 V (11 R366). -/
  vOut : Nat := 0
  /-- TEMP in °C plus 40 (11 R366). -/
  temp : Nat := 0
  deriving DecidableEq, Repr

/-- An outlet's feedback from its DIN (11, Table: OUTLET_CMD and OUTLET_FB). -/
structure OutIn where
  /-- The current frame's accepted bundle carried its record (11 R365). -/
  got : Bool := false
  /-- The record was fresh at the last bundle cut-off (11 R365). -/
  fresh : Bool := false
  /-- Consecutive frames without a fresh record (09 R292). -/
  missRun : Nat := 0
  /-- PP, proximity present (11 R367). -/
  pp : Bool := false
  /-- LATCH (11 R367). -/
  latch : Bool := false
  /-- ISO_FB (11 R367). -/
  iso : Bool := false
  /-- START_CNT (11 R367). -/
  start : Nat := 0
  /-- STOP_CNT (11 R367). -/
  stop : Nat := 0
  /-- I_MEAS in 0.1 A (11 R367). -/
  iMeas : Int := 0
  /-- V_OUT in 0.1 V (11 R367). -/
  vOut : Nat := 0
  /-- T0 to T5 in 0.1 °C (11 R367). -/
  temps : List Int := []
  /-- FLOW in 0.01 L/min (11 R367). -/
  flow : Nat := 0
  /-- SVALID (11 R367). -/
  svalid : Nat := 0
  deriving DecidableEq, Repr

/-- The battery node's record (11, Table: Battery, axis, channel and hold records). -/
structure BattIn where
  /-- SOC in 0.5 % (11). -/
  soc : Nat := 0
  /-- P_MEAS in W (11). -/
  pMeas : Int := 0
  /-- DIS_AVAIL in W (06 R183). -/
  dis : Nat := 0
  /-- CHG_AVAIL in W (11). -/
  chg : Nat := 0
  deriving DecidableEq, Repr

/-- A channel value of a port (11 R370). -/
structure ChanIn where
  /-- The value carried last. -/
  value : Int := 0
  /-- Frames since a bundle carried it, stopping at 4; 4 until one has (11 R370). -/
  age : Nat := 4
  /-- The current frame's bundle carried it. -/
  got : Bool := false
  deriving DecidableEq, Repr

/-- An axis drive's record (11). -/
structure AxIn where
  /-- READY (11). -/
  ready : Bool := false
  /-- FAULT (11). -/
  fault : Bool := false
  /-- STO (11). -/
  sto : Bool := false
  /-- POS (11). -/
  pos : Int := 0
  /-- VEL in 1/256 position unit per frame (11). -/
  vel : Int := 0
  deriving DecidableEq, Repr

/-- The part of the input image that is not held in registers (02 R36, 06 R172). -/
structure Image where
  /-- SES.DEM_I by outlet as latched at the freeze (01 R27, 06 R175). -/
  demI : List (Nat × Word) := []
  /-- SES.DEM_V by outlet as latched at the freeze (01 R27, 06 R175). -/
  demV : List (Nat × Word) := []
  /-- Heath stop bits by outlet as latched at the freeze (02 R36). -/
  heath : Nat := 0
  /-- ALC.GRID_SET as latched (06, Table: Allocator inputs and outputs). -/
  gridSet : Word := 0xFFFFFFFF
  /-- ALC.HOST_DEM_CAP as latched (06). -/
  hostDem : Word := 0xFFFFFFFF
  /-- ALC.HOST_TRF_CAP as latched (06). -/
  hostTrf : Word := 0xFFFFFFFF
  /-- ALC.BATT_SET as latched (06). -/
  battSet : Word := 0
  /-- SAG_HOLD as latched (06 R207). -/
  sag : Bool := false
  /-- Stage feedback by stage slot (11 R366). -/
  stg : List (Nat × StgIn) := []
  /-- Outlet feedback by outlet (11 R367). -/
  out : List (Nat × OutIn) := []
  /-- The battery node's values as latched at the freeze (06, Table: Allocator inputs and outputs). -/
  batt : BattIn := {}
  /-- The battery node's values of the last record taken (11). -/
  battNew : BattIn := {}
  /-- Outlets beyond the count that their node announces, as known at the freeze (01 R22). -/
  short : List Nat := []
  /-- Channel values by 256 × port + channel (11 R370). -/
  chan : List (Nat × ChanIn) := []
  /-- Axis records by 256 × port + channel (11). -/
  axes : List (Nat × AxIn) := []
  /-- The axes' states as latched at the freeze (08 R273). -/
  axSt : List Nat := []
  /-- HKP.CH_VAL by channel as latched at the freeze (02 R36). -/
  hkp : List (Nat × Word) := []
  /-- The fence maps of the loop slots' pages as latched at the freeze, two words a page (02 R38, 03 R96). -/
  slotFmap : List Word := []
  /-- For each port PHY_STAT and the far end's exclusions as latched at the freeze (10 R342). -/
  ports : List (Word × Nat) := []
  deriving DecidableEq, Repr

/-- What the fault hierarchy holds beside its registers (ch. 3). -/
structure FaultSt where
  /-- Words with a parity error in hand, by their key: an address, a port's number for its bundle buffer, a key beyond both for a word
  without an address (03 R89). -/
  replays : List (Nat × Replay) := []
  /-- Fabric writes in replay, by target address: repeats done (03 R93). -/
  wreplays : List (Nat × Nat) := []
  /-- Blocks that restart, by page base (03 R101). -/
  held : List Nat := []
  /-- Writes held for blocks that restart, oldest first: plane code, address and value (03 R101). -/
  waitW : List (Nat × Nat × Word) := []
  /-- The latest recorded access: FCLK cycles since power-on, and its requester's rank (04 R134). -/
  dropAt : Option (Nat × Nat) := none
  /-- Restarts of blocks: page base and frame number (03 R103). -/
  blockLog : List (Nat × Nat) := []
  /-- Restarts of regions: region number and cycles since power-on (03 R107). -/
  rgnLog : List (Nat × Nat) := []
  /-- Regions that restart: region number and cycles since power-on at the restart's begin (03 R106). -/
  rgnAt : List (Nat × Nat) := []
  /-- Cycles since power-on at the last chip fault (03 R109). -/
  chipFaultAt : Option Nat := none
  /-- Cells fenced in this frame, which join the input image at the next freeze: page base and cell (03 R96). -/
  fresh : List (Nat × Nat) := []
  /-- The previous frame's input image: its registers and the rest, as they stood before the last Gather freeze (03 R92). -/
  inWas : RegTable := []
  imgWas : Image := {}
  deriving DecidableEq, Repr

/-- A move request of the planner: the stage, the outlet it leaves and the outlet it joins (06 R200). -/
structure MoveReq where
  stage : Nat
  src : Option Nat
  dst : Option Nat
  deriving DecidableEq, Repr

/-- What a run of the Allocator leaves for the Emit, by outlet or by stage slot (06 R192 to R200). -/
structure AlcRes where
  /-- Targets t_o (06 R189). -/
  targets : List Nat := []
  /-- Grants before the stop overlay (06 R192). -/
  grants : List Nat := []
  /-- HELD (06 R192). -/
  held : List Bool := []
  /-- MOVE_WAIT (06 R192). -/
  wait : List Bool := []
  /-- Stages in the assigned sets (06 R177). -/
  counts : List Nat := []
  /-- OUT_BIND: frozen by its own bound, else the node (06 R212). -/
  binds : List (Bool × Nat) := []
  /-- DEM_BAD (06 R176). -/
  bad : List Bool := []
  /-- References of assigned stages: slot, outlet, IREF (06 R194). -/
  refs : List (Nat × Nat × Nat) := []
  /-- Accounting voltages V_o (06 R176). -/
  volts : List Nat := []
  /-- Move requests in the order of issue (06 R200). -/
  reqs : List MoveReq := []
  /-- Release counts after the run (06 R199). -/
  rel : List Nat := []
  /-- LIM_GRID, LIM_DEM, LIM_BATT, LIM_AUX, LIM_SITE (06 R178). -/
  lims : List Nat := []
  /-- Passes made (06 R190). -/
  passes : Nat := 0
  /-- LAST_CLASS (06 R190). -/
  lastClass : Nat := 8
  /-- PASS_LIMIT, MIN_SHORT, RAMP_BYPASS, FEED_STALE (06 R181, R189 to R192). -/
  flags : List Bool := []
  /-- The run is a frozen frame's, without the Allocator (02 R51). -/
  frozen : Bool := false
  deriving DecidableEq, Repr

/-- The committed allocator state and what the Allocator holds beside its registers (06 R173). -/
structure AlcSt where
  /-- Committed grants prev_o by outlet (06 R173). -/
  prev : List (Nat × Nat) := []
  /-- Release counts by outlet (06 R199). -/
  rel : List (Nat × Nat) := []
  /-- The fairness pointer PTR (06 R191). -/
  ptr : Nat := 0
  /-- Held grants of frozen-grant mode by outlet (02 R51, R52). -/
  held : List (Nat × Nat) := []
  /-- SAG_HOLD is registered (06 R206). -/
  sag : Bool := false
  /-- The magnitude at the last supervisor computation, in 0.1 V (06 R206). -/
  mag : Nat := 0
  /-- The supervisor has computed a magnitude since the Control region's start (06 R206). -/
  seen : Bool := false
  /-- The lowest magnitude since the previous freeze (06 R207). -/
  low : Option Nat := none
  /-- An excursion has been seen since the previous freeze (06 R210). -/
  exc : Bool := false
  /-- The first magnitude outside the band that SAG_HOLD does not cover yet, in 0.1 V (06 R206, R772). -/
  first : Option Nat := none
  /-- Consecutive in-band latches (06 R210). -/
  inBand : Nat := 0
  /-- The run that the Solve start began, from the image latched by then (06 R172). -/
  run : Option AlcRes := none
  /-- The results of this frame's run (06 R192). -/
  res : Option AlcRes := none
  /-- Words that the Emit of a completed Solve leaves for the boundary: site limit, solver status and events (06, Table: Allocator inputs
  and outputs). -/
  pub : List (Nat × Word) := []
  /-- The results of the last completed Solve (02 R46). -/
  last : Option AlcRes := none
  deriving DecidableEq, Repr

/-- The move sequencer's state of one stage (ch. 7). -/
structure StgMov where
  /-- The position it commands closed (07 R215). -/
  want : Option Nat := none
  /-- The reference that it sets for a stage in a move (07 R229). -/
  ref : Nat := 0
  /-- Position that reads closed while commanded open, and for how many fresh frames (07 R238). -/
  wrong : Nat × Nat := (0, 0)
  /-- Fresh frames for which the commanded position reads open (07 R238). -/
  opened : Nat := 0
  /-- Positions whose disagreement has persisted, to be marked (07 R238). -/
  susp : List Nat := []
  /-- A release that has no slot yet: the outlet left (07 R239, R240, R241). -/
  relDue : Option (Option Nat) := none
  /-- The position whose disagreement asked for the release, until the release has ended (07 R238, R239). -/
  relPos : Option Nat := none
  /-- The disagreement was found while a move was in flight (07 R239). -/
  relMid : Bool := false
  /-- Its state is still to be derived from feedback (07 R241). -/
  deciding : Bool := false
  /-- Fresh frames of feedback since then (07 R241). -/
  decRun : Nat := 0
  /-- The derivation follows a start of the Control region (07 R241). -/
  started : Bool := false
  deriving DecidableEq, Repr

/-- A move slot beside its registers (ch. 7). -/
structure MovSlot where
  /-- Consecutive confirming fresh frames in the step (07 R229). -/
  conf : Nat := 0
  /-- The result recorded by an abandonment that continues (07 R235, R236). -/
  ab : Option Nat := none
  /-- AGE has reached the step's timeout with the condition not held (07 R229). -/
  late : Bool := false
  deriving DecidableEq, Repr

/-- A piece of an evaluation (07 R223): a stage checked, its suspect positions marked, its own release, a move slot evaluated, its timeout. -/
inductive MovTask where
  | check (stage : Nat)
  | mark (stage : Nat)
  | own (stage : Nat)
  | slot (slot : Nat)
  | late (slot : Nat)
  deriving DecidableEq, Repr

/-- The move sequencer beside its registers (ch. 7). -/
structure MovSt where
  /-- Stages by slot (07 R215). -/
  stg : List (Nat × StgMov) := []
  /-- Move slots by number (07 R226). -/
  slots : List (Nat × MovSlot) := []
  /-- What is left of an evaluation that waits for a suspect position, a rejoining stage or a timeout to be dealt with (07 R223). -/
  todo : List MovTask := []
  deriving DecidableEq, Repr

/-- A loop slot beside its registers (ch. 8). -/
structure CenSlot where
  /-- State words S0 to S7 (08 R253). -/
  st : List Word := []
  /-- The committed output (08 R267). -/
  out : Word := 0
  /-- Last valid values of the four bindings (08 R258). -/
  lastIn : List Word := []
  /-- SLOT_MAN as latched at the freeze (08 R271). -/
  man : Word := 0
  /-- SLOT_SP as latched at the freeze (08 R256). -/
  sp : Word := 0
  /-- The trip's cause: 0 none, 1 FPX, 2 INPUT, 4 AXIS (08 R275). -/
  trip : Nat := 0
  /-- The slot was closed in its last run's frame (08 R272). -/
  closed : Bool := false
  /-- Consecutive freezes with every input valid (08 R276). -/
  valid : Nat := 0
  /-- A reclose is due in the next completed Solve (08 R276, R270). -/
  reclose : Bool := false
  deriving DecidableEq, Repr

/-- An axis beside its registers (ch. 8). -/
structure AxisSt where
  /-- The command latched at the freeze, until it acts (08 R282). -/
  cmd : Nat := 0
  /-- AX_TGT as latched with it (08 R282). -/
  tgt : Int := 0
  /-- The target in force (08 R281). -/
  goal : Int := 0
  /-- The velocity set-point v (08 R281). -/
  vel : Word := 0
  /-- Consecutive freezes with the following error above its limit (08 R283). -/
  fe : Nat := 0
  /-- A FAULT cause is met (08 R283). -/
  faultDue : Nat := 0
  deriving DecidableEq, Repr

/-- An analogue input's running frame (08 R260). -/
structure AinSt where
  /-- Sum of the conversions since the last boundary. -/
  sum : Int := 0
  /-- Their number. -/
  count : Nat := 0
  /-- All of them lay within the valid range. -/
  ok : Bool := true
  deriving DecidableEq, Repr

/-- A pulse input's running frame (08 R261). -/
structure PinSt where
  /-- Selected edges since the last boundary. -/
  edges : Nat := 0
  /-- SITE_TIME stamps of selected edges with the frame number of each, newest first, as far back as the
  longest window reaches. -/
  stamps : List (Nat × Nat) := []
  /-- The quadrature position, live. -/
  pos : BitVec 32 := 0
  /-- The last accepted levels of A and B. -/
  a : Bool := false
  b : Bool := false
  /-- Both filtered levels changed in one sample, still to be recorded as a fault (08 R261). -/
  ill : Bool := false
  /-- An illegal transition in this frame. -/
  bad : Bool := false
  /-- Illegal transitions so far. -/
  faults : Nat := 0
  deriving DecidableEq, Repr

/-- The engine's results of one frame, until they are committed at the end of a completed Solve (08 R267, R270). -/
structure CenRes where
  /-- The slots after the run, by number. -/
  slots : List (Nat × CenSlot) := []
  /-- Flags of CEN.EVT that the run raises. -/
  evt : Nat := 0
  /-- Trips in the order in which they occurred: slot and cause. -/
  trips : List (Nat × Nat) := []
  /-- Slots that reclosed, in the order in which they ran. -/
  recl : List Nat := []
  /-- The axes after the run, by number: AX_STAT, AX_PSP and the rest. -/
  axes : List (Nat × (Word × Word) × AxisSt) := []
  deriving DecidableEq, Repr

/-- The Control Engine beside its registers (ch. 8). -/
structure CenSt where
  /-- Loop slots by number (08 R252). -/
  slots : List (Nat × CenSlot) := []
  /-- Axes by number (08 R280). -/
  axes : List (Nat × AxisSt) := []
  /-- Analogue inputs by number (08 R260). -/
  ain : List (Nat × AinSt) := []
  /-- Pulse inputs by number (08 R261). -/
  pin : List (Nat × PinSt) := []
  /-- The results of this frame's run. -/
  res : Option CenRes := none
  deriving DecidableEq, Repr

/-- Cable cooling of one outlet beside its registers (ch. 9). -/
structure ThmOut where
  /-- Contact temperatures T_p of the pins, binary32; empty until they are initialised (09 R294, R295). -/
  tp : List Word := []
  /-- Conductor temperatures T_b of the pins (09 R294). -/
  tb : List Word := []
  /-- Deviation counts of the six sensors (09 R307). -/
  dev : List Nat := []
  /-- Sensors whose count has reached SUSP_FRAMES, to be recorded as suspect (09 R307). -/
  due : Nat := 0
  /-- Levels of pins 0 to 3 and of the coolant (09 R299). -/
  lv : List Nat := []
  /-- In the last evaluation every value that had reached SHUTDOWN lay below its threshold minus its hysteresis (09 R302). -/
  clear : Bool := false
  deriving DecidableEq, Repr

/-- Cable cooling beside its registers (ch. 9). -/
structure ThmSt where
  /-- The outlets by number (09 R290). -/
  outs : List (Nat × ThmOut) := []
  /-- The hottest predicted pin temperature by outlet, binary32 in 0.1 °C (09 R311). -/
  hot : List (Nat × Word) := []
  deriving DecidableEq, Repr

/-- What the MRAM fault record keeps of cable cooling (09 R303, R309, R317). -/
structure ThmKept where
  /-- Suspect marks by outlet, a bit for each sensor (09 R309). -/
  marks : List (Nat × Nat) := []
  /-- Values that reached SHUTDOWN since the last accepted clear, by outlet: bits 0 to 3 pins, 4 coolant (09 R302). -/
  reached : List (Nat × Nat) := []
  /-- The ring of shutdown records by SEQ mod 64 (09 R317). -/
  ring : List (Nat × List Word) := []
  deriving DecidableEq, Repr

/-- Housekeeping beside its registers (ch. 9). -/
structure HkpSt where
  /-- The levels of the Core and Field dies (09 R314). -/
  core : Nat := 0
  field : Nat := 0
  /-- FCLK cycles since power-on of the last conversion of channels 0 to 3 that gave a usable reading (09 R316). -/
  tempAt : List (Nat × Nat) := []
  /-- FCLK cycles since power-on when Heath began evaluating, which starts the round (09 R312). -/
  start : Nat := 0
  /-- Slots of 250 µs since then whose conversion has been made, and those before them (09 R312). -/
  done : Nat := 0
  /-- The die-shutdown state is in force (09 R315). -/
  dieSd : Bool := false
  deriving DecidableEq, Repr
/-- A data lane of a port beside its registers (ch. 10). -/
structure PhyLane where
  /-- Its training step: 2 LOCK, 3 EQUALISE, 4 passed; 0 failed or not training (10 R334). -/
  step : Nat := 0
  /-- The code of its failure in the last attempt (10 R335). -/
  fail : Nat := 0
  /-- The last request's SEQ applied to its transmitter in this training (10 R332). -/
  seq : Option Nat := none
  /-- The RESPONSE word that the transmitter sends (10 R332). -/
  response : BitVec 16 := 0
  /-- The REQUEST word of its own receiver, whether its answer is awaited, the cycle of the last answer, and the requests counted (10
  R333). -/
  request : BitVec 16 := 0
  waiting : Bool := false
  answAt : Option Nat := none
  reqs : Nat := 0
  /-- The cycle of the training frame whose TRAIN block carries ECHO (10 R329). -/
  echoAt : Option Nat := none
  /-- The cycle from which its headers count for block lock, and the cycles of the invalid headers of its last 64 slots, newest first (10
  R338). -/
  seekAt : Nat := 0
  badAt : List Nat := []
  /-- The cycle of its last block that broke a bundle (10 R325). -/
  errAt : Option Nat := none
  /-- The cycle of its last exclusion, and that in which the STATUS saying so left (10 R339, R344). -/
  exAt : Option Nat := none
  toldAt : Nat := 0
  /-- The cycle from which it has held lock, as an excluded lane (10 R343). -/
  goodAt : Nat := 0
  /-- READY seen from the far end (10 R334). -/
  ready : Bool := false
  /-- Cycles since power-on of its exclusions within the last second, newest first (10 R343). -/
  outs : List Nat := []
  /-- It is held out until the port next trains (10 R343). -/
  flap : Bool := false
  deriving DecidableEq, Repr

/-- A port's physical layer beside its registers (ch. 10). -/
structure PhySt where
  d0 : PhyLane := {}
  d1 : PhyLane := {}
  /-- The far end's exclusions last received: bit 0 D0, bit 1 D1 (10 R340, R342). -/
  farOut : Nat := 0
  /-- A training is due: an Imposition asked for it (10 R330). -/
  due : Bool := false
  /-- It waits for RETRY after a failed attempt, which failed in this cycle (10 R335). -/
  retry : Bool := false
  failAt : Nat := 0
  /-- The cycles at which the attempt began, step 1 was met, and the last lane ended step 3 (10 R334). -/
  startAt : Nat := 0
  lockAt : Nat := 0
  eqAt : Nat := 0
  /-- The lane whose TRAIN block carried MARK, and the cycle of its training frame (10 R329). -/
  markAt : Option (Nat × Nat) := none
  /-- The cycle in which the port came up last (10 R336). -/
  upAt : Nat := 0
  /-- The cycle in which it went down last, and the cause logged (10 R341, R346, R349). -/
  fell : Option (Nat × Nat) := none
  /-- The cycle of each monitor's last assertion, by its bit of PHY_STAT (10 R337). -/
  monAt : List (Nat × Nat) := []
  /-- The cycle in which the last new STATUS left (10 R339). -/
  statusAt : Nat := 0
  /-- The last rejoin: its cycle, its lane, and REJOINED before it (10 R346). -/
  rejoin : Option (Nat × Nat × Bool) := none
  /-- PHY_STAT as the last Gather freeze latched it (10 R342). -/
  latched : Word := 0
  deriving DecidableEq, Repr

/-- A downward acknowledged record that awaits its acknowledgement (11 R379 to R381). -/
structure TpRec where
  /-- Its TSEQ (11 R379). -/
  tseq : Nat := 0
  /-- The outlet whose transmit frame it carries (12 R393). -/
  outlet : Nat := 0
  /-- Its words (11 R363). -/
  words : List (BitVec 64) := []
  /-- FRAME_NO of the frame that last sent it (11 R380). -/
  sentAt : Nat := 0
  /-- Times sent (11 R381). -/
  times : Nat := 0
  /-- It is to be sent again (11 R380). -/
  due : Bool := false
  deriving DecidableEq, Repr

/-- A port's transport beside its registers (ch. 11). -/
structure TpSt where
  /-- Downward records that are not acknowledged, oldest first (11 R380). -/
  tx : List TpRec := []
  /-- TRST goes out in the next header (11 R381). -/
  trst : Bool := false
  /-- The 5120 started a reset and awaits TRST back; no older record is delivered (11 R381). -/
  wait : Bool := false
  /-- Tunnel series received so far, by channel (11 R383, Table: Acknowledged record fields). -/
  parts : List (Nat × List Byte) := []
  /-- SEQ of the next downward bundle (11 R352). -/
  seq : BitVec 16 := 0
  /-- The current frame has its accepted bundle (11 R357, R384). -/
  done : Bool := false
  /-- The CRC of the bundle that this chip accepted in the current frame (17 R584). -/
  crc : Option Word := none
  /-- The data blocks of the last downward bundle, headers included (11 R372). -/
  down : List (BitVec 64) := []
  /-- CRC-32 over its records of types 0x01 to 0x06 as an owner sends them (17 R585). -/
  cmp : Word := 0
  deriving DecidableEq, Repr

/-- An outlet's session beside its registers (ch. 12). -/
structure SesOut where
  /-- The command latched at the last freeze (12 R396). -/
  cmd : Nat := 0
  /-- The remainder of the credit's debit, and of the energy estimate, below 1 mWh (12 R400). -/
  rem : Nat := 0
  erem : Nat := 0
  /-- Consecutive fresh frames below 2 A in STOPPING (12 R401). -/
  low : Nat := 0
  /-- Consecutive fresh frames in which ISO_FB differs from the ISO_CL emitted (12 R402). -/
  dis : Nat := 0
  /-- The present run of differences has been taken as a disagreement (12 R402). -/
  taken : Bool := false
  /-- ISO_CL as decided by the last evaluation, which the Emit sends (12 R401). -/
  iso : Bool := false
  /-- The timer has expired with TIMER.STOP = 1, for the next evaluation (12 R407). -/
  expired : Bool := false
  /-- TAPER's present bound of REQ_I (12 R400). -/
  bound : Option Nat := none
  /-- For each transmit-ring index, the checkpoints written when its frame was queued (17 R605). -/
  ckpt : List (Nat × Nat) := []
  deriving DecidableEq, Repr

/-- A meter in the pipeline beside its registers (ch. 13). Sums are in µW × sample (13 R431). -/
structure MetAcc where
  /-- The sum up to the epoch that settles or is open (13 R431). -/
  sum : Nat := 0
  /-- What samples of the epoch after the one that settles have added, kept apart until its settlement (13 R438). -/
  apart : Nat := 0
  /-- The reverse sum, and the export sum of meter 64, in the same two parts (13 R421, R428). -/
  rev : Nat := 0
  revApart : Nat := 0
  /-- Samples taken and samples in gaps, of the epoch, in two parts (13 R430). -/
  cnt : Nat := 0
  cntApart : Nat := 0
  /-- GAP_E, EST, REV_E, RATE_E, OVR_E and PF_E as MSTAT places them, in two parts (13 R438). -/
  fl : Nat := 0
  flApart : Nat := 0
  /-- A sample of the epoch after the one that settles has been taken (13 R437). -/
  later : Bool := false
  /-- The frame of the last sample taken (13 R427). -/
  last : Option Nat := none
  /-- Samples that a settlement or a cut has recorded as a gap and whose numbers have not passed (13 R439). -/
  owed : Nat := 0
  /-- The next accepted block sets SEQ_NEXT without a gap (13 R427). -/
  fresh : Bool := true
  /-- Consecutive samples whose ISO_CL and ISO_FB differ, and whether that is recorded (13 R429). -/
  diff : Nat := 0
  taken : Bool := false
  deriving DecidableEq, Repr

/-- The epoch that has closed and awaits settlement (13 R437). -/
structure MetClosed where
  /-- FCLK cycles since power-on at its boundary, and its length (13 R437, R438). -/
  bndUp : Nat := 0
  len : Nat := 0
  /-- Its first frame, and the frame that its boundary opened (13 R436). -/
  first : Nat := 0
  bnd : Nat := 0
  /-- The stamp of its boundary (13 R438). -/
  ts : BitVec 64 := 0
  /-- The tariff register of the epoch (14 R475). -/
  reg : Nat := 0
  /-- Sums of squares of the channels and of the residual, and the samples in them (13 R423, CRMS). -/
  sq : List Nat := []
  n : Nat := 0
  /-- Σ P_MEAS × L and Σ LIM_AUX × L over its frames (13 R455). -/
  bat : Int := 0
  aux : Nat := 0
  /-- The balance skips it for the battery port or the Control region (13 R456). -/
  skip : Bool := false
  /-- A billing period closed at its boundary: the boundary's legal stamp, DEM_MAX and its short stamp (14 R485). -/
  per : Option (List Word × List Word) := none
  deriving DecidableEq, Repr

/-- The open demand interval or sub-interval (14 R478 to R480). -/
structure MetDem where
  /-- LC at its opening boundary. -/
  lc : Nat := 0
  /-- Its end in local legal time, in ms (14 R478). -/
  till : Int := 0
  /-- Energy of its epochs in mWh. -/
  e : Nat := 0
  /-- A cut fell within it (14 R480). -/
  pf : Bool := false
  /-- UTC was not valid at its opening (14 R480). -/
  bad : Bool := false
  deriving DecidableEq, Repr

/-- A metering session (14 R497). -/
structure MetSess where
  /-- The number of its record. -/
  rno : Nat := 0
  /-- ID_TYPE, ID_LEN and the ID words (14 R489). -/
  ids : List Word := []
  /-- 0 its request runs, 1 accepted, 2 begun at a boundary, 3 with its begin readings (14 R497). -/
  phase : Nat := 0
  /-- 0 not ending, 1 its request runs, 2 accepted, 3 ended at a boundary (14 R497). -/
  ending : Nat := 0
  /-- Legal stamps of the begin and end boundaries (14 R496). -/
  stampB : List Word := []
  stampE : List Word := []
  /-- The epoch, the accumulator and the tariff registers at begin (14 R496). -/
  epoch : Nat := 0
  read : List Nat := []
  /-- FLAGS of the record so far (14 R496). -/
  flags : Nat := 0
  deriving DecidableEq, Repr

/-- A zero crossing's detector and the loss of L1 (13 R422). -/
structure MetZc where
  /-- Consecutive negative samples of U1. -/
  neg : Nat := 0
  /-- The crossing is armed. -/
  armed : Bool := false
  /-- Samples since the last crossing. -/
  since : Nat := 0
  deriving DecidableEq, Repr

/-- What a save image or a checkpoint holds of the pipeline and its tariff functions (13 R440, R447). -/
structure MetEng where
  /-- The meters by number (13 R418). -/
  acc : List (Nat × MetAcc) := []
  /-- FCLK cycles since power-on at the open epoch's start, and its first frame (13 R434, R436). -/
  start : Nat := 0
  first : Nat := 0
  /-- Cycles of the open epoch before the cut (13 R450). -/
  run : Nat := 0
  /-- The epoch that awaits settlement (13 R437). -/
  closed : Option MetClosed := none
  /-- Import of meter 64 in mWh at the open epoch's start (13 R441). -/
  imp : Nat := 0
  /-- The zero-crossing detector (13 R422). -/
  zc : MetZc := {}
  /-- Sums of squares of the 8 channels and the residual over the open epoch, and the samples in them (13 R423). -/
  sq : List Nat := []
  n : Nat := 0
  /-- Consecutive settled epochs with the residual out of band (13 R423). -/
  neutral : Nat := 0
  /-- Σ P_MEAS × L and Σ LIM_AUX × L over the open epoch's frames, and its reasons to be skipped (13 R455, R456). -/
  bat : Int := 0
  aux : Nat := 0
  skip : Bool := false
  /-- Consecutive epochs out of balance (13 R456, R457). -/
  balRun : Nat := 0
  /-- The open epoch ends at the next boundary (13 R449, R458). -/
  force : Bool := false
  /-- The open demand interval or sub-interval (14 R478). -/
  dem : Option MetDem := none
  /-- Energy, duration and flags of the last 15 closed sub-intervals, newest first (14 R481). -/
  subs : List (Nat × Nat × Nat) := []
  /-- The last sliding value (14 R482). -/
  slide : Nat := 0
  /-- The readings at the last period latch by meter: accumulator and tariff registers (14 R485). -/
  perRead : List (Nat × List Nat) := []
  /-- Its epoch and the legal stamp of the open period's opening (14 R485). -/
  perEpoch : Nat := 0
  perStamp : List Word := []
  /-- FLAGS of the open period's records so far, by meter (14 R496). -/
  perFlags : List (Nat × Nat) := []
  /-- Sessions by meter (14 R497). -/
  sess : List (Nat × MetSess) := []
  deriving DecidableEq, Repr

/-- An image of the region in MRAM: its save sequence number, the pipeline, its registers, LC and UTC in ms (13 R448, R440). -/
structure MetImage where
  seq : Nat := 0
  eng : MetEng := {}
  regs : RegTable := []
  lc : Nat := 0
  utc : Nat := 0
  deriving DecidableEq, Repr

/-- Legal time (14 R461 to R467). -/
structure MetTime where
  /-- LC, and the FCLK cycles since power-on to which it belongs. -/
  lc : Nat := 0
  up : Nat := 0
  /-- UTC in ms, and the LC to which it belongs. -/
  utc : Nat := 0
  lcU : Nat := 0
  /-- A slew: its delta and the LC at which it began (14 R467). -/
  slew : Option (Int × Nat) := none
  /-- An accepted TIME_SET that awaits its boundary: the delta, and whether it is a step (14 R466). -/
  due : Option (Int × Bool) := none
  deriving DecidableEq, Repr

/-- A sealed request in hand (13 R444, 14 R489). -/
structure MetReq where
  op : Nat := 0
  tag : Nat := 0
  /-- The code with which it completes. -/
  code : Nat := 0
  /-- Words of a WRITE that take effect at the next epoch boundary (13 R442). -/
  words : List (Nat × Word) := []
  /-- An accepted TIME_SET: its delta, and whether it is a step. -/
  set : Option (Int × Bool) := none
  /-- The meter of an accepted SESSION_BEGIN or SESSION_END. -/
  meter : Nat := 0
  deriving DecidableEq, Repr

/-- The balance terms of a settled epoch that the core has still to evaluate: E_in, E_bat, E_out, E_aux, E_len, and its skip
(13 R455, R456). -/
structure MetBal where
  inn : Int := 0
  bat : Int := 0
  out : Int := 0
  aux : Int := 0
  len : Nat := 0
  skip : Bool := false
  deriving DecidableEq, Repr

/-- Identity of a metrology firmware image: version, CRC-32 and digest words (14 R501). -/
structure MetFw where
  ver : Word := 0
  crc : Word := 0
  dig : List Word := []
  deriving DecidableEq, Repr

/-- The demand-interval feed as last published (14 R482). -/
structure MetFeed where
  avg : Nat := 0
  elapsed : Nat := 0
  len : Nat := 0
  sliding : Bool := false
  tcap : Word := 0
  valid : Bool := false
  deriving DecidableEq, Repr

/-- What the Metrology region holds beside its registers (ch. 13 and 14). -/
structure MetSt where
  /-- The pipeline measures: the region has been restored since its main supply came (13 R450). -/
  on : Bool := false
  /-- The pipeline and its tariff functions. -/
  eng : MetEng := {}
  /-- The open epoch ends, or the closed one settles, at the boundary now open (13 R434, R437). -/
  epochDue : Bool := false
  settleDue : Bool := false
  /-- A checkpoint is being written (13 R440). -/
  ckDue : Option MetImage := none
  /-- The images of the two save slots (0, 1) and the two checkpoint slots (2, 3) (13 R440, R448). -/
  images : List (Nat × MetImage) := []
  /-- The save sequence number of the next image (13 R440). -/
  seq : Nat := 1
  /-- A save is being written, and LC at the cut (13 R447, R448). -/
  saving : Option MetImage := none
  cutLc : Nat := 0
  /-- FCLK cycles since power-on at the cut (13 R449). -/
  cutUp : Nat := 0
  /-- PFAIL_N has deasserted: FCLK cycles since power-on (13 R449). -/
  offAt : Option Nat := none
  /-- Counting resumes at the next boundary (13 R449). -/
  resume : Bool := false
  /-- The region runs from VBAK since this LC (13 R450, 22 R698). -/
  bakFrom : Option Nat := none
  /-- Current seconds of this supply loss, the largest phase RMS summed, and the short stamps of the first and last (13 R453). -/
  cws : Nat := 0
  cwsSum : Nat := 0
  cwsTs : List Word := []
  /-- Legal time was lost in this supply loss (14 R470). -/
  lost : Bool := false
  /-- Legal time (14 R461). -/
  time : MetTime := {}
  /-- Stream blocks that await their check: outlet and bytes (13 R426). -/
  inbox : List (Nat × List Byte) := []
  /-- Meters whose stream key has been loaded (13 R426). -/
  keyed : List Nat := []
  /-- The sealed request in hand, and words that take effect at the next epoch boundary (13 R442, R444). -/
  req : Option MetReq := none
  words : List (Nat × Word) := []
  /-- A CLOSE_PERIOD awaits its boundary (14 R484). -/
  close : Bool := false
  /-- Epochs whose balance the core has still to evaluate, oldest first (13, Table: Pipeline and core duties). -/
  bal : List MetBal := []
  /-- The metrological log by place, 8 words an entry (14 R491). -/
  mlog : List (Nat × List Word) := []
  /-- The record store: number, fetched, words (14 R495). -/
  recs : List (Nat × Bool × List Word) := []
  /-- Records that wait for their signature, oldest first (14 R498). -/
  unsigned : List (Nat × List Word) := []
  /-- Period records that wait for slots, in meter order (14 R495). -/
  perPend : List (List Word) := []
  /-- The running firmware image, and the one recorded at the previous start (14 R501, R503). -/
  fw : MetFw := {}
  fwWas : MetFw := {}
  /-- A new image in the inactive slot, which the core is restarting into, and whether it passes its start check (23 R719, R720). -/
  fwNew : Option (MetFw × Bool) := none
  /-- LEGAL_SEAL has read closed since the previous start of the core (14 R503). -/
  sealHeld : Bool := true
  /-- FCLK cycles since power-on at the last opening of LEGAL_SEAL (13 R458). -/
  sealUp : Option Nat := none
  /-- The feed (14 R482). -/
  feed : MetFeed := {}
  /-- The legal stamp that each plane latched with TRF.NOW0 (14 R463). -/
  now : List (Nat × List Word) := []
  deriving DecidableEq, Repr
/-- One leg of a safety input as a channel filters it (15 R512, R514). -/
structure HthLeg where
  /-- The filtered state reads run (15 R512). -/
  run : Bool := false
  /-- Samples since the first one that differed, that one included (15 R512). -/
  diff : Nat := 0
  /-- The terminal at the last sample. -/
  raw : Bool := false
  /-- Low samples of a low state that started in the test window now open (15 R514). -/
  low : Nat := 0
  /-- High at every sample of the window so far, its first 100 µs left out (15 R514). -/
  high : Bool := false
  /-- It failed its test, for TEST_FAULT (15 R514). -/
  fail : Bool := false
  deriving DecidableEq, Repr

/-- A safety input in a channel (15 R515 to R517). -/
structure HthIn where
  a : HthLeg := {}
  b : HthLeg := {}
  /-- Samples since the legs first disagreed, and whether that run has latched its fault (15 R516). -/
  dis : Nat := 0
  taken : Bool := false
  /-- The latched fault as IN_STAT.FAULT codes it, and CLR_DEM (15 R517). -/
  fault : Nat := 0
  clr : Bool := false
  deriving DecidableEq, Repr

/-- A reset input in a channel (15 R518). -/
structure HthRst where
  /-- A sample has been taken since power-up. -/
  seen : Bool := false
  /-- The filtered level, and samples since the first one that differed. -/
  lvl : Bool := false
  diff : Nat := 0
  /-- Samples since it rose, and since it fell. -/
  high : Nat := 0
  low : Nat := 0
  stuck : Bool := false
  /-- The pulse that has just ended, in samples, for RESET_EDGE. -/
  fell : Option Nat := none
  /-- An accepted edge for the next cycle (15 R510, R519). -/
  edge : Bool := false
  deriving DecidableEq, Repr

/-- A safety function in a channel (15 R520 to R528). Times count cycles of 250 µs. -/
structure HthFn where
  /-- STATE: 0 STOP, 1 READY, 2 RUN, 3 FAULT. -/
  st : Nat := 0
  /-- FAULT as FNk_STAT shows it. -/
  fault : Nat := 0
  /-- PWR_RST (15 R520). -/
  pwr : Bool := true
  /-- The category 1 delay (15 R528). -/
  dly : Option Nat := none
  /-- Cycles in the state. -/
  age : Nat := 0
  /-- TWOHAND: both hands released since it last left RUN, the synchronism window, a window that closed (15 R525). -/
  hands : Bool := false
  win : Option Nat := none
  sync : Bool := false
  /-- TWOHAND: blocked until both inputs read demand again (15 R525). -/
  block : Bool := false
  /-- GUARD: samples of door in demand with the lock in run, the LOCK fault and its two steps of clearing (15 R524). -/
  lockN : Nat := 0
  lock : Bool := false
  lockClr : Bool := false
  /-- GUARD: cycles since its outputs were off with the unlock bit set; the LOCK output is held closed (15 R523). -/
  unlN : Option Nat := none
  unl : Bool := false
  deriving DecidableEq, Repr

/-- A Heath channel (15 R507). -/
structure HthCh where
  /-- Inputs, reset inputs and functions by number. -/
  ins : List (Nat × HthIn) := []
  rst : List (Nat × HthRst) := []
  fns : List (Nat × HthFn) := []
  /-- Test windows now open by source: samples taken in them (15 R514). -/
  win : List (Nat × Nat) := []
  /-- Switch commands: bit n closes its switch of output n (15 R527). -/
  sw : Nat := 0
  /-- Cycles of the other channel since this one's last heartbeat (15 R509). -/
  silent : Nat := 0
  deriving DecidableEq, Repr

/-- What one network has delivered from a source, or from the partner chip on network B (16 R557, R558). -/
structure HthNet where
  /-- FCLK cycles since power-on at the last accepted telegram; none until one is. -/
  at' : Option Nat := none
  /-- Its SEQ, TS and STATE. -/
  seq : Nat := 0
  ts : Nat := 0
  states : Nat := 0
  /-- NETWORK_LOST has recorded the loss, or none has been accepted yet (16 R558). -/
  lost : Bool := true
  /-- FCLK cycles since power-on at the last logged rejection (16 R566). -/
  rejAt : Option Nat := none
  deriving DecidableEq, Repr

/-- Heath beside its registers (ch. 15 and 16). -/
structure HthSt where
  /-- Channels A and B. -/
  a : HthCh := {}
  b : HthCh := {}
  /-- Channel A cycles through which states or commands have differed (15 R509). -/
  differ : Nat := 0
  /-- By output, in cycles: readback below 5 V, readback above 5 V with both switches open, current above 0.9 A (15 R530). -/
  rbLow : List (Nat × Nat) := []
  rbHigh : List (Nat × Nat) := []
  amps : List (Nat × Nat) := []
  /-- OSTOP and FN_RUN as they stood at the end of channel A's last cycle (15 R533). -/
  stops : Nat := 0
  run : Nat := 0
  /-- Function states and switch commands at the end of channel A's last cycle (16 R550, R552). -/
  states : Nat := 0
  swA : Nat := 0
  swB : Nat := 0
  /-- Words staged for the safety configuration, and a staged program image by word offset (15 R539, 23 R715). -/
  staged : List (Nat × Word) := []
  prog : List (Nat × Word) := []
  /-- The two program slots in MRAM, the active one, and a new program's version before channel A's first cycle on it
  (23 R716). -/
  slot0 : List (Nat × Word) := []
  slot1 : List (Nat × Word) := []
  slot : Bool := false
  newProg : Option Word := none
  /-- The running request: OP, TAG and its result; configuration mode is to end when it completes (15 R539, R541). -/
  req : Option (Nat × Nat × Nat) := none
  ending : Bool := false
  /-- Sources on networks A and B by number, and the partner (16 R558). -/
  netA : List (Nat × HthNet) := []
  netB : List (Nat × HthNet) := []
  partner : HthNet := {}
  /-- Consecutive partner telegrams whose function states differ (15 R537). -/
  shadow : Nat := 0
  /-- SEQ of the last telegram on network A; RUN as last sent on network B, and channel A cycles since (16 R550, R556). -/
  seqA : Nat := 0
  sentRun : Nat := 0
  sentAge : Nat := 0
  /-- Cycles since power-on at Heath's start, and of the last pulse of each test-pulse output (15 R513). -/
  startAt : Nat := 0
  tpAt : List (Nat × Option Nat) := []
  deriving DecidableEq, Repr
/-- A comparison set (17 R585): a CRC for each port, one over the local outputs, and the state digest. -/
structure CmpSet where
  /-- CRC-32 of each port's records of types 0x01 to 0x06 (17 R585). -/
  ports : List Word := []
  /-- CRC-32 over the PWM and aux switch commands (17 R585). -/
  outputs : Word := 0
  /-- The state digest (17 R581). -/
  digest : Word := 0
  deriving DecidableEq, Repr
/-- A CAN controller beside its registers (ch. 18). -/
structure CanSt where
  /-- Valid frames so far, wrapping at 16 bits (18 R619). -/
  seq : Nat := 0
  /-- Frames lost in the present run of ring losses (18 R621). -/
  run : Nat := 0
  /-- The head frame that was in transmission when EN was cleared or LOM set may still complete (18 R616, R626). -/
  last : Bool := false
  /-- The FIFO entry in transmission when an ABORT gave up the others (18 R623). -/
  aborted : Option Nat := none
  /-- It was bus-off when EN was cleared (18 R616). -/
  boWas : Bool := false
  /-- Cycles since power-on of its last entry to bus-off (18 R628). -/
  boAt : Nat := 0
  deriving DecidableEq, Repr

/-- What Hedgerow knows of one short address (ch. 19). -/
structure HdgPeer where
  /-- Mean SNRs of the last 8 frames received from it, newest first, in 0.25 dB (19 R647). -/
  snrs : List Nat := []
  /-- Cycles since power-on at the last frame received from it (19 R647). -/
  heard : Option Nat := none
  /-- The mode that it advertised in its last ACK (19 R639). -/
  mode : Nat := 0
  /-- SEQ of its previous frame (19 R644). -/
  lastSeq : Option Nat := none
  /-- The neighbours and SNRs of its last BEACON (19 R647). -/
  list : List (Nat × Nat) := []
  /-- It joined (19 R646). -/
  joined : Bool := false
  /-- The route in use: the addresses after the 5120, ending with its own; empty for none (19 R648). -/
  path : List Nat := []
  deriving DecidableEq, Repr

/-- A Hedgerow frame as the line carries it (19 R637, R638): the header, the route header, and the coded bits of each payload symbol. -/
structure HdgFrame where
  hdr : BitVec 64
  route : List Nat
  symbols : List (List Bool)
  deriving DecidableEq, Repr

/-- A frame that waits to be forwarded (19 R649): its TYPE, the next address and those after it, the EUI and the frame counter under which
its payload is protected (19 R645), and the payload. -/
structure HdgFwd where
  type : Nat
  next : Nat
  rest : List Nat := []
  eui : Nat := 0
  ctr : Nat := 0
  data : List Byte := []
  deriving DecidableEq, Repr

/-- Hedgerow beside its registers (ch. 19). -/
structure HdgSt where
  /-- The nodes by short address (19 R646 to R648). -/
  peers : List (Nat × HdgPeer) := []
  /-- The last frame counter accepted from an EUI (19 R645). -/
  ctrs : List (Nat × Option Nat) := []
  /-- The 5120's own frame counter (19 R645, R654). -/
  ctr : Nat := 0
  /-- The 5120's SEQ (19 R637). -/
  seq : Nat := 0
  /-- The backoff exponent BE (19 R643). -/
  be : Nat := 3
  /-- Retries made of the frame at TX_RD (19 R644). -/
  tries : Nat := 0
  /-- The unicast frame at TX_RD awaits its ACK (19 R644). -/
  waiting : Bool := false
  /-- Senders that are owed an ACK (19 R644). -/
  acks : List Nat := []
  /-- Addresses that are owed the JOIN reply (19 R646). -/
  joins : List Nat := []
  /-- Frames to forward (19 R649). -/
  forwards : List HdgFwd := []
  /-- SEQ and frame counter of the frame at TX_RD, which its retries repeat (19 R644, R645). -/
  txSeq : Nat := 0
  txCtr : Nat := 0
  /-- The last frame sent, as the line carried it (19 R637, R638). -/
  line : Option HdgFrame := none
  /-- A BEACON is due (19 R647). -/
  beacon : Bool := false
  /-- The line driver has tripped and not yet resumed (19 R642). -/
  off : Bool := false
  /-- Cycles since power-on of the driver's last trip, of the last BEACON that fell due, and of the end of the unicast frame that awaits
  its ACK (19 R642, R644, R647). -/
  offAt : Nat := 0
  beaconAt : Nat := 0
  sentAt : Nat := 0
  /-- U1 at the supervisor's last sample, in 0.1 V, and cycles since power-on at its last rising crossing (06 R206, 19 R650). -/
  u1 : Option Int := none
  zcAt : Option Nat := none
  deriving DecidableEq, Repr


/-- A PWM channel beside its registers (ch. 20). -/
structure PwmCh where
  /-- REF is high (20 R661). -/
  ref : Bool := false
  /-- A dead-time turn-on is pending: 0 none, 1 H, 2 L (20 R666). -/
  dtPend : Nat := 0
  /-- Cleared or released, and in its safe state until its next reload (20 R670, R671). -/
  await : Bool := false
  /-- Cycles since power-on at which its own counter last returned to 0 (20 R659). -/
  at' : Nat := 0
  /-- Cycles since power-on at which its pending turn-on falls due (20 R666). -/
  dtAt : Nat := 0
  /-- The cycle in which its load was armed (20 R662). -/
  armAt : Nat := 0
  /-- The cycle of the last write of its shadows, and PERIOD and CMP as they stood before that cycle (20 R662). -/
  shAt : Option Nat := none
  shOld : Nat × Word := (0, 0)
  /-- The cycle in which it last tripped (20 R670). -/
  tripAt : Option Nat := none
  /-- The cycle in which the trip input whose number is 16 less last asserted or deasserted (20 R670). -/
  levelAt : Option Nat := none
  /-- Trip inputs still asserted when the window that it opens closed, whose trips are due: bit t (20 R672). -/
  late : Nat := 0
  deriving DecidableEq, Repr

/-- An aux switch channel beside its registers (ch. 21). -/
structure AswCh where
  /-- The fuse accumulator F (21 R681). -/
  fuse : Nat := 0
  /-- Samples in a row above three times I_NOM (21 R680). -/
  instRun : Nat := 0
  /-- The inrush window runs (21 R682). -/
  inrush : Bool := false
  /-- The last samples in mA, newest first, at most 100 (21 R686). -/
  samples : List Nat := []
  /-- Cycles since power-on at which it turned on (21 R682). -/
  onAt : Nat := 0
  /-- Cycles since power-on at which its keep window runs out (21 R689). -/
  keepTill : Nat := 0
  /-- Cleared since the last boundary: it follows its command from the next one (21 R685). -/
  cleared : Bool := false
  /-- The cycle in which its command last turned it off (21 R691). -/
  offAt : Option Nat := none
  /-- Samples in a row below OL_I while ON, at most 10,000 (21 R687). -/
  olRun : Nat := 0
  deriving DecidableEq, Repr

/-- The aux switches beside their registers (ch. 21). -/
structure AswSt where
  /-- The command word latched at the last freeze (21 R678). -/
  latched : Word := 0
  /-- The command word in effect at the outputs (21 R678). -/
  applied : Word := 0
  /-- The channels by number (21 R677). -/
  ch : List (Nat × AswCh) := []
  /-- The ms of SITE_TIME of the last current report (21 R686). -/
  rep : Nat := 0
  deriving DecidableEq, Repr
/-- Supplies and resets beside their registers (ch. 22). -/
structure PowerSt where
  /-- Main rails that are not good: bits 0 VDD_CORE, 1 the 1.8 V bank, 2 the 3.3 V bank, 3 VDDA (22 R695). -/
  rails : Nat := 0
  /-- RESET_N is recognised low (22 R703). -/
  rstLow : Bool := false
  /-- Causes that the next start of the Control region records the lowest of (22 R704). -/
  causes : List Nat := []
  /-- Supplies have become valid since power-on (22 R696). -/
  on : Bool := false
  /-- A rail or RESET_N holds Control and Service in reset (22 R698, R703). -/
  held : Bool := false
  /-- VBAK fell below 2.5 V, still to be logged at the next start (22 R701). -/
  bakDue : Bool := false
  /-- The partner line at QUOIN_B as filtered reads low, and FCLK cycles since power-on at its last change (17 R570, R592). -/
  quoinB : Bool := false
  lineAt : Nat := 0
  deriving DecidableEq, Repr

/-- An Ethernet frame with its stamp of the precision-time clock (24 R738). -/
structure EthFrame where
  port : Nat
  bytes : List Byte
  sec : Nat
  ns : Nat
  deriving DecidableEq, Repr

/-- A flash operation in hand (24 R735): 1 ERASE, 2 PROGRAM, 3 VERIFY, with its slot, byte offset, length and source. -/
structure FlashOp where
  op : Nat
  slot : Nat
  addr : Nat
  len : Nat
  src : Nat
  deriving DecidableEq, Repr

/-- Host, memory and debug interfaces beside their registers (ch. 24). -/
structure HostSt where
  /-- The precision-time clock in units of 2^−32 ns (24 R737). -/
  ptp : Nat := 0
  /-- Seconds as latched by PTP_NOW_NS, by plane (24 R744). -/
  ptpNow : List (Nat × Nat) := []
  /-- A whole second has come and its pulse is still to start; the start of the last one, in cycles since power-on (24 R740). -/
  ppsDue : Bool := false
  ppsAt : Option Nat := none
  /-- Ethernet frames as handed to and taken from the DMA rings, newest first (24 R736, R738). -/
  rx : List EthFrame := []
  tx : List EthFrame := []
  /-- The two image slots' bytes by 2^25 × slot + offset; an unlisted byte is erased, 0xFF (24 R732, R735). -/
  flash : List (Nat × Byte) := []
  /-- Slots whose last VERIFY passed and which nothing has touched since, a bit for each (24 R735). -/
  verified : Nat := 0
  /-- Sectors left by an abandoned ERASE, by 512 × slot + sector (24 R743). -/
  torn : List Nat := []
  /-- The flash operation that runs (24 R735). -/
  op : Option FlashOp := none
  /-- A slot runs on trial since then, in cycles since power-on; a fallback is to be made at the next start (24 R734). -/
  trialAt : Option Nat := none
  fallback : Bool := false
  /-- Service cores that the debug session has halted, a bit for each (24 R742). -/
  halted : Nat := 0
  deriving DecidableEq, Repr


/-- A copy of the mirrored state (17 R579): the registers of the mirrored pages and the state beside them. -/
structure CtlCopy where
  /-- Words of the mirrored pages (17 R579). -/
  regs : RegTable := []
  /-- The Allocator's (ch. 6). -/
  alc : AlcSt := {}
  /-- The move sequencer's (ch. 7). -/
  mov : MovSt := {}
  /-- The Control Engine's (ch. 8). -/
  cen : CenSt := {}
  /-- Cable cooling's (ch. 9). -/
  thm : ThmSt := {}
  /-- Suspect marks of sensors and the values that reached SHUTDOWN, by outlet (09 R303, R309). -/
  marks : List (Nat × Nat) := []
  reached : List (Nat × Nat) := []
  /-- Downward records of each port that are not acknowledged (11 R382). -/
  tx : List (Nat × List TpRec) := []
  /-- Sessions by outlet (ch. 12). -/
  ses : List (Nat × SesOut) := []
  /-- The PWM channels' (ch. 20). -/
  pwm : List (Nat × PwmCh) := []
  /-- The aux switches' (ch. 21). -/
  asw : AswSt := {}
  deriving DecidableEq, Repr

/-- A SESSION item of the mirror link (17 R604, R606): a checkpoint with the format level of the image that wrote it, which comes from the
partner; one that this chip's firmware writes; the partner's acknowledgement; a copy of a key slot, with whether it authenticates under the
key of the link's training. -/
inductive SesItem where
  | checkpoint (bytes : List Byte) (level : BitVec 8)
  | written (bytes : List Byte)
  | acked
  | key (slot : Fin 256) (key : BitVec 256) (ok : Bool)
  deriving DecidableEq, Repr

/-- The Quoin and the pair beside their registers (ch. 17). -/
structure PairSt where
  /-- The chip pulls QUOIN_A low (17 R570). -/
  low : Bool := false
  /-- The frame engine generated its heartbeat in this frame, and in the previous one (17 R576). -/
  hbOwn : Bool := false
  hbPrev : Bool := false
  /-- A valid HB item of the partner arrived in this frame (17 R593). -/
  hbGot : Bool := false
  /-- A claim that waits for the line: frames left of the 64 (17 R593). -/
  wait : Option Nat := none
  /-- The frame in which the chip became the owner, until its first Emit after it (17 R595). -/
  ownedAt : Option Nat := none
  /-- The anchor (17 R587). -/
  anchor : Option CtlCopy := none
  /-- The mirror copy of the partner's mirrored state, as of the last boundary, and as it arrives (17 R579, 03 R90). -/
  mirror : Option CtlCopy := none
  next : Option CtlCopy := none
  /-- The standby computes from the forwarded image: it is complete for this frame (17 R580). -/
  imgGot : Bool := false
  /-- The CLOSE item of this frame arrived in time (17 R580). -/
  closed : Bool := false
  /-- This frame is shadowed: its IMAGE was complete by the Solve start (17 R580). -/
  shadowed : Bool := false
  /-- This chip's comparison set and the partner's of this frame (17 R585). -/
  mine : Option CmpSet := none
  theirs : Option CmpSet := none
  /-- The self-test of this mismatch run has been started, and runs in this frame (17 R588). -/
  tested : Bool := false
  testing : Bool := false
  /-- The frame that OUTPUT_COMPARISON judged equal, until its boundary moves the anchor (17 R587). -/
  equal : Bool := false
  /-- FCLK cycles since power-on at the last divergence (17 R589). -/
  diverged : Option Nat := none
  /-- Times in a row that the planned swap has been moved (17 R602). -/
  moves : Nat := 0
  /-- The Quoin is to be released at the next boundary: the Service region restarts (03, Table: Region restart). -/
  handover : Bool := false
  /-- The active released for a planned swap in this frame (17 R601). -/
  swapping : Bool := false
  /-- Consecutive frames in which a port's results differed, and agreed, by port (17 R584). -/
  differ : List (Nat × Nat) := []
  agree : List (Nat × Nat) := []
  /-- Boundaries in a row within 4 cycles of the active's (17 R582). -/
  inLine : Nat := 0
  /-- FRAME_NO and SITE_TIME of the last BOUNDARY item, and the error e that it showed (17 R582). -/
  bnd : Option (Nat × Nat × Int) := none
  /-- The pull that the frame opened by this chip's next boundary takes from a BOUNDARY item that came before it (17 R582). -/
  bndPull : Option Int := none
  /-- FCLK cycles since power-on from which the own line has been low with the partner line high (17 R571). -/
  bothAt : Option Nat := none
  /-- The role-change cause of the claim in hand, and the frame of a claim on heartbeat loss (17 R609, R611). -/
  cause : Nat := 0
  claimAt : Option Nat := none
  /-- The partner's HELLO has met R568 since the link came up. -/
  helloOk : Bool := false
  /-- The chip took over warm in this frame, whose results are discarded (17 R596). -/
  skip : Bool := false
  /-- The standby took the Quoin for a planned swap in this frame (17 R601). -/
  swapIn : Bool := false
  /-- The evaluations of this frame's bundle cut-off wait for the forwarded image (17 R584). -/
  evalDue : Bool := false
  /-- Changes of the partner's fences (page, cell, set), marks and latched shutdowns for the next boundary (03 R97). -/
  fences : List (Nat × Nat × Bool) := []
  marks : List (Nat × Word) := []
  shuts : List (Nat × Bool) := []
  /-- Session checkpoints received, newest first: outlet and bytes (17 R604). -/
  ckpts : List (Nat × List Byte) := []
  /-- Session checkpoints that this chip's firmware has written since the link came up, and those acknowledged (17 R604, R605). -/
  written : Nat := 0
  acked : Nat := 0
  /-- The two CRY blocks have agreed a key at the link's training (17 R606). -/
  keyed : Bool := false
  /-- SESSION items that leave in this frame: outlet and item (17 R604, R606). -/
  sesOut : List (Nat × SesItem) := []
  deriving DecidableEq, Repr

/-- A job on a CRY ring: the key slot that it names, and the one that its result fills (12 R408). -/
structure CryJob where
  names : Option (Fin 256) := none
  fills : Option (Fin 256) := none
  deriving DecidableEq, Repr

/-- CRY (12 R408, 17 R606). -/
structure CrySt where
  /-- The jobs of each ring, oldest first (12 R408). -/
  rings : List (Nat × List CryJob) := []
  /-- The key slots, which no register and no memory shows (12 R408, 17 R606). -/
  slots : List (Nat × BitVec 256) := []
  /-- Keys made so far: the model's own count, which numbers their free values (log entry 7). -/
  made : Nat := 0
  deriving DecidableEq, Repr

/-- What a boundary commits of the blocks beside the mirrored state: what their restart reloads (03 R101). -/
structure OwnCopy where
  /-- The snapshot readers (ch. 5). -/
  snaps : List (Nat × SnapPlane) := []
  /-- The ports' physical layer and transport (ch. 10 and 11). -/
  phy : List (Nat × PhySt) := []
  tp : List (Nat × TpSt) := []
  /-- CRY (12 R408). -/
  cry : CrySt := {}
  /-- The pair (ch. 17). -/
  pair : PairSt := {}
  /-- CAN controllers 0 to 6 (ch. 18). -/
  can : List (Nat × CanSt) := []
  /-- Hedgerow (ch. 19). -/
  hdg : HdgSt := {}
  /-- Housekeeping (ch. 9). -/
  hkp : HkpSt := {}
  /-- Host interfaces (ch. 24). -/
  hif : HostSt := {}
  deriving DecidableEq, Repr

/-- What a boundary commits of Heath (03 R101). -/
structure HthCopy where
  /-- Words of the Heath pages. -/
  regs : RegTable := []
  /-- The channels and networks. -/
  st : HthSt := {}
  /-- CAN controller 7. -/
  can : CanSt := {}
  deriving DecidableEq, Repr

end Sys2Proof.Machine
end

