-- ==== Sys2Proof/Syntax.lean ====
section
/-! DEFINITION. The commands of the block and the plain data that they carry. -/
namespace Sys2Proof
open Machine

/-- The requesters' plane codes (R123, Table: Plane codes). -/
inductive Plane where
  | control | data | management | heath | metrology
  deriving DecidableEq, Repr

/-- The four regions (R78). -/
inductive Region where
  | control | service | heath | metrology
  deriving DecidableEq, Repr

/-- A Hedgerow frame as the receiver hands it on (R637): the header, the sender's frame counter and whether its tag checks
(R645), the EUI that a JOIN names, the payload, the neighbours that a BEACON lists with their SNR, the rest of a route
header, the byte errors that the inner decoder left in each codeword (R638), the mean SNR in 0.25 dB, the 5120's own zero-crossing offset in 10 µs where it has one, and the stamp. -/
structure HdgRx where
  hdr : BitVec 64
  ctr : Nat
  tagOk : Bool
  eui : BitVec 64
  data : List Byte
  nbrs : List (Nat × Nat)
  route : List Nat
  errs : List Nat := []
  snr : Nat
  r : Option Nat
  ts : BitVec 64
  deriving DecidableEq, Repr

/-- What a Hedgerow transmission carried. -/
inductive HdgTx where
  | ring | ack | join | beacon | forward
  deriving DecidableEq, Repr
/-- A CAN frame as the bus carries it (R617, R619): stamp at its start of frame, identifier (29 bits as word 2 holds it),
the XTD, RTR, FDF, BRS and ESI bits, the data length code and the data; `parity` says that its ring write meets a
persistent parity error (R621); `recv` is the level in 119 to 127 that ISO 11898-1 lets a REC above 127 fall to. -/
structure CanRx where
  ts : BitVec 64
  id : BitVec 29
  xtd : Bool
  rtr : Bool
  fdf : Bool
  brs : Bool
  esi : Bool
  dlc : BitVec 4
  data : List Byte
  parity : Bool
  recv : Nat
  deriving DecidableEq, Repr

/-- An arbitration loss or an error on a CAN bus (R627): `tx` says that the controller was sending its head frame, `lost`
that arbitration was lost, `pxe` a protocol exception; else the error's code and phase (LEC, DLEC) and what ISO 11898-1
adds to each counter. -/
structure CanErr where
  tx : Bool
  lost : Bool
  pxe : Bool
  code : BitVec 3
  dataPhase : Bool
  tec : Nat
  recv : Nat
  deriving DecidableEq, Repr

/-- A block as a lane carries it (R324): its sync header, the 58 scrambled bits before its payload (bit 57 the last one), and its
scrambled payload. -/
structure LineBlock where
  hdr : BitVec 2
  prior : BitVec 58
  line : BitVec 64
  deriving DecidableEq, Repr

/-- Consecutive blocks of a lane: the 58 scrambled bits before them, then each sync header with its scrambled payload (R324). -/
structure LaneStream where
  prior : BitVec 58 := 0
  blocks : List (BitVec 2 × BitVec 64) := []
  deriving DecidableEq, Repr

/-- The slots of an upward bundle from its ALIGN slot to its end as the lanes carried them (R326, R350): both lanes, or the one of
single-lane mode; the FCLK cycle since power-on in which its first slot arrived, and the cycle of the frame in which it completes. -/
structure UpBundle where
  d0 : LaneStream := {}
  d1 : LaneStream := {}
  lane : Option (Fin 2) := none
  since : Nat := 0
  cycle : Nat := 0
  deriving DecidableEq, Repr

/-- The ball of a PWM trip input (R668): the level that it reads, and for how many samples in a row it has, this one included. -/
structure TripLevel where
  input : Fin 6
  high : Bool := true
  samples : Nat := 1
  deriving DecidableEq, Repr

/-- An edge of a lane monitor (R337): its condition is asserted, or, with `back`, is met to clear; `rx` says that an upward bundle is in
progress on the lane. -/
structure LineMon where
  rx : Bool := false
  back : Bool := false
  deriving DecidableEq, Repr

/-- A block that a receiver cannot take (R325): its link and lane, and the block. Links 0 to 31 are the ports; 32 is lanes D0 and D1 of the mirror
link, and 33 its lanes D2 and D3 (R577). -/
structure BadBlock where
  port : Fin 34
  lane : Fin 2
  blk : LineBlock
  deriving DecidableEq, Repr

/-- A lane with the least eye height and width that the receiver measured over a run of slots (R343). -/
structure LaneEye where
  lane : Fin 2
  h : BitVec 8
  w : BitVec 8
  deriving DecidableEq, Repr


/-- A job for CRY (R408): its ring, the key slot that it names, and the one that its result fills. -/
structure CryReq where
  ring : Fin 4
  names : Option (Fin 256) := none
  fills : Option (Fin 256) := none
  deriving DecidableEq, Repr

/-- A HELLO item (R578): variant, size, layout, strap, MODE, serial, committed-configuration CRC, and the receive lanes that the
training brought into service, with the eye height and width of each. -/
structure MirHello where
  variant : Word
  size : Word
  layout : Nat
  pri : Bool
  mode : Bool
  serial : Word
  cfgCrc : Word
  lanes : BitVec 4
  eyes : List (BitVec 8 × BitVec 8) := []
  deriving DecidableEq, Repr

/-- An IMAGE item, complete (R578, R584): the active's input image, the words of its region that hold the rest of what the Gather
freeze latched, and for each port the CRC of the accepted bundle, if any, with its MISS_RUN. -/
structure MirImage where
  img : Image
  regs : RegTable
  crcs : List (Option Word)
  runs : List Nat
  deriving DecidableEq, Repr

/-- A GALLEY item (R158 to R160): a slot opened by a plane with a tag, an entry with its place in the list, a COMMIT with the
target that the active fixed and the number of entries, a transaction that ended without Imposition, or the active's verdict. -/
inductive MirGal where
  | opened (k : Fin 4) (p : Plane) (tag : BitVec 16)
  | entry (k : Fin 4) (place : Nat) (a : Nat) (v : Word)
  | commit (k : Fin 4) (target : BitVec 48) (n : Nat)
  | dropped (k : Fin 4)
  | verdict (k : Fin 4) (code : Nat)
  deriving DecidableEq, Repr

/-- The level of a pulse input's pin, and the FCLK cycles for which it has been stable (08 R261). -/
structure PinLevel where
  high : Bool
  stood : Nat
  deriving DecidableEq, Repr

/-- The bytes that a read takes (R115): `size` of them from an address. -/
structure ReadAt where
  addr : Nat
  size : Nat := 4
  deriving DecidableEq, Repr

/-- Words of on-die SRAM that have no address (R88, R90): state word `i` of a loop slot, the fairness pointer, an outlet's committed grant
and release count, the reference of a stage in a move, a latched demand word of an outlet (current or voltage), a half of Heath's latched
outlet stops, a meter's accumulator, and the fabric arbiter. -/
inductive HidWord where
  | loop (s : Fin 1024) (i : Fin 8)
  | pointer
  | grant (o : Fin 64)
  | release (o : Fin 64)
  | moveRef (s : Fin 512)
  | demand (o : Fin 64) (volt : Bool)
  | stops (high : Bool)
  | accum (m : Fin 72)
  | arbiter
  deriving DecidableEq, Repr

/-- Where a read finds a parity error (R89): an addressed word, the bundle buffer of a port, or a word without an address. -/
inductive ParWord where
  | word (a : Nat)
  | bundle (n : Fin 32)
  | hid (h : HidWord)
  deriving DecidableEq, Repr

/-- Who reads a word of LPDDR4X with an uncorrectable error (24 R731): a Service core, or the DMA of a CAN controller, of an outlet's
transmit ring, of an Ethernet port, of a core's CRY ring, of Hedgerow, or of the update logic. -/
inductive DdrReader where
  | core | can (n : Fin 7) | tunnel (o : Fin 64) | eth (i : Fin 2) | cry (k : Fin 4) | hdg | upd
  deriving DecidableEq, Repr


/-- The commands of spec/opcode_table.json, one constructor for each row. The table gives no operands; those here are the
model's, read from the rules that the row names. Commands with operands stand first: the compiler
numbers no more than 244 constructors that carry data. -/
inductive Instr where
  /-- ALLOCATOR_COMPLETE (R45): The Allocator completes its targets, grants, references and move plan, and the Control Engine starts in the next cycle. -/
  | allocatorComplete (used : BitVec 16)
  /-- CONTROL_ENGINE_COMPLETE (R269): The Control Engine completes its last tier, ending the Solve. -/
  | controlEngineComplete (used : BitVec 16)
  /-- PARTNER_VERDICT (R160): The partner's verdict for a pair-slot transaction is received and combined with this chip's. -/
  | partnerVerdict (code : Nat)
  /-- FSYNC_EDGE (R59): A selected FSYNC_IN edge is stamped and evaluated against the capture window, producing a pull. -/
  | fsyncEdge (cyc : Nat)
  /-- NOW_LO_READ (R73): A read of FRM.NOW_LO latches the current frame, offset and SITE_TIME words for the reading plane. -/
  | nowLoRead (p : Plane)
  /-- PARITY_ERROR (R89): A read finds a parity error and is repeated up to twice, 8 cycles apart. -/
  | parityError (w : ParWord)
  /-- PARITY_REPLAY (R89): A repeated read completes: clean means transient, both failed means persistent. -/
  | parityReplay (w : ParWord) (clean : Bool)
  /-- SCRUB_COMPLETE (R90): The scrubbed value is written back and read again; a clean read counts a successful scrub. -/
  | scrubComplete (w : ParWord) (clean : Bool)
  /-- FABRIC_WRITE_REPLAY (R93): A write with a persistent parity error at its receiver is replayed up to twice, then dropped with WR_LOST. -/
  | fabricWriteReplay (a : Nat) (writer : Nat) (ok : Bool)
  /-- SELF_CHECKER_FAULT (R100): A block's self-checker reports an impossible internal state, restarting the block. -/
  | selfCheckerFault (page : Nat)
  /-- PG_CTRL_RESTART (R100): A write of 1 to PG_CTRL.RESTART restarts the block, counting toward the rate limit. -/
  | pgCtrlRestart (p : Plane) (page : Nat) (v : Word)
  /-- BLOCK_RESTART_COMPLETE (R101): A block restart completes and releases held requests, setting RESTARTED. -/
  | blockRestartComplete (page : Nat)
  /-- BLOCK_RESTART_FAILED (R102): A block restart not complete by the last cycle of its frame fails and restarts the region. -/
  | blockRestartFailed (page : Nat)
  /-- REGION_WATCHDOG_EXPIRE (R104): A region watchdog expires and restarts the region. -/
  | regionWatchdogExpire (r : Region)
  /-- REGION_RESTART_COMPLETE (R104): A restarting region returns within its time. -/
  | regionRestartComplete (r : Region) (valid : Bool) (sigA : Bool) (sigB : Bool)
  /-- REGION_RESTART_TIMEOUT (R106): A region not returned within its time raises a chip fault. -/
  | regionRestartTimeout (r : Region)
  /-- REGISTER_WRITE (R125): A software write to a register without its own row is checked in order and applied under its access code. -/
  | registerWrite (p : Plane) (a : Nat) (size : Nat) (v : Word)
  /-- UNMAPPED_READ (R114): A read of an unmapped address returns zero and is recorded in the chip page. -/
  | unmappedRead (p : Plane) (a : Nat)
  /-- READ_CLEAR (R11): A read of an RC register returns its value and clears it. -/
  | readClear (p : Plane) (x : ReadAt)
  /-- GALLEY_STAGE (R138): A write to an RWS register or Galley window word from a plane with an open slot is appended to its staging list. -/
  | galleyStage (p : Plane) (a : Nat) (v : Word)
  /-- GALLEY_OPEN (R143): OPEN clears the list, takes the tag and opens the slot, or is refused. -/
  | galleyOpen (p : Plane) (k : Fin 4) (tag : BitVec 16)
  /-- GALLEY_PROOF (R143): PROOF starts a structural pass on an open or proved slot. -/
  | galleyProof (p : Plane) (k : Fin 4) (tag : BitVec 16)
  /-- GALLEY_COMMIT (R143): COMMIT starts a structural pass whose success accepts the transaction. -/
  | galleyCommit (p : Plane) (k : Fin 4) (tag : BitVec 16)
  /-- GALLEY_ROLLBACK (R143): ROLLBACK discards a transaction before its commit cut, or is refused with LATE. -/
  | galleyRollback (p : Plane) (k : Fin 4) (tag : BitVec 16)
  /-- GALLEY_NOP (R143): A GAL.CMD write with OP 0x0 does nothing. -/
  | galleyNop (p : Plane) (k : Fin 4) (tag : BitVec 16)
  /-- SNAPSHOT_HOLD_SET (R165): A write of 1 to SNP.HOLD freezes the plane's read bank. -/
  | snapshotHoldSet (p : Plane) (clr : Bool)
  /-- SNAPSHOT_HOLD_CLEAR (R165): A write of 0 to SNP.HOLD ends the hold; the plane reads the latest bank. -/
  | snapshotHoldClear (p : Plane) (clr : Bool)
  /-- HOLD_EXPIRED (R165): At the 8th boundary after it was set, a hold ends and sets EXPIRED. -/
  | holdExpired (p : Plane)
  /-- LOG_PUT (R171): A write to SNP.LOG_PUT appends a software event-log entry. -/
  | logPut (p : Plane) (v : Word)
  /-- POSITION_SUSPECT (R238): Feedback disagreeing with command for CONF fresh frames marks the position suspect and creates a release. -/
  | positionSuspect (g : Fin 512)
  /-- STEP_TIMEOUT (R229): A move step's AGE reaches its timeout with its condition unmet. -/
  | stepTimeout (m : Fin 128)
  /-- STAGE_REJOIN (R241): After CONF fresh frames the state of an unfenced or restarted stage is derived from its feedback. -/
  | stageRejoin (g : Fin 512)
  /-- SLOT_RECLOSE (R276): An INPUT-tripped slot with RECLOSE closes again after 64 valid freezes. -/
  | slotReclose (k : Fin 1024)
  /-- AXIS_ENABLE (R282): ENABLE takes an OFF axis to HOLD, unless a Heath stop is present. -/
  | axisEnable (a : Fin 8)
  /-- AXIS_MOVE (R282): MOVE starts or retargets a move within the soft limits. -/
  | axisMove (a : Fin 8)
  /-- AXIS_STOP (R282): STOP takes a moving axis to STOP. -/
  | axisStop (a : Fin 8)
  /-- AXIS_DISABLE (R282): DISABLE takes HOLD to OFF, or MOVE to STOP with DIS_PEND. -/
  | axisDisable (a : Fin 8)
  /-- AXIS_RESET (R282): RESET takes a FAULT axis to OFF. -/
  | axisReset (a : Fin 8)
  /-- AXIS_FAULT (R283): An axis enters FAULT on following error, a lost port, soft limits or a slot trip. -/
  | axisFault (a : Fin 8)
  /-- PIN_FAULT (R261): An illegal quadrature transition is counted and makes the input invalid for the frame. -/
  | pinFault (n : Fin 4)
  /-- SENSOR_SUSPECT (R307): A sensor's deviation count reaches SUSP_FRAMES and the sensor is marked suspect. -/
  | sensorSuspect (o : Fin 64) (k : Fin 6)
  /-- STALE (R292): From the 4th consecutive missed frame every sensor of the outlet is untrusted and LIMITED applies. -/
  | stale (o : Fin 64)
  /-- HKP_CONVERSION (R312): A housekeeping channel's conversion completes in its 250 µs slot and is stamped. -/
  | hkpConversion (ch : Fin 32) (v : Int)
  /-- PORT_TRAINING_START (R330): A port starts or restarts a training attempt from step 1. -/
  | portTrainingStart (n : Fin 32)
  /-- TRAIN_BLOCK_RECEIVED (R332): A TRAIN block is received; a new request is applied to the transmit taps and answered. -/
  | trainBlockReceived (n : Fin 32) (lane : Fin 2) (blk : LineBlock) (rx : Bool)
  /-- TRAINING_STEP_DONE (R334): A training step's condition is met; the lane or port moves on, ending UP_DUAL or UP_SINGLE. -/
  | trainingStepDone (n : Fin 32) (step : Nat) (lane : Fin 2) (h : BitVec 8) (w : BitVec 8)
  /-- TRAINING_STEP_TIMEOUT (R334): A training step reaches its limit and fails with its code. -/
  | trainingStepTimeout (n : Fin 32) (step : Nat) (lane : Fin 2) (los : Bool)
  /-- TRAINING_RETRY (R335): RETRY ms after a failed training the port trains again. -/
  | trainingRetry (n : Fin 32)
  /-- CLOCK_LOS (R337): The clock lane amplitude stays below threshold for 1 µs; the port goes down. -/
  | clockLos (n : Fin 34) (m : LineMon)
  /-- CLOCK_LOL (R337): The clock receiver unlocks or goes out of range; the port goes down. -/
  | clockLol (n : Fin 34) (m : LineMon)
  /-- DATA_LOS (R337): A data lane loses signal for 1 µs and is excluded. -/
  | dataLos (n : Fin 34) (lane : Fin 2) (m : LineMon)
  /-- DATA_LOL (R338): A data lane loses block lock and is excluded. -/
  | dataLol (n : Fin 34) (lane : Fin 2) (m : LineMon)
  /-- CODE_ERR (R338): A block with an invalid header or undefined control type is counted and discarded. -/
  | codeErr (b : BadBlock)
  /-- STATUS_BLOCK_RECEIVED (R340): A far STATUS excluding a lane or asking RETRAIN changes the transmit mode or starts training. -/
  | statusBlockReceived (n : Fin 32) (blk : LineBlock) (rx : Bool)
  /-- LANE_REJOIN (R343): An excluded lane meeting lock and eye for 65,536 slots rejoins. -/
  | laneRejoin (n : Fin 34) (x : LaneEye)
  /-- UPWARD_BUNDLE (R357): An upward bundle completes and is accepted or rejected; its records are taken in order. -/
  | upwardBundle (n : Fin 32) (b : UpBundle)
  /-- PORT_LOST (R375): MISS_RUN reaches 4; PORT_LOST is set and logged. -/
  | portLost (n : Fin 32)
  /-- NODE_STAGES_UNAVAILABLE (R376): From MISS_RUN equal to HOLD a CIN's stages read unavailable in the input image. -/
  | nodeStagesUnavailable (n : Fin 32)
  /-- ACK_RESEND (R380): The oldest unacknowledged record reaches RETRY_F frames and the series is resent. -/
  | ackResend (n : Fin 32)
  /-- TUN_RESET (R381): A record sent RETRY_MAX + 1 times resets the sub-layer and discards pending records. -/
  | tunReset (n : Fin 32)
  /-- LINK (R397): Session command LINK moves PLUGGED to LINKED. -/
  | link (p : Plane) (o : Fin 64)
  /-- AUTH (R397): Session command AUTH moves LINKED to AUTHORISED. -/
  | auth (p : Plane) (o : Fin 64)
  /-- PREPARE (R397): Session command PREPARE moves AUTHORISED to PREPARING, unless zero-forced or out of credit. -/
  | prepare (p : Plane) (o : Fin 64)
  /-- CHARGE (R397): Session command CHARGE moves PREPARING to CHARGING when the contactor and latch read closed. -/
  | charge (p : Plane) (o : Fin 64)
  /-- STOP (R397): Session command STOP ends or stops the session with CAUSE 0x1. -/
  | stop (p : Plane) (o : Fin 64)
  /-- CLEAR (R397): Session command CLEAR returns FAULTED to IDLE when unplugged and open. -/
  | clear (p : Plane) (o : Fin 64)
  /-- CREDIT_SET (R400): A CREDIT_SET write adds to or replaces REMAIN, or turns prepayment off. -/
  | creditSet (p : Plane) (o : Fin 64) (v : Word)
  /-- ISO_FAULT (R402): ISO_FB differs from ISO_CL in ISO_TO fresh frames; the session becomes FAULTED. -/
  | isoFault (o : Fin 64)
  /-- OPEN_FORCED (R401): OPEN_WAIT frames in STOPPING force ISO_CL to 0. -/
  | openForced (o : Fin 64)
  /-- SES_TIMER (R407): SES.TIMER reaches 0: TIMER set, EN cleared, and with STOP a forced transition. -/
  | sesTimer (o : Fin 64)
  /-- TUN_SW_WRITE (R394): A write to SES.TUN_SW advances RX_RD and TX_WR field by field within their rules. -/
  | tunSwWrite (p : Plane) (o : Fin 64) (v : Word)
  /-- CRY_JOB (R408): A crypto job is queued on a core's CRY ring. -/
  | cryJob (x : CryReq)
  /-- CRY_JOB_COMPLETE (R409): CRY completes a job within its worst-case time. -/
  | cryJobComplete (k : Fin 4)
  /-- INTAKE_SAMPLE (R419): Every 12,500 cycles all intake channels are sampled, corrected and added to the import or export sums. -/
  | intakeSample (raw : List Int)
  /-- STREAM_BLOCK (R426): A sealed stream block is checked and its samples taken against SEQ_NEXT. -/
  | streamBlock (o : Fin 64) (mac : Bool)
  /-- CONTACTOR (R429): ISO_CL and ISO_FB differ in 800 stream samples: contactor tamper recorded. -/
  | contactor (o : Fin 64)
  /-- LEGAL_SEAL_CHANGE (R443): LEGAL_SEAL changes after 20 ms stable; openings are counted and logged. -/
  | legalSealChange (opened : Bool)
  /-- SEALED_WRITE (R445): A sealed WRITE request is checked whole and applied whole or refused. -/
  | sealedWrite (p : Plane) (n : Fin 16) (tag : BitVec 16)
  /-- TIME_SET (R465): A TIME_SET request is classified as slew or step and accepted or refused. -/
  | timeSet (p : Plane) (tag : BitVec 16)
  /-- CLOSE_PERIOD (R484): CLOSE_PERIOD requests a period close at the next epoch boundary. -/
  | closePeriod (p : Plane) (tag : BitVec 16)
  /-- SESSION_BEGIN (R497): SESSION_BEGIN opens a metering session and reserves a record slot. -/
  | sessionBegin (p : Plane) (tag : BitVec 16)
  /-- SESSION_END (R497): SESSION_END takes end readings and writes the SESSION record. -/
  | sessionEnd (p : Plane) (tag : BitVec 16)
  /-- SELECT (R500): SELECT copies a record or log entry into TRF.REC_W, marking a record fetched. -/
  | select (p : Plane) (tag : BitVec 16)
  /-- TAMPER_REPORT (R489): TAMPER_REPORT writes a signed TAMPER record. -/
  | tamperReport (p : Plane) (tag : BitVec 16)
  /-- RECORD_SIGNED (R498): The core signs a completed record within 250 ms. -/
  | recordSigned (u : Unit)
  /-- PF_SAVE (R448): The save image write completes into a save slot. -/
  | pfSave (t : BitVec 16)
  /-- BACKUP_SAMPLE (R452): Once a second on VBAK, phase currents are sampled for 40 ms and their RMS formed. -/
  | backupSample (rms : List Nat)
  /-- TRF_NOW_READ (R463): A read of TRF.NOW0 latches the current legal stamp. -/
  | trfNowRead (p : Plane)
  /-- HEATH_CYCLE (R510): A Heath channel's 250 µs cycle forms input states, faults, reset edges, function states and switch commands. -/
  | heathCycle (i : Fin 2) (rb : BitVec 8) (ma : List Nat)
  /-- LEG_FILTER_CHANGE (R512): A leg's raw sample differs for T_F and its filtered state changes. -/
  | legFilterChange (i : Fin 2) (j : Fin 16) (legB : Bool)
  /-- DISCREPANCY (R516): A disagreement lasting T_D latches a DISCREPANCY fault. -/
  | discrepancy (i : Fin 2) (j : Fin 16)
  /-- LOCK_FAULT (R524): Door open while lock reads run for T_D latches a LOCK fault. -/
  | lockFault (i : Fin 2) (k : Fin 16)
  /-- TEST_FAULT (R514): A leg high through a whole test window latches a TEST fault. -/
  | testFault (i : Fin 2) (j : Fin 16) (legB : Bool)
  /-- RESET_EDGE (R518): A valid reset pulse is accepted at its falling edge, or counted SHORT. -/
  | resetEdge (i : Fin 2) (r : Fin 2)
  /-- RESET_STUCK (R518): A reset level high for 3 s is STUCK. -/
  | resetStuck (i : Fin 2) (r : Fin 2)
  /-- STOP_DLY_EXPIRE (R528): A category 1 function's STOP_DLY runs out and it withdraws permission. -/
  | stopDlyExpire (i : Fin 2) (k : Fin 16)
  /-- UNLOCK_DLY_EXPIRE (R523): UNLOCK_DLY after outputs off, both channels close the LOCK output. -/
  | unlockDlyExpire (i : Fin 2) (k : Fin 16)
  /-- SYNC_FAIL (R525): The two-hand synchronism window closes without the second hand. -/
  | syncFail (i : Fin 2) (k : Fin 16)
  /-- OUTPUT_TEST (R529): Each TEST_PER a channel opens its switch briefly and checks readback, latching STUCK on failure. -/
  | outputTest (i : Fin 2) (n : Fin 8) (fell : Bool)
  /-- OVERLOAD (R530): Output current above 0.9 A for 1 ms latches OVERLOAD. -/
  | overload (n : Fin 8) (trip : Bool)
  /-- SHORT_24V (R530): Readback above 5 V for 10 ms with switches open latches SHORT_24V. -/
  | short24v (n : Fin 8)
  /-- HEARTBEAT_LOST (R509): No heartbeat from the other Heath channel for 1 ms: switches open, Heath fatal fault. -/
  | heartbeatLost (i : Fin 2)
  /-- NETWORK_LOST (R558): 10 ms without an accepted telegram marks a network lost for a source. -/
  | networkLost (i : Fin 32) (b : Bool)
  /-- UNLOCK_REQUEST (R523): A write of CHIP.HTH_REQ.UNLOCK requests or withdraws a guard unlock. -/
  | unlockRequest (p : Plane) (v : Word)
  /-- SCC_ENTER (R539): ENTER starts configuration mode: outputs open, functions to STOP. -/
  | sccEnter (p : Plane) (tag : BitVec 16) (en : Bool)
  /-- SCC_WRITE (R539): WRITE stages Heath configuration words. -/
  | sccWrite (p : Plane) (n : Fin 16) (tag : BitVec 16)
  /-- SCC_COMMIT (R540): COMMIT checks CRC and configuration, writes both copies, loads them and unfences staged cells. -/
  | sccCommit (p : Plane) (tag : BitVec 16) (img : Option Word)
  /-- SCC_EXIT (R539): EXIT ends configuration mode; functions need a reset edge. -/
  | sccExit (p : Plane) (tag : BitVec 16)
  /-- SCC_ABORT (R539): ABORT discards staged words. -/
  | sccAbort (p : Plane) (tag : BitVec 16)
  /-- SCC_PROG (R715): PROG stages Heath program image words. -/
  | sccProg (p : Plane) (n : Fin 16) (tag : BitVec 16)
  /-- QUOIN_B_CHANGE (R570): The partner line changes after 8 stable cycles. -/
  | quoinBChange (low : Bool)
  /-- QN_REJOIN (R590): A write of QN.CTRL.REJOIN restarts the Control region of a BARRED or JOINING chip. -/
  | qnRejoin (p : Plane) (v : Word)
  /-- HELLO (R568): The HELLO item is exchanged after link training and pair conditions checked. -/
  | hello (h : MirHello)
  /-- BOUNDARY_ITEM (R582): A BOUNDARY item aligns a joining or standby chip's boundary by a pull. -/
  | boundaryItem (frame : BitVec 48) (site : BitVec 64) (rtt : Nat)
  /-- IMAGE_ITEM (R584): The active's input image arrives; the standby cross-checks port results. -/
  | imageItem (x : MirImage)
  /-- IN_DIFF (R584): A port's results differing in 16 shadowed frames sets its IN_DIFF bit. -/
  | inDiff (n : Fin 32)
  /-- HB_ITEM (R593): A partner heartbeat and health word arrive. -/
  | hbItem (health : Word) (parts : BitVec 5)
  /-- STATE_ITEM (R579): Changed mirrored words arrive from the active. -/
  | stateItem (m : CtlCopy) (units : Nat)
  /-- FENCE_ITEM (R97): Fence, mark or shutdown changes arrive and are adopted at the boundary. -/
  | fenceItem (fences : List (Nat × Nat × Bool)) (marks : List (Nat × Word)) (shuts : List (Nat × Bool))
  /-- GALLEY_ITEM (R158): Forwarded staging entries or verdicts arrive. -/
  | galleyItem (g : MirGal)
  /-- SESSION_ITEM (R604): A session checkpoint arrives and the standby acknowledges it. -/
  | sessionItem (o : Fin 64) (x : SesItem) (sync : Bool)
  /-- CLOSE_ITEM (R580): The active's CLOSE item closes the frame's stream. -/
  | closeItem (frame : BitVec 48)
  /-- CMP_ITEM (R585): The partner's comparison set arrives. -/
  | cmpItem (x : CmpSet)
  /-- SCRUB_ITEM (R90): A control-state word is supplied for a scrub. -/
  | scrubItem (a : Nat) (v : Word)
  /-- SELFTEST (R588): The second mismatch frame runs the quick self-test in the next Gather. -/
  | selftest (parts : BitVec 5)
  /-- JOIN_STEP_DONE (R591): A joining step completes and the next begins, ending in STANDBY. -/
  | joinStepDone (cfg : Option RegTable)
  /-- CAN_FRAME_RECEIVED (R618): A valid CAN frame is stamped and written to the receive ring, or lost to a full ring. -/
  | canFrameReceived (c : Fin 8) (x : CanRx)
  /-- CAN_FRAME_SENT (R622): The head FIFO frame is sent, TX_DONE set and TX_RD advanced. -/
  | canFrameSent (c : Fin 8) (ts : BitVec 64) (tdcv : Nat)
  /-- CAN_BUS_ERROR (R627): An arbitration loss or error moves the counters, error state or bus-off. -/
  | canBusError (c : Fin 8) (x : CanErr)
  /-- CAN_ABORT (R623): CMD.ABORT gives up every FIFO entry not in transmission. -/
  | canAbort (p : Plane) (c : Fin 8) (busy : Bool)
  /-- CAN_RECOVER (R628): CMD.RECOVER starts bus-off recovery. -/
  | canRecover (p : Plane) (c : Fin 8)
  /-- BO_WAIT_EXPIRE (R628): BO_WAIT ms after bus-off, recovery starts automatically. -/
  | boWaitExpire (c : Fin 8)
  /-- RECOVERED (R628): 128 recessive sequences complete recovery; counters zero and error active. -/
  | recovered (c : Fin 8)
  /-- CAN_INTEGRATED (R616): An enabled controller sees 11 recessive bits and goes error active. -/
  | canIntegrated (c : Fin 8)
  /-- CAN_SW_IDX_WRITE (R620): A write to CAN.SW_IDX advances RX_RD and TX_WR field by field within their rules. -/
  | canSwIdxWrite (p : Plane) (c : Fin 8) (v : Word)
  /-- HDG_FRAME_RECEIVED (R637): A Hedgerow PHY frame is received, decoded, authenticated and delivered or dropped. -/
  | hdgFrameReceived (x : HdgRx)
  /-- HDG_FRAME_SENT (R643): After backoff a Hedgerow frame is transmitted. -/
  | hdgFrameSent (k : HdgTx) (clips : Nat) (ipk : Nat)
  /-- DRV_TRIP (R642): The line driver trips on temperature or 1,024 clipped samples. -/
  | drvTrip (temp : Bool) (sending : Bool)
  /-- HDG_SW_IDX_WRITE (R652): A write to HDG.SW_IDX advances indices field by field within their rules. -/
  | hdgSwIdxWrite (p : Plane) (v : Word)
  /-- PWM_RELOAD (R659): A PWM counter returns to 0: armed loads copy shadows into active registers. -/
  | pwmReload (j : Fin 16)
  /-- DEAD_TIME_EXPIRE (R666): DT cycles after a REF edge the pending output turns active. -/
  | deadTimeExpire (j : Fin 16)
  /-- LOAD_ALL (R662): LOAD_ALL.GO arms a load on every enabled SRC = 0 channel. -/
  | loadAll (p : Plane) (v : Word)
  /-- TRIP_ASSERT (R668): A trip input asserts and trips its channels into the safe state. -/
  | tripAssert (x : TripLevel)
  /-- BLANK_WINDOW_CLOSE (R672): A blanking window closes with its input still asserted, tripping the channels. -/
  | blankWindowClose (t : Fin 6)
  /-- TRIP_CLR (R670): A TRIP_CLR bit requests a clear, accepted or refused on the previous cycle's levels. -/
  | tripClr (p : Plane) (v : Word)
  /-- TRIP_INST (R680): Current above 3 × I_NOM for 10 µs trips the channel off. -/
  | tripInst (j : Fin 16)
  /-- TRIP_I2T (R681): The fuse accumulator reaches its trip level. -/
  | tripI2t (j : Fin 16)
  /-- TRIP_THERM (R683): A switch above 170 °C trips its channel. -/
  | tripTherm (j : Fin 16)
  /-- ASW_CLR (R685): An ASW.CLR bit requests a clear, accepted or refused. -/
  | aswClr (p : Plane) (v : Word) (hot : Word)
  /-- INRUSH_END (R682): INRUSH_MS after turn-on the inrush allowance ends. -/
  | inrushEnd (j : Fin 16)
  /-- OPEN_LOAD (R687): Current below OL_I for 100 ms sets OPEN_LOAD. -/
  | openLoad (j : Fin 16)
  /-- EXT_V (R687): An off output above 4 V for 10 ms sets EXT_V. -/
  | extV (j : Fin 16) (above : Bool)
  /-- SUPPLY_FAULT (R688): A VBAT24 undervoltage, overvoltage, reverse or ground fault holds all channels off. -/
  | supplyFault (k : Fin 3)
  /-- SUPPLY_RETURN (R688): Every supply cause ends and channels follow commands with new inrush windows. -/
  | supplyReturn (k : Fin 3)
  /-- KEEP_END (R689): The keep window runs out and the channel turns off and is held. -/
  | keepEnd (j : Fin 16)
  /-- RAIL_FAULT (R698): A main rail stops being good and resets the regions it feeds. -/
  | railFault (r : Fin 4)
  /-- RAIL_GOOD (R695): A rail in range for 1 ms becomes good again. -/
  | railGood (r : Fin 4)
  /-- RST_CMD (R705): PWR.RST_CMD with the key resets Control and Service. -/
  | rstCmd (p : Plane) (v : Word)
  /-- CONTROL_REGION_START (R707): The Control region starts from the committed image, records its reset cause and starts frame 0. -/
  | controlRegionStart (valid : Bool)
  /-- SERVICE_START (R733): The Service region starts: LPDDR4X trains and the boot logic checks and starts an image. -/
  | serviceStart (sigA : Bool) (sigB : Bool)
  /-- SVC_RESTART (R711): UPD.CMD SVC_RESTART restarts the writer's Service region. -/
  | svcRestart (p : Plane) (key : BitVec 8)
  /-- MET_OFFER (R718): UPD.CMD MET_OFFER offers a metrology image. -/
  | metOffer (p : Plane) (key : BitVec 8)
  /-- MET_WITHDRAW (R720): UPD.CMD MET_WITHDRAW ends an offer not yet loading. -/
  | metWithdraw (p : Plane) (key : BitVec 8)
  /-- MET_IMAGE_LOAD (R719): At an epoch boundary with the seal open the offered image is verified, written and the core restarted. -/
  | metImageLoad (img : Option (MetFw × Bool))
  /-- BOOT_CONFIRM (R734): A write of BOOT.CONFIRM confirms the running slot. -/
  | bootConfirm (p : Plane) (v : Word)
  /-- BOOT_NEXT_WRITE (R735): A write naming BOOT.NEXT is accepted only for a verified other slot. -/
  | bootNextWrite (p : Plane) (v : Word)
  /-- FL_ERASE (R735): FL_CMD ERASE erases a 64 KiB sector of the non-running slot. -/
  | flErase (p : Plane) (slot : Fin 2)
  /-- FL_PROGRAM (R735): FL_CMD PROGRAM writes up to 4 KiB from LPDDR4X into the non-running slot. -/
  | flProgram (p : Plane) (slot : Fin 2) (len : BitVec 12)
  /-- FL_VERIFY (R735): FL_CMD VERIFY applies the boot checks to the non-running slot. -/
  | flVerify (p : Plane) (slot : Fin 2)
  /-- FLASH_OP_COMPLETE (R735): A flash operation completes and FL_STAT is updated. -/
  | flashOpComplete (ok : Bool) (sig : Bool)
  /-- DDR_ECC_UE (R731): An uncorrectable error faults the reading core or discards the DMA item. -/
  | ddrEccUe (a : Nat) (x : DdrReader)
  /-- PATROL_SCRUB (R730): The background patrol scrub pass over memory completes every 24 h. -/
  | patrolScrub (ce : Nat)
  /-- PTP_STEP (R737): A write to PTP_STEP_NS applies a signed step to the precision-time clock. -/
  | ptpStep (p : Plane) (v : Word)
  /-- PTP_NOW_READ (R744): A read of PTP_NOW_NS latches the seconds words. -/
  | ptpNowRead (p : Plane)
  /-- ETH_FRAME_RECEIVED (R738): An Ethernet frame is received and timestamped. -/
  | ethFrameReceived (i : Fin 2) (bytes : List Byte)
  /-- ETH_FRAME_SENT (R738): An Ethernet frame is sent and timestamped. -/
  | ethFrameSent (i : Fin 2) (bytes : List Byte)
  /-- ETH_LINK_CHANGE (R745): An Ethernet port's link goes up or down. -/
  | ethLinkChange (i : Fin 2) (up : Bool) (anDone : Bool) (rfault : Bool) (speed : BitVec 2)
  /-- GPIO_EDGE (R740): A GPIO input edge sets its GPIO_EVT bit. -/
  | gpioEdge (n : Fin 32) (level : Bool)
  /-- DEBUG_UNLOCK (R741): A valid signed challenge answer unlocks a debug session. -/
  | debugUnlock (sig : Bool)
  /-- DEBUG_HALT (R742): A halt request halts a Service core, or is refused on an ACTIVE chip. -/
  | debugHalt (k : Fin 4)
  /-- TEST_PULSE (R513): Once every TP_PER, at its offset n × TP_PER / 4, test-pulse output TPn drops low for TP_W and opens the test windows of the legs it feeds. -/
  | testPulse (n : Fin 4)
  /-- SAFETY_INPUT_SAMPLE (R512): Every 50 µs of its clock, each Heath channel samples every safety input leg, advancing the filter, test-window and disagreement timing. -/
  | safetyInputSample (i : Fin 2) (legs : BitVec 32) (rst : BitVec 2)
  /-- SUPERVISOR_SAMPLE (R206): Every microsecond the intake supervisor computes the space-vector magnitude, updates the lowest magnitude since the last freeze, and detects rising U1 crossings that set ZC_VALID and the measured line period. -/
  | supervisorSample (u1 : Int) (u2 : Int) (u3 : Int)
  /-- ANALOGUE_INPUT_CONVERSION (R260): Every 25 µs the Field die converts each analogue input and adds the result to the frame's average and validity. -/
  | analogueInputConversion (n : Fin 4) (v : Int)
  /-- PULSE_INPUT_EDGE (R261): A filtered edge on a pulse input pin is counted, stamped for frequency mode, or moves the quadrature position. -/
  | pulseInputEdge (n : Fin 4) (a : PinLevel) (b : PinLevel)
  /-- REF_FALL (R666): The PWM counter reaches CMP, REF falls, H goes inactive at once and the L turn-on is scheduled DT cycles later. -/
  | refFall (j : Fin 16)
  /-- TRIP_DEASSERT (R668): A PWM trip input is deasserted at its first inactive sample, clearing its ASSERTED bit and allowing later clears. -/
  | tripDeassert (x : TripLevel)
  /-- ASW_CURRENT_SAMPLE (R681): Every 10 µs each aux channel's current is sensed and the fuse accumulator F is updated. -/
  | aswCurrentSample (ma : List Nat)
  /-- DOMAIN_SUPPLY_FAULT (R110): A fault in a region's own power switch, regulator or power-good monitor resets only that region. -/
  | domainSupplyFault (r : Region)
  /-- FRAME_BOUNDARY (R35): The frame length counter reaches L: the boundary cycle, in which Imposition, snapshot switch, FRAME_NO advance, FSYNC_OUT rise and the Gather freeze take place. -/
  | frameBoundary
  /-- TIME_ANCHOR (R74): At every 4,096th boundary a three-part time anchor is written to the event log. -/
  | timeAnchor
  /-- BUNDLE_CUT_OFF (R37): The bundle cut-off cycle: ports without a valid bundle are missed, and the sequencer, THM and SES evaluations start. -/
  | bundleCutOff
  /-- SOLVE_START (R41): The Solve start cycle: the Allocator starts, the Quoin watchdog and the partner heartbeat are checked. -/
  | solveStart
  /-- EMIT_START (R46): The Emit start cycle: engines stop, completeness is checked, the stop overlay applies and downward bundles leave. -/
  | emitStart
  /-- FROZEN_IN (R50): The third consecutive overrun puts the chip into frozen-grant mode from the boundary that ends that frame. -/
  | frozenIn
  /-- RAMPING (R52): From the 65th frozen frame held grants fall by the ramp rate toward contracted minimums. -/
  | ramping
  /-- ESCALATE (R54): Sixteen consecutive overruns in frozen-grant mode raise a Control-region fault. -/
  | escalate
  /-- MIRROR_IMPOSE_START (R153): The Mirror/Impose start: commit cut, boundary pass, mirror stream close and output comparison exchange. -/
  | mirrorImposeStart
  /-- GALLEY_VERDICTS_FIXED (R153): At M + 1,000 own verdicts are fixed and sent to the partner for pair-slot and forwarded transactions. -/
  | galleyVerdictsFixed
  /-- MRAM_MARKER_WRITTEN (R156): A passing transaction's MRAM marker completes, making it part of the committed image. -/
  | mramMarkerWritten
  /-- FSYNC_MISS (R64): A capture window closes without an edge: no pull, miss counted, lock run reset while unlocked. -/
  | fsyncMiss
  /-- LOCK_GAINED (R63): LOCK_RUN reaches 16 and LOCKED is set. -/
  | lockGained
  /-- LOCK_LOST (R64): The fourth consecutive miss clears LOCKED and LOCK_RUN. -/
  | lockLost
  /-- FSYNC_OUT_FALL (R67): FSYNC_OUT goes low OUT_WIDTH × 100 cycles after the boundary. -/
  | fsyncOutFall
  /-- CHIP_FAULT_RESTART (R109): 100 ms after a chip fault Control and Service restart once, or stay held after a second fault within 600 s. -/
  | chipFaultRestart
  /-- STRUCTURAL_PASS_COMPLETE (R144): A structural pass completes: PROVED, COMMITTED with its target boundary fixed, or FAILED. -/
  | structuralPassComplete
  /-- SAG_START (R206): The intake magnitude leaves its band, setting SAG_HOLD within 2 µs. -/
  | sagStart
  /-- SAG_END (R210): SAG_HOLD clears after RELEASE consecutive in-band freezes. -/
  | sagEnd
  /-- L1_LOST (R422): No crossing for 50 ms (41.7 ms at 60 Hz): L1 lost and epochs timed. -/
  | l1Lost
  /-- EPOCH_BOUNDARY (R487): The first boundary after the EPOCH_N-th crossing closes the epoch and runs the ordered boundary actions. -/
  | epochBoundary
  /-- SETTLEMENT (R437): An epoch settles once all its samples arrived or SETTLE_MS passed: latched words and tariff registers updated. -/
  | settlement
  /-- CHECKPOINT_WRITTEN (R440): The epoch checkpoint is written to a checkpoint slot. -/
  | checkpointWritten
  /-- SEALED_REQUEST_COMPLETE (R444): A sealed-path request completes and its result is shown in SEAL_STAT. -/
  | sealedRequestComplete
  /-- SLEW_END (R467): A slew has applied its whole delta and SLEWING clears. -/
  | slewEnd
  /-- PERIOD_PEND_WRITE (R495): Period records waiting for slots are written as slots become free. -/
  | periodPendWrite
  /-- CUT (R447): Filtered PFAIL_N assertion: due epoch actions, latch into a save image, energy counting stops. -/
  | cut
  /-- PFAIL_OFF (R449): PFAIL_N deasserts after filtering without supply loss. -/
  | pfailOff
  /-- PFAIL_RESUME (R449): After the save and 10 ms quiet, counting resumes at the next boundary. -/
  | pfailResume
  /-- METROLOGY_RESTORE (R450): At start-up the region restores from the newest valid save or checkpoint image. -/
  | metrologyRestore
  /-- VBAK_LOW (R454): VBAK below 2.4 V stops backup sampling. -/
  | vbakLow
  /-- LEGAL_TIME_LOST (R470): VBAK below 2.0 V without main supply loses legal time. -/
  | legalTimeLost
  /-- CHANNEL_DISAGREEMENT (R509): Channel states or commands differ for 2 ms: Heath fatal fault. -/
  | channelDisagreement
  /-- LOCKSTEP_MISMATCH (R509): A lockstep mismatch in channel A is a Heath fatal fault. -/
  | lockstepMismatch
  /-- OSC_OUT_OF_RANGE (R509): Channel B's oscillator outside ±10 % is a Heath fatal fault. -/
  | oscOutOfRange
  /-- HEATH_TELEGRAM_SEND (R556): Heath sends its telegram on network B every 10 ms or on a RUN change, unless withheld. -/
  | heathTelegramSend
  /-- NETWORK_B_TELEGRAM (R557): A telegram received on controller 7 is checked and accepted or rejected. -/
  | networkBTelegram
  /-- CFG_EN_LOW (R541): HTH_CFG_EN low for 20 ms ends configuration mode. -/
  | cfgEnLow
  /-- QUOIN_OWN (R571): 64 cycles of own line low and partner high: the chip owns the Quoin and its gate opens. -/
  | quoinOwn
  /-- CLAIM_DEADLINE (R593): 64 frames without the partner line rising: the chip becomes JOINING. -/
  | claimDeadline
  /-- COLD_CLAIM (R592): A free line held high for COLD × 10 ms lets a non-STANDBY chip claim cold. -/
  | coldClaim
  /-- MIRROR_LINK_DOWN (R577): The mirror link falls below three lanes and goes down. -/
  | mirrorLinkDown
  /-- ALIGNED (R582): 16 boundaries within 4 cycles: the chip adopts the active's FRAME_NO and SITE_TIME. -/
  | aligned
  /-- OUTPUT_COMPARISON (R586): At M + 1,000 the comparison sets are compared, making the frame equal or a mismatch. -/
  | outputComparison
  /-- SELFTEST_OUTCOME (R588): At M + 2,000 the self-test results decide the roles. -/
  | selftestOutcome
  /-- DIVERGENCE (R589): A mismatch run of 64 frames sends the standby to JOINING or BARRED. -/
  | divergence
  /-- SWAP_RELEASE (R601): At M + 2,000 of an equal swap frame the active releases for the standby. -/
  | swapRelease
  /-- HDG_ACK_TIMEOUT (R644): No ACK within 6 symbols: the frame is retried or fails. -/
  | hdgAckTimeout
  /-- BEACON_TIMER (R647): Every BEACON_S seconds a BEACON is broadcast. -/
  | beaconTimer
  /-- DRIVER_RESUME (R642): 1 s after a trip the driver resumes. -/
  | driverResume
  /-- ZC_LOST (R650): No zero crossing for 50 ms clears ZC_VALID. -/
  | zcLost
  /-- ASW_CURRENT_REPORT (R686): Every 200,000 cycles each channel's mean current is written to CH_CUR. -/
  | aswCurrentReport
  /-- SUPPLIES_VALID (R696): Every main rail good with RESET_N high: the regions start. -/
  | suppliesValid
  /-- BAK_LOW (R701): VBAK below 2.5 V for 1 s sets BAK_LOW. -/
  | bakLow
  /-- RESET_N_ASSERT (R703): RESET_N low for 50 ns resets Control and Service and releases the Quoin. -/
  | resetNAssert
  /-- RESET_N_RELEASE (R703): 100 µs after RESET_N rises Control and Service start. -/
  | resetNRelease
  /-- HEATH_START (R706): Heath begins evaluating from its committed configuration with functions in STOP. -/
  | heathStart
  /-- BOOT_TIMEOUT (R734): An unconfirmed trial image after BOOT_TO restarts into CONF_SLOT. -/
  | bootTimeout
  /-- DDR_ECC_CE (R731): A corrected ECC error is counted and written back. -/
  | ddrEccCe
  /-- PPS (R740): At each whole second GPIO00 carries a 10 ms pulse. -/
  | pps
  /-- DEBUG_END (R741): A debug session ends on a start or 1 s without debug clock. -/
  | debugEnd
  /-- MTR_VBAK_SWITCHOVER (R698): VDDA below 2.90 V for 10 µs switches the Metrology domain to VBAK, whether or not a rail fault is registered. -/
  | mtrVbakSwitchover
  /-- SCC_REQUEST_COMPLETE (R539): A safety configuration request completes with its result in SCC_STAT, and BUSY clears. -/
  | sccRequestComplete
  deriving DecidableEq, Repr

end Sys2Proof
end

