-- ==== Sys2Proof/Machine/Maps.lean ====
section
/-! DEFINITION. Sparse tables as plain data: lists of (key, value), keys strictly rising, no entry equal to the default
of its key. Equal tables are equal lists. Also the field operations on register words (R6, LSB0). -/
namespace Sys2Proof.Machine

/-- The value at a key; an unlisted key reads `d k`. -/
def tget {α : Type} (d : Nat → α) : List (Nat × α) → Nat → α
  | [], k => d k
  | (a, v) :: t, k => if a = k then v else tget d t k

/-- A table without the entry of a key. -/
def tdrop {α : Type} (m : List (Nat × α)) (k : Nat) : List (Nat × α) := m.filter (fun x => x.1 != k)

/-- An entry put at its place in rising key order, into a table that does not list its key. -/
def tins {α : Type} : List (Nat × α) → Nat → α → List (Nat × α)
  | [], k, v => [(k, v)]
  | (a, w) :: t, k, v => if k < a then (k, v) :: (a, w) :: t else (a, w) :: tins t k v

/-- The value of a key set: its entry is put in place, or taken out when the value is the default. -/
def tset {α : Type} [DecidableEq α] (d : Nat → α) (m : List (Nat × α)) (k : Nat) (v : α) : List (Nat × α) :=
  if v = d k then tdrop m k else tins (tdrop m k) k v

/-- The canonical form: every key above `lo`, rising, and no entry equal to its default. -/
def twfFrom {α : Type} [DecidableEq α] (d : Nat → α) : Nat → List (Nat × α) → Bool
  | _, [] => true
  | lo, (a, v) :: t => decide (lo ≤ a) && !decide (v = d a) && twfFrom d (a + 1) t

/-- The canonical form of a whole table. -/
def twf {α : Type} [DecidableEq α] (d : Nat → α) (m : List (Nat × α)) : Bool := twfFrom d 0 m

/-- The keys of a table that lie in `[lo, hi)`. -/
def tkeys {α : Type} (m : List (Nat × α)) (lo hi : Nat) : List Nat :=
  (m.map (·.1)).filter (fun k => lo ≤ k && k < hi)

/-- The field of `w` bits from bit `lo` of a word, as a number. -/
def fget (v : Word) (lo w : Nat) : Nat := (v.toNat >>> lo) % 2 ^ w

/-- Bit `i` of a word. -/
def fbit (v : Word) (i : Nat) : Bool := v.getLsbD i

/-- The mask of `w` bits from bit `lo`. -/
def fmask (lo w : Nat) : Word := BitVec.ofNat 32 ((2 ^ w - 1) <<< lo)

/-- A word with its field of `w` bits from `lo` set to `x` (wrapping at `w` bits), every other bit kept. -/
def fset (v : Word) (lo w x : Nat) : Word :=
  (v &&& ~~~ fmask lo w) ||| BitVec.ofNat 32 ((x % 2 ^ w) <<< lo)

/-- A word with one bit set or cleared, every other bit kept. -/
def fsetb (v : Word) (i : Nat) (b : Bool) : Word := fset v i 1 (if b then 1 else 0)

/-- A count that stops at the top of its `w` bits. -/
def satAdd (w x n : Nat) : Nat := min (x + n) (2 ^ w - 1)

/-- A word's value in two's complement (signed registers of ch. 8, 9 and 13). -/
def sgn (v : Word) : Int := v.toInt

/-- A signed number as a word, wrapping. -/
def wordI (i : Int) : Word := BitVec.ofInt 32 i

/-- A signed number held in `w` bits, saturating at both ends, as those bits. -/
def satI (w : Nat) (i : Int) : Nat :=
  let hi : Int := 2 ^ (w - 1) - 1
  let lo : Int := -(2 ^ (w - 1))
  let j := if hi < i then hi else if i < lo then lo else i
  (j % (2 ^ w : Int)).toNat

/-- The signed value of a field of `w` bits. -/
def signOf (w x : Nat) : Int := if x < 2 ^ (w - 1) then (x : Int) else (x : Int) - 2 ^ w

end Sys2Proof.Machine
end

