-- ==== Sys2Proof/Machine/RegMap.lean ====
section
/-! DEFINITION. The register map: the pages (R113, R116), the registers of each page with their access codes (R11), reset
values and reserved bits as the chapters give them, and the table windows (R127). Every register is found by its address. -/
namespace Sys2Proof.Machine

/-- What a page holds (R116): the block type, split where one type has pages of two layouts. -/
inductive PageKind where
  | chip | frm | gal | snp | alcS | alcO | cxt | xpt | movS | movM | cen | cenAx | thm | prt | mir | qn | hthIn | hthOut | hthRp | sfn | met0 | metO | trf | tmp | ses | cry | can | hdg | pwm | asw | hkp | pwr | upd | eth | ddr | osp
  deriving DecidableEq, Repr

/-- The access codes of R11. -/
inductive Acc where
  | ro | rw | rws | w1c | rc | wo
  deriving DecidableEq, Repr

/-- A run of pages of one kind (Table: Page index): first base, count, number of the first page inside its block, cells
of the OTZ-5120, cell stride, owning plane (R123) and type code. -/
structure PageRun where
  base : Nat
  n : Nat
  kind : PageKind
  first : Nat
  cells : Nat
  stride : Nat
  owner : Nat
  type : Nat
  deriving DecidableEq, Repr

/-- Table: Page index (R116). Owners: 0 control, 1 data, 2 management, 3 Heath, 4 Metrology. -/
def pageRuns : List PageRun :=
  [
   ⟨0x40000000, 1, .chip, 0, 0, 0x0, 2, 0x0001⟩,
   ⟨0x40001000, 1, .frm, 0, 0, 0x0, 0, 0x0002⟩,
   ⟨0x40002000, 1, .gal, 0, 4, 0x100, 2, 0x0003⟩,
   ⟨0x40003000, 1, .snp, 0, 3, 0x40, 2, 0x0004⟩,
   ⟨0x40004000, 8, .alcS, 0, 64, 0x20, 0, 0x0010⟩,
   ⟨0x4000C000, 1, .alcO, 8, 64, 0x20, 0, 0x0010⟩,
   ⟨0x4000D000, 1, .cxt, 0, 0, 0x0, 0, 0x0011⟩,
   ⟨0x4000E000, 8, .xpt, 0, 64, 0x20, 0, 0x0012⟩,
   ⟨0x40016000, 8, .movS, 0, 64, 0x10, 0, 0x0013⟩,
   ⟨0x4001E000, 1, .movM, 8, 128, 0x10, 0, 0x0013⟩,
   ⟨0x4001F000, 16, .cen, 0, 64, 0x20, 0, 0x0014⟩,
   ⟨0x4002F000, 1, .cenAx, 16, 8, 0x80, 0, 0x0014⟩,
   ⟨0x40030000, 2, .thm, 0, 32, 0x40, 0, 0x0015⟩,
   ⟨0x40032000, 1, .prt, 0, 32, 0x40, 0, 0x0016⟩,
   ⟨0x40033000, 1, .mir, 0, 4, 0x40, 0, 0x0017⟩,
   ⟨0x40034000, 1, .qn, 0, 0, 0x0, 0, 0x0018⟩,
   ⟨0x50000000, 1, .hthIn, 0, 16, 0x40, 3, 0x0040⟩,
   ⟨0x50001000, 1, .hthOut, 1, 14, 0x40, 3, 0x0040⟩,
   ⟨0x50002000, 2, .hthRp, 2, 64, 0x20, 3, 0x0040⟩,
   ⟨0x50004000, 1, .sfn, 0, 0, 0x0, 3, 0x0041⟩,
   ⟨0x50005000, 1, .can, 1, 1, 0x100, 3, 0x0022⟩,
   ⟨0x60000000, 1, .met0, 0, 8, 0x40, 4, 0x0030⟩,
   ⟨0x60001000, 2, .metO, 1, 32, 0x40, 4, 0x0030⟩,
   ⟨0x60003000, 1, .trf, 0, 0, 0x0, 4, 0x0031⟩,
   ⟨0x60004000, 1, .tmp, 0, 32, 0x20, 4, 0x0032⟩,
   ⟨0x70000000, 2, .ses, 0, 32, 0x40, 1, 0x0020⟩,
   ⟨0x70002000, 1, .cry, 0, 0, 0x0, 1, 0x0021⟩,
   ⟨0x70003000, 1, .can, 0, 7, 0x100, 1, 0x0022⟩,
   ⟨0x70004000, 1, .hdg, 0, 0, 0x0, 2, 0x0023⟩,
   ⟨0x70005000, 1, .pwm, 0, 16, 0x40, 0, 0x0024⟩,
   ⟨0x70006000, 1, .asw, 0, 16, 0x40, 0, 0x0025⟩,
   ⟨0x70007000, 1, .hkp, 0, 32, 0x20, 2, 0x0026⟩,
   ⟨0x70008000, 1, .pwr, 0, 0, 0x0, 2, 0x0027⟩,
   ⟨0x70009000, 1, .upd, 0, 0, 0x0, 2, 0x0028⟩,
   ⟨0x7000A000, 2, .eth, 0, 0, 0x0, 2, 0x0029⟩,
   ⟨0x7000C000, 1, .ddr, 0, 0, 0x0, 2, 0x002A⟩,
   ⟨0x7000D000, 1, .osp, 0, 0, 0x0, 2, 0x002B⟩]

/-- One page: its base, kind, number inside its block, cells of the OTZ-5120, stride, owner and type code. -/
structure Page where
  base : Nat
  kind : PageKind
  inst : Nat
  cells : Nat
  stride : Nat
  owner : Nat
  type : Nat
  deriving DecidableEq, Repr

/-- The page that holds an address, if the address lies in a page (R113). -/
def pageIn : List PageRun → Nat → Option Page
  | [], _ => none
  | r :: t, a =>
    if r.base ≤ a ∧ a < r.base + 0x1000 * r.n then
      some ⟨a / 0x1000 * 0x1000, r.kind, r.first + (a - r.base) / 0x1000, r.cells, r.stride, r.owner, r.type⟩
    else pageIn t a

/-- The page that holds an address (R113, R116). -/
def pageAt (a : Nat) : Option Page := pageIn pageRuns a

/-- A register of a page: `off` is the offset of its first word; a cell register repeats at the page's stride over the
cells `lo` to `hi - 1` (all cells when `hi` is 0), another at `stride` for `count` words. The masks say which bits are
read/write or staged (`rw`), write-one-to-clear (`w1c`), write-only (`wo`), and reserved (`rsv`); the rest are read-only. -/
structure RegDesc where
  name : String
  off : Nat
  stride : Nat
  count : Nat
  cell : Bool
  lo : Nat
  hi : Nat
  inst0 : Bool
  acc : Acc
  reset : Nat
  rw : Nat
  w1c : Nat
  wo : Nat
  rsv : Nat
  snap : Bool
  deriving DecidableEq, Repr

/-- PG_ERR of the GAL page, the one page with block error flags (ch. 5: FOLLOW_GAP, CMD_REFUSED, LIST_FULL, STAGE_LATE). -/
def galErr : RegDesc :=
  ⟨"PG_ERR", 0x010, 0, 1, false, 0, 0, false, .w1c, 0, 0, 0x000FFFFF, 0, 0xFFF00000, false⟩

/-- The header registers of every page (R117), less those computed from the part (PG_ID, PG_CAP, PG_OWNER). No chapter
but the Galley's defines block error flags, so PG_ERR[31:16] is reserved in every other page. -/
def headerRegs : List RegDesc :=
  [⟨"PG_ID", 0x000, 0, 1, false, 0, 0, false, .ro, 0, 0, 0, 0, 0, false⟩,
   ⟨"PG_CAP", 0x004, 0, 1, false, 0, 0, false, .ro, 0, 0, 0, 0, 0, false⟩,
   ⟨"PG_CTRL", 0x008, 0, 1, false, 0, 0, false, .rw, 0, 0x0001FFFF, 0, 0x80000000, 0x7FFE0000, false⟩,
   ⟨"PG_STAT", 0x00C, 0, 1, false, 0, 0, false, .ro, 0, 0, 0, 0, 0x1F000000, true⟩,
   ⟨"PG_ERR", 0x010, 0, 1, false, 0, 0, false, .w1c, 0, 0, 0x0000FFFF, 0, 0xFFFF0000, false⟩,
   ⟨"PG_ERRCNT", 0x014, 0, 1, false, 0, 0, false, .rc, 0, 0, 0, 0, 0, false⟩,
   ⟨"PG_FENCE", 0x018, 0, 1, false, 0, 0, false, .ro, 0x0000FFFF, 0, 0, 0, 0, false⟩,
   ⟨"PG_OWNER", 0x01C, 0, 1, false, 0, 0, false, .ro, 0, 0, 0, 0, 0x0FF0FFFF, false⟩,
   ⟨"PG_SNAPSEQ", 0x020, 0, 1, false, 0, 0, false, .ro, 0, 0, 0, 0, 0, true⟩,
   ⟨"PG_GALLEY", 0x024, 0, 1, false, 0, 0, false, .ro, 0, 0, 0, 0, 0x0FFFE000, false⟩,
   ⟨"PG_FENCEMAPk", 0x380, 4, 32, false, 0, 0, false, .rws, 0, 0xFFFFFFFF, 0, 0, 0, false⟩]

/-- Registers of the chip page kind (00_scope.md, 03_hierarchy_and_faults.md, 04_register_pages.md, 05_galley_and_snapshots.md, 13_metrology.md, 15_heath_functions.md). -/
def regsChip : List RegDesc :=
  [⟨"CHIP.VARIANT", 0x040, 0x0, 1, false, 0, 0, false, .ro, 0x00000000, 0x00000000, 0x00000000, 0x00000000, 0x00000100, false⟩,
   ⟨"CHIP.SIZE", 0x044, 0x0, 1, false, 0, 0, false, .ro, 0x00000000, 0x00000000, 0x00000000, 0x00000000, 0x000000FF, false⟩,
   ⟨"CHIP.RGN_STAT", 0x048, 0x0, 1, false, 0, 0, false, .ro, 0x00000000, 0x00000000, 0x00000000, 0x00000000, 0x00000000, true⟩,
   ⟨"CHIP.ESC", 0x04C, 0x0, 1, false, 0, 0, false, .w1c, 0x00000000, 0x00000000, 0x0000003F, 0x00000000, 0xFFFFFFC0, false⟩,
   ⟨"CHIP.FAULT_A", 0x050, 0x0, 1, false, 0, 0, false, .ro, 0x00000000, 0x00000000, 0x00000000, 0x00000000, 0x00FF0000, false⟩,
   ⟨"CHIP.FAULT_B", 0x054, 0x0, 1, false, 0, 0, false, .ro, 0x00000000, 0x00000000, 0x00000000, 0x00000000, 0x00FF0000, false⟩,
   ⟨"CHIP.FAULT_TS_LO", 0x058, 0x0, 1, false, 0, 0, false, .ro, 0x00000000, 0x00000000, 0x00000000, 0x00000000, 0x00000000, false⟩,
   ⟨"CHIP.FAULT_TS_HI", 0x05C, 0x0, 1, false, 0, 0, false, .ro, 0x00000000, 0x00000000, 0x00000000, 0x00000000, 0x00000000, false⟩,
   ⟨"CHIP.DROP_ADDR", 0x060, 0x0, 1, false, 0, 0, false, .ro, 0x00000000, 0x00000000, 0x00000000, 0x00000000, 0x00000000, false⟩,
   ⟨"CHIP.DROP_INFO", 0x064, 0x0, 1, false, 0, 0, false, .rc, 0x00000000, 0x00000000, 0x00000000, 0x00000000, 0x07FF0000, false⟩,
   ⟨"CHIP.LOG_WR", 0x068, 0x0, 1, false, 0, 0, false, .ro, 0x00000000, 0x00000000, 0x00000000, 0x00000000, 0x00000000, false⟩,
   ⟨"CHIP.LOG_LOST", 0x06C, 0x0, 1, false, 0, 0, false, .rc, 0x00000000, 0x00000000, 0x00000000, 0x00000000, 0xFFFF0000, false⟩,
   ⟨"CHIP.SEAL_CMD", 0x100, 0x0, 1, false, 0, 0, false, .rw, 0x00000000, 0xFF00FFFF, 0x00000000, 0x00000000, 0x00FF0000, false⟩,
   ⟨"CHIP.SEAL_ADDR", 0x104, 0x0, 1, false, 0, 0, false, .rw, 0x00000000, 0xFFFFFFFF, 0x00000000, 0x00000000, 0x00000000, false⟩,
   ⟨"CHIP.SEAL_STAT", 0x108, 0x0, 1, false, 0, 0, false, .ro, 0x00000000, 0x00000000, 0x00000000, 0x00000000, 0x30FF0000, false⟩,
   ⟨"CHIP.SEAL_DATAk", 0x140, 0x4, 16, false, 0, 0, false, .rw, 0x00000000, 0xFFFFFFFF, 0x00000000, 0x00000000, 0x00000000, false⟩,
   ⟨"CHIP.SCC_CMD", 0x180, 0x0, 1, false, 0, 0, false, .rw, 0x00000000, 0xFF00FFFF, 0x00000000, 0x00000000, 0x00FF0000, false⟩,
   ⟨"CHIP.SCC_ADDR", 0x184, 0x0, 1, false, 0, 0, false, .rw, 0x00000000, 0xFFFFFFFF, 0x00000000, 0x00000000, 0x00000000, false⟩,
   ⟨"CHIP.SCC_STAT", 0x188, 0x0, 1, false, 0, 0, false, .ro, 0x00000000, 0x00000000, 0x00000000, 0x00000000, 0x10FF0000, false⟩,
   ⟨"CHIP.HTH_REQ", 0x190, 0x0, 1, false, 0, 0, false, .rw, 0x00000000, 0x0000FFFF, 0x00000000, 0x00000000, 0xFFFF0000, false⟩,
   ⟨"CHIP.SCC_DATAk", 0x1C0, 0x4, 16, false, 0, 0, false, .rw, 0x00000000, 0xFFFFFFFF, 0x00000000, 0x00000000, 0x00000000, false⟩]

/-- Registers of the frm page kind (02_frame_and_time.md). -/
def regsFrm : List RegDesc :=
  [⟨"FRM.CFG", 0x040, 0x0, 1, false, 0, 0, false, .rws, 0x000A0001, 0x00FF0133, 0x00000000, 0x00000000, 0xFF00FECC, false⟩,
   ⟨"FRM.CTRL", 0x044, 0x0, 1, false, 0, 0, false, .rws, 0x00000000, 0x00000001, 0x00000000, 0x00000000, 0xFFFFFFFE, false⟩,
   ⟨"FRM.STAT", 0x048, 0x0, 1, false, 0, 0, false, .ro, 0x00000000, 0x00000000, 0x00000000, 0x00000000, 0x0F80E000, true⟩,
   ⟨"FRM.EVT", 0x04C, 0x0, 1, false, 0, 0, false, .w1c, 0x00000000, 0x00000000, 0x000007FF, 0x00000000, 0xFFFFF800, false⟩,
   ⟨"FRM.OVR_CNT", 0x050, 0x0, 1, false, 0, 0, false, .ro, 0x00000000, 0x00000000, 0x00000000, 0x00000000, 0x00000000, false⟩,
   ⟨"FRM.SYNC_CNT_A", 0x054, 0x0, 1, false, 0, 0, false, .ro, 0x00000000, 0x00000000, 0x00000000, 0x00000000, 0x00000000, false⟩,
   ⟨"FRM.SYNC_CNT_B", 0x058, 0x0, 1, false, 0, 0, false, .ro, 0x00000000, 0x00000000, 0x00000000, 0x00000000, 0x00000000, false⟩,
   ⟨"FRM.SYNC_PHASE", 0x05C, 0x0, 1, false, 0, 0, false, .ro, 0x00008000, 0x00000000, 0x00000000, 0x00000000, 0x00000000, true⟩,
   ⟨"FRM.LEN", 0x060, 0x0, 1, false, 0, 0, false, .ro, 0x000061A8, 0x00000000, 0x00000000, 0x00000000, 0x00000000, false⟩,
   ⟨"FRM.CUT_A", 0x064, 0x0, 1, false, 0, 0, false, .ro, 0x17701388, 0x00000000, 0x00000000, 0x00000000, 0x00000000, false⟩,
   ⟨"FRM.CUT_B", 0x068, 0x0, 1, false, 0, 0, false, .ro, 0x55F04268, 0x00000000, 0x00000000, 0x00000000, 0x00000000, false⟩,
   ⟨"FRM.BUDGET", 0x06C, 0x0, 1, false, 0, 0, false, .ro, 0x13881770, 0x00000000, 0x00000000, 0x00000000, 0x00000000, false⟩,
   ⟨"FRM.WCET", 0x070, 0x0, 1, false, 0, 0, false, .ro, 0x00000000, 0x00000000, 0x00000000, 0x00000000, 0x00000000, false⟩,
   ⟨"FRM.USED", 0x074, 0x0, 1, false, 0, 0, false, .ro, 0x00000000, 0x00000000, 0x00000000, 0x00000000, 0x00000000, true⟩,
   ⟨"FRM.NOW_LO", 0x078, 0x0, 1, false, 0, 0, false, .ro, 0x00000000, 0x00000000, 0x00000000, 0x00000000, 0x00000000, false⟩,
   ⟨"FRM.NOW_HI", 0x07C, 0x0, 1, false, 0, 0, false, .ro, 0x00000000, 0x00000000, 0x00000000, 0x00000000, 0x00000000, false⟩,
   ⟨"FRM.SITE_TIME_LO", 0x080, 0x0, 1, false, 0, 0, false, .ro, 0x00000000, 0x00000000, 0x00000000, 0x00000000, 0x00000000, false⟩,
   ⟨"FRM.SITE_TIME_HI", 0x084, 0x0, 1, false, 0, 0, false, .ro, 0x00000000, 0x00000000, 0x00000000, 0x00000000, 0x00000000, false⟩,
   ⟨"FRM.BND_TIME_LO", 0x088, 0x0, 1, false, 0, 0, false, .ro, 0x00000000, 0x00000000, 0x00000000, 0x00000000, 0x00000000, false⟩,
   ⟨"FRM.BND_TIME_HI", 0x08C, 0x0, 1, false, 0, 0, false, .ro, 0x00000000, 0x00000000, 0x00000000, 0x00000000, 0x00000000, false⟩]

/-- Registers of the gal page kind (05_galley_and_snapshots.md). -/
def regsGal : List RegDesc :=
  [⟨"GAL.SEQ", 0x040, 0x0, 1, false, 0, 0, false, .ro, 0x00000000, 0x00000000, 0x00000000, 0x00000000, 0x00000000, false⟩,
   ⟨"GAL.CMDc", 0x400, 0x100, 1, true, 0, 0, false, .rw, 0x00000000, 0xFFFF000F, 0x00000000, 0x00000000, 0x0000FFF0, false⟩,
   ⟨"GAL.STATEc", 0x404, 0x100, 1, true, 0, 0, false, .ro, 0x00000000, 0x00000000, 0x00000000, 0x00000000, 0x0F000000, false⟩,
   ⟨"GAL.LISTc", 0x408, 0x100, 1, true, 0, 0, false, .ro, 0x00000000, 0x00000000, 0x00000000, 0x00000000, 0x3FFFE000, false⟩,
   ⟨"GAL.TARGETc", 0x40C, 0x100, 1, true, 0, 0, false, .ro, 0x00000000, 0x00000000, 0x00000000, 0x00000000, 0x00000000, false⟩,
   ⟨"GAL.FAIL_ADDRc", 0x410, 0x100, 1, true, 0, 0, false, .ro, 0x00000000, 0x00000000, 0x00000000, 0x00000000, 0x00000000, false⟩,
   ⟨"GAL.FAIL_INFOc", 0x414, 0x100, 1, true, 0, 0, false, .ro, 0x00000000, 0x00000000, 0x00000000, 0x00000000, 0x1F00E000, false⟩]

/-- Registers of the snp page kind (05_galley_and_snapshots.md). -/
def regsSnp : List RegDesc :=
  [⟨"SNP.HOLDp", 0x400, 0x40, 1, true, 0, 0, false, .rw, 0x00000000, 0x00000001, 0x00000002, 0x00000000, 0xFFFFFFFC, false⟩,
   ⟨"SNP.HELD_SEQp", 0x404, 0x40, 1, true, 0, 0, false, .ro, 0x00000000, 0x00000000, 0x00000000, 0x00000000, 0x00000000, false⟩,
   ⟨"SNP.LOG_DETAILp", 0x408, 0x40, 1, true, 0, 0, false, .rw, 0x00000000, 0xFFFFFFFF, 0x00000000, 0x00000000, 0x00000000, false⟩,
   ⟨"SNP.LOG_PUTp", 0x40C, 0x40, 1, true, 0, 0, false, .wo, 0x00000000, 0x00000000, 0x00000000, 0x000000FF, 0xFFFFFF00, false⟩]

/-- Registers of the alcS page kind (06_allocation.md). -/
def regsAlcS : List RegDesc :=
  [⟨"ALC.STG_CFG", 0x400, 0x20, 1, true, 0, 0, false, .rws, 0x00000000, 0x03FFFFFF, 0x00000000, 0x00000000, 0xFC000000, false⟩,
   ⟨"ALC.STG_RATE_P", 0x404, 0x20, 1, true, 0, 0, false, .rws, 0x00000000, 0x0003FFFF, 0x00000000, 0x00000000, 0xFFFC0000, false⟩,
   ⟨"ALC.STG_IN", 0x408, 0x20, 1, true, 0, 0, false, .ro, 0x00000000, 0x00000000, 0x00000000, 0x00000000, 0x3F000000, true⟩,
   ⟨"ALC.STG_OUT", 0x40C, 0x20, 1, true, 0, 0, false, .ro, 0x00000000, 0x00000000, 0x00000000, 0x00000000, 0x3FC00000, true⟩,
   ⟨"ALC.STG_PREF", 0x410, 0x20, 1, true, 0, 0, false, .ro, 0x00000000, 0x00000000, 0x00000000, 0x00000000, 0xFFFC0000, true⟩]

/-- Registers of the alcO page kind (06_allocation.md). -/
def regsAlcO : List RegDesc :=
  [⟨"ALC.SITE_CFG", 0x040, 0x0, 1, false, 0, 0, false, .rws, 0x000007D0, 0xF3FFFFFF, 0x00000000, 0x00000000, 0x0C000000, false⟩,
   ⟨"ALC.GRID_SET", 0x044, 0x0, 1, false, 0, 0, false, .rw, 0xFFFFFFFF, 0xFFFFFFFF, 0x00000000, 0x00000000, 0x00000000, false⟩,
   ⟨"ALC.DEMAND_MAX", 0x048, 0x0, 1, false, 0, 0, false, .rws, 0xFFFFFFFF, 0xFFFFFFFF, 0x00000000, 0x00000000, 0x00000000, false⟩,
   ⟨"ALC.DEMAND_CEIL", 0x04C, 0x0, 1, false, 0, 0, false, .rws, 0xFFFFFFFF, 0xFFFFFFFF, 0x00000000, 0x00000000, 0x00000000, false⟩,
   ⟨"ALC.HOST_DEM_CAP", 0x050, 0x0, 1, false, 0, 0, false, .rw, 0xFFFFFFFF, 0xFFFFFFFF, 0x00000000, 0x00000000, 0x00000000, false⟩,
   ⟨"ALC.HOST_TRF_CAP", 0x054, 0x0, 1, false, 0, 0, false, .rw, 0xFFFFFFFF, 0xFFFFFFFF, 0x00000000, 0x00000000, 0x00000000, false⟩,
   ⟨"ALC.AUX_FIX", 0x058, 0x0, 1, false, 0, 0, false, .rws, 0x00000000, 0xFFFFFFFF, 0x00000000, 0x00000000, 0x00000000, false⟩,
   ⟨"ALC.AUX_SRC", 0x05C, 0x0, 1, false, 0, 0, false, .rws, 0x00000000, 0xFFFF03FF, 0x00000000, 0x00000000, 0x0000FC00, false⟩,
   ⟨"ALC.BATT_SET", 0x060, 0x0, 1, false, 0, 0, false, .rw, 0x00000000, 0xFFFFFFFF, 0x00000000, 0x00000000, 0x00000000, false⟩,
   ⟨"ALC.SAG_CFG", 0x064, 0x0, 1, false, 0, 0, false, .rws, 0x556E6428, 0xFFFFFFFF, 0x00000000, 0x00000000, 0x00000000, false⟩,
   ⟨"ALC.SAG_NOM", 0x068, 0x0, 1, false, 0, 0, false, .rws, 0x000008FC, 0x0000FFFF, 0x00000000, 0x00000000, 0xFFFF0000, false⟩,
   ⟨"ALC.MOVE_CFG", 0x06C, 0x0, 1, false, 0, 0, false, .rws, 0x08000320, 0xFF00FFFF, 0x00000000, 0x00000000, 0x00FF0000, false⟩,
   ⟨"ALC.FEED_AVG", 0x080, 0x0, 1, false, 0, 0, false, .ro, 0x00000000, 0x00000000, 0x00000000, 0x00000000, 0x00000000, true⟩,
   ⟨"ALC.FEED_TIME", 0x084, 0x0, 1, false, 0, 0, false, .ro, 0x00000000, 0x00000000, 0x00000000, 0x00000000, 0x3000F000, true⟩,
   ⟨"ALC.FEED_TCAP", 0x088, 0x0, 1, false, 0, 0, false, .ro, 0x00000000, 0x00000000, 0x00000000, 0x00000000, 0x00000000, true⟩,
   ⟨"ALC.LIM_GRID", 0x08C, 0x0, 1, false, 0, 0, false, .ro, 0x00000000, 0x00000000, 0x00000000, 0x00000000, 0x00000000, true⟩,
   ⟨"ALC.LIM_DEM", 0x090, 0x0, 1, false, 0, 0, false, .ro, 0x00000000, 0x00000000, 0x00000000, 0x00000000, 0x00000000, true⟩,
   ⟨"ALC.LIM_BATT", 0x094, 0x0, 1, false, 0, 0, false, .ro, 0x00000000, 0x00000000, 0x00000000, 0x00000000, 0x00000000, true⟩,
   ⟨"ALC.LIM_AUX", 0x098, 0x0, 1, false, 0, 0, false, .ro, 0x00000000, 0x00000000, 0x00000000, 0x00000000, 0x00000000, true⟩,
   ⟨"ALC.LIM_SITE", 0x09C, 0x0, 1, false, 0, 0, false, .ro, 0x00000000, 0x00000000, 0x00000000, 0x00000000, 0x00000000, true⟩,
   ⟨"ALC.SOLVE_STAT", 0x0A0, 0x0, 1, false, 0, 0, false, .ro, 0x00000000, 0x00000000, 0x00000000, 0x00000000, 0x0000C0F0, true⟩,
   ⟨"ALC.SAG_MAG", 0x0A4, 0x0, 1, false, 0, 0, false, .ro, 0x00000000, 0x00000000, 0x00000000, 0x00000000, 0xFFFF0000, true⟩,
   ⟨"ALC.EVT", 0x0A8, 0x0, 1, false, 0, 0, false, .w1c, 0x00000000, 0x00000000, 0x0000003F, 0x00000000, 0xFFFFFFC0, false⟩,
   ⟨"ALC.OUT_CFG", 0x400, 0x20, 1, true, 0, 0, false, .rws, 0x00000100, 0x73FFFFC0, 0x00000000, 0x00000000, 0x8C00003F, false⟩,
   ⟨"ALC.OUT_LIMIT", 0x404, 0x20, 1, true, 0, 0, false, .rws, 0x00000000, 0xFFFFFFFF, 0x00000000, 0x00000000, 0x00000000, false⟩,
   ⟨"ALC.OUT_RATE_P", 0x408, 0x20, 1, true, 0, 0, false, .rws, 0x00000000, 0x003FFFFF, 0x00000000, 0x00000000, 0xFFC00000, false⟩,
   ⟨"ALC.OUT_RAMP", 0x40C, 0x20, 1, true, 0, 0, false, .rws, 0x00000064, 0x0000FFFF, 0x00000000, 0x00000000, 0xFFFF0000, false⟩,
   ⟨"ALC.OUT_IN", 0x410, 0x20, 1, true, 0, 0, false, .ro, 0x00000000, 0x00000000, 0x00000000, 0x00000000, 0x607F0000, true⟩,
   ⟨"ALC.OUT_GRANT", 0x414, 0x20, 1, true, 0, 0, false, .ro, 0x00000000, 0x00000000, 0x00000000, 0x00000000, 0x3F800000, true⟩,
   ⟨"ALC.OUT_GRANT_P", 0x418, 0x20, 1, true, 0, 0, false, .ro, 0x00000000, 0x00000000, 0x00000000, 0x00000000, 0xFFC00000, true⟩] ++
  [⟨"ALC.OUT_BIND", 0x41C, 0x20, 1, true, 0, 0, false, .ro, 0x00000000, 0x00000000, 0x00000000, 0x00000000, 0x00007C00, true⟩]

/-- The cxt page holds no register beside its header. -/
def regsCxt : List RegDesc := []

/-- Registers of the xpt page kind (07_stage_switching.md). -/
def regsXpt : List RegDesc :=
  [⟨"XPT.EVT", 0x040, 0x0, 1, false, 0, 0, false, .w1c, 0x00000000, 0x00000000, 0x0000000F, 0x00000000, 0xFFFFFFF0, false⟩,
   ⟨"XPT.POS", 0x400, 0x20, 1, true, 0, 0, false, .ro, 0x00000000, 0x00000000, 0x00000000, 0x00000000, 0x70000000, true⟩,
   ⟨"XPT.MARK", 0x404, 0x20, 1, true, 0, 0, false, .rws, 0x00000000, 0xFFFFFFFF, 0x00000000, 0x00000000, 0x00000000, false⟩]

/-- Registers of the movS page kind (07_stage_switching.md). -/
def regsMovS : List RegDesc :=
  [⟨"MOV.STG", 0x400, 0x10, 1, true, 0, 0, false, .ro, 0x000000FF, 0x00000000, 0x00000000, 0x00000000, 0x000EFF00, true⟩,
   ⟨"MOV.PARK", 0x404, 0x10, 1, true, 0, 0, false, .rws, 0x00000000, 0x00000001, 0x00000000, 0x00000000, 0xFFFFFFFE, false⟩,
   ⟨"MOV.STG_CNT", 0x408, 0x10, 1, true, 0, 0, false, .ro, 0x00000000, 0x00000000, 0x00000000, 0x00000000, 0x00000000, false⟩]

/-- Registers of the movM page kind (07_stage_switching.md). -/
def regsMovM : List RegDesc :=
  [⟨"MOV.CFG", 0x040, 0x0, 1, false, 0, 0, false, .rws, 0x00020064, 0x000FFFFF, 0x00000000, 0x00000000, 0xFFF00000, false⟩,
   ⟨"MOV.TO_A", 0x044, 0x0, 1, false, 0, 0, false, .rws, 0x03200020, 0xFFFFFFFF, 0x00000000, 0x00000000, 0x00000000, false⟩,
   ⟨"MOV.TO_B", 0x048, 0x0, 1, false, 0, 0, false, .rws, 0x00140050, 0xFFFFFFFF, 0x00000000, 0x00000000, 0x00000000, false⟩,
   ⟨"MOV.CTc", 0x050, 0x4, 4, false, 0, 0, false, .rws, 0x03200320, 0xFFFFFFFF, 0x00000000, 0x00000000, 0x00000000, false⟩,
   ⟨"MOV.STAT", 0x060, 0x0, 1, false, 0, 0, false, .ro, 0x00800000, 0x00000000, 0x00000000, 0x00000000, 0xFF000000, true⟩,
   ⟨"MOV.DONE_CNT", 0x064, 0x0, 1, false, 0, 0, false, .ro, 0x00000000, 0x00000000, 0x00000000, 0x00000000, 0x00000000, false⟩,
   ⟨"MOV.END_CNT", 0x068, 0x0, 1, false, 0, 0, false, .ro, 0x00000000, 0x00000000, 0x00000000, 0x00000000, 0x00000000, false⟩,
   ⟨"MOV.EVT", 0x06C, 0x0, 1, false, 0, 0, false, .w1c, 0x00000000, 0x00000000, 0x0000001F, 0x00000000, 0xFFFFFFE0, false⟩,
   ⟨"MOV.SLOT_A", 0x400, 0x10, 1, true, 0, 0, false, .ro, 0x00000000, 0x00000000, 0x00000000, 0x00000000, 0x70400000, true⟩,
   ⟨"MOV.SLOT_B", 0x404, 0x10, 1, true, 0, 0, false, .ro, 0x00000000, 0x00000000, 0x00000000, 0x00000000, 0x00000000, true⟩,
   ⟨"MOV.SLOT_C", 0x408, 0x10, 1, true, 0, 0, false, .ro, 0x00000000, 0x00000000, 0x00000000, 0x00000000, 0x00000000, true⟩,
   ⟨"MOV.SLOT_D", 0x40C, 0x10, 1, true, 0, 0, false, .ro, 0xFF000000, 0x00000000, 0x00000000, 0x00000000, 0x000F0000, true⟩]

/-- Registers of the cen page kind (08_control_engine.md). -/
def regsCen : List RegDesc :=
  [⟨"CEN.CLOSED_LO", 0x040, 0x0, 1, false, 0, 0, false, .ro, 0x00000000, 0x00000000, 0x00000000, 0x00000000, 0x00000000, true⟩,
   ⟨"CEN.CLOSED_HI", 0x044, 0x0, 1, false, 0, 0, false, .ro, 0x00000000, 0x00000000, 0x00000000, 0x00000000, 0x00000000, true⟩,
   ⟨"CEN.TRIP_LO", 0x048, 0x0, 1, false, 0, 0, false, .ro, 0x00000000, 0x00000000, 0x00000000, 0x00000000, 0x00000000, true⟩,
   ⟨"CEN.TRIP_HI", 0x04C, 0x0, 1, false, 0, 0, false, .ro, 0x00000000, 0x00000000, 0x00000000, 0x00000000, 0x00000000, true⟩,
   ⟨"CEN.CAUSEk", 0x050, 0x4, 8, false, 0, 0, false, .ro, 0x00000000, 0x00000000, 0x00000000, 0x00000000, 0x00000000, true⟩,
   ⟨"CEN.EVT", 0x100, 0x0, 1, false, 0, 0, true, .w1c, 0x00000000, 0x00000000, 0x000000FF, 0x00000000, 0xFFFFFF00, false⟩,
   ⟨"CEN.IN_STAT", 0x104, 0x0, 1, false, 0, 0, true, .ro, 0x00000000, 0x00000000, 0x00000000, 0x00000000, 0xFFFFF000, true⟩,
   ⟨"CEN.AIN_CFGn", 0x110, 0x8, 4, false, 0, 0, true, .rws, 0x00000000, 0xC0000000, 0x00000000, 0x00000000, 0x3FFFFFFF, false⟩,
   ⟨"CEN.AIN_VALn", 0x114, 0x8, 4, false, 0, 0, true, .ro, 0x00000000, 0x00000000, 0x00000000, 0x00000000, 0xFE000000, true⟩,
   ⟨"CEN.PIN_CFGn", 0x130, 0x8, 4, false, 0, 0, true, .rws, 0x00000000, 0xFFF80F00, 0x00000000, 0x00000000, 0x0007F0FF, false⟩,
   ⟨"CEN.PIN_VALn", 0x134, 0x8, 4, false, 0, 0, true, .ro, 0x00000000, 0x00000000, 0x00000000, 0x00000000, 0x00000000, true⟩,
   ⟨"CEN.SLOT_CTL", 0x400, 0x20, 1, true, 0, 0, false, .rws, 0x00000000, 0xF703003F, 0x00000000, 0x00000000, 0x08FCFFC0, false⟩,
   ⟨"CEN.SLOT_IN01", 0x404, 0x20, 1, true, 0, 0, false, .rws, 0x00000000, 0xFFFFFFFF, 0x00000000, 0x00000000, 0x00000000, false⟩,
   ⟨"CEN.SLOT_IN23", 0x408, 0x20, 1, true, 0, 0, false, .rws, 0x00000000, 0xFFFFFFFF, 0x00000000, 0x00000000, 0x00000000, false⟩,
   ⟨"CEN.SLOT_DST", 0x40C, 0x20, 1, true, 0, 0, false, .rws, 0x00000000, 0xF0FF03FF, 0x00000000, 0x00000000, 0x0F00FC00, false⟩,
   ⟨"CEN.SLOT_SAFE", 0x410, 0x20, 1, true, 0, 0, false, .rws, 0x00000000, 0xFFFFFFFF, 0x00000000, 0x00000000, 0x00000000, false⟩,
   ⟨"CEN.SLOT_MAN", 0x414, 0x20, 1, true, 0, 0, false, .rw, 0x00000000, 0xFFFFFFFF, 0x00000000, 0x00000000, 0x00000000, false⟩,
   ⟨"CEN.SLOT_SP", 0x418, 0x20, 1, true, 0, 0, false, .rw, 0x00000000, 0xFFFFFFFF, 0x00000000, 0x00000000, 0x00000000, false⟩,
   ⟨"CEN.SLOT_OUT", 0x41C, 0x20, 1, true, 0, 0, false, .ro, 0x00000000, 0x00000000, 0x00000000, 0x00000000, 0x00000000, true⟩]

/-- Registers of the cenAx page kind (08_control_engine.md). -/
def regsCenAx : List RegDesc :=
  [⟨"CEN.AX_CFG", 0x400, 0x80, 1, true, 0, 0, false, .rws, 0x00000000, 0xBFFEFFFF, 0x00000000, 0x00000000, 0x40010000, false⟩,
   ⟨"CEN.AX_LIM_LO", 0x404, 0x80, 1, true, 0, 0, false, .rws, 0x00000000, 0xFFFFFFFF, 0x00000000, 0x00000000, 0x00000000, false⟩,
   ⟨"CEN.AX_LIM_HI", 0x408, 0x80, 1, true, 0, 0, false, .rws, 0x00000000, 0xFFFFFFFF, 0x00000000, 0x00000000, 0x00000000, false⟩,
   ⟨"CEN.AX_VMAX", 0x40C, 0x80, 1, true, 0, 0, false, .rws, 0x00000000, 0xFFFFFFFF, 0x00000000, 0x00000000, 0x00000000, false⟩,
   ⟨"CEN.AX_AMAX", 0x410, 0x80, 1, true, 0, 0, false, .rws, 0x00000000, 0xFFFFFFFF, 0x00000000, 0x00000000, 0x00000000, false⟩,
   ⟨"CEN.AX_DSTOP", 0x414, 0x80, 1, true, 0, 0, false, .rws, 0x00000000, 0xFFFFFFFF, 0x00000000, 0x00000000, 0x00000000, false⟩,
   ⟨"CEN.AX_FE", 0x418, 0x80, 1, true, 0, 0, false, .rws, 0x00000000, 0xFFFFFFFF, 0x00000000, 0x00000000, 0x00000000, false⟩,
   ⟨"CEN.AX_CMD", 0x41C, 0x80, 1, true, 0, 0, false, .rw, 0x00000000, 0x0000000F, 0x00000000, 0x00000000, 0xFFFFFFF0, false⟩,
   ⟨"CEN.AX_TGT", 0x420, 0x80, 1, true, 0, 0, false, .rw, 0x00000000, 0xFFFFFFFF, 0x00000000, 0x00000000, 0x00000000, false⟩,
   ⟨"CEN.AX_STAT", 0x424, 0x80, 1, true, 0, 0, false, .ro, 0x00000000, 0x00000000, 0x00000000, 0x00000000, 0x001FFFFF, true⟩,
   ⟨"CEN.AX_POS", 0x428, 0x80, 1, true, 0, 0, false, .ro, 0x00000000, 0x00000000, 0x00000000, 0x00000000, 0x00000000, true⟩,
   ⟨"CEN.AX_PSP", 0x42C, 0x80, 1, true, 0, 0, false, .ro, 0x00000000, 0x00000000, 0x00000000, 0x00000000, 0x00000000, true⟩]

/-- Registers of the thm page kind (09_cable_cooling_thermal.md). -/
def regsThm : List RegDesc :=
  [⟨"THM.GCFG", 0x040, 0x0, 1, false, 0, 0, false, .rws, 0x08103200, 0xFFFFFF00, 0x00000000, 0x00000000, 0x000000FF, false⟩,
   ⟨"THM.KOBS", 0x044, 0x0, 1, false, 0, 0, false, .rws, 0x3D800000, 0xFFFFFFFF, 0x00000000, 0x00000000, 0x00000000, false⟩,
   ⟨"THM.EVT", 0x048, 0x0, 1, false, 0, 0, false, .w1c, 0x00000000, 0x00000000, 0x000000FF, 0x00000000, 0xFFFFFF00, false⟩,
   ⟨"THM.SHUT", 0x04C, 0x0, 1, false, 0, 0, false, .ro, 0x00000000, 0x00000000, 0x00000000, 0x00000000, 0x00000000, true⟩,
   ⟨"THM.SDR_SEL", 0x060, 0x0, 1, false, 0, 0, true, .rw, 0x00000000, 0xFFFFFFFF, 0x00000000, 0x00000000, 0x00000000, false⟩,
   ⟨"THM.SDR_CNT", 0x064, 0x0, 1, false, 0, 0, true, .ro, 0x00000000, 0x00000000, 0x00000000, 0x00000000, 0x00000000, false⟩,
   ⟨"THM.SDR_Wk", 0x080, 0x4, 8, false, 0, 0, true, .ro, 0x00000000, 0x00000000, 0x00000000, 0x00000000, 0x00000000, false⟩,
   ⟨"THM.OCFG", 0x400, 0x40, 1, true, 0, 0, false, .rws, 0x00000000, 0xFFFCFFFF, 0x00000000, 0x00000000, 0x00030000, false⟩,
   ⟨"THM.OVD", 0x404, 0x40, 1, true, 0, 0, false, .rws, 0x75300000, 0xFFFF0000, 0x00000000, 0x00000000, 0x0000FFFF, false⟩,
   ⟨"THM.SHARE", 0x408, 0x40, 1, true, 0, 0, false, .rws, 0x80800000, 0xFFFFFFFF, 0x00000000, 0x00000000, 0x00000000, false⟩,
   ⟨"THM.A_P", 0x40C, 0x40, 1, true, 0, 0, false, .rws, 0x00000000, 0xFFFFFFFF, 0x00000000, 0x00000000, 0x00000000, false⟩,
   ⟨"THM.B_P", 0x410, 0x40, 1, true, 0, 0, false, .rws, 0x00000000, 0xFFFFFFFF, 0x00000000, 0x00000000, 0x00000000, false⟩,
   ⟨"THM.B_B", 0x414, 0x40, 1, true, 0, 0, false, .rws, 0x00000000, 0xFFFFFFFF, 0x00000000, 0x00000000, 0x00000000, false⟩,
   ⟨"THM.C_B", 0x418, 0x40, 1, true, 0, 0, false, .rws, 0x00000000, 0xFFFFFFFF, 0x00000000, 0x00000000, 0x00000000, false⟩,
   ⟨"THM.HOR_F", 0x41C, 0x40, 1, true, 0, 0, false, .rws, 0x3F000000, 0xFFFFFFFF, 0x00000000, 0x00000000, 0x00000000, false⟩,
   ⟨"THM.PTHR", 0x420, 0x40, 1, true, 0, 0, false, .rws, 0x505A6400, 0xFFFFFF00, 0x00000000, 0x00000000, 0x000000FF, false⟩,
   ⟨"THM.CTHR", 0x424, 0x40, 1, true, 0, 0, false, .rws, 0x373C4600, 0xFFFFFF00, 0x00000000, 0x00000000, 0x000000FF, false⟩,
   ⟨"THM.HYS", 0x428, 0x40, 1, true, 0, 0, false, .rws, 0x55A33500, 0xFFFFFF00, 0x00000000, 0x00000000, 0x000000FF, false⟩,
   ⟨"THM.BANDS", 0x42C, 0x40, 1, true, 0, 0, false, .rws, 0x0F0A0214, 0xFFFFFFFF, 0x00000000, 0x00000000, 0x00000000, false⟩,
   ⟨"THM.OSTAT", 0x430, 0x40, 1, true, 0, 0, false, .ro, 0x00000000, 0x00000000, 0x00000000, 0x00000000, 0x07030000, true⟩,
   ⟨"THM.TPIN01", 0x434, 0x40, 1, true, 0, 0, false, .ro, 0x80008000, 0x00000000, 0x00000000, 0x00000000, 0x00000000, true⟩,
   ⟨"THM.TPIN23", 0x438, 0x40, 1, true, 0, 0, false, .ro, 0x80008000, 0x00000000, 0x00000000, 0x00000000, 0x00000000, true⟩,
   ⟨"THM.TCOOL", 0x43C, 0x40, 1, true, 0, 0, false, .ro, 0x80008000, 0x00000000, 0x00000000, 0x00000000, 0x00000000, true⟩]

/-- Registers of the prt page kind (01_site_model.md, 10_haralink_physical.md, 11_haralink_transport.md). -/
def regsPrt : List RegDesc :=
  [⟨"PRT.UP", 0x040, 0x0, 1, false, 0, 0, false, .ro, 0x00000000, 0x00000000, 0x00000000, 0x00000000, 0x00000000, true⟩,
   ⟨"PRT.DEGR", 0x044, 0x0, 1, false, 0, 0, false, .ro, 0x00000000, 0x00000000, 0x00000000, 0x00000000, 0x00000000, true⟩,
   ⟨"PRT.TP_GCFG", 0x048, 0x0, 1, false, 0, 0, false, .rws, 0x41048000, 0xFFFFF000, 0x00000000, 0x00000000, 0x00000FFF, false⟩,
   ⟨"PRT.MISS", 0x04C, 0x0, 1, false, 0, 0, false, .ro, 0x00000000, 0x00000000, 0x00000000, 0x00000000, 0x00000000, true⟩,
   ⟨"PRT.LOST", 0x050, 0x0, 1, false, 0, 0, false, .ro, 0x00000000, 0x00000000, 0x00000000, 0x00000000, 0x00000000, true⟩,
   ⟨"PRT.MAPn", 0x400, 0x40, 1, true, 0, 0, false, .rws, 0x00000000, 0xE1FF003F, 0x00000000, 0x00000000, 0x1E00FFC0, false⟩,
   ⟨"PRT.PHY_CFG", 0x404, 0x40, 1, true, 0, 0, false, .rws, 0xC00A1804, 0xF8FFFFFF, 0x00000000, 0x00000000, 0x07000000, false⟩,
   ⟨"PRT.PHY_STAT", 0x408, 0x40, 1, true, 0, 0, false, .ro, 0x00000000, 0x00000000, 0x00000000, 0x00000000, 0x03C0FC00, true⟩,
   ⟨"PRT.PHY_TRAIN", 0x40C, 0x40, 1, true, 0, 0, false, .ro, 0x0000FFFF, 0x00000000, 0x00000000, 0x00000000, 0x00000000, false⟩,
   ⟨"PRT.PHY_TAPS", 0x410, 0x40, 1, true, 0, 0, false, .ro, 0x26C826C8, 0x00000000, 0x00000000, 0x00000000, 0x00000000, true⟩,
   ⟨"PRT.PHY_EYE", 0x414, 0x40, 1, true, 0, 0, false, .ro, 0x00000000, 0x00000000, 0x00000000, 0x00000000, 0x00000000, true⟩,
   ⟨"PRT.PHY_CNT", 0x418, 0x40, 1, true, 0, 0, false, .rc, 0x00000000, 0x00000000, 0x00000000, 0x00000000, 0x00000000, false⟩,
   ⟨"PRT.PERR", 0x41C, 0x40, 1, true, 0, 0, false, .w1c, 0x00000000, 0x00000000, 0xFFFF03FF, 0x00000000, 0x0000FC00, false⟩,
   ⟨"PRT.TP_STAT", 0x420, 0x40, 1, true, 0, 0, false, .ro, 0x00000000, 0x00000000, 0x00000000, 0x00000000, 0x000300FF, true⟩,
   ⟨"PRT.TP_SEQ", 0x424, 0x40, 1, true, 0, 0, false, .ro, 0x00000000, 0x00000000, 0x00000000, 0x00000000, 0x00000000, true⟩,
   ⟨"PRT.TP_SIZE", 0x428, 0x40, 1, true, 0, 0, false, .ro, 0x00000000, 0x00000000, 0x00000000, 0x00000000, 0x00000000, true⟩,
   ⟨"PRT.TP_CNT", 0x42C, 0x40, 1, true, 0, 0, false, .rc, 0x00000000, 0x00000000, 0x00000000, 0x00000000, 0x00000000, false⟩,
   ⟨"PRT.TP_ERR", 0x430, 0x40, 1, true, 0, 0, false, .rc, 0x00000000, 0x00000000, 0x00000000, 0x00000000, 0x00000000, false⟩,
   ⟨"PRT.TP_NODE", 0x434, 0x40, 1, true, 0, 0, false, .ro, 0x00000000, 0x00000000, 0x00000000, 0x00000000, 0x00000000, true⟩,
   ⟨"PRT.TUN_STAT", 0x438, 0x40, 1, true, 0, 0, false, .ro, 0x00000000, 0x00000000, 0x00000000, 0x00000000, 0x00000000, true⟩,
   ⟨"PRT.TUN_CNT", 0x43C, 0x40, 1, true, 0, 0, false, .rc, 0x00000000, 0x00000000, 0x00000000, 0x00000000, 0x00000000, false⟩]

/-- Registers of the mir page kind (17_pair_operation.md). -/
def regsMir : List RegDesc :=
  [⟨"MIR.STAT", 0x040, 0x0, 1, false, 0, 0, false, .ro, 0x00000000, 0x00000000, 0x00000000, 0x00000000, 0x00FF0000, true⟩,
   ⟨"MIR.ANCHOR", 0x044, 0x0, 1, false, 0, 0, false, .ro, 0x00000000, 0x00000000, 0x00000000, 0x00000000, 0x00000000, true⟩,
   ⟨"MIR.LOAD", 0x048, 0x0, 1, false, 0, 0, false, .ro, 0x00000000, 0x00000000, 0x00000000, 0x00000000, 0x00000000, true⟩,
   ⟨"MIR.CMP", 0x04C, 0x0, 1, false, 0, 0, false, .ro, 0x00000000, 0x00000000, 0x00000000, 0x00000000, 0x00000000, true⟩,
   ⟨"MIR.CMP_X", 0x050, 0x0, 1, false, 0, 0, false, .ro, 0x00000000, 0x00000000, 0x00000000, 0x00000000, 0xFFFFFFFC, true⟩,
   ⟨"MIR.IN_DIFF", 0x054, 0x0, 1, false, 0, 0, false, .ro, 0x00000000, 0x00000000, 0x00000000, 0x00000000, 0x00000000, true⟩,
   ⟨"MIR.CNT", 0x058, 0x0, 1, false, 0, 0, false, .rc, 0x00000000, 0x00000000, 0x00000000, 0x00000000, 0x00000000, false⟩,
   ⟨"MIR.LANE", 0x400, 0x40, 1, true, 0, 0, false, .ro, 0x00000000, 0x00000000, 0x00000000, 0x00000000, 0x1F000000, true⟩]

/-- Registers of the qn page kind (17_pair_operation.md). -/
def regsQn : List RegDesc :=
  [⟨"QN.CFG", 0x040, 0x0, 1, false, 0, 0, false, .rws, 0x0000000A, 0x800000FF, 0x00000000, 0x00000000, 0x7FFFFF00, false⟩,
   ⟨"QN.STAT", 0x044, 0x0, 1, false, 0, 0, false, .ro, 0x00000000, 0x00000000, 0x00000000, 0x00000000, 0x000000F0, true⟩,
   ⟨"QN.EVT", 0x048, 0x0, 1, false, 0, 0, false, .w1c, 0x00000000, 0x00000000, 0x00007FFF, 0x00000000, 0xFFFF8000, false⟩,
   ⟨"QN.CTRL", 0x04C, 0x0, 1, false, 0, 0, false, .wo, 0x00000000, 0x00000000, 0x00000000, 0x00000001, 0xFFFFFFFE, false⟩,
   ⟨"QN.SWAP", 0x050, 0x0, 1, false, 0, 0, false, .rws, 0x00000000, 0x000000FF, 0x00000000, 0x00000000, 0xFFFFFF00, false⟩,
   ⟨"QN.SWAP_AT", 0x054, 0x0, 1, false, 0, 0, false, .ro, 0x00000000, 0x00000000, 0x00000000, 0x00000000, 0x00000000, true⟩,
   ⟨"QN.PARTNER", 0x058, 0x0, 1, false, 0, 0, false, .ro, 0x00000000, 0x00000000, 0x00000000, 0x00000000, 0x00007F00, true⟩,
   ⟨"QN.CFG_CRC", 0x05C, 0x0, 1, false, 0, 0, false, .ro, 0x00000000, 0x00000000, 0x00000000, 0x00000000, 0x00000000, true⟩,
   ⟨"QN.PCFG_CRC", 0x060, 0x0, 1, false, 0, 0, false, .ro, 0x00000000, 0x00000000, 0x00000000, 0x00000000, 0x00000000, true⟩,
   ⟨"QN.CNT", 0x064, 0x0, 1, false, 0, 0, false, .rc, 0x00000000, 0x00000000, 0x00000000, 0x00000000, 0x00000000, false⟩,
   ⟨"QN.ST_RES", 0x068, 0x0, 1, false, 0, 0, false, .ro, 0x00000000, 0x00000000, 0x00000000, 0x00000000, 0x0FFFE0E0, true⟩]

/-- Registers of the hthIn page kind (15_heath_functions.md). -/
def regsHthIn : List RegDesc :=
  [⟨"HTH.CFG", 0x040, 0x0, 1, false, 0, 0, false, .rw, 0x00000064, 0xC000FFFF, 0x00000000, 0x00000000, 0x3FFF0000, false⟩,
   ⟨"HTH.STAT", 0x044, 0x0, 1, false, 0, 0, false, .ro, 0x00000000, 0x00000000, 0x00000000, 0x00000000, 0x01FFFF00, true⟩,
   ⟨"HTH.EVT", 0x048, 0x0, 1, false, 0, 0, false, .w1c, 0x00000000, 0x00000000, 0x000000FF, 0x00000000, 0xFFFFFF00, false⟩,
   ⟨"HTH.CFG_CRC", 0x04C, 0x0, 1, false, 0, 0, false, .ro, 0x00000000, 0x00000000, 0x00000000, 0x00000000, 0x00000000, false⟩,
   ⟨"HTH.CFG_FAIL", 0x050, 0x0, 1, false, 0, 0, false, .ro, 0x00000000, 0x00000000, 0x00000000, 0x00000000, 0x00000000, false⟩,
   ⟨"HTH.FN_RUN", 0x054, 0x0, 1, false, 0, 0, false, .ro, 0x00000000, 0x00000000, 0x00000000, 0x00000000, 0xFFFF0000, true⟩,
   ⟨"HTH.OSTOP_LO", 0x058, 0x0, 1, false, 0, 0, false, .ro, 0x00000000, 0x00000000, 0x00000000, 0x00000000, 0x00000000, true⟩,
   ⟨"HTH.OSTOP_HI", 0x05C, 0x0, 1, false, 0, 0, false, .ro, 0x00000000, 0x00000000, 0x00000000, 0x00000000, 0x00000000, true⟩,
   ⟨"HTH.FNk_CFG", 0x100, 0x20, 16, false, 0, 0, false, .rw, 0x00000000, 0xFE000007, 0x00000000, 0x00000000, 0x01FFFFF8, false⟩,
   ⟨"HTH.FNk_IN", 0x104, 0x20, 16, false, 0, 0, false, .rw, 0x00000000, 0xFFFFFFFF, 0x00000000, 0x00000000, 0x00000000, false⟩,
   ⟨"HTH.FNk_OUT", 0x108, 0x20, 16, false, 0, 0, false, .rw, 0x00000000, 0x000017FF, 0x00000000, 0x00000000, 0xFFFFE800, false⟩,
   ⟨"HTH.FNk_OLET_LO", 0x10C, 0x20, 16, false, 0, 0, false, .rw, 0x00000000, 0xFFFFFFFF, 0x00000000, 0x00000000, 0x00000000, false⟩,
   ⟨"HTH.FNk_OLET_HI", 0x110, 0x20, 16, false, 0, 0, false, .rw, 0x00000000, 0xFFFFFFFF, 0x00000000, 0x00000000, 0x00000000, false⟩,
   ⟨"HTH.FNk_TIME", 0x114, 0x20, 16, false, 0, 0, false, .rw, 0x00000000, 0xFFFFFF00, 0x00000000, 0x00000000, 0x000000FF, false⟩,
   ⟨"HTH.FNk_STAT", 0x118, 0x20, 16, false, 0, 0, false, .ro, 0x00800000, 0x00000000, 0x00000000, 0x00000000, 0x000F0000, true⟩,
   ⟨"HTH.IN_CFG", 0x400, 0x40, 1, true, 0, 0, false, .rw, 0x00000000, 0xCFC00000, 0x00000000, 0x00000000, 0x303FFFFF, false⟩,
   ⟨"HTH.IN_TIME", 0x404, 0x40, 1, true, 0, 0, false, .rw, 0x0064003C, 0x07FF07FF, 0x00000000, 0x00000000, 0xF800F800, false⟩,
   ⟨"HTH.IN_STAT", 0x408, 0x40, 1, true, 0, 0, false, .ro, 0x00000000, 0x00000000, 0x00000000, 0x00000000, 0x007F0000, true⟩,
   ⟨"HTH.IN_CNT", 0x40C, 0x40, 1, true, 0, 0, false, .rc, 0x00000000, 0x00000000, 0x00000000, 0x00000000, 0x0000FFFF, false⟩]

/-- Registers of the hthOut page kind (15_heath_functions.md). -/
def regsHthOut : List RegDesc :=
  [⟨"HTH.OUT_CFG", 0x400, 0x40, 1, true, 0, 8, false, .rw, 0x80000064, 0x8000FFFF, 0x00000000, 0x00000000, 0x7FFF0000, false⟩,
   ⟨"HTH.RST_STAT", 0x400, 0x40, 1, true, 12, 14, false, .ro, 0x00000000, 0x00000000, 0x00000000, 0x00000000, 0x3FFF0000, true⟩,
   ⟨"HTH.TP_CFG", 0x400, 0x40, 1, true, 8, 12, false, .rw, 0x80060000, 0x80FF0000, 0x00000000, 0x00000000, 0x7F00FFFF, false⟩,
   ⟨"HTH.OUT_STAT", 0x404, 0x40, 1, true, 0, 8, false, .ro, 0x00000000, 0x00000000, 0x00000000, 0x00000000, 0x01FF0000, true⟩,
   ⟨"HTH.RST_CNT", 0x404, 0x40, 1, true, 12, 14, false, .rc, 0x00000000, 0x00000000, 0x00000000, 0x00000000, 0x00000000, false⟩]

/-- Registers of the hthRp page kind (16_heath_transport_reaction.md). -/
def regsHthRp : List RegDesc :=
  [⟨"HTH.RP_CFG", 0x400, 0x20, 1, true, 0, 0, false, .rw, 0x00000000, 0x80001F07, 0x00000000, 0x00000000, 0x7FFFE0F8, false⟩,
   ⟨"HTH.RP_STAT", 0x404, 0x20, 1, true, 0, 0, false, .ro, 0x3C000000, 0x00000000, 0x00000000, 0x00000000, 0x01FF0000, true⟩,
   ⟨"HTH.RP_CNT", 0x408, 0x20, 1, true, 0, 0, false, .rc, 0x00000000, 0x00000000, 0x00000000, 0x00000000, 0x00000000, false⟩]

/-- Registers of the sfn page kind (16_heath_transport_reaction.md). -/
def regsSfn : List RegDesc :=
  [⟨"SFN.CFG", 0x040, 0x0, 1, false, 0, 0, false, .rw, 0x00005300, 0xFFFFFF03, 0x00000000, 0x00000000, 0x000000FC, false⟩,
   ⟨"SFN.EVT", 0x044, 0x0, 1, false, 0, 0, false, .w1c, 0x00000000, 0x00000000, 0x000000FF, 0x00000000, 0xFFFFFF00, false⟩,
   ⟨"SFN.CNT", 0x048, 0x0, 1, false, 0, 0, false, .rc, 0x00000000, 0x00000000, 0x00000000, 0x00000000, 0x00000000, false⟩,
   ⟨"SFN.TXSEQ", 0x04C, 0x0, 1, false, 0, 0, false, .ro, 0x00000000, 0x00000000, 0x00000000, 0x00000000, 0x00000000, false⟩,
   ⟨"SFN.PARTNER", 0x050, 0x0, 1, false, 0, 0, false, .rw, 0x00000000, 0x0000FFFF, 0x00000000, 0x00000000, 0xFFFF0000, false⟩,
   ⟨"SFN.SRCs", 0x100, 0x8, 32, false, 0, 0, false, .rw, 0x00000000, 0x9F00FFFF, 0x00000000, 0x00000000, 0x60FF0000, false⟩,
   ⟨"SFN.SRCs_STAT", 0x104, 0x8, 32, false, 0, 0, false, .ro, 0x00000000, 0x00000000, 0x00000000, 0x00000000, 0x1F000000, true⟩]

/-- Registers of the met0 page kind (13_metrology.md). -/
def regsMet0 : List RegDesc :=
  [⟨"MET.CFG", 0x040, 0x0, 1, false, 0, 0, false, .rw, 0x00320032, 0x80FF00FF, 0x00000000, 0x00000000, 0x7F00FF00, false⟩,
   ⟨"MET.STAT", 0x044, 0x0, 1, false, 0, 0, false, .ro, 0x00000000, 0x00000000, 0x00000000, 0x00000000, 0x0300FF00, true⟩,
   ⟨"MET.EVT", 0x048, 0x0, 1, false, 0, 0, false, .w1c, 0x00000000, 0x00000000, 0x0001FFFF, 0x00000000, 0xFFFE0000, false⟩,
   ⟨"MET.EPOCH_NO", 0x04C, 0x0, 1, false, 0, 0, false, .ro, 0x00000000, 0x00000000, 0x00000000, 0x00000000, 0x00000000, true⟩,
   ⟨"MET.EPOCH_TS_LO", 0x050, 0x0, 1, false, 0, 0, false, .ro, 0x00000000, 0x00000000, 0x00000000, 0x00000000, 0x00000000, true⟩,
   ⟨"MET.EPOCH_TS_HI", 0x054, 0x0, 1, false, 0, 0, false, .ro, 0x00000000, 0x00000000, 0x00000000, 0x00000000, 0x00000000, true⟩,
   ⟨"MET.EPOCH_LEN", 0x058, 0x0, 1, false, 0, 0, false, .ro, 0x00000000, 0x00000000, 0x00000000, 0x00000000, 0x00000000, true⟩,
   ⟨"MET.BAL_CFG", 0x060, 0x0, 1, false, 0, 0, false, .rw, 0x0A141E00, 0xFFFFFFE0, 0x00000000, 0x00000000, 0x0000001F, false⟩,
   ⟨"MET.BAL_ABS", 0x064, 0x0, 1, false, 0, 0, false, .rw, 0x00001388, 0xFFFFFFFF, 0x00000000, 0x00000000, 0x00000000, false⟩,
   ⟨"MET.LOSS_FIX", 0x068, 0x0, 1, false, 0, 0, false, .rw, 0x00000000, 0xFFFFFFFF, 0x00000000, 0x00000000, 0x00000000, false⟩,
   ⟨"MET.BAL_MIS", 0x070, 0x0, 1, false, 0, 0, false, .ro, 0x00000000, 0x00000000, 0x00000000, 0x00000000, 0x00000000, true⟩,
   ⟨"MET.BAL_BAND", 0x074, 0x0, 1, false, 0, 0, false, .ro, 0x00000000, 0x00000000, 0x00000000, 0x00000000, 0x00000000, true⟩,
   ⟨"MET.BAL_BATT", 0x078, 0x0, 1, false, 0, 0, false, .ro, 0x00000000, 0x00000000, 0x00000000, 0x00000000, 0x00000000, true⟩,
   ⟨"MET.BAL_AUX", 0x07C, 0x0, 1, false, 0, 0, false, .ro, 0x00000000, 0x00000000, 0x00000000, 0x00000000, 0x00000000, true⟩,
   ⟨"MET.BAL_LOSS", 0x080, 0x0, 1, false, 0, 0, false, .ro, 0x00000000, 0x00000000, 0x00000000, 0x00000000, 0x00000000, true⟩,
   ⟨"MET.M64_ACC_LO", 0x114, 0x0, 1, false, 0, 0, false, .ro, 0x00000000, 0x00000000, 0x00000000, 0x00000000, 0x00000000, true⟩,
   ⟨"MET.M64_ACC_HI", 0x118, 0x0, 1, false, 0, 0, false, .ro, 0x00000000, 0x00000000, 0x00000000, 0x00000000, 0x00000000, true⟩,
   ⟨"MET.M64_BILL", 0x11C, 0x0, 1, false, 0, 0, false, .ro, 0x00000000, 0x00000000, 0x00000000, 0x00000000, 0x00000000, true⟩,
   ⟨"MET.M64_MSTAT", 0x120, 0x0, 1, false, 0, 0, false, .ro, 0x00000000, 0x00000000, 0x00000000, 0x00000000, 0x000003FF, true⟩,
   ⟨"MET.M64_REV", 0x124, 0x0, 1, false, 0, 0, false, .ro, 0x00000000, 0x00000000, 0x00000000, 0x00000000, 0x00000000, true⟩,
   ⟨"MET.M64_GAPS", 0x128, 0x0, 1, false, 0, 0, false, .ro, 0x00000000, 0x00000000, 0x00000000, 0x00000000, 0x00000000, false⟩,
   ⟨"MET.EXP_LO", 0x140, 0x0, 1, false, 0, 0, false, .ro, 0x00000000, 0x00000000, 0x00000000, 0x00000000, 0x00000000, true⟩,
   ⟨"MET.EXP_HI", 0x144, 0x0, 1, false, 0, 0, false, .ro, 0x00000000, 0x00000000, 0x00000000, 0x00000000, 0x00000000, true⟩,
   ⟨"MET.PF_STAT", 0x180, 0x0, 1, false, 0, 0, false, .ro, 0x00000000, 0x00000000, 0x00000000, 0x00000000, 0x3FFF0000, false⟩,
   ⟨"MET.PF_CNT", 0x184, 0x0, 1, false, 0, 0, false, .ro, 0x00000000, 0x00000000, 0x00000000, 0x00000000, 0x00000000, false⟩,
   ⟨"MET.PF_GAP", 0x188, 0x0, 1, false, 0, 0, false, .ro, 0x00000000, 0x00000000, 0x00000000, 0x00000000, 0x00000000, false⟩,
   ⟨"MET.BAK_CFG", 0x1A0, 0x0, 1, false, 0, 0, false, .rw, 0x8000000A, 0x8000FFFF, 0x00000000, 0x00000000, 0x7FFF0000, false⟩,
   ⟨"MET.BAK_STAT", 0x1A4, 0x0, 1, false, 0, 0, false, .ro, 0x00000000, 0x00000000, 0x00000000, 0x00000000, 0x3FFFFFFF, false⟩,
   ⟨"MET.CWS_SECS", 0x1A8, 0x0, 1, false, 0, 0, false, .ro, 0x00000000, 0x00000000, 0x00000000, 0x00000000, 0x00000000, false⟩,
   ⟨"MET.CWS_MAH", 0x1AC, 0x0, 1, false, 0, 0, false, .ro, 0x00000000, 0x00000000, 0x00000000, 0x00000000, 0x00000000, false⟩] ++
  [⟨"MET.SEAL", 0x1C0, 0x0, 1, false, 0, 0, false, .ro, 0x00000000, 0x00000000, 0x00000000, 0x00000000, 0x7FFF0000, true⟩,
   ⟨"MET.CAL_SEQ", 0x1C4, 0x0, 1, false, 0, 0, false, .ro, 0x00000000, 0x00000000, 0x00000000, 0x00000000, 0x00000000, false⟩,
   ⟨"MET.CCFG", 0x400, 0x40, 1, true, 0, 0, false, .rw, 0x80000000, 0x80000000, 0x00000000, 0x00000000, 0x7FFFFFFF, false⟩,
   ⟨"MET.CGAIN", 0x404, 0x40, 1, true, 0, 0, false, .rw, 0x01000000, 0xFFFFFFFF, 0x00000000, 0x00000000, 0x00000000, false⟩,
   ⟨"MET.COFS", 0x408, 0x40, 1, true, 0, 0, false, .rw, 0x00000000, 0x00FFFFFF, 0x00000000, 0x00000000, 0xFF000000, false⟩,
   ⟨"MET.CRATIO", 0x40C, 0x40, 1, true, 0, 0, false, .rw, 0x00000001, 0x0001FFFF, 0x00000000, 0x00000000, 0xFFFE0000, false⟩,
   ⟨"MET.CRMS", 0x410, 0x40, 1, true, 0, 0, false, .ro, 0x00000000, 0x00000000, 0x00000000, 0x00000000, 0x00000000, true⟩]

/-- Registers of the metO page kind (13_metrology.md). -/
def regsMetO : List RegDesc :=
  [⟨"MET.MCFG", 0x400, 0x40, 1, true, 0, 0, false, .rw, 0x00000000, 0x80FF0000, 0x00000000, 0x00000000, 0x7F00FFFF, false⟩,
   ⟨"MET.GAIN_V", 0x404, 0x40, 1, true, 0, 0, false, .rw, 0x01000000, 0xFFFFFFFF, 0x00000000, 0x00000000, 0x00000000, false⟩,
   ⟨"MET.OFS_V", 0x408, 0x40, 1, true, 0, 0, false, .rw, 0x00000000, 0x00FFFFFF, 0x00000000, 0x00000000, 0xFF000000, false⟩,
   ⟨"MET.GAIN_I", 0x40C, 0x40, 1, true, 0, 0, false, .rw, 0x01000000, 0xFFFFFFFF, 0x00000000, 0x00000000, 0x00000000, false⟩,
   ⟨"MET.OFS_I", 0x410, 0x40, 1, true, 0, 0, false, .rw, 0x00000000, 0x00FFFFFF, 0x00000000, 0x00000000, 0xFF000000, false⟩,
   ⟨"MET.ACC_LO", 0x414, 0x40, 1, true, 0, 0, false, .ro, 0x00000000, 0x00000000, 0x00000000, 0x00000000, 0x00000000, true⟩,
   ⟨"MET.ACC_HI", 0x418, 0x40, 1, true, 0, 0, false, .ro, 0x00000000, 0x00000000, 0x00000000, 0x00000000, 0x00000000, true⟩,
   ⟨"MET.BILL", 0x41C, 0x40, 1, true, 0, 0, false, .ro, 0x00000000, 0x00000000, 0x00000000, 0x00000000, 0x00000000, true⟩,
   ⟨"MET.MSTAT", 0x420, 0x40, 1, true, 0, 0, false, .ro, 0x00000000, 0x00000000, 0x00000000, 0x00000000, 0x000003FF, true⟩,
   ⟨"MET.REV", 0x424, 0x40, 1, true, 0, 0, false, .ro, 0x00000000, 0x00000000, 0x00000000, 0x00000000, 0x00000000, true⟩,
   ⟨"MET.GAPS", 0x428, 0x40, 1, true, 0, 0, false, .ro, 0x00000000, 0x00000000, 0x00000000, 0x00000000, 0x00000000, false⟩,
   ⟨"MET.SEQ_NEXT", 0x42C, 0x40, 1, true, 0, 0, false, .ro, 0x00000000, 0x00000000, 0x00000000, 0x00000000, 0x00000000, false⟩,
   ⟨"MET.KEY0", 0x430, 0x40, 1, true, 0, 0, false, .wo, 0x00000000, 0x00000000, 0x00000000, 0xFFFFFFFF, 0x00000000, false⟩,
   ⟨"MET.KEY1", 0x434, 0x40, 1, true, 0, 0, false, .wo, 0x00000000, 0x00000000, 0x00000000, 0xFFFFFFFF, 0x00000000, false⟩,
   ⟨"MET.KEY2", 0x438, 0x40, 1, true, 0, 0, false, .wo, 0x00000000, 0x00000000, 0x00000000, 0xFFFFFFFF, 0x00000000, false⟩,
   ⟨"MET.KEY3", 0x43C, 0x40, 1, true, 0, 0, false, .wo, 0x00000000, 0x00000000, 0x00000000, 0xFFFFFFFF, 0x00000000, false⟩]

/-- Registers of the trf page kind (14_tariffs_and_records.md). -/
def regsTrf : List RegDesc :=
  [⟨"TRF.CAL_CFG", 0x040, 0x0, 1, false, 0, 0, false, .rw, 0x00000000, 0x0FFF000F, 0x00000000, 0x00000000, 0xF000FFF0, false⟩,
   ⟨"TRF.DEF_CAP", 0x044, 0x0, 1, false, 0, 0, false, .rw, 0xFFFFFFFF, 0xFFFFFFFF, 0x00000000, 0x00000000, 0x00000000, false⟩,
   ⟨"TRF.CAL_CRC", 0x048, 0x0, 1, false, 0, 0, false, .ro, 0x00000000, 0x00000000, 0x00000000, 0x00000000, 0x00000000, false⟩,
   ⟨"TRF.DEM_CFG", 0x04C, 0x0, 1, false, 0, 0, false, .rw, 0x00000002, 0xC0000007, 0x00000000, 0x00000000, 0x3FFFFFF8, false⟩,
   ⟨"TRF.BILL_CFG", 0x050, 0x0, 1, false, 0, 0, false, .rw, 0x41000000, 0xDF0007FF, 0x00000000, 0x00000000, 0x20FFF800, false⟩,
   ⟨"TRF.TIME_CFG", 0x054, 0x0, 1, false, 0, 0, false, .rw, 0x003C07D0, 0xFFFFFFFF, 0x00000000, 0x00000000, 0x00000000, false⟩,
   ⟨"TRF.TIME_STAT", 0x058, 0x0, 1, false, 0, 0, false, .ro, 0x00000000, 0x00000000, 0x00000000, 0x00000000, 0x1FFF0000, true⟩,
   ⟨"TRF.NOWk", 0x060, 0x4, 4, false, 0, 0, false, .ro, 0x00000000, 0x00000000, 0x00000000, 0x00000000, 0x00000000, false⟩,
   ⟨"TRF.IN_FORCE", 0x070, 0x0, 1, false, 0, 0, false, .ro, 0x00000000, 0x00000000, 0x00000000, 0x00000000, 0x07FFFE00, true⟩,
   ⟨"TRF.CAP", 0x074, 0x0, 1, false, 0, 0, false, .ro, 0xFFFFFFFF, 0x00000000, 0x00000000, 0x00000000, 0x00000000, true⟩,
   ⟨"TRF.DEM_LAST", 0x080, 0x0, 1, false, 0, 0, false, .ro, 0x00000000, 0x00000000, 0x00000000, 0x00000000, 0x00000000, true⟩,
   ⟨"TRF.DEM_FLAGS", 0x084, 0x0, 1, false, 0, 0, false, .ro, 0x00000000, 0x00000000, 0x00000000, 0x00000000, 0x1FFFFFFF, true⟩,
   ⟨"TRF.DEM_MAX", 0x088, 0x0, 1, false, 0, 0, false, .ro, 0x00000000, 0x00000000, 0x00000000, 0x00000000, 0x00000000, true⟩,
   ⟨"TRF.DEM_LAST_TS0", 0x08C, 0x0, 1, false, 0, 0, false, .ro, 0x00000000, 0x00000000, 0x00000000, 0x00000000, 0x00000000, true⟩,
   ⟨"TRF.DEM_LAST_TS1", 0x090, 0x0, 1, false, 0, 0, false, .ro, 0x00000000, 0x00000000, 0x00000000, 0x00000000, 0x00000000, true⟩,
   ⟨"TRF.DEM_MAX_TS0", 0x094, 0x0, 1, false, 0, 0, false, .ro, 0x00000000, 0x00000000, 0x00000000, 0x00000000, 0x00000000, true⟩,
   ⟨"TRF.DEM_MAX_TS1", 0x098, 0x0, 1, false, 0, 0, false, .ro, 0x00000000, 0x00000000, 0x00000000, 0x00000000, 0x00000000, true⟩,
   ⟨"TRF.PERIOD_NO", 0x09C, 0x0, 1, false, 0, 0, false, .ro, 0x00000000, 0x00000000, 0x00000000, 0x00000000, 0x00000000, true⟩,
   ⟨"TRF.PERIOD_TS0", 0x0A0, 0x0, 1, false, 0, 0, false, .ro, 0x00000000, 0x00000000, 0x00000000, 0x00000000, 0x00000000, true⟩,
   ⟨"TRF.PERIOD_TS1", 0x0A4, 0x0, 1, false, 0, 0, false, .ro, 0x00000000, 0x00000000, 0x00000000, 0x00000000, 0x00000000, true⟩,
   ⟨"TRF.SETTLE_NO", 0x0A8, 0x0, 1, false, 0, 0, false, .ro, 0x00000000, 0x00000000, 0x00000000, 0x00000000, 0x00000000, false⟩,
   ⟨"TRF.RNO_NEXT", 0x0AC, 0x0, 1, false, 0, 0, false, .ro, 0x00000000, 0x00000000, 0x00000000, 0x00000000, 0x00000000, false⟩,
   ⟨"TRF.LOG_NO", 0x0B0, 0x0, 1, false, 0, 0, false, .ro, 0x00000000, 0x00000000, 0x00000000, 0x00000000, 0x00000000, false⟩,
   ⟨"TRF.REC_STAT", 0x0B4, 0x0, 1, false, 0, 0, false, .ro, 0x00000000, 0x00000000, 0x00000000, 0x00000000, 0x3FFFFC00, true⟩,
   ⟨"TRF.SESS_LO", 0x0B8, 0x0, 1, false, 0, 0, false, .ro, 0x00000000, 0x00000000, 0x00000000, 0x00000000, 0x00000000, false⟩,
   ⟨"TRF.SESS_HI", 0x0BC, 0x0, 1, false, 0, 0, false, .ro, 0x00000000, 0x00000000, 0x00000000, 0x00000000, 0x00000000, false⟩,
   ⟨"TRF.COLO_VER", 0x0C0, 0x0, 1, false, 0, 0, false, .ro, 0x00000000, 0x00000000, 0x00000000, 0x00000000, 0x00000000, false⟩,
   ⟨"TRF.COLO_CRC", 0x0C4, 0x0, 1, false, 0, 0, false, .ro, 0x00000000, 0x00000000, 0x00000000, 0x00000000, 0x00000000, false⟩,
   ⟨"TRF.COLO_SEQ", 0x0C8, 0x0, 1, false, 0, 0, false, .ro, 0x00000000, 0x00000000, 0x00000000, 0x00000000, 0x00000000, false⟩,
   ⟨"TRF.EVT", 0x0E0, 0x0, 1, false, 0, 0, false, .w1c, 0x00000000, 0x00000000, 0x0000003F, 0x00000000, 0xFFFFFFC0, false⟩] ++
  [⟨"TRF.REC_INFO", 0x0E4, 0x0, 1, false, 0, 0, false, .ro, 0x00000000, 0x00000000, 0x00000000, 0x00000000, 0x0FFFFFFF, false⟩,
   ⟨"TRF.REC_NUM", 0x0E8, 0x0, 1, false, 0, 0, false, .ro, 0x00000000, 0x00000000, 0x00000000, 0x00000000, 0x00000000, false⟩,
   ⟨"TRF.SERIAL_LO", 0x0F0, 0x0, 1, false, 0, 0, false, .ro, 0x00000000, 0x00000000, 0x00000000, 0x00000000, 0x00000000, false⟩,
   ⟨"TRF.SERIAL_HI", 0x0F4, 0x0, 1, false, 0, 0, false, .ro, 0x00000000, 0x00000000, 0x00000000, 0x00000000, 0x00000000, false⟩,
   ⟨"TRF.REC_Wk", 0x100, 0x4, 128, false, 0, 0, false, .ro, 0x00000000, 0x00000000, 0x00000000, 0x00000000, 0x00000000, false⟩,
   ⟨"TRF.PUBk", 0x300, 0x4, 16, false, 0, 0, false, .ro, 0x00000000, 0x00000000, 0x00000000, 0x00000000, 0x00000000, false⟩,
   ⟨"TRF.COLO_DIGk", 0x340, 0x4, 8, false, 0, 0, false, .ro, 0x00000000, 0x00000000, 0x00000000, 0x00000000, 0x00000000, false⟩]

/-- Registers of the tmp page kind (14_tariffs_and_records.md). -/
def regsTmp : List RegDesc :=
  [⟨"TMP.ANY", 0x040, 0x0, 1, false, 0, 0, false, .ro, 0x00000000, 0x00000000, 0x00000000, 0x00000000, 0x00000000, true⟩,
   ⟨"TMP.TOTAL", 0x044, 0x0, 1, false, 0, 0, false, .ro, 0x00000000, 0x00000000, 0x00000000, 0x00000000, 0x00000000, false⟩,
   ⟨"TMP.COUNT", 0x400, 0x20, 1, true, 0, 0, false, .ro, 0x00000000, 0x00000000, 0x00000000, 0x00000000, 0x00000000, false⟩,
   ⟨"TMP.FIRST_S", 0x404, 0x20, 1, true, 0, 0, false, .ro, 0x00000000, 0x00000000, 0x00000000, 0x00000000, 0x00000000, false⟩,
   ⟨"TMP.FIRST_X", 0x408, 0x20, 1, true, 0, 0, false, .ro, 0x00000000, 0x00000000, 0x00000000, 0x00000000, 0x00000000, false⟩,
   ⟨"TMP.LAST_S", 0x40C, 0x20, 1, true, 0, 0, false, .ro, 0x00000000, 0x00000000, 0x00000000, 0x00000000, 0x00000000, false⟩,
   ⟨"TMP.LAST_X", 0x410, 0x20, 1, true, 0, 0, false, .ro, 0x00000000, 0x00000000, 0x00000000, 0x00000000, 0x00000000, false⟩,
   ⟨"TMP.AUX", 0x414, 0x20, 1, true, 0, 0, false, .ro, 0x00000000, 0x00000000, 0x00000000, 0x00000000, 0x00000000, false⟩]

/-- Registers of the ses page kind (06_allocation.md, 12_vehicle_sessions.md). -/
def regsSes : List RegDesc :=
  [⟨"SES.PCFG", 0x040, 0x0, 1, false, 0, 0, false, .rws, 0x00320190, 0xFFFFFFFF, 0x00000000, 0x00000000, 0x00000000, false⟩,
   ⟨"SES.SCFG", 0x044, 0x0, 1, false, 0, 0, false, .rws, 0x10000064, 0xFF00FFFF, 0x00000000, 0x00000000, 0x00FF0000, false⟩,
   ⟨"SES.RESERVE", 0x048, 0x0, 1, false, 0, 0, false, .rws, 0x000007D0, 0x3FFFFFFF, 0x00000000, 0x00000000, 0xC0000000, false⟩,
   ⟨"SES.RING_LO", 0x04C, 0x0, 1, false, 0, 0, false, .rws, 0x00000000, 0xFFFFFFFF, 0x00000000, 0x00000000, 0x00000000, false⟩,
   ⟨"SES.RING_HI", 0x050, 0x0, 1, false, 0, 0, false, .rws, 0x00000000, 0xFFFFFFFF, 0x00000000, 0x00000000, 0x00000000, false⟩,
   ⟨"SES.DEM_I", 0x400, 0x40, 1, true, 0, 0, false, .rw, 0x00000000, 0x8000FFFF, 0x00000000, 0x00000000, 0x7FFF0000, false⟩,
   ⟨"SES.DEM_V", 0x404, 0x40, 1, true, 0, 0, false, .rw, 0x00000000, 0xFFFFFFFF, 0x00000000, 0x00000000, 0x00000000, false⟩,
   ⟨"SES.STATE", 0x408, 0x40, 1, true, 0, 0, false, .ro, 0x00000000, 0x00000000, 0x00000000, 0x00000000, 0x00000000, true⟩,
   ⟨"SES.CMD", 0x40C, 0x40, 1, true, 0, 0, false, .rw, 0x00000000, 0x0000000F, 0x00000000, 0x00000000, 0xFFFFFFF0, false⟩,
   ⟨"SES.EVT", 0x410, 0x40, 1, true, 0, 0, false, .w1c, 0x00000000, 0x00000000, 0x00001FFF, 0x00000000, 0xFFFFE000, false⟩,
   ⟨"SES.CREDIT", 0x414, 0x40, 1, true, 0, 0, false, .ro, 0x00000000, 0x00000000, 0x00000000, 0x00000000, 0x00000000, false⟩,
   ⟨"SES.CREDIT_SET", 0x418, 0x40, 1, true, 0, 0, false, .wo, 0x00000000, 0x00000000, 0x00000000, 0xFFFFFFFF, 0x00000000, false⟩,
   ⟨"SES.TIMER", 0x41C, 0x40, 1, true, 0, 0, false, .rw, 0x00000000, 0xC0FFFFFF, 0x00000000, 0x00000000, 0x3F000000, false⟩,
   ⟨"SES.TUN", 0x420, 0x40, 1, true, 0, 0, false, .ro, 0x00000000, 0x00000000, 0x00000000, 0x00000000, 0x000F0000, true⟩,
   ⟨"SES.TUN_SW", 0x424, 0x40, 1, true, 0, 0, false, .rw, 0x00000000, 0xFFF00000, 0x00000000, 0x00000000, 0x000FFFFF, false⟩,
   ⟨"SES.ENERGY", 0x428, 0x40, 1, true, 0, 0, false, .ro, 0x00000000, 0x00000000, 0x00000000, 0x00000000, 0x00000000, true⟩]

/-- The cry page holds no register beside its header. -/
def regsCry : List RegDesc := []

/-- Registers of the can page kind (18_can_fd.md). -/
def regsCan : List RegDesc :=
  [⟨"CAN.RING_LO", 0x040, 0x0, 1, false, 0, 0, true, .rws, 0x00000000, 0xFFFFFFFF, 0x00000000, 0x00000000, 0x00000000, false⟩,
   ⟨"CAN.RING_HI", 0x044, 0x0, 1, false, 0, 0, true, .rws, 0x00000000, 0xFFFFFFFF, 0x00000000, 0x00000000, 0x00000000, false⟩,
   ⟨"CAN.CTL", 0x400, 0x100, 1, true, 0, 0, false, .rws, 0x000003E8, 0xF800FFFF, 0x00000000, 0x00000000, 0x07FF0000, false⟩,
   ⟨"CAN.NBT", 0x404, 0x100, 1, true, 0, 0, false, .rws, 0x07F3F3E0, 0xFFFFFFE0, 0x00000000, 0x00000000, 0x0000001F, false⟩,
   ⟨"CAN.DBT", 0x408, 0x100, 1, true, 0, 0, false, .rws, 0x03A0A000, 0xFFFFFF80, 0x00000000, 0x00000000, 0x0000007F, false⟩,
   ⟨"CAN.STAT", 0x40C, 0x100, 1, true, 0, 0, false, .ro, 0xC0000000, 0x00000000, 0x00000000, 0x00000000, 0x003FFF80, false⟩,
   ⟨"CAN.ECNT", 0x410, 0x100, 1, true, 0, 0, false, .ro, 0x00000000, 0x00000000, 0x00000000, 0x00000000, 0x00000000, false⟩,
   ⟨"CAN.HW_IDX", 0x414, 0x100, 1, true, 0, 0, false, .ro, 0x00000000, 0x00000000, 0x00000000, 0x00000000, 0xE000FF80, false⟩,
   ⟨"CAN.SW_IDX", 0x418, 0x100, 1, true, 0, 0, false, .rw, 0x00000000, 0x1FFF007F, 0x00000000, 0x00000000, 0xE000FF80, false⟩,
   ⟨"CAN.LOST", 0x41C, 0x100, 1, true, 0, 0, false, .rc, 0x00000000, 0x00000000, 0x00000000, 0x00000000, 0x00000000, false⟩,
   ⟨"CAN.CNT", 0x420, 0x100, 1, true, 0, 0, false, .rc, 0x00000000, 0x00000000, 0x00000000, 0x00000000, 0x00000000, false⟩,
   ⟨"CAN.EVT", 0x424, 0x100, 1, true, 0, 0, false, .w1c, 0x00000000, 0x00000000, 0x00000FFF, 0x00000000, 0xFFFFF000, false⟩,
   ⟨"CAN.IRQ_EN", 0x428, 0x100, 1, true, 0, 0, false, .rw, 0x00000000, 0xFFFFFFFF, 0x00000000, 0x00000000, 0x00000000, false⟩,
   ⟨"CAN.CMD", 0x42C, 0x100, 1, true, 0, 0, false, .wo, 0x00000000, 0x00000000, 0x00000000, 0x00000003, 0xFFFFFFFC, false⟩,
   ⟨"CAN.TX_TS_LO", 0x430, 0x100, 1, true, 0, 0, false, .ro, 0x00000000, 0x00000000, 0x00000000, 0x00000000, 0x00000000, false⟩,
   ⟨"CAN.TX_TS_HI", 0x434, 0x100, 1, true, 0, 0, false, .ro, 0x00000000, 0x00000000, 0x00000000, 0x00000000, 0x00000000, false⟩,
   ⟨"CAN.TX_TAG", 0x438, 0x100, 1, true, 0, 0, false, .ro, 0x00000000, 0x00000000, 0x00000000, 0x00000000, 0xFFFF0000, false⟩]

/-- Registers of the hdg page kind (19_hedgerow_plc.md). -/
def regsHdg : List RegDesc :=
  [⟨"HDG.CFG", 0x040, 0x0, 1, false, 0, 0, false, .rws, 0x00380004, 0xEF7FFF0F, 0x00000000, 0x00000000, 0x108000F0, false⟩,
   ⟨"HDG.ROUTE", 0x044, 0x0, 1, false, 0, 0, false, .rws, 0x4280001E, 0xFFF0FFFF, 0x00000000, 0x00000000, 0x000F0000, false⟩,
   ⟨"HDG.NOTCHk", 0x048, 0x4, 4, false, 0, 0, false, .rws, 0x00000000, 0x83FF03FF, 0x00000000, 0x00000000, 0x7C00FC00, false⟩,
   ⟨"HDG.STAT", 0x058, 0x0, 1, false, 0, 0, false, .ro, 0x00000000, 0x00000000, 0x00000000, 0x00000000, 0x3F000000, true⟩,
   ⟨"HDG.EVT", 0x05C, 0x0, 1, false, 0, 0, false, .w1c, 0x00000000, 0x00000000, 0x000003FF, 0x00000000, 0xFFFFFC00, false⟩,
   ⟨"HDG.RING_LO", 0x060, 0x0, 1, false, 0, 0, false, .rws, 0x00000000, 0xFFFFFFFF, 0x00000000, 0x00000000, 0x00000000, false⟩,
   ⟨"HDG.RING_HI", 0x064, 0x0, 1, false, 0, 0, false, .rws, 0x00000000, 0xFFFFFFFF, 0x00000000, 0x00000000, 0x00000000, false⟩,
   ⟨"HDG.HW_IDX", 0x068, 0x0, 1, false, 0, 0, false, .ro, 0x00000000, 0x00000000, 0x00000000, 0x00000000, 0xFF80FF80, false⟩,
   ⟨"HDG.SW_IDX", 0x06C, 0x0, 1, false, 0, 0, false, .rw, 0x00000000, 0x007F007F, 0x00000000, 0x00000000, 0xFF80FF80, false⟩,
   ⟨"HDG.CNT", 0x070, 0x0, 1, false, 0, 0, false, .rc, 0x00000000, 0x00000000, 0x00000000, 0x00000000, 0x00000000, false⟩,
   ⟨"HDG.LINE", 0x074, 0x0, 1, false, 0, 0, false, .ro, 0x00000000, 0x00000000, 0x00000000, 0x00000000, 0x0000FF00, true⟩]

/-- Registers of the pwm page kind (20_pwm.md). -/
def regsPwm : List RegDesc :=
  [⟨"PWM.TRIP_CFGt", 0x040, 0x4, 6, false, 0, 0, false, .rws, 0x00000000, 0xEF0000FF, 0x00000000, 0x00000000, 0x10FFFF00, false⟩,
   ⟨"PWM.TRIP_STAT", 0x058, 0x0, 1, false, 0, 0, false, .ro, 0x00000000, 0x00000000, 0x00000000, 0x00000000, 0xFFC0FFC0, false⟩,
   ⟨"PWM.STAT", 0x05C, 0x0, 1, false, 0, 0, false, .ro, 0x00000000, 0x00000000, 0x00000000, 0x00000000, 0x00000000, false⟩,
   ⟨"PWM.LOAD_ALL", 0x060, 0x0, 1, false, 0, 0, false, .wo, 0x00000000, 0x00000000, 0x00000000, 0x00000001, 0xFFFFFFFE, false⟩,
   ⟨"PWM.TRIP_CLR", 0x064, 0x0, 1, false, 0, 0, false, .wo, 0x00000000, 0x00000000, 0x00000000, 0x0000FFFF, 0xFFFF0000, false⟩,
   ⟨"PWM.EVT", 0x068, 0x0, 1, false, 0, 0, false, .w1c, 0x00000000, 0x00000000, 0x0000007F, 0x00000000, 0xFFFFFF80, false⟩,
   ⟨"PWM.TRIP_CNT", 0x06C, 0x0, 1, false, 0, 0, false, .rc, 0x00000000, 0x00000000, 0x00000000, 0x00000000, 0x00000000, false⟩,
   ⟨"PWM.CH_CFG", 0x400, 0x40, 1, true, 0, 0, false, .rws, 0x00000000, 0xFFF03F00, 0x00000000, 0x00000000, 0x000FC0FF, false⟩,
   ⟨"PWM.CH_DT", 0x404, 0x40, 1, true, 0, 0, false, .rws, 0x00000000, 0x000003FF, 0x00000000, 0x00000000, 0xFFFFFC00, false⟩,
   ⟨"PWM.SH_PERIOD", 0x408, 0x40, 1, true, 0, 0, false, .rw, 0x0000FFFF, 0x0000FFFF, 0x00000000, 0x00000000, 0xFFFF0000, false⟩,
   ⟨"PWM.SH_CMP", 0x40C, 0x40, 1, true, 0, 0, false, .rw, 0x00000000, 0x0001FFFF, 0x00000000, 0x00000000, 0xFFFE0000, false⟩,
   ⟨"PWM.ACT_PERIOD", 0x410, 0x40, 1, true, 0, 0, false, .ro, 0x00000000, 0x00000000, 0x00000000, 0x00000000, 0xFFFF0000, false⟩,
   ⟨"PWM.ACT_CMP", 0x414, 0x40, 1, true, 0, 0, false, .ro, 0x00000000, 0x00000000, 0x00000000, 0x00000000, 0xFFFE0000, false⟩,
   ⟨"PWM.CH_STAT", 0x418, 0x40, 1, true, 0, 0, false, .ro, 0x00000000, 0x00000000, 0x00000000, 0x00000000, 0x07FF0000, false⟩]

/-- Registers of the asw page kind (21_aux_switches.md). -/
def regsAsw : List RegDesc :=
  [⟨"ASW.CMD", 0x040, 0x0, 1, false, 0, 0, false, .rw, 0x00000000, 0x0000FFFF, 0x00000000, 0x00000000, 0xFFFF0000, false⟩,
   ⟨"ASW.STAT", 0x044, 0x0, 1, false, 0, 0, false, .ro, 0x00000000, 0x00000000, 0x00000000, 0x00000000, 0x1FFF0000, true⟩,
   ⟨"ASW.EVT", 0x048, 0x0, 1, false, 0, 0, false, .w1c, 0x00000000, 0x00000000, 0x000001FF, 0x00000000, 0xFFFFFE00, false⟩,
   ⟨"ASW.CLR", 0x04C, 0x0, 1, false, 0, 0, false, .wo, 0x00000000, 0x00000000, 0x00000000, 0x0000FFFF, 0xFFFF0000, false⟩,
   ⟨"ASW.CH_CFG", 0x400, 0x40, 1, true, 0, 0, false, .rws, 0x0000FA00, 0x801FFF00, 0x00000000, 0x00000000, 0x7FE000FF, false⟩,
   ⟨"ASW.CH_I2T", 0x404, 0x40, 1, true, 0, 0, false, .rws, 0x000005DC, 0xFFFFFFFF, 0x00000000, 0x00000000, 0x00000000, false⟩,
   ⟨"ASW.CH_LIM", 0x408, 0x40, 1, true, 0, 0, false, .rws, 0x00000000, 0xFFFF03FF, 0x00000000, 0x00000000, 0x0000FC00, false⟩,
   ⟨"ASW.CH_STAT", 0x40C, 0x40, 1, true, 0, 0, false, .ro, 0x00000000, 0x00000000, 0x00000000, 0x00000000, 0x03FF0000, true⟩,
   ⟨"ASW.CH_CUR", 0x410, 0x40, 1, true, 0, 0, false, .ro, 0x00000000, 0x00000000, 0x00000000, 0x00000000, 0x0FFFF000, true⟩,
   ⟨"ASW.CH_CNT", 0x414, 0x40, 1, true, 0, 0, false, .rc, 0x00000000, 0x00000000, 0x00000000, 0x00000000, 0x00000000, false⟩]

/-- Registers of the hkp page kind (09_cable_cooling_thermal.md). -/
def regsHkp : List RegDesc :=
  [⟨"HKP.DIE_CFG", 0x040, 0x0, 1, false, 0, 0, false, .rws, 0x6E780000, 0xFFFF0000, 0x00000000, 0x00000000, 0x0000FFFF, false⟩,
   ⟨"HKP.DIE_STAT", 0x044, 0x0, 1, false, 0, 0, false, .ro, 0x00000000, 0x00000000, 0x00000000, 0x00000000, 0x00FF0000, true⟩,
   ⟨"HKP.EVT", 0x048, 0x0, 1, false, 0, 0, false, .w1c, 0x00000000, 0x00000000, 0x0000007F, 0x00000000, 0xFFFFFF80, false⟩,
   ⟨"HKP.COMP", 0x04C, 0x0, 1, false, 0, 0, false, .ro, 0x00000000, 0x00000000, 0x00000000, 0x00000000, 0x00000000, true⟩,
   ⟨"HKP.ROUND", 0x050, 0x0, 1, false, 0, 0, false, .ro, 0x00000000, 0x00000000, 0x00000000, 0x00000000, 0x00000000, false⟩,
   ⟨"HKP.CH_CFG", 0x400, 0x20, 1, true, 0, 0, false, .rws, 0x80000000, 0xE0000000, 0x00000000, 0x00000000, 0x1FFFFFFF, false⟩,
   ⟨"HKP.CH_LIM", 0x404, 0x20, 1, true, 0, 0, false, .rws, 0x7FFF8000, 0xFFFFFFFF, 0x00000000, 0x00000000, 0x00000000, false⟩,
   ⟨"HKP.CH_VAL", 0x408, 0x20, 1, true, 0, 0, false, .ro, 0x00000000, 0x00000000, 0x00000000, 0x00000000, 0x3F000000, true⟩,
   ⟨"HKP.CH_TS_LO", 0x40C, 0x20, 1, true, 0, 0, false, .ro, 0x00000000, 0x00000000, 0x00000000, 0x00000000, 0x00000000, false⟩,
   ⟨"HKP.CH_TS_HI", 0x410, 0x20, 1, true, 0, 0, false, .ro, 0x00000000, 0x00000000, 0x00000000, 0x00000000, 0x00000000, false⟩]

/-- Registers of the pwr page kind (22_power_reset_startup.md). -/
def regsPwr : List RegDesc :=
  [⟨"PWR.CFG", 0x040, 0x0, 1, false, 0, 0, false, .rws, 0x00000000, 0x80000000, 0x00000000, 0x00000000, 0x7FFFFFFF, false⟩,
   ⟨"PWR.STAT", 0x044, 0x0, 1, false, 0, 0, false, .ro, 0x00000000, 0x00000000, 0x00000000, 0x00000000, 0x07FF0000, true⟩,
   ⟨"PWR.EVT", 0x048, 0x0, 1, false, 0, 0, false, .w1c, 0x00000000, 0x00000000, 0x0000003F, 0x00000000, 0xFFFFFFC0, false⟩,
   ⟨"PWR.RST_CAUSE", 0x04C, 0x0, 1, false, 0, 0, false, .ro, 0x00000000, 0x00000000, 0x00000000, 0x00000000, 0x0FFF0000, false⟩,
   ⟨"PWR.RST_CMD", 0x050, 0x0, 1, false, 0, 0, false, .wo, 0x00000000, 0x00000000, 0x00000000, 0x0000FF01, 0xFFFF00FE, false⟩,
   ⟨"PWR.RAIL_FLT", 0x054, 0x0, 1, false, 0, 0, false, .rc, 0x00000000, 0x00000000, 0x00000000, 0x00000000, 0x00000000, false⟩]

/-- Registers of the upd page kind (23_service_life.md). -/
def regsUpd : List RegDesc :=
  [⟨"UPD.CMD", 0x040, 0x0, 1, false, 0, 0, false, .wo, 0x00000000, 0x00000000, 0x00000000, 0x0000FF0F, 0xFFFF00F0, false⟩,
   ⟨"UPD.STAT", 0x044, 0x0, 1, false, 0, 0, false, .ro, 0x00000000, 0x00000000, 0x00000000, 0x00000000, 0x03FFFFFF, true⟩,
   ⟨"UPD.MET_ADDR_LO", 0x048, 0x0, 1, false, 0, 0, false, .rw, 0x00000000, 0xFFFFFFFF, 0x00000000, 0x00000000, 0x00000000, false⟩,
   ⟨"UPD.MET_ADDR_HI", 0x04C, 0x0, 1, false, 0, 0, false, .rw, 0x00000000, 0xFFFFFFFF, 0x00000000, 0x00000000, 0x00000000, false⟩,
   ⟨"UPD.MET_LEN", 0x050, 0x0, 1, false, 0, 0, false, .rw, 0x00000000, 0xFFFFFFFF, 0x00000000, 0x00000000, 0x00000000, false⟩,
   ⟨"UPD.HTH_PROG", 0x054, 0x0, 1, false, 0, 0, false, .ro, 0x00000000, 0x00000000, 0x00000000, 0x00000000, 0x00000000, false⟩,
   ⟨"UPD.EVT", 0x058, 0x0, 1, false, 0, 0, false, .w1c, 0x00000000, 0x00000000, 0x0000001F, 0x00000000, 0xFFFFFFE0, false⟩]

/-- Registers of the eth page kind (24_host_interfaces.md). -/
def regsEth : List RegDesc :=
  [⟨"ETH.CFG", 0x040, 0x0, 1, false, 0, 0, false, .rws, 0x20000002, 0xE0000003, 0x00000000, 0x00000000, 0x1FFFFFFC, false⟩,
   ⟨"ETH.STAT", 0x044, 0x0, 1, false, 0, 0, false, .ro, 0x00000000, 0x00000000, 0x00000000, 0x00000000, 0x1FFFFFFC, true⟩,
   ⟨"ETH.PTP_CFG", 0x048, 0x0, 1, false, 0, 0, true, .rws, 0x00000000, 0xC0000000, 0x20000000, 0x00000000, 0x1FFFFFFF, false⟩,
   ⟨"ETH.PTP_ADJ", 0x04C, 0x0, 1, false, 0, 0, true, .rw, 0x00000000, 0xFFFFFFFF, 0x00000000, 0x00000000, 0x00000000, false⟩,
   ⟨"ETH.PTP_NOW_NS", 0x050, 0x0, 1, false, 0, 0, true, .ro, 0x00000000, 0x00000000, 0x00000000, 0x00000000, 0x00000000, false⟩,
   ⟨"ETH.PTP_NOW_S_LO", 0x054, 0x0, 1, false, 0, 0, true, .ro, 0x00000000, 0x00000000, 0x00000000, 0x00000000, 0x00000000, false⟩,
   ⟨"ETH.PTP_NOW_S_HI", 0x058, 0x0, 1, false, 0, 0, true, .ro, 0x00000000, 0x00000000, 0x00000000, 0x00000000, 0x00000000, false⟩,
   ⟨"ETH.PTP_STEP_S", 0x05C, 0x0, 1, false, 0, 0, true, .rw, 0x00000000, 0xFFFFFFFF, 0x00000000, 0x00000000, 0x00000000, false⟩,
   ⟨"ETH.PTP_STEP_NS", 0x060, 0x0, 1, false, 0, 0, true, .rw, 0x00000000, 0xFFFFFFFF, 0x00000000, 0x00000000, 0x00000000, false⟩,
   ⟨"ETH.BND_NS", 0x064, 0x0, 1, false, 0, 0, true, .ro, 0x00000000, 0x00000000, 0x00000000, 0x00000000, 0x00000000, true⟩,
   ⟨"ETH.BND_S_LO", 0x068, 0x0, 1, false, 0, 0, true, .ro, 0x00000000, 0x00000000, 0x00000000, 0x00000000, 0x00000000, true⟩,
   ⟨"ETH.BND_S_HI", 0x06C, 0x0, 1, false, 0, 0, true, .ro, 0x00000000, 0x00000000, 0x00000000, 0x00000000, 0x00000000, true⟩]

/-- Registers of the ddr page kind (24_host_interfaces.md). -/
def regsDdr : List RegDesc :=
  [⟨"DDR.STAT", 0x040, 0x0, 1, false, 0, 0, false, .ro, 0x00000000, 0x00000000, 0x00000000, 0x00000000, 0x3FFF0000, true⟩,
   ⟨"DDR.ECC", 0x044, 0x0, 1, false, 0, 0, false, .rc, 0x00000000, 0x00000000, 0x00000000, 0x00000000, 0x00000000, false⟩,
   ⟨"DDR.UE_ADDR_LO", 0x048, 0x0, 1, false, 0, 0, false, .ro, 0x00000000, 0x00000000, 0x00000000, 0x00000000, 0x00000000, false⟩,
   ⟨"DDR.UE_ADDR_HI", 0x04C, 0x0, 1, false, 0, 0, false, .ro, 0x00000000, 0x00000000, 0x00000000, 0x00000000, 0x00000000, false⟩]

/-- Registers of the osp page kind (24_host_interfaces.md). -/
def regsOsp : List RegDesc :=
  [⟨"OSP.CORE", 0x040, 0x0, 1, false, 0, 0, false, .ro, 0x00000000, 0x00000000, 0x00000000, 0x00000000, 0xFFFFF000, false⟩,
   ⟨"OSP.BOOT", 0x044, 0x0, 1, false, 0, 0, false, .rw, 0x0000003C, 0xC00000FF, 0x01000000, 0x20000000, 0x00FFFF00, false⟩,
   ⟨"OSP.FL_CMD", 0x048, 0x0, 1, false, 0, 0, false, .wo, 0x00000000, 0x00000000, 0x00000000, 0xF8000FFF, 0x07FFF000, false⟩,
   ⟨"OSP.FL_ADDR", 0x04C, 0x0, 1, false, 0, 0, false, .rw, 0x00000000, 0xFFFFFFFF, 0x00000000, 0x00000000, 0x00000000, false⟩,
   ⟨"OSP.FL_SRC_LO", 0x050, 0x0, 1, false, 0, 0, false, .rw, 0x00000000, 0xFFFFFFFF, 0x00000000, 0x00000000, 0x00000000, false⟩,
   ⟨"OSP.FL_SRC_HI", 0x054, 0x0, 1, false, 0, 0, false, .rw, 0x00000000, 0xFFFFFFFF, 0x00000000, 0x00000000, 0x00000000, false⟩,
   ⟨"OSP.FL_STAT", 0x058, 0x0, 1, false, 0, 0, false, .ro, 0x00000000, 0x00000000, 0x00000000, 0x00000000, 0x0FFFFFFF, false⟩,
   ⟨"OSP.GPIO_DIR", 0x060, 0x0, 1, false, 0, 0, false, .rw, 0x00000000, 0xFFFFFFFF, 0x00000000, 0x00000000, 0x00000000, false⟩,
   ⟨"OSP.GPIO_OD", 0x064, 0x0, 1, false, 0, 0, false, .rw, 0x00000000, 0xFFFFFFFF, 0x00000000, 0x00000000, 0x00000000, false⟩,
   ⟨"OSP.GPIO_OUT", 0x068, 0x0, 1, false, 0, 0, false, .rw, 0x00000000, 0xFFFFFFFF, 0x00000000, 0x00000000, 0x00000000, false⟩,
   ⟨"OSP.GPIO_IN", 0x06C, 0x0, 1, false, 0, 0, false, .ro, 0x00000000, 0x00000000, 0x00000000, 0x00000000, 0x00000000, false⟩,
   ⟨"OSP.GPIO_EVT", 0x070, 0x0, 1, false, 0, 0, false, .w1c, 0x00000000, 0x00000000, 0xFFFFFFFF, 0x00000000, 0x00000000, false⟩,
   ⟨"OSP.DBG", 0x074, 0x0, 1, false, 0, 0, false, .ro, 0x00000000, 0x00000000, 0x20000000, 0x00000000, 0x1FFF0000, false⟩]

/-- The registers of a page kind beside the header. -/
def regsOf : PageKind → List RegDesc
  | .chip => regsChip
  | .frm => regsFrm
  | .gal => regsGal
  | .snp => regsSnp
  | .alcS => regsAlcS
  | .alcO => regsAlcO
  | .cxt => regsCxt
  | .xpt => regsXpt
  | .movS => regsMovS
  | .movM => regsMovM
  | .cen => regsCen
  | .cenAx => regsCenAx
  | .thm => regsThm
  | .prt => regsPrt
  | .mir => regsMir
  | .qn => regsQn
  | .hthIn => regsHthIn
  | .hthOut => regsHthOut
  | .hthRp => regsHthRp
  | .sfn => regsSfn
  | .met0 => regsMet0
  | .metO => regsMetO
  | .trf => regsTrf
  | .tmp => regsTmp
  | .ses => regsSes
  | .cry => regsCry
  | .can => regsCan
  | .hdg => regsHdg
  | .pwm => regsPwm
  | .asw => regsAsw
  | .hkp => regsHkp
  | .pwr => regsPwr
  | .upd => regsUpd
  | .eth => regsEth
  | .ddr => regsDdr
  | .osp => regsOsp

/-- The place of an offset in a register's words: the cell or element number, if the offset is one of its words. -/
def RegDesc.place (d : RegDesc) (stride cells off : Nat) : Option Nat :=
  if d.cell then
    if d.off ≤ off ∧ (off - d.off) % stride = 0 then
      let j := (off - d.off) / stride
      if j < cells ∧ d.lo ≤ j ∧ (d.hi = 0 ∨ j < d.hi) then some j else none
    else none
  else if d.count ≤ 1 then (if off = d.off then some 0 else none)
  else if d.off ≤ off ∧ (off - d.off) % d.stride = 0 ∧ (off - d.off) / d.stride < d.count then
    some ((off - d.off) / d.stride)
  else none

/-- The first register of a list that an offset names, with its place. -/
def regIn (inst stride cells : Nat) : List RegDesc → Nat → Option (RegDesc × Nat)
  | [], _ => none
  | d :: t, off =>
    match (if d.inst0 && inst != 0 then none else d.place stride cells off) with
    | some j => some (d, j)
    | none => regIn inst stride cells t off

/-- The register that an address of a page names (R117, R118); none where no chapter assigns the word (R119). -/
def regAt (p : Page) (a : Nat) : Option (RegDesc × Nat) :=
  let off := a - p.base
  if off = 0x010 ∧ p.kind = .gal then some (galErr, 0)
  else if off < 0x28 ∨ (0x380 ≤ off ∧ off < 0x400) then regIn p.inst p.stride p.cells headerRegs off
  else regIn p.inst p.stride p.cells (regsOf p.kind) off

/-- The reset value of a register word, by its descriptor and place: the spec's, with the two registers whose reset
depends on the cell (HKP.CH_CFG, MET.CCFG; R320, R459). -/
def RegDesc.resetAt (d : RegDesc) (kind : PageKind) (j : Nat) : Word :=
  if kind = .hkp ∧ d.off = 0x400 then word (if j < 14 ∨ j = 30 ∨ j = 31 then 0x80000000 else 0)
  else if kind = .met0 ∧ d.off = 0x400 then word (if j < 7 then 0x80000000 else 0)
  else word d.reset

/-- What an unlisted register word reads: its reset value; a window word or an unassigned word reads zero (R119). -/
def regReset (a : Nat) : Word :=
  match pageAt a with
  | none => 0
  | some p =>
    match regAt p a with
    | none => 0
    | some (d, j) => d.resetAt p.kind j

/-- A table window (R127): base, bytes of its entries on the OTZ-5120, entry size, owning block's first page, and how it
is written: 0 through the Galley, 1 read only, 2 through the sealed path. -/
structure Window where
  base : Nat
  span : Nat
  bytes : Nat
  entry : Nat
  page : Nat
  write : Nat
  deriving DecidableEq, Repr

/-- Table: Table windows (R127); the sixteen feed-forward tables are one row of sixteen spans. -/
def windows : List Window :=
  [⟨0x48000000, 0x10000, 0x8000, 4, 0x4000E000, 0⟩,
   ⟨0x48010000, 0x10000, 0x4000, 16, 0x4000D000, 0⟩,
   ⟨0x48020000, 0x10000, 0x10000, 128, 0x4001F000, 0⟩,
   ⟨0x48030000, 0x10000, 0x10000, 128, 0x4001F000, 0⟩,
   ⟨0x48140000, 0x10000, 0x10000, 16, 0x40000000, 1⟩,
   ⟨0x68000000, 0x10000, 0x2000, 16, 0x60003000, 2⟩,
   ⟨0x68010000, 0x10000, 0x2080, 8, 0x60003000, 1⟩]

/-- The window whose span holds an address. -/
def windowAt (a : Nat) : Option Window :=
  if 0x48040000 ≤ a ∧ a < 0x48140000 then some ⟨a / 0x10000 * 0x10000, 0x10000, 0x1000, 4, 0x4001F000, 0⟩
  else windows.find? (fun w => w.base ≤ a && a < w.base + w.span)

end Sys2Proof.Machine
end

