-- ==== Sys2Proof/Machine/RegNames.lean ====
section
/-! DEFINITION. The address of every register under its manual name: a plain register by itself, a cell register by the
index of its unit over all pages of its block (stage slot, outlet, port, ...), a block register of a block with several
pages by the page's number. -/
namespace Sys2Proof.Machine.Reg

/-- CHIP.VARIANT (00 R1). -/
def CHIP_VARIANT : Nat := 0x40000040
/-- CHIP.SIZE (00 R1). -/
def CHIP_SIZE : Nat := 0x40000044
/-- CHIP.RGN_STAT (03 R111). -/
def CHIP_RGN_STAT : Nat := 0x40000048
/-- CHIP.ESC (03 R111). -/
def CHIP_ESC : Nat := 0x4000004C
/-- CHIP.FAULT_A (03 R111). -/
def CHIP_FAULT_A : Nat := 0x40000050
/-- CHIP.FAULT_B (03 R111). -/
def CHIP_FAULT_B : Nat := 0x40000054
/-- CHIP.FAULT_TS_LO (03 R111). -/
def CHIP_FAULT_TS_LO : Nat := 0x40000058
/-- CHIP.FAULT_TS_HI (03 R111). -/
def CHIP_FAULT_TS_HI : Nat := 0x4000005C
/-- CHIP.DROP_ADDR (04 R133). -/
def CHIP_DROP_ADDR : Nat := 0x40000060
/-- CHIP.DROP_INFO (04 R133). -/
def CHIP_DROP_INFO : Nat := 0x40000064
/-- CHIP.LOG_WR (05 R171). -/
def CHIP_LOG_WR : Nat := 0x40000068
/-- CHIP.LOG_LOST (05 R171). -/
def CHIP_LOG_LOST : Nat := 0x4000006C
/-- CHIP.SEAL_CMD (13 R459). -/
def CHIP_SEAL_CMD : Nat := 0x40000100
/-- CHIP.SEAL_ADDR (13 R459). -/
def CHIP_SEAL_ADDR : Nat := 0x40000104
/-- CHIP.SEAL_STAT (13 R459). -/
def CHIP_SEAL_STAT : Nat := 0x40000108
/-- CHIP.SEAL_DATAk (13 R459). -/
def CHIP_SEAL_DATA (k : Nat) : Nat := 0x40000140 + 4 * k
/-- CHIP.SCC_CMD (15 R543). -/
def CHIP_SCC_CMD : Nat := 0x40000180
/-- CHIP.SCC_ADDR (15 R543). -/
def CHIP_SCC_ADDR : Nat := 0x40000184
/-- CHIP.SCC_STAT (15 R543). -/
def CHIP_SCC_STAT : Nat := 0x40000188
/-- CHIP.HTH_REQ (15 R543). -/
def CHIP_HTH_REQ : Nat := 0x40000190
/-- CHIP.SCC_DATAk (15 R543). -/
def CHIP_SCC_DATA (k : Nat) : Nat := 0x400001C0 + 4 * k
/-- FRM.CFG (02 R77). -/
def FRM_CFG : Nat := 0x40001040
/-- FRM.CTRL (02 R77). -/
def FRM_CTRL : Nat := 0x40001044
/-- FRM.STAT (02 R77). -/
def FRM_STAT : Nat := 0x40001048
/-- FRM.EVT (02 R77). -/
def FRM_EVT : Nat := 0x4000104C
/-- FRM.OVR_CNT (02 R77). -/
def FRM_OVR_CNT : Nat := 0x40001050
/-- FRM.SYNC_CNT_A (02 R77). -/
def FRM_SYNC_CNT_A : Nat := 0x40001054
/-- FRM.SYNC_CNT_B (02 R77). -/
def FRM_SYNC_CNT_B : Nat := 0x40001058
/-- FRM.SYNC_PHASE (02 R77). -/
def FRM_SYNC_PHASE : Nat := 0x4000105C
/-- FRM.LEN (02 R77). -/
def FRM_LEN : Nat := 0x40001060
/-- FRM.CUT_A (02 R77). -/
def FRM_CUT_A : Nat := 0x40001064
/-- FRM.CUT_B (02 R77). -/
def FRM_CUT_B : Nat := 0x40001068
/-- FRM.BUDGET (02 R77). -/
def FRM_BUDGET : Nat := 0x4000106C
/-- FRM.WCET (02 R77). -/
def FRM_WCET : Nat := 0x40001070
/-- FRM.USED (02 R77). -/
def FRM_USED : Nat := 0x40001074
/-- FRM.NOW_LO (02 R77). -/
def FRM_NOW_LO : Nat := 0x40001078
/-- FRM.NOW_HI (02 R77). -/
def FRM_NOW_HI : Nat := 0x4000107C
/-- FRM.SITE_TIME_LO (02 R77). -/
def FRM_SITE_TIME_LO : Nat := 0x40001080
/-- FRM.SITE_TIME_HI (02 R77). -/
def FRM_SITE_TIME_HI : Nat := 0x40001084
/-- FRM.BND_TIME_LO (02 R77). -/
def FRM_BND_TIME_LO : Nat := 0x40001088
/-- FRM.BND_TIME_HI (02 R77). -/
def FRM_BND_TIME_HI : Nat := 0x4000108C
/-- GAL.SEQ (05 R171). -/
def GAL_SEQ : Nat := 0x40002040
/-- GAL.CMDc (05 R171). -/
def GAL_CMD (j : Nat) : Nat := 0x40002400 + 0x100 * j
/-- GAL.STATEc (05 R171). -/
def GAL_STATE (j : Nat) : Nat := 0x40002404 + 0x100 * j
/-- GAL.LISTc (05 R171). -/
def GAL_LIST (j : Nat) : Nat := 0x40002408 + 0x100 * j
/-- GAL.TARGETc (05 R171). -/
def GAL_TARGET (j : Nat) : Nat := 0x4000240C + 0x100 * j
/-- GAL.FAIL_ADDRc (05 R171). -/
def GAL_FAIL_ADDR (j : Nat) : Nat := 0x40002410 + 0x100 * j
/-- GAL.FAIL_INFOc (05 R171). -/
def GAL_FAIL_INFO (j : Nat) : Nat := 0x40002414 + 0x100 * j
/-- SNP.HOLDp (05 R171). -/
def SNP_HOLD (j : Nat) : Nat := 0x40003400 + 0x40 * j
/-- SNP.HELD_SEQp (05 R171). -/
def SNP_HELD_SEQ (j : Nat) : Nat := 0x40003404 + 0x40 * j
/-- SNP.LOG_DETAILp (05 R171). -/
def SNP_LOG_DETAIL (j : Nat) : Nat := 0x40003408 + 0x40 * j
/-- SNP.LOG_PUTp (05 R171). -/
def SNP_LOG_PUT (j : Nat) : Nat := 0x4000340C + 0x40 * j
/-- ALC.STG_CFG (06 R212). -/
def ALC_STG_CFG (j : Nat) : Nat := 0x40004400 + 0x1000 * (j / 64) + 0x20 * (j % 64)
/-- ALC.STG_RATE_P (06 R212). -/
def ALC_STG_RATE_P (j : Nat) : Nat := 0x40004404 + 0x1000 * (j / 64) + 0x20 * (j % 64)
/-- ALC.STG_IN (06 R212). -/
def ALC_STG_IN (j : Nat) : Nat := 0x40004408 + 0x1000 * (j / 64) + 0x20 * (j % 64)
/-- ALC.STG_OUT (06 R212). -/
def ALC_STG_OUT (j : Nat) : Nat := 0x4000440C + 0x1000 * (j / 64) + 0x20 * (j % 64)
/-- ALC.STG_PREF (06 R212). -/
def ALC_STG_PREF (j : Nat) : Nat := 0x40004410 + 0x1000 * (j / 64) + 0x20 * (j % 64)
/-- ALC.SITE_CFG (06 R212). -/
def ALC_SITE_CFG : Nat := 0x4000C040
/-- ALC.GRID_SET (06 R212). -/
def ALC_GRID_SET : Nat := 0x4000C044
/-- ALC.DEMAND_MAX (06 R212). -/
def ALC_DEMAND_MAX : Nat := 0x4000C048
/-- ALC.DEMAND_CEIL (06 R212). -/
def ALC_DEMAND_CEIL : Nat := 0x4000C04C
/-- ALC.HOST_DEM_CAP (06 R212). -/
def ALC_HOST_DEM_CAP : Nat := 0x4000C050
/-- ALC.HOST_TRF_CAP (06 R212). -/
def ALC_HOST_TRF_CAP : Nat := 0x4000C054
/-- ALC.AUX_FIX (06 R212). -/
def ALC_AUX_FIX : Nat := 0x4000C058
/-- ALC.AUX_SRC (06 R212). -/
def ALC_AUX_SRC : Nat := 0x4000C05C
/-- ALC.BATT_SET (06 R212). -/
def ALC_BATT_SET : Nat := 0x4000C060
/-- ALC.SAG_CFG (06 R212). -/
def ALC_SAG_CFG : Nat := 0x4000C064
/-- ALC.SAG_NOM (06 R212). -/
def ALC_SAG_NOM : Nat := 0x4000C068
/-- ALC.MOVE_CFG (06 R212). -/
def ALC_MOVE_CFG : Nat := 0x4000C06C
/-- ALC.FEED_AVG (06 R212). -/
def ALC_FEED_AVG : Nat := 0x4000C080
/-- ALC.FEED_TIME (06 R212). -/
def ALC_FEED_TIME : Nat := 0x4000C084
/-- ALC.FEED_TCAP (06 R212). -/
def ALC_FEED_TCAP : Nat := 0x4000C088
/-- ALC.LIM_GRID (06 R203). -/
def ALC_LIM_GRID : Nat := 0x4000C08C
/-- ALC.LIM_DEM (06 R203). -/
def ALC_LIM_DEM : Nat := 0x4000C090
/-- ALC.LIM_BATT (06 R203). -/
def ALC_LIM_BATT : Nat := 0x4000C094
/-- ALC.LIM_AUX (06 R203). -/
def ALC_LIM_AUX : Nat := 0x4000C098
/-- ALC.LIM_SITE (06 R203). -/
def ALC_LIM_SITE : Nat := 0x4000C09C
/-- ALC.SOLVE_STAT (06 R212). -/
def ALC_SOLVE_STAT : Nat := 0x4000C0A0
/-- ALC.SAG_MAG (06 R212). -/
def ALC_SAG_MAG : Nat := 0x4000C0A4
/-- ALC.EVT (06 R212). -/
def ALC_EVT : Nat := 0x4000C0A8
/-- ALC.OUT_CFG (06 R772). -/
def ALC_OUT_CFG (j : Nat) : Nat := 0x4000C400 + 0x20 * j
/-- ALC.OUT_LIMIT (06 R772). -/
def ALC_OUT_LIMIT (j : Nat) : Nat := 0x4000C404 + 0x20 * j
/-- ALC.OUT_RATE_P (06 R772). -/
def ALC_OUT_RATE_P (j : Nat) : Nat := 0x4000C408 + 0x20 * j
/-- ALC.OUT_RAMP (06 R772). -/
def ALC_OUT_RAMP (j : Nat) : Nat := 0x4000C40C + 0x20 * j
/-- ALC.OUT_IN (06 R772). -/
def ALC_OUT_IN (j : Nat) : Nat := 0x4000C410 + 0x20 * j
/-- ALC.OUT_GRANT (06 R772). -/
def ALC_OUT_GRANT (j : Nat) : Nat := 0x4000C414 + 0x20 * j
/-- ALC.OUT_GRANT_P (06 R772). -/
def ALC_OUT_GRANT_P (j : Nat) : Nat := 0x4000C418 + 0x20 * j
/-- ALC.OUT_BIND (06 R772). -/
def ALC_OUT_BIND (j : Nat) : Nat := 0x4000C41C + 0x20 * j
/-- XPT.EVT (07 R246). -/
def XPT_EVT (i : Nat) : Nat := 0x4000E040 + 0x1000 * i
/-- XPT.POS (07 R246). -/
def XPT_POS (j : Nat) : Nat := 0x4000E400 + 0x1000 * (j / 64) + 0x20 * (j % 64)
/-- XPT.MARK (07 R246). -/
def XPT_MARK (j : Nat) : Nat := 0x4000E404 + 0x1000 * (j / 64) + 0x20 * (j % 64)
/-- MOV.STG (07 R246). -/
def MOV_STG (j : Nat) : Nat := 0x40016400 + 0x1000 * (j / 64) + 0x10 * (j % 64)
/-- MOV.PARK (07 R246). -/
def MOV_PARK (j : Nat) : Nat := 0x40016404 + 0x1000 * (j / 64) + 0x10 * (j % 64)
/-- MOV.STG_CNT (07 R246). -/
def MOV_STG_CNT (j : Nat) : Nat := 0x40016408 + 0x1000 * (j / 64) + 0x10 * (j % 64)
/-- MOV.CFG (07 R246). -/
def MOV_CFG : Nat := 0x4001E040
/-- MOV.TO_A (07 R246). -/
def MOV_TO_A : Nat := 0x4001E044
/-- MOV.TO_B (07 R246). -/
def MOV_TO_B : Nat := 0x4001E048
/-- MOV.CTc (07 R246). -/
def MOV_CT (k : Nat) : Nat := 0x4001E050 + 4 * k
/-- MOV.STAT (07 R246). -/
def MOV_STAT : Nat := 0x4001E060
/-- MOV.DONE_CNT (07 R244). -/
def MOV_DONE_CNT : Nat := 0x4001E064
/-- MOV.END_CNT (07 R244). -/
def MOV_END_CNT : Nat := 0x4001E068
/-- MOV.EVT (07 R246). -/
def MOV_EVT : Nat := 0x4001E06C
/-- MOV.SLOT_A (07 R246). -/
def MOV_SLOT_A (j : Nat) : Nat := 0x4001E400 + 0x10 * j
/-- MOV.SLOT_B (07 R246). -/
def MOV_SLOT_B (j : Nat) : Nat := 0x4001E404 + 0x10 * j
/-- MOV.SLOT_C (07 R246). -/
def MOV_SLOT_C (j : Nat) : Nat := 0x4001E408 + 0x10 * j
/-- MOV.SLOT_D (07 R246). -/
def MOV_SLOT_D (j : Nat) : Nat := 0x4001E40C + 0x10 * j
/-- CEN.CLOSED_LO (08 R286). -/
def CEN_CLOSED_LO (i : Nat) : Nat := 0x4001F040 + 0x1000 * i
/-- CEN.CLOSED_HI (08 R286). -/
def CEN_CLOSED_HI (i : Nat) : Nat := 0x4001F044 + 0x1000 * i
/-- CEN.TRIP_LO (08 R286). -/
def CEN_TRIP_LO (i : Nat) : Nat := 0x4001F048 + 0x1000 * i
/-- CEN.TRIP_HI (08 R286). -/
def CEN_TRIP_HI (i : Nat) : Nat := 0x4001F04C + 0x1000 * i
/-- CEN.CAUSEk (08 R286). -/
def CEN_CAUSE (i k : Nat) : Nat := 0x4001F050 + 0x1000 * i + 4 * k
/-- CEN.EVT (08 R286). -/
def CEN_EVT : Nat := 0x4001F100
/-- CEN.IN_STAT (08 R286). -/
def CEN_IN_STAT : Nat := 0x4001F104
/-- CEN.AIN_CFGn (08 R286). -/
def CEN_AIN_CFG (k : Nat) : Nat := 0x4001F110 + 8 * k
/-- CEN.AIN_VALn (08 R286). -/
def CEN_AIN_VAL (k : Nat) : Nat := 0x4001F114 + 8 * k
/-- CEN.PIN_CFGn (08 R286). -/
def CEN_PIN_CFG (k : Nat) : Nat := 0x4001F130 + 8 * k
/-- CEN.PIN_VALn (08 R286). -/
def CEN_PIN_VAL (k : Nat) : Nat := 0x4001F134 + 8 * k
/-- CEN.SLOT_CTL (08 R286). -/
def CEN_SLOT_CTL (j : Nat) : Nat := 0x4001F400 + 0x1000 * (j / 64) + 0x20 * (j % 64)
/-- CEN.SLOT_IN01 (08 R286). -/
def CEN_SLOT_IN01 (j : Nat) : Nat := 0x4001F404 + 0x1000 * (j / 64) + 0x20 * (j % 64)
/-- CEN.SLOT_IN23 (08 R286). -/
def CEN_SLOT_IN23 (j : Nat) : Nat := 0x4001F408 + 0x1000 * (j / 64) + 0x20 * (j % 64)
/-- CEN.SLOT_DST (08 R286). -/
def CEN_SLOT_DST (j : Nat) : Nat := 0x4001F40C + 0x1000 * (j / 64) + 0x20 * (j % 64)
/-- CEN.SLOT_SAFE (08 R286). -/
def CEN_SLOT_SAFE (j : Nat) : Nat := 0x4001F410 + 0x1000 * (j / 64) + 0x20 * (j % 64)
/-- CEN.SLOT_MAN (08 R286). -/
def CEN_SLOT_MAN (j : Nat) : Nat := 0x4001F414 + 0x1000 * (j / 64) + 0x20 * (j % 64)
/-- CEN.SLOT_SP (08 R286). -/
def CEN_SLOT_SP (j : Nat) : Nat := 0x4001F418 + 0x1000 * (j / 64) + 0x20 * (j % 64)
/-- CEN.SLOT_OUT (08 R286). -/
def CEN_SLOT_OUT (j : Nat) : Nat := 0x4001F41C + 0x1000 * (j / 64) + 0x20 * (j % 64)
/-- CEN.AX_CFG (08 R286). -/
def CEN_AX_CFG (j : Nat) : Nat := 0x4002F400 + 0x80 * j
/-- CEN.AX_LIM_LO (08 R286). -/
def CEN_AX_LIM_LO (j : Nat) : Nat := 0x4002F404 + 0x80 * j
/-- CEN.AX_LIM_HI (08 R286). -/
def CEN_AX_LIM_HI (j : Nat) : Nat := 0x4002F408 + 0x80 * j
/-- CEN.AX_VMAX (08 R286). -/
def CEN_AX_VMAX (j : Nat) : Nat := 0x4002F40C + 0x80 * j
/-- CEN.AX_AMAX (08 R286). -/
def CEN_AX_AMAX (j : Nat) : Nat := 0x4002F410 + 0x80 * j
/-- CEN.AX_DSTOP (08 R286). -/
def CEN_AX_DSTOP (j : Nat) : Nat := 0x4002F414 + 0x80 * j
/-- CEN.AX_FE (08 R286). -/
def CEN_AX_FE (j : Nat) : Nat := 0x4002F418 + 0x80 * j
/-- CEN.AX_CMD (08 R286). -/
def CEN_AX_CMD (j : Nat) : Nat := 0x4002F41C + 0x80 * j
/-- CEN.AX_TGT (08 R286). -/
def CEN_AX_TGT (j : Nat) : Nat := 0x4002F420 + 0x80 * j
/-- CEN.AX_STAT (08 R286). -/
def CEN_AX_STAT (j : Nat) : Nat := 0x4002F424 + 0x80 * j
/-- CEN.AX_POS (08 R286). -/
def CEN_AX_POS (j : Nat) : Nat := 0x4002F428 + 0x80 * j
/-- CEN.AX_PSP (08 R286). -/
def CEN_AX_PSP (j : Nat) : Nat := 0x4002F42C + 0x80 * j
/-- THM.GCFG (09 R320). -/
def THM_GCFG (i : Nat) : Nat := 0x40030040 + 0x1000 * i
/-- THM.KOBS (09 R320). -/
def THM_KOBS (i : Nat) : Nat := 0x40030044 + 0x1000 * i
/-- THM.EVT (09 R320). -/
def THM_EVT (i : Nat) : Nat := 0x40030048 + 0x1000 * i
/-- THM.SHUT (09 R320). -/
def THM_SHUT (i : Nat) : Nat := 0x4003004C + 0x1000 * i
/-- THM.SDR_SEL (09 R320). -/
def THM_SDR_SEL : Nat := 0x40030060
/-- THM.SDR_CNT (09 R320). -/
def THM_SDR_CNT : Nat := 0x40030064
/-- THM.SDR_Wk (09 R320). -/
def THM_SDR_W (k : Nat) : Nat := 0x40030080 + 4 * k
/-- THM.OCFG (09 R320). -/
def THM_OCFG (j : Nat) : Nat := 0x40030400 + 0x1000 * (j / 32) + 0x40 * (j % 32)
/-- THM.OVD (09 R320). -/
def THM_OVD (j : Nat) : Nat := 0x40030404 + 0x1000 * (j / 32) + 0x40 * (j % 32)
/-- THM.SHARE (09 R320). -/
def THM_SHARE (j : Nat) : Nat := 0x40030408 + 0x1000 * (j / 32) + 0x40 * (j % 32)
/-- THM.A_P (09 R320). -/
def THM_A_P (j : Nat) : Nat := 0x4003040C + 0x1000 * (j / 32) + 0x40 * (j % 32)
/-- THM.B_P (09 R320). -/
def THM_B_P (j : Nat) : Nat := 0x40030410 + 0x1000 * (j / 32) + 0x40 * (j % 32)
/-- THM.B_B (09 R320). -/
def THM_B_B (j : Nat) : Nat := 0x40030414 + 0x1000 * (j / 32) + 0x40 * (j % 32)
/-- THM.C_B (09 R320). -/
def THM_C_B (j : Nat) : Nat := 0x40030418 + 0x1000 * (j / 32) + 0x40 * (j % 32)
/-- THM.HOR_F (09 R320). -/
def THM_HOR_F (j : Nat) : Nat := 0x4003041C + 0x1000 * (j / 32) + 0x40 * (j % 32)
/-- THM.PTHR (09 R320). -/
def THM_PTHR (j : Nat) : Nat := 0x40030420 + 0x1000 * (j / 32) + 0x40 * (j % 32)
/-- THM.CTHR (09 R320). -/
def THM_CTHR (j : Nat) : Nat := 0x40030424 + 0x1000 * (j / 32) + 0x40 * (j % 32)
/-- THM.HYS (09 R320). -/
def THM_HYS (j : Nat) : Nat := 0x40030428 + 0x1000 * (j / 32) + 0x40 * (j % 32)
/-- THM.BANDS (09 R320). -/
def THM_BANDS (j : Nat) : Nat := 0x4003042C + 0x1000 * (j / 32) + 0x40 * (j % 32)
/-- THM.OSTAT (09 R320). -/
def THM_OSTAT (j : Nat) : Nat := 0x40030430 + 0x1000 * (j / 32) + 0x40 * (j % 32)
/-- THM.TPIN01 (09 R320). -/
def THM_TPIN01 (j : Nat) : Nat := 0x40030434 + 0x1000 * (j / 32) + 0x40 * (j % 32)
/-- THM.TPIN23 (09 R320). -/
def THM_TPIN23 (j : Nat) : Nat := 0x40030438 + 0x1000 * (j / 32) + 0x40 * (j % 32)
/-- THM.TCOOL (09 R320). -/
def THM_TCOOL (j : Nat) : Nat := 0x4003043C + 0x1000 * (j / 32) + 0x40 * (j % 32)
/-- PRT.UP (10 R348). -/
def PRT_UP : Nat := 0x40032040
/-- PRT.DEGR (10 R348). -/
def PRT_DEGR : Nat := 0x40032044
/-- PRT.TP_GCFG (11 R386). -/
def PRT_TP_GCFG : Nat := 0x40032048
/-- PRT.MISS (11 R386). -/
def PRT_MISS : Nat := 0x4003204C
/-- PRT.LOST (11 R386). -/
def PRT_LOST : Nat := 0x40032050
/-- PRT.MAPn (01 R16). -/
def PRT_MAP (j : Nat) : Nat := 0x40032400 + 0x40 * j
/-- PRT.PHY_CFG (10 R348). -/
def PRT_PHY_CFG (j : Nat) : Nat := 0x40032404 + 0x40 * j
/-- PRT.PHY_STAT (10 R348). -/
def PRT_PHY_STAT (j : Nat) : Nat := 0x40032408 + 0x40 * j
/-- PRT.PHY_TRAIN (10 R348). -/
def PRT_PHY_TRAIN (j : Nat) : Nat := 0x4003240C + 0x40 * j
/-- PRT.PHY_TAPS (10 R348). -/
def PRT_PHY_TAPS (j : Nat) : Nat := 0x40032410 + 0x40 * j
/-- PRT.PHY_EYE (10 R348). -/
def PRT_PHY_EYE (j : Nat) : Nat := 0x40032414 + 0x40 * j
/-- PRT.PHY_CNT (10 R348). -/
def PRT_PHY_CNT (j : Nat) : Nat := 0x40032418 + 0x40 * j
/-- PRT.PERR (10 R348). -/
def PRT_PERR (j : Nat) : Nat := 0x4003241C + 0x40 * j
/-- PRT.TP_STAT (11 R386). -/
def PRT_TP_STAT (j : Nat) : Nat := 0x40032420 + 0x40 * j
/-- PRT.TP_SEQ (11 R386). -/
def PRT_TP_SEQ (j : Nat) : Nat := 0x40032424 + 0x40 * j
/-- PRT.TP_SIZE (11 R386). -/
def PRT_TP_SIZE (j : Nat) : Nat := 0x40032428 + 0x40 * j
/-- PRT.TP_CNT (11 R386). -/
def PRT_TP_CNT (j : Nat) : Nat := 0x4003242C + 0x40 * j
/-- PRT.TP_ERR (11 R386). -/
def PRT_TP_ERR (j : Nat) : Nat := 0x40032430 + 0x40 * j
/-- PRT.TP_NODE (11 R386). -/
def PRT_TP_NODE (j : Nat) : Nat := 0x40032434 + 0x40 * j
/-- PRT.TUN_STAT (11 R386). -/
def PRT_TUN_STAT (j : Nat) : Nat := 0x40032438 + 0x40 * j
/-- PRT.TUN_CNT (11 R386). -/
def PRT_TUN_CNT (j : Nat) : Nat := 0x4003243C + 0x40 * j
/-- MIR.STAT (17 R610). -/
def MIR_STAT : Nat := 0x40033040
/-- MIR.ANCHOR (17 R610). -/
def MIR_ANCHOR : Nat := 0x40033044
/-- MIR.LOAD (17 R610). -/
def MIR_LOAD : Nat := 0x40033048
/-- MIR.CMP (17 R610). -/
def MIR_CMP : Nat := 0x4003304C
/-- MIR.CMP_X (17 R610). -/
def MIR_CMP_X : Nat := 0x40033050
/-- MIR.IN_DIFF (17 R610). -/
def MIR_IN_DIFF : Nat := 0x40033054
/-- MIR.CNT (17 R610). -/
def MIR_CNT : Nat := 0x40033058
/-- MIR.LANE (17 R610). -/
def MIR_LANE (j : Nat) : Nat := 0x40033400 + 0x40 * j
/-- QN.CFG (17 R610). -/
def QN_CFG : Nat := 0x40034040
/-- QN.STAT (17 R610). -/
def QN_STAT : Nat := 0x40034044
/-- QN.EVT (17 R610). -/
def QN_EVT : Nat := 0x40034048
/-- QN.CTRL (17 R610). -/
def QN_CTRL : Nat := 0x4003404C
/-- QN.SWAP (17 R610). -/
def QN_SWAP : Nat := 0x40034050
/-- QN.SWAP_AT (17 R610). -/
def QN_SWAP_AT : Nat := 0x40034054
/-- QN.PARTNER (17 R610). -/
def QN_PARTNER : Nat := 0x40034058
/-- QN.CFG_CRC (17 R610). -/
def QN_CFG_CRC : Nat := 0x4003405C
/-- QN.PCFG_CRC (17 R610). -/
def QN_PCFG_CRC : Nat := 0x40034060
/-- QN.CNT (17 R610). -/
def QN_CNT : Nat := 0x40034064
/-- QN.ST_RES (17 R610). -/
def QN_ST_RES : Nat := 0x40034068
/-- HTH.CFG (15 R543). -/
def HTH_CFG : Nat := 0x50000040
/-- HTH.STAT (15 R543). -/
def HTH_STAT : Nat := 0x50000044
/-- HTH.EVT (15 R543). -/
def HTH_EVT : Nat := 0x50000048
/-- HTH.CFG_CRC (15 R543). -/
def HTH_CFG_CRC : Nat := 0x5000004C
/-- HTH.CFG_FAIL (15 R543). -/
def HTH_CFG_FAIL : Nat := 0x50000050
/-- HTH.FN_RUN (15 R543). -/
def HTH_FN_RUN : Nat := 0x50000054
/-- HTH.OSTOP_LO (15 R543). -/
def HTH_OSTOP_LO : Nat := 0x50000058
/-- HTH.OSTOP_HI (15 R543). -/
def HTH_OSTOP_HI : Nat := 0x5000005C
/-- HTH.FNk_CFG (15 R543). -/
def HTH_FN_CFG (k : Nat) : Nat := 0x50000100 + 32 * k
/-- HTH.FNk_IN (15 R543). -/
def HTH_FN_IN (k : Nat) : Nat := 0x50000104 + 32 * k
/-- HTH.FNk_OUT (15 R543). -/
def HTH_FN_OUT (k : Nat) : Nat := 0x50000108 + 32 * k
/-- HTH.FNk_OLET_LO (15 R543). -/
def HTH_FN_OLET_LO (k : Nat) : Nat := 0x5000010C + 32 * k
/-- HTH.FNk_OLET_HI (15 R543). -/
def HTH_FN_OLET_HI (k : Nat) : Nat := 0x50000110 + 32 * k
/-- HTH.FNk_TIME (15 R543). -/
def HTH_FN_TIME (k : Nat) : Nat := 0x50000114 + 32 * k
/-- HTH.FNk_STAT (15 R543). -/
def HTH_FN_STAT (k : Nat) : Nat := 0x50000118 + 32 * k
/-- HTH.IN_CFG (15 R543). -/
def HTH_IN_CFG (j : Nat) : Nat := 0x50000400 + 0x40 * j
/-- HTH.IN_TIME (15 R543). -/
def HTH_IN_TIME (j : Nat) : Nat := 0x50000404 + 0x40 * j
/-- HTH.IN_STAT (15 R543). -/
def HTH_IN_STAT (j : Nat) : Nat := 0x50000408 + 0x40 * j
/-- HTH.IN_CNT (15 R543). -/
def HTH_IN_CNT (j : Nat) : Nat := 0x5000040C + 0x40 * j
/-- HTH.OUT_CFG (15 R543). -/
def HTH_OUT_CFG (j : Nat) : Nat := 0x50001400 + 0x40 * j
/-- HTH.RST_STAT (15 R543). -/
def HTH_RST_STAT (j : Nat) : Nat := 0x50001400 + 0x40 * j
/-- HTH.TP_CFG (15 R543). -/
def HTH_TP_CFG (j : Nat) : Nat := 0x50001400 + 0x40 * j
/-- HTH.OUT_STAT (15 R543). -/
def HTH_OUT_STAT (j : Nat) : Nat := 0x50001404 + 0x40 * j
/-- HTH.RST_CNT (15 R543). -/
def HTH_RST_CNT (j : Nat) : Nat := 0x50001404 + 0x40 * j
/-- HTH.RP_CFG (16 R565). -/
def HTH_RP_CFG (j : Nat) : Nat := 0x50002400 + 0x1000 * (j / 64) + 0x20 * (j % 64)
/-- HTH.RP_STAT (16 R565). -/
def HTH_RP_STAT (j : Nat) : Nat := 0x50002404 + 0x1000 * (j / 64) + 0x20 * (j % 64)
/-- HTH.RP_CNT (16 R565). -/
def HTH_RP_CNT (j : Nat) : Nat := 0x50002408 + 0x1000 * (j / 64) + 0x20 * (j % 64)
/-- SFN.CFG (16 R565). -/
def SFN_CFG : Nat := 0x50004040
/-- SFN.EVT (16 R565). -/
def SFN_EVT : Nat := 0x50004044
/-- SFN.CNT (16 R565). -/
def SFN_CNT : Nat := 0x50004048
/-- SFN.TXSEQ (16 R565). -/
def SFN_TXSEQ : Nat := 0x5000404C
/-- SFN.PARTNER (16 R565). -/
def SFN_PARTNER : Nat := 0x50004050
/-- SFN.SRCs (16 R565). -/
def SFN_SRC (k : Nat) : Nat := 0x50004100 + 8 * k
/-- SFN.SRCs_STAT (16 R565). -/
def SFN_SRC_STAT (k : Nat) : Nat := 0x50004104 + 8 * k
/-- MET.CFG (13 R459). -/
def MET_CFG : Nat := 0x60000040
/-- MET.STAT (13 R459). -/
def MET_STAT : Nat := 0x60000044
/-- MET.EVT (13 R459). -/
def MET_EVT : Nat := 0x60000048
/-- MET.EPOCH_NO (13 R459). -/
def MET_EPOCH_NO : Nat := 0x6000004C
/-- MET.EPOCH_TS_LO (13 R459). -/
def MET_EPOCH_TS_LO : Nat := 0x60000050
/-- MET.EPOCH_TS_HI (13 R459). -/
def MET_EPOCH_TS_HI : Nat := 0x60000054
/-- MET.EPOCH_LEN (13 R459). -/
def MET_EPOCH_LEN : Nat := 0x60000058
/-- MET.BAL_CFG (13 R459). -/
def MET_BAL_CFG : Nat := 0x60000060
/-- MET.BAL_ABS (13 R459). -/
def MET_BAL_ABS : Nat := 0x60000064
/-- MET.LOSS_FIX (13 R459). -/
def MET_LOSS_FIX : Nat := 0x60000068
/-- MET.BAL_MIS (13 R459). -/
def MET_BAL_MIS : Nat := 0x60000070
/-- MET.BAL_BAND (13 R459). -/
def MET_BAL_BAND : Nat := 0x60000074
/-- MET.BAL_BATT (13 R459). -/
def MET_BAL_BATT : Nat := 0x60000078
/-- MET.BAL_AUX (13 R459). -/
def MET_BAL_AUX : Nat := 0x6000007C
/-- MET.BAL_LOSS (13 R459). -/
def MET_BAL_LOSS : Nat := 0x60000080
/-- MET.M64_ACC_LO (13 R459). -/
def MET_M64_ACC_LO : Nat := 0x60000114
/-- MET.M64_ACC_HI (13 R459). -/
def MET_M64_ACC_HI : Nat := 0x60000118
/-- MET.M64_BILL (13 R459). -/
def MET_M64_BILL : Nat := 0x6000011C
/-- MET.M64_MSTAT (13 R459). -/
def MET_M64_MSTAT : Nat := 0x60000120
/-- MET.M64_REV (13 R459). -/
def MET_M64_REV : Nat := 0x60000124
/-- MET.M64_GAPS (13 R459). -/
def MET_M64_GAPS : Nat := 0x60000128
/-- MET.EXP_LO (13 R459). -/
def MET_EXP_LO : Nat := 0x60000140
/-- MET.EXP_HI (13 R459). -/
def MET_EXP_HI : Nat := 0x60000144
/-- MET.PF_STAT (13 R459). -/
def MET_PF_STAT : Nat := 0x60000180
/-- MET.PF_CNT (13 R459). -/
def MET_PF_CNT : Nat := 0x60000184
/-- MET.PF_GAP (13 R459). -/
def MET_PF_GAP : Nat := 0x60000188
/-- MET.BAK_CFG (13 R459). -/
def MET_BAK_CFG : Nat := 0x600001A0
/-- MET.BAK_STAT (13 R459). -/
def MET_BAK_STAT : Nat := 0x600001A4
/-- MET.CWS_SECS (13 R459). -/
def MET_CWS_SECS : Nat := 0x600001A8
/-- MET.CWS_MAH (13 R459). -/
def MET_CWS_MAH : Nat := 0x600001AC
/-- MET.SEAL (13 R459). -/
def MET_SEAL : Nat := 0x600001C0
/-- MET.CAL_SEQ (13 R459). -/
def MET_CAL_SEQ : Nat := 0x600001C4
/-- MET.CCFG (13 R459). -/
def MET_CCFG (j : Nat) : Nat := 0x60000400 + 0x40 * j
/-- MET.CGAIN (13 R459). -/
def MET_CGAIN (j : Nat) : Nat := 0x60000404 + 0x40 * j
/-- MET.COFS (13 R459). -/
def MET_COFS (j : Nat) : Nat := 0x60000408 + 0x40 * j
/-- MET.CRATIO (13 R459). -/
def MET_CRATIO (j : Nat) : Nat := 0x6000040C + 0x40 * j
/-- MET.CRMS (13 R459). -/
def MET_CRMS (j : Nat) : Nat := 0x60000410 + 0x40 * j
/-- MET.MCFG (13 R459). -/
def MET_MCFG (j : Nat) : Nat := 0x60001400 + 0x1000 * (j / 32) + 0x40 * (j % 32)
/-- MET.GAIN_V (13 R459). -/
def MET_GAIN_V (j : Nat) : Nat := 0x60001404 + 0x1000 * (j / 32) + 0x40 * (j % 32)
/-- MET.OFS_V (13 R459). -/
def MET_OFS_V (j : Nat) : Nat := 0x60001408 + 0x1000 * (j / 32) + 0x40 * (j % 32)
/-- MET.GAIN_I (13 R459). -/
def MET_GAIN_I (j : Nat) : Nat := 0x6000140C + 0x1000 * (j / 32) + 0x40 * (j % 32)
/-- MET.OFS_I (13 R459). -/
def MET_OFS_I (j : Nat) : Nat := 0x60001410 + 0x1000 * (j / 32) + 0x40 * (j % 32)
/-- MET.ACC_LO (13 R459). -/
def MET_ACC_LO (j : Nat) : Nat := 0x60001414 + 0x1000 * (j / 32) + 0x40 * (j % 32)
/-- MET.ACC_HI (13 R459). -/
def MET_ACC_HI (j : Nat) : Nat := 0x60001418 + 0x1000 * (j / 32) + 0x40 * (j % 32)
/-- MET.BILL (13 R459). -/
def MET_BILL (j : Nat) : Nat := 0x6000141C + 0x1000 * (j / 32) + 0x40 * (j % 32)
/-- MET.MSTAT (13 R459). -/
def MET_MSTAT (j : Nat) : Nat := 0x60001420 + 0x1000 * (j / 32) + 0x40 * (j % 32)
/-- MET.REV (13 R459). -/
def MET_REV (j : Nat) : Nat := 0x60001424 + 0x1000 * (j / 32) + 0x40 * (j % 32)
/-- MET.GAPS (13 R459). -/
def MET_GAPS (j : Nat) : Nat := 0x60001428 + 0x1000 * (j / 32) + 0x40 * (j % 32)
/-- MET.SEQ_NEXT (13 R459). -/
def MET_SEQ_NEXT (j : Nat) : Nat := 0x6000142C + 0x1000 * (j / 32) + 0x40 * (j % 32)
/-- MET.KEY0 (13 R459). -/
def MET_KEY0 (j : Nat) : Nat := 0x60001430 + 0x1000 * (j / 32) + 0x40 * (j % 32)
/-- MET.KEY1 (13 R459). -/
def MET_KEY1 (j : Nat) : Nat := 0x60001434 + 0x1000 * (j / 32) + 0x40 * (j % 32)
/-- MET.KEY2 (13 R459). -/
def MET_KEY2 (j : Nat) : Nat := 0x60001438 + 0x1000 * (j / 32) + 0x40 * (j % 32)
/-- MET.KEY3 (13 R459). -/
def MET_KEY3 (j : Nat) : Nat := 0x6000143C + 0x1000 * (j / 32) + 0x40 * (j % 32)
/-- TRF.CAL_CFG (14 R505). -/
def TRF_CAL_CFG : Nat := 0x60003040
/-- TRF.DEF_CAP (14 R505). -/
def TRF_DEF_CAP : Nat := 0x60003044
/-- TRF.CAL_CRC (14 R505). -/
def TRF_CAL_CRC : Nat := 0x60003048
/-- TRF.DEM_CFG (14 R505). -/
def TRF_DEM_CFG : Nat := 0x6000304C
/-- TRF.BILL_CFG (14 R505). -/
def TRF_BILL_CFG : Nat := 0x60003050
/-- TRF.TIME_CFG (14 R505). -/
def TRF_TIME_CFG : Nat := 0x60003054
/-- TRF.TIME_STAT (14 R505). -/
def TRF_TIME_STAT : Nat := 0x60003058
/-- TRF.NOWk (14 R505). -/
def TRF_NOW (k : Nat) : Nat := 0x60003060 + 4 * k
/-- TRF.IN_FORCE (14 R505). -/
def TRF_IN_FORCE : Nat := 0x60003070
/-- TRF.CAP (14 R505). -/
def TRF_CAP : Nat := 0x60003074
/-- TRF.DEM_LAST (14 R505). -/
def TRF_DEM_LAST : Nat := 0x60003080
/-- TRF.DEM_FLAGS (14 R505). -/
def TRF_DEM_FLAGS : Nat := 0x60003084
/-- TRF.DEM_MAX (14 R505). -/
def TRF_DEM_MAX : Nat := 0x60003088
/-- TRF.DEM_LAST_TS0 (14 R505). -/
def TRF_DEM_LAST_TS0 : Nat := 0x6000308C
/-- TRF.DEM_LAST_TS1 (14 R505). -/
def TRF_DEM_LAST_TS1 : Nat := 0x60003090
/-- TRF.DEM_MAX_TS0 (14 R505). -/
def TRF_DEM_MAX_TS0 : Nat := 0x60003094
/-- TRF.DEM_MAX_TS1 (14 R505). -/
def TRF_DEM_MAX_TS1 : Nat := 0x60003098
/-- TRF.PERIOD_NO (14 R505). -/
def TRF_PERIOD_NO : Nat := 0x6000309C
/-- TRF.PERIOD_TS0 (14 R505). -/
def TRF_PERIOD_TS0 : Nat := 0x600030A0
/-- TRF.PERIOD_TS1 (14 R505). -/
def TRF_PERIOD_TS1 : Nat := 0x600030A4
/-- TRF.SETTLE_NO (14 R505). -/
def TRF_SETTLE_NO : Nat := 0x600030A8
/-- TRF.RNO_NEXT (14 R505). -/
def TRF_RNO_NEXT : Nat := 0x600030AC
/-- TRF.LOG_NO (14 R505). -/
def TRF_LOG_NO : Nat := 0x600030B0
/-- TRF.REC_STAT (14 R505). -/
def TRF_REC_STAT : Nat := 0x600030B4
/-- TRF.SESS_LO (14 R505). -/
def TRF_SESS_LO : Nat := 0x600030B8
/-- TRF.SESS_HI (14 R505). -/
def TRF_SESS_HI : Nat := 0x600030BC
/-- TRF.COLO_VER (14 R505). -/
def TRF_COLO_VER : Nat := 0x600030C0
/-- TRF.COLO_CRC (14 R505). -/
def TRF_COLO_CRC : Nat := 0x600030C4
/-- TRF.COLO_SEQ (14 R505). -/
def TRF_COLO_SEQ : Nat := 0x600030C8
/-- TRF.EVT (14 R505). -/
def TRF_EVT : Nat := 0x600030E0
/-- TRF.REC_INFO (14 R505). -/
def TRF_REC_INFO : Nat := 0x600030E4
/-- TRF.REC_NUM (14 R505). -/
def TRF_REC_NUM : Nat := 0x600030E8
/-- TRF.SERIAL_LO (14 R505). -/
def TRF_SERIAL_LO : Nat := 0x600030F0
/-- TRF.SERIAL_HI (14 R505). -/
def TRF_SERIAL_HI : Nat := 0x600030F4
/-- TRF.REC_Wk (14 R505). -/
def TRF_REC_W (k : Nat) : Nat := 0x60003100 + 4 * k
/-- TRF.PUBk (14 R505). -/
def TRF_PUB (k : Nat) : Nat := 0x60003300 + 4 * k
/-- TRF.COLO_DIGk (14 R505). -/
def TRF_COLO_DIG (k : Nat) : Nat := 0x60003340 + 4 * k
/-- TMP.ANY (14 R505). -/
def TMP_ANY : Nat := 0x60004040
/-- TMP.TOTAL (14 R505). -/
def TMP_TOTAL : Nat := 0x60004044
/-- TMP.COUNT (14 R505). -/
def TMP_COUNT (j : Nat) : Nat := 0x60004400 + 0x20 * j
/-- TMP.FIRST_S (14 R505). -/
def TMP_FIRST_S (j : Nat) : Nat := 0x60004404 + 0x20 * j
/-- TMP.FIRST_X (14 R505). -/
def TMP_FIRST_X (j : Nat) : Nat := 0x60004408 + 0x20 * j
/-- TMP.LAST_S (14 R505). -/
def TMP_LAST_S (j : Nat) : Nat := 0x6000440C + 0x20 * j
/-- TMP.LAST_X (14 R505). -/
def TMP_LAST_X (j : Nat) : Nat := 0x60004410 + 0x20 * j
/-- TMP.AUX (14 R505). -/
def TMP_AUX (j : Nat) : Nat := 0x60004414 + 0x20 * j
/-- SES.PCFG (12 R411). -/
def SES_PCFG (i : Nat) : Nat := 0x70000040 + 0x1000 * i
/-- SES.SCFG (12 R411). -/
def SES_SCFG (i : Nat) : Nat := 0x70000044 + 0x1000 * i
/-- SES.RESERVE (12 R411). -/
def SES_RESERVE (i : Nat) : Nat := 0x70000048 + 0x1000 * i
/-- SES.RING_LO (12 R411). -/
def SES_RING_LO (i : Nat) : Nat := 0x7000004C + 0x1000 * i
/-- SES.RING_HI (12 R411). -/
def SES_RING_HI (i : Nat) : Nat := 0x70000050 + 0x1000 * i
/-- SES.DEM_I (06 R175). -/
def SES_DEM_I (j : Nat) : Nat := 0x70000400 + 0x1000 * (j / 32) + 0x40 * (j % 32)
/-- SES.DEM_V (06 R175). -/
def SES_DEM_V (j : Nat) : Nat := 0x70000404 + 0x1000 * (j / 32) + 0x40 * (j % 32)
/-- SES.STATE (12 R411). -/
def SES_STATE (j : Nat) : Nat := 0x70000408 + 0x1000 * (j / 32) + 0x40 * (j % 32)
/-- SES.CMD (12 R411). -/
def SES_CMD (j : Nat) : Nat := 0x7000040C + 0x1000 * (j / 32) + 0x40 * (j % 32)
/-- SES.EVT (12 R411). -/
def SES_EVT (j : Nat) : Nat := 0x70000410 + 0x1000 * (j / 32) + 0x40 * (j % 32)
/-- SES.CREDIT (12 R411). -/
def SES_CREDIT (j : Nat) : Nat := 0x70000414 + 0x1000 * (j / 32) + 0x40 * (j % 32)
/-- SES.CREDIT_SET (12 R411). -/
def SES_CREDIT_SET (j : Nat) : Nat := 0x70000418 + 0x1000 * (j / 32) + 0x40 * (j % 32)
/-- SES.TIMER (12 R411). -/
def SES_TIMER (j : Nat) : Nat := 0x7000041C + 0x1000 * (j / 32) + 0x40 * (j % 32)
/-- SES.TUN (12 R411). -/
def SES_TUN (j : Nat) : Nat := 0x70000420 + 0x1000 * (j / 32) + 0x40 * (j % 32)
/-- SES.TUN_SW (12 R411). -/
def SES_TUN_SW (j : Nat) : Nat := 0x70000424 + 0x1000 * (j / 32) + 0x40 * (j % 32)
/-- SES.ENERGY (12 R411). -/
def SES_ENERGY (j : Nat) : Nat := 0x70000428 + 0x1000 * (j / 32) + 0x40 * (j % 32)
/-- CAN.RING_LO (18 R632). -/
def CAN_RING_LO : Nat := 0x70003040
/-- CAN.RING_HI (18 R632). -/
def CAN_RING_HI : Nat := 0x70003044
/-- CAN.CTL (18 R632). -/
def CAN_CTL (c : Nat) : Nat := if c = 7 then 0x50005400 else 0x70003400 + 0x100 * c
/-- CAN.NBT (18 R632). -/
def CAN_NBT (c : Nat) : Nat := if c = 7 then 0x50005404 else 0x70003404 + 0x100 * c
/-- CAN.DBT (18 R632). -/
def CAN_DBT (c : Nat) : Nat := if c = 7 then 0x50005408 else 0x70003408 + 0x100 * c
/-- CAN.STAT (18 R632). -/
def CAN_STAT (c : Nat) : Nat := if c = 7 then 0x5000540C else 0x7000340C + 0x100 * c
/-- CAN.ECNT (18 R632). -/
def CAN_ECNT (c : Nat) : Nat := if c = 7 then 0x50005410 else 0x70003410 + 0x100 * c
/-- CAN.HW_IDX (18 R632). -/
def CAN_HW_IDX (c : Nat) : Nat := if c = 7 then 0x50005414 else 0x70003414 + 0x100 * c
/-- CAN.SW_IDX (18 R632). -/
def CAN_SW_IDX (c : Nat) : Nat := if c = 7 then 0x50005418 else 0x70003418 + 0x100 * c
/-- CAN.LOST (18 R632). -/
def CAN_LOST (c : Nat) : Nat := if c = 7 then 0x5000541C else 0x7000341C + 0x100 * c
/-- CAN.CNT (18 R632). -/
def CAN_CNT (c : Nat) : Nat := if c = 7 then 0x50005420 else 0x70003420 + 0x100 * c
/-- CAN.EVT (18 R632). -/
def CAN_EVT (c : Nat) : Nat := if c = 7 then 0x50005424 else 0x70003424 + 0x100 * c
/-- CAN.IRQ_EN (18 R632). -/
def CAN_IRQ_EN (c : Nat) : Nat := if c = 7 then 0x50005428 else 0x70003428 + 0x100 * c
/-- CAN.CMD (18 R632). -/
def CAN_CMD (c : Nat) : Nat := if c = 7 then 0x5000542C else 0x7000342C + 0x100 * c
/-- CAN.TX_TS_LO (18 R632). -/
def CAN_TX_TS_LO (c : Nat) : Nat := if c = 7 then 0x50005430 else 0x70003430 + 0x100 * c
/-- CAN.TX_TS_HI (18 R632). -/
def CAN_TX_TS_HI (c : Nat) : Nat := if c = 7 then 0x50005434 else 0x70003434 + 0x100 * c
/-- CAN.TX_TAG (18 R632). -/
def CAN_TX_TAG (c : Nat) : Nat := if c = 7 then 0x50005438 else 0x70003438 + 0x100 * c
/-- HDG.CFG (19 R657). -/
def HDG_CFG : Nat := 0x70004040
/-- HDG.ROUTE (19 R657). -/
def HDG_ROUTE : Nat := 0x70004044
/-- HDG.NOTCHk (19 R657). -/
def HDG_NOTCH (k : Nat) : Nat := 0x70004048 + 4 * k
/-- HDG.STAT (19 R657). -/
def HDG_STAT : Nat := 0x70004058
/-- HDG.EVT (19 R657). -/
def HDG_EVT : Nat := 0x7000405C
/-- HDG.RING_LO (19 R657). -/
def HDG_RING_LO : Nat := 0x70004060
/-- HDG.RING_HI (19 R657). -/
def HDG_RING_HI : Nat := 0x70004064
/-- HDG.HW_IDX (19 R657). -/
def HDG_HW_IDX : Nat := 0x70004068
/-- HDG.SW_IDX (19 R657). -/
def HDG_SW_IDX : Nat := 0x7000406C
/-- HDG.CNT (19 R657). -/
def HDG_CNT : Nat := 0x70004070
/-- HDG.LINE (19 R657). -/
def HDG_LINE : Nat := 0x70004074
/-- PWM.TRIP_CFGt (20 R675). -/
def PWM_TRIP_CFG (k : Nat) : Nat := 0x70005040 + 4 * k
/-- PWM.TRIP_STAT (20 R675). -/
def PWM_TRIP_STAT : Nat := 0x70005058
/-- PWM.STAT (20 R675). -/
def PWM_STAT : Nat := 0x7000505C
/-- PWM.LOAD_ALL (20 R675). -/
def PWM_LOAD_ALL : Nat := 0x70005060
/-- PWM.TRIP_CLR (20 R675). -/
def PWM_TRIP_CLR : Nat := 0x70005064
/-- PWM.EVT (20 R675). -/
def PWM_EVT : Nat := 0x70005068
/-- PWM.TRIP_CNT (20 R675). -/
def PWM_TRIP_CNT : Nat := 0x7000506C
/-- PWM.CH_CFG (20 R675). -/
def PWM_CH_CFG (j : Nat) : Nat := 0x70005400 + 0x40 * j
/-- PWM.CH_DT (20 R675). -/
def PWM_CH_DT (j : Nat) : Nat := 0x70005404 + 0x40 * j
/-- PWM.SH_PERIOD (20 R675). -/
def PWM_SH_PERIOD (j : Nat) : Nat := 0x70005408 + 0x40 * j
/-- PWM.SH_CMP (20 R675). -/
def PWM_SH_CMP (j : Nat) : Nat := 0x7000540C + 0x40 * j
/-- PWM.ACT_PERIOD (20 R675). -/
def PWM_ACT_PERIOD (j : Nat) : Nat := 0x70005410 + 0x40 * j
/-- PWM.ACT_CMP (20 R675). -/
def PWM_ACT_CMP (j : Nat) : Nat := 0x70005414 + 0x40 * j
/-- PWM.CH_STAT (20 R675). -/
def PWM_CH_STAT (j : Nat) : Nat := 0x70005418 + 0x40 * j
/-- ASW.CMD (21 R693). -/
def ASW_CMD : Nat := 0x70006040
/-- ASW.STAT (21 R693). -/
def ASW_STAT : Nat := 0x70006044
/-- ASW.EVT (21 R693). -/
def ASW_EVT : Nat := 0x70006048
/-- ASW.CLR (21 R693). -/
def ASW_CLR : Nat := 0x7000604C
/-- ASW.CH_CFG (21 R693). -/
def ASW_CH_CFG (j : Nat) : Nat := 0x70006400 + 0x40 * j
/-- ASW.CH_I2T (21 R693). -/
def ASW_CH_I2T (j : Nat) : Nat := 0x70006404 + 0x40 * j
/-- ASW.CH_LIM (21 R693). -/
def ASW_CH_LIM (j : Nat) : Nat := 0x70006408 + 0x40 * j
/-- ASW.CH_STAT (21 R693). -/
def ASW_CH_STAT (j : Nat) : Nat := 0x7000640C + 0x40 * j
/-- ASW.CH_CUR (21 R693). -/
def ASW_CH_CUR (j : Nat) : Nat := 0x70006410 + 0x40 * j
/-- ASW.CH_CNT (21 R693). -/
def ASW_CH_CNT (j : Nat) : Nat := 0x70006414 + 0x40 * j
/-- HKP.DIE_CFG (09 R320). -/
def HKP_DIE_CFG : Nat := 0x70007040
/-- HKP.DIE_STAT (09 R320). -/
def HKP_DIE_STAT : Nat := 0x70007044
/-- HKP.EVT (09 R320). -/
def HKP_EVT : Nat := 0x70007048
/-- HKP.COMP (09 R320). -/
def HKP_COMP : Nat := 0x7000704C
/-- HKP.ROUND (09 R320). -/
def HKP_ROUND : Nat := 0x70007050
/-- HKP.CH_CFG (09 R320). -/
def HKP_CH_CFG (j : Nat) : Nat := 0x70007400 + 0x20 * j
/-- HKP.CH_LIM (09 R320). -/
def HKP_CH_LIM (j : Nat) : Nat := 0x70007404 + 0x20 * j
/-- HKP.CH_VAL (09 R320). -/
def HKP_CH_VAL (j : Nat) : Nat := 0x70007408 + 0x20 * j
/-- HKP.CH_TS_LO (09 R320). -/
def HKP_CH_TS_LO (j : Nat) : Nat := 0x7000740C + 0x20 * j
/-- HKP.CH_TS_HI (09 R320). -/
def HKP_CH_TS_HI (j : Nat) : Nat := 0x70007410 + 0x20 * j
/-- PWR.CFG (22 R709). -/
def PWR_CFG : Nat := 0x70008040
/-- PWR.STAT (22 R709). -/
def PWR_STAT : Nat := 0x70008044
/-- PWR.EVT (22 R709). -/
def PWR_EVT : Nat := 0x70008048
/-- PWR.RST_CAUSE (22 R709). -/
def PWR_RST_CAUSE : Nat := 0x7000804C
/-- PWR.RST_CMD (22 R709). -/
def PWR_RST_CMD : Nat := 0x70008050
/-- PWR.RAIL_FLT (22 R709). -/
def PWR_RAIL_FLT : Nat := 0x70008054
/-- UPD.CMD (23 R724). -/
def UPD_CMD : Nat := 0x70009040
/-- UPD.STAT (23 R724). -/
def UPD_STAT : Nat := 0x70009044
/-- UPD.MET_ADDR_LO (23 R724). -/
def UPD_MET_ADDR_LO : Nat := 0x70009048
/-- UPD.MET_ADDR_HI (23 R724). -/
def UPD_MET_ADDR_HI : Nat := 0x7000904C
/-- UPD.MET_LEN (23 R724). -/
def UPD_MET_LEN : Nat := 0x70009050
/-- UPD.HTH_PROG (23 R724). -/
def UPD_HTH_PROG : Nat := 0x70009054
/-- UPD.EVT (23 R724). -/
def UPD_EVT : Nat := 0x70009058
/-- ETH.CFG (24 R744). -/
def ETH_CFG (i : Nat) : Nat := 0x7000A040 + 0x1000 * i
/-- ETH.STAT (24 R744). -/
def ETH_STAT (i : Nat) : Nat := 0x7000A044 + 0x1000 * i
/-- ETH.PTP_CFG (24 R744). -/
def ETH_PTP_CFG : Nat := 0x7000A048
/-- ETH.PTP_ADJ (24 R744). -/
def ETH_PTP_ADJ : Nat := 0x7000A04C
/-- ETH.PTP_NOW_NS (24 R744). -/
def ETH_PTP_NOW_NS : Nat := 0x7000A050
/-- ETH.PTP_NOW_S_LO (24 R744). -/
def ETH_PTP_NOW_S_LO : Nat := 0x7000A054
/-- ETH.PTP_NOW_S_HI (24 R744). -/
def ETH_PTP_NOW_S_HI : Nat := 0x7000A058
/-- ETH.PTP_STEP_S (24 R744). -/
def ETH_PTP_STEP_S : Nat := 0x7000A05C
/-- ETH.PTP_STEP_NS (24 R744). -/
def ETH_PTP_STEP_NS : Nat := 0x7000A060
/-- ETH.BND_NS (24 R744). -/
def ETH_BND_NS : Nat := 0x7000A064
/-- ETH.BND_S_LO (24 R744). -/
def ETH_BND_S_LO : Nat := 0x7000A068
/-- ETH.BND_S_HI (24 R744). -/
def ETH_BND_S_HI : Nat := 0x7000A06C
/-- DDR.STAT (24 R744). -/
def DDR_STAT : Nat := 0x7000C040
/-- DDR.ECC (24 R744). -/
def DDR_ECC : Nat := 0x7000C044
/-- DDR.UE_ADDR_LO (24 R744). -/
def DDR_UE_ADDR_LO : Nat := 0x7000C048
/-- DDR.UE_ADDR_HI (24 R744). -/
def DDR_UE_ADDR_HI : Nat := 0x7000C04C
/-- OSP.CORE (24 R744). -/
def OSP_CORE : Nat := 0x7000D040
/-- OSP.BOOT (24 R744). -/
def OSP_BOOT : Nat := 0x7000D044
/-- OSP.FL_CMD (24 R744). -/
def OSP_FL_CMD : Nat := 0x7000D048
/-- OSP.FL_ADDR (24 R744). -/
def OSP_FL_ADDR : Nat := 0x7000D04C
/-- OSP.FL_SRC_LO (24 R744). -/
def OSP_FL_SRC_LO : Nat := 0x7000D050
/-- OSP.FL_SRC_HI (24 R744). -/
def OSP_FL_SRC_HI : Nat := 0x7000D054
/-- OSP.FL_STAT (24 R744). -/
def OSP_FL_STAT : Nat := 0x7000D058
/-- OSP.GPIO_DIR (24 R744). -/
def OSP_GPIO_DIR : Nat := 0x7000D060
/-- OSP.GPIO_OD (24 R744). -/
def OSP_GPIO_OD : Nat := 0x7000D064
/-- OSP.GPIO_OUT (24 R744). -/
def OSP_GPIO_OUT : Nat := 0x7000D068
/-- OSP.GPIO_IN (24 R744). -/
def OSP_GPIO_IN : Nat := 0x7000D06C
/-- OSP.GPIO_EVT (24 R744). -/
def OSP_GPIO_EVT : Nat := 0x7000D070
/-- OSP.DBG (24 R744). -/
def OSP_DBG : Nat := 0x7000D074

/-- The base of crosspoint entry `16 * s + k` (R213). -/
def XPT_ENTRY (s k : Nat) : Nat := 0x48000000 + 4 * (16 * s + k)
/-- Word `i` of constraint-tree node `n` (R185). -/
def CXT_NODE (n i : Nat) : Nat := 0x48010000 + 16 * n + 4 * i
/-- Word `i` of the program of loop slot `s` (R247). -/
def CEN_PROG (s i : Nat) : Nat := 0x48020000 + 128 * s + 4 * i
/-- Point `i` of feed-forward table `t` (R263). -/
def CEN_LUT (t i : Nat) : Nat := 0x48040000 + 0x10000 * t + 4 * i
/-- Word `i` of event-log ring place `k` (R167). -/
def LOG_ENTRY (k i : Nat) : Nat := 0x48140000 + 16 * k + 4 * i
/-- Word `i` of calendar entry `e` (R471). -/
def TRF_CAL (e i : Nat) : Nat := 0x68000000 + 16 * e + 4 * i
/-- Word `i` of tariff register `r` of meter `m` (R475). -/
def TRF_REG (m r i : Nat) : Nat := 0x68010000 + 8 * (16 * m + r) + 4 * i
/-- The header registers of the page at `p` (R117). -/
def PG_CTRL (p : Nat) : Nat := p + 0x008
/-- PG_STAT of the page at `p`. -/
def PG_STAT (p : Nat) : Nat := p + 0x00C
/-- PG_ERR of the page at `p`. -/
def PG_ERR (p : Nat) : Nat := p + 0x010
/-- PG_ERRCNT of the page at `p`. -/
def PG_ERRCNT (p : Nat) : Nat := p + 0x014
/-- PG_FENCE of the page at `p`. -/
def PG_FENCE (p : Nat) : Nat := p + 0x018
/-- PG_SNAPSEQ of the page at `p`. -/
def PG_SNAPSEQ (p : Nat) : Nat := p + 0x020
/-- PG_GALLEY of the page at `p`. -/
def PG_GALLEY (p : Nat) : Nat := p + 0x024
/-- Word `k` of the fence map of the page at `p` (R111). -/
def PG_FENCEMAP (p k : Nat) : Nat := p + 0x380 + 4 * k

end Sys2Proof.Machine.Reg
end

