-- ==== Sys2Proof/Machine/State.lean ====
section
/-! DEFINITION. The state of the block as plain data: the command queue, LPDDR4X, the time base, and one part for each of
the Control and Service regions together (`Chip`), Heath and Metrology. Registers are held by address in sparse tables
that read their reset value where nothing is listed; every other field is state that the chapters give the machine
beside its registers. -/
namespace Sys2Proof.Machine

/-- Why a step stops with a fault. No command of the spec is given a stop, so no command raises one. -/
inductive Fault where
  /-- An access outside LPDDR4X's address space: raised by no command of this model (safe). -/
  | noMemory (addr : Nat)
  deriving DecidableEq, Repr

/-- Why a step refuses a command. -/
inductive Refusal where
  /-- The command has no meaning in the model; raised by the dispatch arm of such a command (safe). -/
  | notModelled (mnemonic : String)
  deriving DecidableEq, Repr

/-- The Control and Service regions with the chip page. -/
structure Chip where
  /-- Registers and window words of the Control and Service regions (04 R113 to R119). -/
  regs : RegTable := []
  /-- The committed configuration image in MRAM: staged words as of the last marker (05 R156). -/
  image : RegTable := []
  /-- The event-log ring by place (05 R167). -/
  log : List (Nat × LogEntry) := []
  /-- The readers of the snapshot banks by plane number: control, data, management (05 R163). -/
  snaps : List (Nat × SnapPlane) := []
  /-- Each plane's latch of the time words (02 R73). -/
  now : List (Nat × NowLatch) := []
  /-- The frame engine (ch. 2). -/
  frm : FrameSt := {}
  /-- The Galley (ch. 5). -/
  gal : Galley := {}
  /-- The fault hierarchy (ch. 3). -/
  flt : FaultSt := {}
  /-- The input image and node inputs (02 R36). -/
  img : Image := {}
  /-- The Allocator (ch. 6). -/
  alc : AlcSt := {}
  /-- The move sequencer (ch. 7). -/
  mov : MovSt := {}
  /-- The Control Engine (ch. 8). -/
  cen : CenSt := {}
  /-- MODEL'S OWN: how many free values the chip has drawn (log entry 7). -/
  drawn : Nat := 0
  /-- Cable cooling and temperature management (ch. 9). -/
  thm : ThmSt := {}
  /-- Its part of the MRAM fault record (09 R303). -/
  thmKept : ThmKept := {}
  /-- Housekeeping (ch. 9). -/
  hkp : HkpSt := {}
  /-- The ports' physical layer (ch. 10). -/
  phy : List (Nat × PhySt) := []
  /-- The ports' transport (ch. 11). -/
  tp : List (Nat × TpSt) := []
  /-- Sessions by outlet (ch. 12). -/
  ses : List (Nat × SesOut) := []
  /-- CRY jobs queued and not completed on the four rings (12 R408). -/
  cry : CrySt := {}
  /-- The pair (ch. 17). -/
  pair : PairSt := {}
  /-- The mirrored state as committed at the last boundary (03 R101). -/
  bnd : CtlCopy := {}
  /-- Galley items put on the mirror link in this frame, oldest first (05 R158 to R160). -/
  sent : List MirGal := []
  /-- What the last boundary committed of the other blocks (03 R101). -/
  own : OwnCopy := {}
  /-- CAN controllers 0 to 6 by number (ch. 18). -/
  can : List (Nat × CanSt) := []
  /-- Hedgerow (ch. 19). -/
  hdg : HdgSt := {}
  /-- The PWM channels by number (ch. 20). -/
  pwm : List (Nat × PwmCh) := []
  /-- The aux switches (ch. 21). -/
  asw : AswSt := {}
  /-- Supplies and resets (ch. 22). -/
  pwr : PowerSt := {}
  /-- Host, memory and debug interfaces (ch. 24). -/
  hif : HostSt := {}
  deriving DecidableEq, Repr

/-- The Heath region. -/
structure Heath where
  /-- Registers of the Heath pages (04 R113). -/
  regs : RegTable := []
  /-- The channels, networks and configuration (ch. 15 and 16). -/
  st : HthSt := {}
  /-- CAN controller 7 (ch. 18). -/
  can : CanSt := {}
  /-- What the last boundary committed (03 R101). -/
  bnd : HthCopy := {}
  /-- Controller 7's ring and FIFO in Heath-private SRAM, bytes from the ring's start (18 R619). -/
  sram : List Host.Cell := []
  /-- Log entries kept while the Control region restarts, oldest first, at most 16 (05 R169). -/
  kept : List LogEntry := []
  deriving DecidableEq, Repr

/-- The Metrology region. -/
structure Met where
  /-- Registers and window words of the Metrology pages (04 R113, R127). -/
  regs : RegTable := []
  /-- The pipeline, the core's work and the MRAM partition (ch. 13 and 14). -/
  st : MetSt := {}
  /-- The registers as the last boundary committed them (03 R101). -/
  bnd : RegTable := []
  /-- Log entries kept while the Control region restarts, oldest first, at most 16 (05 R169). -/
  kept : List LogEntry := []
  deriving DecidableEq, Repr

/-- The whole block. -/
structure State where
  /-- The commands that wait, first in, first out (the model's form of the block's inputs). -/
  pending : List Instr := []
  /-- The data that the last read command returned to its reader. -/
  rdata : Word := 0
  /-- LPDDR4X: bytes by address, addresses rising, none that equals what an unlisted address reads (24 R729). -/
  mem : List Host.Cell := []
  /-- The part and the time. -/
  env : Env := {}
  /-- The Control and Service regions and the chip page. -/
  chip : Chip := {}
  /-- The Heath region. -/
  heath : Heath := {}
  /-- The Metrology region. -/
  met : Met := {}
  deriving DecidableEq, Repr

/-- The machine right after reset: every register at its reset value, no command waiting, LPDDR4X with nothing listed,
frame 0 at its opening boundary, a part of variant OTZ-5120 with both straps low. -/
def State.reset : State := {}

end Sys2Proof.Machine
end

