-- ==== Sys2Proof/Machine/Ops.lean ====
section
/-! DEFINITION. The named operations that every meaning is made of: register access by region, event flags, the event log,
error flags, page and cell presence, region states and the frame's cuts. -/
namespace Sys2Proof.Machine

/-- A register word of a table. -/
def rget (m : RegTable) (a : Nat) : Word := tget regReset m a

/-- A table with one register word written. -/
def rset (m : RegTable) (a : Nat) (v : Word) : RegTable := tset regReset m a v

/-- A Control, Service or chip-page register. -/
def Chip.rd (c : Chip) (a : Nat) : Word := rget c.regs a
/-- A Control, Service or chip-page register written by the hardware. -/
def Chip.wr (c : Chip) (a : Nat) (v : Word) : Chip := { c with regs := rset c.regs a v }
/-- A register as a number. -/
def Chip.n (c : Chip) (a : Nat) : Nat := (c.rd a).toNat
/-- A field of a register. -/
def Chip.f (c : Chip) (a lo w : Nat) : Nat := fget (c.rd a) lo w
/-- A bit of a register. -/
def Chip.b (c : Chip) (a i : Nat) : Bool := fbit (c.rd a) i
/-- A field of a register set. -/
def Chip.setF (c : Chip) (a lo w x : Nat) : Chip := c.wr a (fset (c.rd a) lo w x)
/-- A bit of a register set or cleared. -/
def Chip.setB (c : Chip) (a i : Nat) (b : Bool) : Chip := c.wr a (fsetb (c.rd a) i b)
/-- A counting field advanced, stopping at its top. -/
def Chip.sat (c : Chip) (a lo w n : Nat) : Chip := c.setF a lo w (satAdd w (c.f a lo w) n)
/-- A counting field advanced, wrapping at its width. -/
def Chip.wrap (c : Chip) (a lo w n : Nat) : Chip := c.setF a lo w (c.f a lo w + n)

/-- A Heath register. -/
def Heath.rd (h : Heath) (a : Nat) : Word := rget h.regs a
/-- A Heath register written by the hardware. -/
def Heath.wr (h : Heath) (a : Nat) (v : Word) : Heath := { h with regs := rset h.regs a v }
/-- A Heath register as a number. -/
def Heath.n (h : Heath) (a : Nat) : Nat := (h.rd a).toNat
/-- A field of a Heath register. -/
def Heath.f (h : Heath) (a lo w : Nat) : Nat := fget (h.rd a) lo w
/-- A bit of a Heath register. -/
def Heath.b (h : Heath) (a i : Nat) : Bool := fbit (h.rd a) i
/-- A field of a Heath register set. -/
def Heath.setF (h : Heath) (a lo w x : Nat) : Heath := h.wr a (fset (h.rd a) lo w x)
/-- A bit of a Heath register set or cleared. -/
def Heath.setB (h : Heath) (a i : Nat) (b : Bool) : Heath := h.wr a (fsetb (h.rd a) i b)
/-- A counting field of a Heath register advanced, stopping at its top. -/
def Heath.sat (h : Heath) (a lo w n : Nat) : Heath := h.setF a lo w (satAdd w (h.f a lo w) n)

/-- A Metrology register. -/
def Met.rd (m : Met) (a : Nat) : Word := rget m.regs a
/-- A Metrology register written by the hardware. -/
def Met.wr (m : Met) (a : Nat) (v : Word) : Met := { m with regs := rset m.regs a v }
/-- A Metrology register as a number. -/
def Met.n (m : Met) (a : Nat) : Nat := (m.rd a).toNat
/-- A field of a Metrology register. -/
def Met.f (m : Met) (a lo w : Nat) : Nat := fget (m.rd a) lo w
/-- A bit of a Metrology register. -/
def Met.b (m : Met) (a i : Nat) : Bool := fbit (m.rd a) i
/-- A field of a Metrology register set. -/
def Met.setF (m : Met) (a lo w x : Nat) : Met := m.wr a (fset (m.rd a) lo w x)
/-- A bit of a Metrology register set or cleared. -/
def Met.setB (m : Met) (a i : Nat) (b : Bool) : Met := m.wr a (fsetb (m.rd a) i b)
/-- A counting field of a Metrology register advanced, stopping at its top. -/
def Met.sat (m : Met) (a lo w n : Nat) : Met := m.setF a lo w (satAdd w (m.f a lo w) n)
/-- A 64-bit value in two consecutive words, the low-order word first (R7). -/
def Met.n64 (m : Met) (a : Nat) : Nat := m.n a + 2 ^ 32 * m.n (a + 4)
/-- A 64-bit value written to two consecutive words. -/
def Met.wr64 (m : Met) (a v : Nat) : Met := (m.wr a (word v)).wr (a + 4) (word (v / 2 ^ 32))

/-- An effect on the Control and Service regions alone. -/
def onChip (f : Env → Chip → Chip) (s : State) : State := { s with chip := f s.env s.chip }

/-- The stamp of the present cycle: the frame number over the offset (R71). -/
def TimeBase.stamp (t : TimeBase) : BitVec 64 := BitVec.ofNat 64 (t.frameNo.toNat * 65536 + t.offset % 65536)
/-- SITE_TIME of the present cycle (R73). -/
def TimeBase.site (t : TimeBase) : Nat := (t.bndTime.toNat + t.offset) % 2 ^ 64

/-- The cuts of a frame: nominal length, bundle cut-off, Solve, Emit and Mirror/Impose starts, engine budgets. -/
structure Cuts where
  nom : Nat
  cut : Nat
  solve : Nat
  emit : Nat
  mirror : Nat
  alc : Nat
  cen : Nat
  deriving DecidableEq, Repr

/-- Table: Frame periods and phase cuts (R32). -/
def cutsOf (period : Nat) : Cuts :=
  if period = 0 then ⟨20000, 4000, 4800, 13600, 17600, 4800, 4000⟩
  else if period = 1 then ⟨25000, 5000, 6000, 17000, 22000, 6000, 5000⟩
  else if period = 2 then ⟨40000, 8000, 9600, 27200, 35200, 9600, 8000⟩
  else ⟨50000, 10000, 12000, 34000, 44000, 12000, 10000⟩

/-- The frame period in force (FRM.CFG.PERIOD, R31). -/
def Chip.period (c : Chip) : Nat := c.f Reg.FRM_CFG 0 2
/-- The cuts of the period in force. -/
def Chip.cuts (c : Chip) : Cuts := cutsOf c.period
/-- The frame period in microseconds (R32). -/
def periodUs (p : Nat) : Nat := if p = 0 then 100 else if p = 1 then 125 else if p = 2 then 200 else 250
/-- The frames that last at least `ms` milliseconds at a period (R57). -/
def framesOfMs (p ms : Nat) : Nat := (ms * 1000 + periodUs p - 1) / periodUs p

/-- The identification words of a variant (R2). -/
def variantWord : Variant → Word
  | .v5120 => 0x51008E20
  | .v5120N => 0x51018620
  | .v5116 => 0x51028A10
  | .v5108 => 0x51034808
/-- CHIP.SIZE of a variant (R2). -/
def sizeWord : Variant → Word
  | .v5120 | .v5120N => 0x02004000
  | .v5116 => 0x01002000
  | .v5108 => 0x00801000
/-- HaralLink ports present (R2). -/
def Part.ports (p : Part) : Nat := fget (variantWord p.variant) 0 8
/-- Stage slots present (R2). -/
def Part.stages (p : Part) : Nat := fget (sizeWord p.variant) 16 16
/-- Outlets present (R2). -/
def Part.outlets (p : Part) : Nat := fget (sizeWord p.variant) 8 8
/-- The Metrology region is present (R2). -/
def Part.hasMet (p : Part) : Bool := fbit (variantWord p.variant) 11
/-- The Hedgerow network is present (R2). -/
def Part.hasHdg (p : Part) : Bool := fbit (variantWord p.variant) 10
/-- The motion axes are present (R2). -/
def Part.hasAxes (p : Part) : Bool := fbit (variantWord p.variant) 9

/-- The page is present on the part (R131). -/
def pagePresent (p : Part) (g : Page) : Bool :=
  match g.kind with
  | .alcS | .xpt | .movS => g.inst * 64 < p.stages
  | .thm | .ses => g.inst * 32 < p.outlets || g.inst == 0
  | .hdg => p.hasHdg
  | .met0 | .trf | .tmp => p.hasMet
  | .metO => p.hasMet && (g.inst == 1 || decide (32 < p.outlets))
  | _ => true

/-- The cells of a page that are present (PG_CAP[15:0], R131). -/
def pageCells (p : Part) (g : Page) : Nat :=
  if !pagePresent p g then 0 else
  match g.kind with
  | .alcO => p.outlets
  | .thm | .ses | .metO => min 32 p.outlets
  | .prt => p.ports
  | .cenAx => if p.hasAxes then 8 else 0
  | .can => if g.inst = 1 then 1 else if p.variant = .v5108 then 3 else 7
  | _ => g.cells

/-- The entries of a window that are present, in bytes (R127, R131). -/
def windowPresent (p : Part) (w : Window) : Nat :=
  if w.base = 0x48000000 then 64 * p.stages
  else if w.write = 2 ∨ w.base = 0x68010000 then (if p.hasMet then w.bytes else 0)
  else w.bytes

/-- The number of a plane's code (R123). -/
def planeCode : Plane → Nat
  | .control => 0 | .data => 1 | .management => 2 | .heath => 3 | .metrology => 4

/-- The plane of a code. -/
def planeOf : Nat → Plane
  | 0 => .control | 1 => .data | 2 => .management | 3 => .heath | _ => .metrology

/-- The number of a region in CHIP.FAULT_A and CHIP.RGN_STAT order. -/
def regionCode : Region → Nat
  | .control => 0 | .service => 1 | .heath => 2 | .metrology => 3

/-- The region of an address (Table: Region bases). -/
def regionOf (a : Nat) : Region :=
  if a / 0x10000000 = 5 then .heath else if a / 0x10000000 = 6 then .metrology
  else if a / 0x10000000 = 7 then .service else .control

/-- The bit position of a region's state in CHIP.RGN_STAT. -/
def statBit : Region → Nat
  | .control => 0 | .service => 2 | .heath => 4 | .metrology => 6

/-- A region's state: 0 running, 1 restarting, 2 held, 3 absent (CHIP.RGN_STAT). -/
def Chip.rgn (c : Chip) (r : Region) : Nat := c.f Reg.CHIP_RGN_STAT (statBit r) 2
/-- A region's state set. -/
def Chip.setRgn (c : Chip) (r : Region) (x : Nat) : Chip := c.setF Reg.CHIP_RGN_STAT (statBit r) 2 x
/-- The Control region runs. -/
def Chip.ctl (c : Chip) : Bool := c.rgn .control == 0
/-- The Service region runs. -/
def Chip.svc (c : Chip) : Bool := c.rgn .service == 0

/-- Word 2 of a log entry (R167). -/
def srcWord (type inst cls : Nat) : Word := word (type % 65536 * 65536 + inst % 256 * 256 + cls % 256)

/-- The rank of the region whose unit appends an entry (R30): 0 Heath, whose CAN page is INSTANCE 1, 1 Metrology, 2 Control, 3 Service
and the software entries. -/
def logRank (src : Word) : Nat :=
  let type := fget src 16 16
  if type = 0x04 ∧ fget src 0 8 < 0xF0 then 3
  else if type = 0x22 ∧ fget src 8 8 = 1 then 0
  else if 0x40 ≤ type then 0 else if 0x30 ≤ type then 1 else if 0x20 ≤ type then 3 else 2

/-- An entry goes before another one of its cycle: its region ranks higher (R30), or both are of CAN FD controllers 0 to 6 and its
controller's number is lower (R630). -/
def logBefore (en p : LogEntry) : Bool :=
  decide (logRank en.src < logRank p.src) ||
    (en.src / 256 == 0x2200 && p.src / 256 == 0x2200 && decide (fget en.src 0 8 < 0xF0) && decide (fget p.src 0 8 < 0xF0) &&
      decide (fget en.detail 0 3 < fget p.detail 0 3))

/-- Entry `k` of the ring (R167). -/
def logAt (log : List (Nat × LogEntry)) (k : Nat) : LogEntry := tget (fun _ => ({} : LogEntry)) log (k % 4096)

/-- Where an entry goes that arrives when `w` are stored: before the entries of its own cycle whose region ranks lower (R30). The three
entries of a time anchor count as one (R74). `n` bounds the search to the ring. -/
def logPlace (log : List (Nat × LogEntry)) (en : LogEntry) : Nat → Nat → Nat
  | 0, w => w
  | n + 1, w =>
    let back := if (logAt log (w - 1)).src = srcWord 0x02 0 0x0A then 3 else 1
    let p := logAt log (w - back)
    if back ≤ w ∧ p.ts = en.ts ∧ logBefore en p = true then logPlace log en n (w - back) else w

/-- The place at which an entry is stored that arrives now. -/
def Chip.logNext (c : Chip) (en : LogEntry) : Nat := logPlace c.log en 4096 (c.n Reg.CHIP_LOG_WR)

/-- An entry stored (R167), in its place among those of its cycle (R30). -/
def Chip.put (c : Chip) (en : LogEntry) : Chip :=
  let w := c.n Reg.CHIP_LOG_WR
  let p := c.logNext en
  let moved := (List.range (w - p)).foldl (fun l i => tset (fun _ => ({} : LogEntry)) l ((w - i) % 4096) (logAt c.log (w - i - 1))) c.log
  { c with log := tset (fun _ => ({} : LogEntry)) moved (p % 4096) en }.wr Reg.CHIP_LOG_WR (word (w + 1))

/-- The place of an entry among the newest ones of its cycle. -/
def logFind (log : List (Nat × LogEntry)) (en : LogEntry) : Nat → Nat → Option Nat
  | 0, _ => none
  | n + 1, w =>
    if w = 0 then none
    else if logAt log (w - 1) = en then some (w - 1)
    else if (logAt log (w - 1)).ts = en.ts then logFind log en n (w - 1) else none

/-- An entry of the present cycle is not made after all: what another event of the cycle decides first leaves no trace of it (R346). -/
def Chip.unput (c : Chip) (en : LogEntry) : Chip :=
  let w := c.n Reg.CHIP_LOG_WR
  match logFind c.log en 4096 w with
  | none => c
  | some p =>
    let moved := (List.range (w - 1 - p)).foldl (fun l i => tset (fun _ => ({} : LogEntry)) l ((p + i) % 4096) (logAt c.log (p + i + 1))) c.log
    { c with log := tset (fun _ => ({} : LogEntry)) moved ((w - 1) % 4096) {} }.wr Reg.CHIP_LOG_WR (word (w - 1))

/-- An entry of a Control or Service unit with a stamp of its own (R167); lost and counted while the Control region does
not run (R169). -/
def Chip.putAt (c : Chip) (en : LogEntry) : Chip :=
  if c.ctl then c.put en else c.sat Reg.CHIP_LOG_LOST 0 16 1

/-- An entry stamped with the present cycle. -/
def Chip.log1 (c : Chip) (e : Env) (type inst cls detail : Nat) : Chip :=
  c.putAt ⟨e.time.stamp, srcWord type inst cls, word detail⟩

/-- Entries of Heath or Metrology: appended in order while the Control region runs; else up to 16 are kept by the region
with their stamps and the rest counted (R169). Answers the chip and what the region keeps. -/
def Chip.putOrKeep (c : Chip) (kept : List LogEntry) : List LogEntry → Chip × List LogEntry
  | [] => (c, kept)
  | en :: t =>
    if c.ctl then (c.put en).putOrKeep kept t
    else if kept.length < 16 then c.putOrKeep (kept ++ [en]) t
    else (c.sat Reg.CHIP_LOG_LOST 0 16 1).putOrKeep kept t

/-- What a Heath effect asks to be logged: class and detail under a type and number. -/
structure LogReq where
  type : Nat
  inst : Nat
  cls : Nat
  detail : Nat
  deriving DecidableEq, Repr

/-- A request as an entry stamped with the present cycle. -/
def LogReq.entry (e : Env) (r : LogReq) : LogEntry := ⟨e.time.stamp, srcWord r.type r.inst r.cls, word r.detail⟩

/-- An effect on Heath alone, with the entries that it appends to the event log. -/
def onHeath (f : Env → Heath → Heath × List LogReq) (s : State) : State :=
  let r := f s.env s.heath
  let q := s.chip.putOrKeep r.1.kept (r.2.map (·.entry s.env))
  { s with chip := q.1, heath := { r.1 with kept := q.2 } }

/-- An effect on Metrology alone, with the entries that it appends to the event log. -/
def onMet (f : Env → Met → Met × List LogReq) (s : State) : State :=
  let r := f s.env s.met
  let q := s.chip.putOrKeep r.1.kept (r.2.map (·.entry s.env))
  { s with chip := q.1, met := { r.1 with kept := q.2 } }

/-- A flag of a page's PG_ERR set by the hardware; a flag that rises with ERR_LOG = 1 is logged (class 0xF1, R170). -/
def Chip.perr (c : Chip) (e : Env) (page i : Nat) : Chip :=
  let d := c.setB (Reg.PG_ERR page) i true
  if !c.b (Reg.PG_ERR page) i && c.b (Reg.PG_CTRL page) 16 then
    match pageAt page with
    | some g => d.log1 e g.type g.inst 0xF1 (2 ^ i)
    | none => d
  else d

/-- The same for a Heath page: the new region and what it logs. -/
def Heath.perr (h : Heath) (page i : Nat) : Heath × List LogReq :=
  let d := h.setB (Reg.PG_ERR page) i true
  if !h.b (Reg.PG_ERR page) i && h.b (Reg.PG_CTRL page) 16 then
    match pageAt page with
    | some g => (d, [⟨g.type, g.inst, 0xF1, 2 ^ i⟩])
    | none => (d, [])
  else (d, [])

/-- The same for a Metrology page. -/
def Met.perr (m : Met) (page i : Nat) : Met × List LogReq :=
  let d := m.setB (Reg.PG_ERR page) i true
  if !m.b (Reg.PG_ERR page) i && m.b (Reg.PG_CTRL page) 16 then
    match pageAt page with
    | some g => (d, [⟨g.type, g.inst, 0xF1, 2 ^ i⟩])
    | none => (d, [])
  else (d, [])

/-- A PG_ERR flag set in whatever region the page lies. -/
def State.perr (s : State) (page i : Nat) : State :=
  match regionOf page with
  | .heath => onHeath (fun _ h => h.perr page i) s
  | .metrology => onMet (fun _ m => m.perr page i) s
  | _ => onChip (fun e c => c.perr e page i) s

/-- A word of the register map of any region. -/
def State.rd (s : State) (a : Nat) : Word :=
  match regionOf a with
  | .heath => s.heath.rd a
  | .metrology => s.met.rd a
  | _ => s.chip.rd a

/-- A word of the register map of any region written. -/
def State.wr (s : State) (a : Nat) (v : Word) : State :=
  match regionOf a with
  | .heath => { s with heath := s.heath.wr a v }
  | .metrology => { s with met := s.met.wr a v }
  | _ => { s with chip := s.chip.wr a v }

/-- An address in a fence map. -/
def inFenceMap (a : Nat) : Bool := match pageAt a with | some g => decide (0x380 ≤ a - g.base) && decide (a - g.base < 0x400) | none => false

/-- The fence-map words tell whether a cell of a page of Control or Service is fenced (R111). -/
def Chip.fenced (c : Chip) (page j : Nat) : Bool := c.b (Reg.PG_FENCEMAP page (j / 32)) (j % 32)
/-- A cell of a Heath page is fenced (R111). -/
def Heath.fenced (h : Heath) (page j : Nat) : Bool := h.b (Reg.PG_FENCEMAP page (j / 32)) (j % 32)
/-- A cell of a Metrology page is fenced (R111). -/
def Met.fenced (m : Met) (page j : Nat) : Bool := m.b (Reg.PG_FENCEMAP page (j / 32)) (j % 32)

/-- The ALC page of a stage slot. -/
def alcPage (s : Nat) : Nat := 0x40004000 + 0x1000 * (s / 64)
/-- A stage slot is fenced (R774: its bit shows in all its pages). -/
def Chip.stageFenced (c : Chip) (s : Nat) : Bool := c.fenced (alcPage s) (s % 64)
/-- An outlet is fenced (R774). -/
def Chip.outletFenced (c : Chip) (o : Nat) : Bool := c.fenced 0x4000C000 o
/-- A port is fenced. -/
def Chip.portFenced (c : Chip) (n : Nat) : Bool := c.fenced 0x40032000 n
/-- A loop slot is fenced. -/
def Chip.slotFenced (c : Chip) (s : Nat) : Bool := c.fenced (0x4001F000 + 0x1000 * (s / 64)) (s % 64)

/-- The pair role in QN.STAT: 0 SOLO, 1 ACTIVE, 2 STANDBY, 3 JOINING, 4 BARRED (Table: Pair roles). -/
def Chip.roleIs (c : Chip) (r : Nat) : Bool := c.f Reg.QN_STAT 29 3 == r

/-- Repeat an effect for each number below `n`, in rising order. -/
def eachBelow {α : Type} (n : Nat) (f : Nat → α → α) (a : α) : α := (List.range n).foldl (fun x i => f i x) a

/-- Repeat an effect for each element of a list, in order. -/
def eachOf {α β : Type} (l : List β) (f : β → α → α) (a : α) : α := l.foldl (fun x i => f i x) a

end Sys2Proof.Machine
end

