-- ==== Sys2Proof/Machine/Access.lean ====
section
/-! DEFINITION. Software accesses: the write checks of R125 in their order, staging into the Galley's lists (R138 to R141),
the drop record (R134), the effect of a write under its access code (R11), and reads through the snapshot banks (R163). -/
namespace Sys2Proof.Machine

/-- The number of a plane's own Galley slot: control 0, data 1, management 2 (R124). -/
def planeSlot (p : Plane) : Nat := planeCode p

/-- A Galley slot's state in GAL.STATE (ch. 5): 0 IDLE, 1 OPEN, 2 PROVING, 3 PROVED, 4 COMMITTED, 5 IMPOSED, 6 FAILED,
7 ROLLED_BACK. -/
def Chip.slotState (c : Chip) (k : Nat) : Nat := c.f (Reg.GAL_STATE k) 28 4
/-- A slot is open while it is OPEN, PROVING or PROVED (R136). -/
def Chip.slotOpen (c : Chip) (k : Nat) : Bool := c.slotState k == 1 || c.slotState k == 2 || c.slotState k == 3
/-- What a slot holds beside its registers. -/
def Chip.slot (c : Chip) (k : Nat) : GalSlot := tget (fun _ => {}) c.gal.slots k
/-- The same written. -/
def Chip.setSlot (c : Chip) (k : Nat) (g : GalSlot) : Chip :=
  { c with gal := { c.gal with slots := tset (fun _ => ({} : GalSlot)) c.gal.slots k g } }

/-- The open slot that a plane holds: its own, or the pair slot that it opened (R136). -/
def Chip.openSlot (c : Chip) (p : Plane) : Option Nat :=
  if planeCode p < 3 ∧ c.slotOpen (planeSlot p) then some (planeSlot p)
  else if c.slotOpen 3 ∧ c.f (Reg.GAL_FAIL_INFO 3) 29 3 = planeCode p then some 3
  else none

/-- The page whose PG_ERR and PG_GALLEY take what concerns an address: its own, or its window's first page (R127). -/
def homePage (a : Nat) : Option Nat :=
  match pageAt a with
  | some g => some g.base
  | none => (windowAt a).map (·.page)

/-- The entries of one slot that are staged for a page. -/
def Chip.stagedFor (c : Chip) (page k : Nat) : Nat :=
  if c.slotOpen k then ((c.slot k).list.filter (fun x => homePage x.1 == some page)).length else 0

/-- PG_GALLEY of a page formed from the open slots: a bit for each slot with words, and the words (R139). -/
def Chip.refreshGalley (c : Chip) (page : Nat) : Chip :=
  let n := [0, 1, 2, 3].map (c.stagedFor page)
  let bits := (List.range 4).foldl (fun x k => if 0 < n.getD k 0 then x + 2 ^ k else x) 0
  c.wr (Reg.PG_GALLEY page) (word (bits * 2 ^ 28 + min 4096 n.sum))

/-- PG_GALLEY of every page that a list of entries touches. -/
def Chip.refreshGalleys (c : Chip) (l : List (Nat × Word)) : Chip :=
  (l.filterMap (fun x => homePage x.1)).eraseDups.foldl (fun c p => c.refreshGalley p) c

/-- The rank of the region whose requester carries a plane code (R134): Heath 0, Metrology 1, and 3 for the cores, the debug port and the
DMA engines of Service. The frame engine and the Control engines, rank 2, make no recorded access. -/
def requesterRank : Plane → Nat
  | .heath => 0 | .metrology => 1 | _ => 3

/-- An access recorded in the chip page under R114 or R130: the flag of PG_ERR, COUNT, and DROP_ADDR and DROP_INFO, which keep the access of a
requester that ranks lower in the same cycle (R134). -/
def Chip.dropRecord (c : Chip) (e : Env) (p : Plane) (a : Nat) (unmapped read : Bool) : Chip :=
  let n := satAdd 16 (c.f Reg.CHIP_DROP_INFO 0 16) 1
  let d := c.perr e 0x40000000 (if unmapped then 7 else 6)
  let kept : Bool := match c.flt.dropAt with | some (t, r) => t == e.time.up && decide (requesterRank p < r) | none => false
  if kept then d.setF Reg.CHIP_DROP_INFO 0 16 n
  else
    let d1 := (d.wr Reg.CHIP_DROP_ADDR (word a)).wr Reg.CHIP_DROP_INFO
      (word (planeCode p * 2 ^ 29 + (if unmapped then 2 ^ 28 else 0) + (if read then 2 ^ 27 else 0) + n))
    { d1 with flt := { d1.flt with dropAt := some (e.time.up, requesterRank p) } }

/-- The legal place of an address: the page's word, a window word, or nothing. -/
inductive Place where
  | unmapped
  | absent (staged : Bool)
  | reg (page : Page) (d : RegDesc) (j : Nat)
  | blank (page : Page)
  | win (w : Window) (inEntry : Bool)
  deriving DecidableEq, Repr

/-- A register that is written through the Galley. -/
def isStaged (d : RegDesc) : Bool := d.acc == .rws

/-- Where a word address lies on this part (R114, R119, R127 to R130). On a part without Metrology the TRF windows are absent up to their last
entry, and what follows it is taken as reserved words of a window (DESIGN CHOICE, log entry 50). -/
def placeOf (pt : Part) (a : Nat) : Place :=
  match pageAt a with
  | some g =>
    let r := regAt g a
    let st := match r with | some (d, _) => isStaged d | none => false
    if !pagePresent pt g then .absent st
    else match r with
      | some (d, j) =>
        if d.cell ∧ pageCells pt g ≤ j then .absent st else .reg g d j
      | none =>
        if 0x400 ≤ a - g.base ∧ 0 < g.stride ∧ pageCells pt g ≤ (a - g.base - 0x400) / g.stride
            ∧ (a - g.base - 0x400) / g.stride < g.cells then .absent false
        else .blank g
  | none =>
    match windowAt a with
    | some w =>
      let o := a - w.base
      if o < windowPresent pt w then .win w true
      else if o < w.bytes then .absent (w.write == 0)
      else .win w false
    | none => .unmapped

/-- The owner check of R124 and R125 for a page: the page's owner, but the cells of GAL and SNP have their own; the pair
slot's words are its opener's while the transaction runs, and any plane's else. What lies past the cells is the page's (R119). -/
def Chip.ownerOk (c : Chip) (g : Page) (a : Nat) (p : Plane) : Bool :=
  let off := a - g.base
  if off < 0x400 then planeCode p == g.owner
  else match g.kind with
    | .gal =>
      let k := (off - 0x400) / 0x100
      if k = 3 then
        (if c.slotOpen 3 || c.slotState 3 == 4 then c.f (Reg.GAL_FAIL_INFO 3) 29 3 == planeCode p
         else planeCode p ≤ 2)
      else planeCode p == (if k < 3 then k else g.owner)
    | .snp => planeCode p == (if (off - 0x400) / 0x40 < 3 then (off - 0x400) / 0x40 else g.owner)
    | _ => planeCode p == g.owner

/-- A fenced cell's words take no write (check 6); the fence map itself does. -/
def Chip.cellFenced (c : Chip) (g : Page) (a : Nat) : Bool :=
  let off := a - g.base
  if off < 0x400 ∨ g.stride = 0 then false else c.fenced g.base ((off - 0x400) / g.stride)

/-- The same for a page of any region. -/
def State.cellFenced (s : State) (g : Page) (a : Nat) : Bool :=
  let off := a - g.base
  match regionOf g.base with
  | .heath => if off < 0x400 ∨ g.stride = 0 then false else s.heath.fenced g.base ((off - 0x400) / g.stride)
  | .metrology => if off < 0x400 ∨ g.stride = 0 then false else s.met.fenced g.base ((off - 0x400) / g.stride)
  | _ => s.chip.cellFenced g a

/-- The cell that a window word belongs to: a crosspoint entry to its stage slot, a program word to its loop slot (R127). -/
def winCell (a : Nat) : Option (Nat × Nat) :=
  if 0x48000000 ≤ a ∧ a < 0x48008000 then
    let s := (a - 0x48000000) / 64
    some (0x4000E000 + 0x1000 * (s / 64), s % 64)
  else if 0x48020000 ≤ a ∧ a < 0x48040000 then
    let s := (a - 0x48020000) / 128
    some (0x4001F000 + 0x1000 * (s / 64), s % 64)
  else none

/-- A window word of a fenced cell (check 6). -/
def Chip.winFenced (c : Chip) (a : Nat) : Bool := match winCell a with | some x => c.fenced x.1 x.2 | none => false

/-- A word whose staging makes the pass deep (R149): a port map word, a word of the crosspoint, constraint-tree or
loop-program windows, or FRM.CFG with another PERIOD. -/
def isDeep (c : Chip) (a : Nat) (v : Word) : Bool :=
  (List.range 32).any (fun n => Reg.PRT_MAP n == a) || (decide (0x48000000 ≤ a) && decide (a < 0x48040000))
    || (a == Reg.FRM_CFG && fget v 0 2 != c.period)

/-- The mirror link is up: UP4 or UP3 (MIR.STAT.LINK). -/
def Chip.linkUp (c : Chip) : Bool := c.f Reg.MIR_STAT 29 3 == 3 || c.f Reg.MIR_STAT 29 3 == 4

/-- What an erased byte of flash reads. -/
def flashBlank (_ : Nat) : Byte := 0xFF
/-- A byte of a slot. -/
def flashByte (h : HostSt) (slot a : Nat) : Byte := tget flashBlank h.flash (2 ^ 25 * slot + a)
/-- Consecutive bytes of a slot. -/
def flashTake (h : HostSt) (slot a n : Nat) : List Byte := (List.range n).map (fun i => flashByte h slot (a + i))
/-- A word of a slot. -/
def flashWord (h : HostSt) (slot a : Nat) : Nat := (flashTake h slot a 4).foldr (fun b x => b.toNat + 256 * x) 0
/-- RUN_SLOT and CONF_SLOT (OSP.BOOT). -/
def runSlot (c : Chip) : Nat := c.f Reg.OSP_BOOT 28 1
def confSlot (c : Chip) : Nat := c.f Reg.OSP_BOOT 27 1
/-- The session checkpoint format level of the image that runs (CKPT_LVL, R712, R727). -/
def ckptLevel (c : Chip) : BitVec 8 := BitVec.ofNat 8 (flashWord c.hif (runSlot c) 0xC / 2 ^ 16)

/-- An item of slot 0, slot 1 or the pair slot goes to the partner (R158, R160). -/
def Chip.forward (k : Nat) (g : MirGal) (c : Chip) : Chip := if k != 2 && c.linkUp then { c with sent := c.sent ++ [g] } else c

/-- The same of the ACTIVE chip alone. -/
def Chip.lead (k : Nat) (g : MirGal) (c : Chip) : Chip := if c.roleIs 1 then c.forward k g else c

/-- A word joins the open slot's list, which forwards it, or is dropped with LIST_FULL or STAGE_LATE (R139 to R141). -/
def Chip.stage (c : Chip) (e : Env) (k a : Nat) (v : Word) : Chip :=
  let s := c.slot k
  if c.slotState k = 2 then c.perr e 0x40002000 16
  else if 4096 ≤ s.list.length then (c.setB (Reg.GAL_LIST k) 31 true).perr e 0x40002000 17
  else
    let d := c.setSlot k { s with list := s.list ++ [(a, v)] }
    let d := d.setF (Reg.GAL_LIST k) 0 13 (s.list.length + 1)
    let d := if isDeep c a v then d.setB (Reg.GAL_LIST k) 30 true else d
    let d := if c.slotState k = 3 then d.setF (Reg.GAL_STATE k) 28 4 1 else d
    let d := d.lead k (.entry (Fin.ofNat 4 k) s.list.length a v)
    match homePage a with
    | some g => d.refreshGalley g
    | none => d

/-- What the checks of R125 answer: dropped (with the flag already recorded), staged, or passed with the value to apply. -/
inductive Verdict where
  | dropped (s : State)
  | staged (s : State)
  | pass (s : State) (d : RegDesc) (v : Word)

/-- The bits of a window word that a write may set: those of a crosspoint entry (R213) and of a tree entry (R185), whose MEAS word
is read only; every bit of a program word or a feed-forward point, whose fields Proof checks (R285). -/
def winMask (base a : Nat) : Word :=
  if base = 0x48000000 then 0x803F0300
  else if base = 0x48010000 then
    (if a / 4 % 4 = 0 then 0xFFFF0000 else if a / 4 % 4 = 2 then 0 else if a / 4 % 4 = 3 then 0xFFFF03FF else 0xFFFFFFFF)
  else 0xFFFFFFFF

/-- The checks of R125 on a write of `size` bytes, in their order; the first that fails decides, and only its flag is set.
A word for the Galley from a plane with an open slot is staged after checks 1 to 6 (R138), also for an absent unit
(R132); its fields of code W1C act at once. A staged word of a Heath or Metrology page takes no direct write from its own region either
(R12): it is written through the safety configuration channel or the sealed path. -/
def checkWrite (s : State) (p : Plane) (a size : Nat) (v : Word) : Verdict :=
  match placeOf s.env.part (a / 4 * 4) with
  | .unmapped => .dropped (onChip (fun e c => c.dropRecord e p a true false) s)
  | .absent st =>
    let s1 := onChip (fun e c => c.dropRecord e p a false false) s
    let own := match pageAt a with | some g => g.owner | none => 0
    match (if st ∧ size = 4 ∧ a % 4 = 0 ∧ own < 3 ∧ planeCode p = own then s.chip.openSlot p else none) with
    | some k => .staged (onChip (fun e c => c.stage e k a v) s1)
    | none => .dropped s1
  | .reg g d _ =>
    if size ≠ 4 ∨ a % 4 ≠ 0 then .dropped (s.perr g.base 5)
    else if 3 ≤ g.owner ∧ planeCode p ≠ g.owner then .dropped (s.perr g.base 3)
    else if g.owner < 3 ∧ !s.chip.ownerOk g a p then .dropped (s.perr g.base 4)
    else if s.cellFenced g a then .dropped (s.perr g.base 13)
    else match d.acc with
      | .ro | .rc =>
        if d.w1c = 0 then .dropped (s.perr g.base 2)
        else .pass (if v &&& word d.rsv = 0 then s else s.perr g.base 0) d (v &&& ~~~ word d.rsv)
      | .rws =>
        match (if g.owner < 3 then s.chip.openSlot p else none) with
          | some k =>
            let s1 := if v &&& word d.rsv = 0 then s else s.perr g.base 0
            let s2 := if d.w1c = 0 then s1 else s1.wr a (s1.rd a &&& ~~~ (v &&& word d.w1c))
            .staged (onChip (fun e c => c.stage e k a (v &&& ~~~ word (d.rsv ||| d.w1c))) s2)
          | none => .dropped (s.perr g.base 1)
      | _ => .pass (if v &&& word d.rsv = 0 then s else s.perr g.base 0) d (v &&& ~~~ word d.rsv)
  | .blank g =>
    if size ≠ 4 ∨ a % 4 ≠ 0 then .dropped (s.perr g.base 5)
    else if 3 ≤ g.owner ∧ planeCode p ≠ g.owner then .dropped (s.perr g.base 3)
    else if g.owner < 3 ∧ !s.chip.ownerOk g a p then .dropped (s.perr g.base 4)
    else if s.cellFenced g a then .dropped (s.perr g.base 13)
    else .dropped (if v = 0 then s else s.perr g.base 0)
  | .win w inEntry =>
    let own := if w.write = 2 ∨ w.base = 0x68010000 then 4 else if w.page = 0x40000000 then 2 else 0
    if size ≠ 4 ∨ a % 4 ≠ 0 then .dropped (s.perr w.page 5)
    else if own = 4 ∧ planeCode p ≠ 4 then .dropped (s.perr w.page 3)
    else if planeCode p ≠ own then .dropped (s.perr w.page 4)
    else if s.chip.winFenced a then .dropped (s.perr w.page 13)
    else if !inEntry then .dropped (if v = 0 then s else s.perr w.page 0)
    else if w.write = 1 then .dropped (s.perr w.page 2)
    else if w.write = 2 then .dropped (s.perr w.page 3)
    else if winMask w.base a = 0 then .dropped (s.perr w.page 2)
    else match s.chip.openSlot p with
      | some k =>
        let s1 := if v &&& ~~~ winMask w.base a = 0 then s else s.perr w.page 0
        .staged (onChip (fun e c => c.stage e k a (v &&& winMask w.base a)) s1)
      | none => .dropped (s.perr w.page 1)

/-- A register after a write under its access codes (R11): written bits take the value, cleared bits clear, the rest
keep theirs; write-only bits read zero. -/
def applyCodes (d : RegDesc) (old v : Word) : Word :=
  (((old &&& ~~~ word d.rw) ||| (v &&& word d.rw)) &&& ~~~ (v &&& word d.w1c)) &&& ~~~ word d.wo

/-- An address whose region answers: the region is not in reset, or the word is the chip page's, or unmapped, which the chip page records
(R114). -/
def State.reaches (s : State) (a : Nat) : Bool :=
  decide (0x40000000 ≤ a ∧ a < 0x40001000) || homePage a == none || !(s.chip.rgn (regionOf a) == 1 || s.chip.rgn (regionOf a) == 2)

/-- The block of an address restarts and holds its requests (R101). -/
def State.holds (s : State) (a : Nat) : Bool := match homePage a with | some g => s.chip.flt.held.contains g | none => false

/-- A write that its block will take when its restart ends (R101). -/
def holdWrite (p : Plane) (a : Nat) (v : Word) (s : State) : State :=
  onChip (fun _ c => { c with flt := { c.flt with waitW := c.flt.waitW ++ [(planeCode p, a, v)] } }) s

/-- A software write to a register that has its own command: the checks, then the command's effect on the regions, given
the value with its reserved bits zero; a block that restarts takes it later (R101). An access to a region in reset has no effect (DESIGN
CHOICE, log entry 5). -/
def onWrite (p : Plane) (a : Nat) (v : Word) (f : Word → State → State) (s : State) : State :=
  if s.reaches a then
    match checkWrite s p a 4 v with
    | .dropped s' => s'
    | .staged s' => s'
    | .pass s' _ v' => if s.holds a then holdWrite p a v s else f v' s'
  else s

/-- What PG_ID, PG_CAP and PG_OWNER of a present page read (R116, R117, R124). -/
def pageHeader (pt : Part) (g : Page) (off : Nat) : Option Word :=
  if off = 0x000 then some (word (g.type * 65536 + g.inst * 256 + 1))
  else if off = 0x004 then
    some (word (2 ^ 31 + (if g.type = 0x14 ∧ pt.hasAxes then 2 ^ 16 else 0) + pageCells pt g))
  else if off = 0x01C then
    some (word (g.owner * 2 ^ 29 + (if g.kind = .gal ∨ g.kind = .snp then 2 ^ 28 else 0)
      + (if g.owner < 3 then 2 ^ (16 + g.owner) + 2 ^ 19 else 0)))
  else none

/-- CFG_PENDING in PG_STAT of a page: an accepted transaction that touches it awaits Imposition (R145). -/
def cfgPending (c : Chip) (page : Nat) : Bool :=
  c.gal.accepted.any (fun k => (c.slot k).list.any (fun x => homePage x.1 == some page))

/-- PG_STAT of a page as it stands: in service, a cell fenced, a transaction pending (R116). -/
def pgStat (s : State) (page : Nat) : Word :=
  let run : Bool := s.chip.rgn (regionOf page) == 0 && !s.chip.flt.held.contains page
  word ((if run then 2 ^ 31 else 0) + (if fget (s.rd (Reg.PG_FENCE page)) 16 16 ≠ 0 then 2 ^ 30 else 0)
    + (if cfgPending s.chip page then 2 ^ 29 else 0))

/-- The table of a plane's read bank (R163). -/
def SnapPlane.read (q : SnapPlane) : SnapBank := if q.readB then q.bankB else q.bankA
/-- What a plane's reader holds. -/
def Chip.snap (c : Chip) (p : Nat) : SnapPlane := tget (fun _ => {}) c.snaps p

/-- What a PWM channel holds beside its registers. -/
def Chip.pwmCh (c : Chip) (j : Nat) : PwmCh := tget (fun _ => {}) c.pwm j
/-- The same written. -/
def Chip.setPwmCh (c : Chip) (j : Nat) (p : PwmCh) : Chip := { c with pwm := tset (fun _ => ({} : PwmCh)) c.pwm j p }
/-- A channel is enabled. -/
def pwmEn (c : Chip) (j : Nat) : Bool := c.b (Reg.PWM_CH_CFG j) 31
/-- The channel whose counter a channel uses (R660). -/
def pwmMaster (c : Chip) (j : Nat) : Nat :=
  if c.b (Reg.PWM_CH_CFG j) 28 then c.f (Reg.PWM_CH_CFG j) 24 4 else j
/-- Cycles of the carrier period of the counter that a channel uses (20 R659); a PERIOD of 0 acts as 1. -/
def pwmLen (c : Chip) (j : Nat) : Nat := max 1 (c.f (Reg.PWM_ACT_PERIOD (pwmMaster c j)) 0 16) + 1
/-- The value of the counter that an enabled channel uses (20 R659, R660). -/
def pwmCount (e : Env) (c : Chip) (j : Nat) : Nat :=
  if pwmEn c j then (e.time.up - (c.pwmCh (pwmMaster c j)).at') % pwmLen c j else 0

/-- The bits of word `k` of a fence map that stand for cells of a page with `cells` of them (R111, R129). -/
def fenceMask (cells k : Nat) : Word := if 32 * (k + 1) ≤ cells then 0xFFFFFFFF else word (2 ^ (cells - 32 * k) - 1)

/-- The value that a read of a present register by a plane returns: the identification words, the plane's latch of the
time words, its snapshot bank for a snapshot register, the live word else, with the counter of a PWM channel (R2, R73, R163, R675). -/
def readReg (s : State) (p : Plane) (g : Page) (d : RegDesc) (a : Nat) : Word :=
  let l := tget (fun _ => ({} : NowLatch)) s.chip.now (planeCode p)
  if a = Reg.CHIP_VARIANT then variantWord s.env.part.variant
  else if a = Reg.CHIP_SIZE then sizeWord s.env.part.variant
  else if a = Reg.FRM_NOW_HI then l.nowHi
  else if a = Reg.FRM_SITE_TIME_LO then l.siteLo
  else if a = Reg.FRM_SITE_TIME_HI then l.siteHi
  else if a = Reg.FRM_BND_TIME_LO then l.bndLo
  else if a = Reg.FRM_BND_TIME_HI then l.bndHi
  else if a = Reg.ETH_PTP_NOW_S_LO then word (tget (fun _ => 0) s.chip.hif.ptpNow (planeCode p))
  else if a = Reg.ETH_PTP_NOW_S_HI then word (tget (fun _ => 0) s.chip.hif.ptpNow (planeCode p) / 2 ^ 32)
  else if Reg.TRF_NOW 0 ≤ a ∧ a ≤ Reg.TRF_NOW 3 then
    (tget (fun _ => ([] : List Word)) s.met.st.now (planeCode p)).getD ((a - Reg.TRF_NOW 0) / 4) 0
  else match pageHeader s.env.part g (a - g.base) with
    | some v => v
    | none =>
      if d.acc == .wo then 0
      else if 0x380 ≤ a - g.base ∧ a - g.base < 0x400 then s.rd a &&& fenceMask (pageCells s.env.part g) ((a - g.base - 0x380) / 4)
      else if a - g.base = 0x020 then
        (if planeCode p < 3 then (s.chip.snap (planeCode p)).read.seq else s.env.time.frameNo.setWidth 32)
      else if a - g.base = 0x00C ∧ 3 ≤ planeCode p then pgStat s g.base
      else if d.snap ∧ planeCode p < 3 then
        let b := (s.chip.snap (planeCode p)).read
        match regionOf a with
        | .heath => rget b.heath a
        | .metrology => rget b.met a
        | _ => rget b.chip a
      else if g.kind == .pwm && decide (0x400 ≤ a - g.base) && (a - g.base) % 0x40 == 0x18 then
        fset (s.rd a) 0 16 (pwmCount s.env s.chip ((a - g.base - 0x400) / 0x40))
      else s.rd a

/-- The value that a read of a word by a plane returns, without its side effects (R114, R119, R128, R129). -/
def readWord (s : State) (p : Plane) (a : Nat) : Word :=
  match placeOf s.env.part (a / 4 * 4) with
  | .unmapped | .absent _ | .blank _ => 0
  | .reg g d _ => readReg s p g d (a / 4 * 4)
  | .win w inEntry =>
    if !inEntry then 0
    else if w.base = 0x48140000 then
      let en := tget (fun _ => ({} : LogEntry)) s.chip.log ((a - w.base) / 16)
      match (a - w.base) / 4 % 4 with
      | 0 => en.ts.setWidth 32
      | 1 => (en.ts >>> 32).setWidth 32
      | 2 => en.src
      | _ => en.detail
    else s.rd (a / 4 * 4)

end Sys2Proof.Machine
end

