-- ==== Sys2Proof/Machine/Pwm.lean ====
section
/-! DEFINITION. Drive PWM and trip inputs (ch. 20): carrier, loads, dead time, trips, clears and blanking. -/
namespace Sys2Proof.Machine

/-- The Quoin gate is open (R573; QN.STAT.OWN). -/
def Chip.gate (c : Chip) : Bool := c.b Reg.QN_STAT 28

/-- A holding cause of R671 other than a trip: gate closed, fenced, or a region restarting. -/
def pwmHeld (c : Chip) (j : Nat) : Bool := !c.gate || c.fenced 0x70005000 j || !c.ctl || !c.svc
/-- A channel is tripped (CH_STAT.TRIPPED). -/
def pwmTripped (c : Chip) (j : Nat) : Bool := c.b (Reg.PWM_CH_STAT j) 31
/-- A channel drives its safe state (R669 to R671), or is disabled (R667). -/
def pwmSafe (c : Chip) (j : Nat) : Bool :=
  pwmTripped c j || pwmHeld c j || (c.pwmCh j).await || !pwmEn c j

/-- H and L of a channel driven: the safe levels in the safe state, nothing active on a timer channel, else as given. -/
def pwmDrive (c : Chip) (j : Nat) (h l : Bool) : Chip :=
  let safe := pwmSafe c j
  let h' := if safe then c.b (Reg.PWM_CH_CFG j) 21 else h && c.b (Reg.PWM_CH_CFG j) 30
  let l' := if safe then c.b (Reg.PWM_CH_CFG j) 20 && j < 12 else l && c.b (Reg.PWM_CH_CFG j) 30 && j < 12
  (c.setB (Reg.PWM_CH_STAT j) 28 h').setB (Reg.PWM_CH_STAT j) 27 l'

/-- A REF edge of a channel at a cycle (R666): the falling output goes inactive at once, the rising one after DT cycles; an edge that
comes while a turn-on is pending cancels it and sets SWALLOW. -/
def pwmEdge (j : Nat) (ref : Bool) (at' : Nat) (c : Chip) : Chip :=
  let p := c.pwmCh j
  if p.ref = ref then c
  else if 12 ≤ j then pwmDrive (c.setPwmCh j { p with ref := ref }) j ref false
  else
    let c1 := if p.dtPend ≠ 0 then c.setB Reg.PWM_EVT 5 true else c
    let dt := c.f (Reg.PWM_CH_DT j) 0 10
    if dt = 0 then pwmDrive (c1.setPwmCh j { p with ref := ref, dtPend := 0 }) j ref (!ref)
    else pwmDrive (c1.setPwmCh j { p with ref := ref, dtPend := if ref then 1 else 2, dtAt := at' + dt }) j false false

/-- REF of a channel that runs from now on: its level is taken as an edge, so the output that it turns on waits for DT (R666,
R670, R671). -/
def pwmBegin (j : Nat) (at' : Nat) (c : Chip) : Chip :=
  let r := decide (0 < c.n (Reg.PWM_ACT_CMP j))
  pwmEdge j r at' (c.setPwmCh j { c.pwmCh j with ref := !r, dtPend := 0, await := false })

/-- A pending turn-on whose dead time has passed by a cycle turns active (R666). -/
def pwmTurnOn (j : Nat) (at' : Nat) (c : Chip) : Chip :=
  let p := c.pwmCh j
  if p.dtPend ≠ 0 ∧ p.dtAt ≤ at' then pwmDrive (c.setPwmCh j { p with dtPend := 0 }) j (p.dtPend == 1) (p.dtPend == 2) else c

/-- The cycle at which REF of a channel falls in the present carrier period: its counter reaches CMP (R661). -/
def pwmFallAt (c : Chip) (j : Nat) : Nat := (c.pwmCh (pwmMaster c j)).at' + c.n (Reg.PWM_ACT_CMP j)
/-- REF of a channel has fallen by a cycle, or falls in it: it is high, and CMP lies within the period (R661). -/
def pwmFalls (c : Chip) (j : Nat) (at' : Nat) : Bool :=
  pwmEn c j && (c.pwmCh j).ref && decide (c.n (Reg.PWM_ACT_CMP j) < pwmLen c j) && decide (pwmFallAt c j ≤ at')
/-- REF of a channel falls, at its own cycle. -/
def pwmFall (j : Nat) (c : Chip) : Chip := pwmEdge j false (pwmFallAt c j) (pwmTurnOn j (pwmFallAt c j) c)
/-- What of a channel fell due before a cycle: its fall of REF, its turn-on. -/
def pwmCatchUp (j : Nat) (at' : Nat) (c : Chip) : Chip :=
  pwmTurnOn j at' (if pwmFalls c j at' then pwmFall j c else c)

/-- The channels that are tripped or have a load armed, shown in PWM.STAT. -/
def pwmShow (j : Nat) (c : Chip) : Chip :=
  (c.setB Reg.PWM_STAT j (c.b (Reg.PWM_CH_STAT j) 31)).setB Reg.PWM_STAT (16 + j) (c.b (Reg.PWM_CH_STAT j) 29)

/-- A load armed on a channel (R662, R663): one that is armed already stays as it is. -/
def pwmArm (e : Env) (j : Nat) (c : Chip) : Chip :=
  if c.b (Reg.PWM_CH_STAT j) 29 then pwmShow j c
  else pwmShow j ((c.setB (Reg.PWM_CH_STAT j) 29 true).setPwmCh j { c.pwmCh j with armAt := e.time.up })

/-- The shadows of a channel are about to be written: how they stood before this cycle is kept for a reload in it (R662). -/
def pwmShadow (e : Env) (j : Nat) (c : Chip) : Chip :=
  if (c.pwmCh j).shAt = some e.time.up then c
  else c.setPwmCh j { c.pwmCh j with shAt := some e.time.up, shOld := (c.f (Reg.PWM_SH_PERIOD j) 0 16, c.rd (Reg.PWM_SH_CMP j)) }
/-- PERIOD and CMP that a reload in a cycle copies: the shadows as they stood at the end of the cycle before (R662). -/
def pwmShadowAt (c : Chip) (j at' : Nat) : Nat × Word :=
  match (c.pwmCh j).shAt with
  | some t => if at' ≤ t then (c.pwmCh j).shOld else (c.f (Reg.PWM_SH_PERIOD j) 0 16, c.rd (Reg.PWM_SH_CMP j))
  | none => (c.f (Reg.PWM_SH_PERIOD j) 0 16, c.rd (Reg.PWM_SH_CMP j))
/-- A load is armed for a reload in a cycle: it was armed before that cycle (R662). -/
def pwmArmed (c : Chip) (j at' : Nat) : Bool := c.b (Reg.PWM_CH_STAT j) 29 && decide ((c.pwmCh j).armAt < at')

/-- The HELD bit and the outputs of a channel after a holding cause began or ended (R671): a channel that leaves the safe
state waits for its next reload. -/
def pwmHoldUpdate (j : Nat) (c : Chip) : Chip :=
  let held := pwmHeld c j
  let was := c.b (Reg.PWM_CH_STAT j) 30
  let p := c.pwmCh j
  let c1 := if held then c.setPwmCh j { p with dtPend := 0, await := false }
    else if was then c.setPwmCh j { p with await := true } else c
  let c2 := c1.setB (Reg.PWM_CH_STAT j) 30 held
  if pwmSafe c2 j then pwmDrive c2 j false false else c2

/-- The window of a blanking channel is open (R672): enabled, REF high and the channel itself not tripped, fenced or held. -/
def pwmWindow (c : Chip) (k : Nat) : Bool :=
  pwmEn c k && (c.pwmCh k).ref && !pwmTripped c k && !pwmHeld c k
/-- A trip input is blanked now. -/
def pwmBlanked (c : Chip) (t : Nat) : Bool :=
  c.b (Reg.PWM_TRIP_CFG t) 29 && pwmWindow c (c.f (Reg.PWM_TRIP_CFG t) 24 4)
/-- TRIP_STAT.BLANKED formed from the windows; where one has closed, an enabled input that is still asserted is to trip (R672). -/
def pwmShowBlank (c : Chip) : Chip :=
  eachBelow 6 (fun t c =>
    let k := c.f (Reg.PWM_TRIP_CFG t) 24 4
    let now := pwmBlanked c t
    let shut := c.b Reg.PWM_TRIP_STAT (16 + t) && !now && c.b Reg.PWM_TRIP_STAT t && c.b (Reg.PWM_TRIP_CFG t) 31
    let c1 := if shut then c.setPwmCh k { c.pwmCh k with late := (c.pwmCh k).late ||| 2 ^ t } else c
    c1.setB Reg.PWM_TRIP_STAT (16 + t) now) c

/-- Every channel after a holding cause began or ended. -/
def pwmHoldAll (c : Chip) : Chip := pwmShowBlank (eachBelow 16 pwmHoldUpdate c)

/-- One channel at a reload of its counter in a cycle (R659 to R662, R670, R671): an armed load copies the shadows, a channel that
waited leaves its safe state, and REF takes its level at count 0. -/
def pwmReloadCh (j : Nat) (at' : Nat) (k : Nat) (c0 : Chip) : Chip :=
  if pwmEn c0 k && pwmMaster c0 k == j then
    let c := pwmCatchUp k at' c0
    let c1 := if pwmArmed c k at' then
        let sh := pwmShadowAt c k at'
        let c0 := if k = j then c.wr (Reg.PWM_ACT_PERIOD k) (word (max 1 sh.1)) else c
        pwmShow k (((c0.wr (Reg.PWM_ACT_CMP k) sh.2).setB (Reg.PWM_CH_STAT k) 29 false).setB Reg.PWM_EVT 3 true)
      else c
    if (c1.pwmCh k).await ∧ !pwmTripped c1 k ∧ !pwmHeld c1 k then pwmBegin k at' c1
    else pwmEdge k (decide (0 < c1.n (Reg.PWM_ACT_CMP k))) at' c1
  else c0

/-- The cycle of a counter's next reload: PERIOD + 1 cycles after the last one (R659). -/
def pwmReloadAt (c : Chip) (j : Nat) : Nat := (c.pwmCh j).at' + pwmLen c j
/-- PWM_RELOAD is due: the counter of an enabled channel that has one has run its period (R659, R660). -/
def reloadDue (e : Env) (c : Chip) (j : Nat) : Bool :=
  pwmEn c j && !c.b (Reg.PWM_CH_CFG j) 28 && decide (pwmReloadAt c j ≤ e.time.up)
/-- A counter returns to 0: its reload, for every channel that uses it (R659, R660). -/
def pwmReload (e : Env) (j : Nat) (c : Chip) : Chip :=
  if reloadDue e c j then
    let r := pwmReloadAt c j
    let c1 := eachBelow 16 (pwmReloadCh j r) c
    pwmShowBlank (c1.setPwmCh j { c1.pwmCh j with at' := r })
  else c

/-- The channels of a mask trip (R669): one TRIP event, one count and one log entry for the cycle. -/
def pwmTrip (e : Env) (mask : Nat) (c : Chip) : Chip :=
  let hit := (List.range 16).filter (fun k => mask.testBit k && pwmEn c k && !pwmTripped c k)
  if hit = [] then c
  else
    let abort := hit.any (fun k => (c.pwmCh k).dtPend != 0 && decide (e.time.up < (c.pwmCh k).dtAt))
    let c1 := eachOf hit (fun k c =>
      let c' := (c.setB (Reg.PWM_CH_STAT k) 31 true).setPwmCh k { c.pwmCh k with dtPend := 0, await := false, tripAt := some e.time.up }
      pwmShow k (pwmDrive c' k false false)) c
    let c2 := if abort then c1.setB Reg.PWM_EVT 6 true else c1
    let bits := hit.foldl (fun x k => x + 2 ^ k) 0
    pwmShowBlank (((c2.setB Reg.PWM_EVT 0 true).sat Reg.PWM_TRIP_CNT 16 16 1).log1 e 0x24 0 0x01
      (bits * 65536 + c2.f Reg.PWM_TRIP_STAT 0 6))

/-- The channels that name a trip input in their mask. -/
def pwmMaskOf (c : Chip) (t : Nat) : Nat :=
  (List.range 16).foldl (fun x k => if c.b (Reg.PWM_CH_CFG k) (8 + t) then x + 2 ^ k else x) 0

/-- PWM_RELOAD: the reload of channel `j`'s counter (R659 to R664). -/
def execPwmReload (j : Fin 16) (s : State) : Host.Outcome State Fault Refusal :=
  .next (onChip (fun e c => pwmReload e j.val c) s)

/-- REF_FALL: the counter reaches CMP (R661, R666); REF of an enabled channel falls. -/
def execRefFall (j : Fin 16) (s : State) : Host.Outcome State Fault Refusal :=
  .next (onChip (fun e c => if pwmFalls c j.val e.time.up then pwmShowBlank (pwmFall j.val c) else c) s)

/-- DEAD_TIME_EXPIRE: DT cycles after its edge the pending output of a pair turns active (R666). -/
def execDeadTimeExpire (j : Fin 16) (s : State) : Host.Outcome State Fault Refusal :=
  .next (onChip (fun e c => pwmTurnOn j.val e.time.up c) s)

/-- A write of PWM.LOAD_ALL after its checks: GO arms every enabled channel with SRC = 0 (R662, R664). -/
def pwmLoadAll (e : Env) (v : Word) (c : Chip) : Chip :=
  if fbit v 0 then
    eachBelow 16 (fun j c => if pwmEn c j && !c.b (Reg.PWM_CH_CFG j) 29 then pwmArm e j c else c) c
  else c
/-- LOAD_ALL: a write of PWM.LOAD_ALL (R662). -/
def execLoadAll (p : Plane) (v : Word) (s : State) : Host.Outcome State Fault Refusal :=
  .next (onWrite p Reg.PWM_LOAD_ALL v (fun v s => onChip (fun e c => pwmLoadAll e v c) s) s)

/-- A software write of SH_CMP after its checks: dropped with ENG_WR on a channel with SRC = 1 (R664). -/
def pwmShCmp (e : Env) (j : Nat) (v : Word) (c : Chip) : Chip :=
  if c.b (Reg.PWM_CH_CFG j) 29 then c.setB Reg.PWM_EVT 4 true else (pwmShadow e j c).wr (Reg.PWM_SH_CMP j) v
/-- A software write of SH_PERIOD after its checks (R662). -/
def pwmShPeriod (e : Env) (j : Nat) (v : Word) (c : Chip) : Chip := (pwmShadow e j c).wr (Reg.PWM_SH_PERIOD j) v

/-- The ball of a trip input reads its active level (R668). -/
def tripActive (c : Chip) (x : TripLevel) : Bool := x.high != c.b (Reg.PWM_TRIP_CFG x.input) 30
/-- TRIP_ASSERT is due: the max(FILT, 1)-th active sample in a row of an enabled input (R668). -/
def tripDue (c : Chip) (x : TripLevel) : Bool :=
  c.b (Reg.PWM_TRIP_CFG x.input) 31 && tripActive c x && x.samples == max 1 (c.f (Reg.PWM_TRIP_CFG x.input) 0 8)
/-- A trip input's filtered level, and when it changed (R668, R670). -/
def tripLevel (e : Env) (t : Nat) (on : Bool) (c : Chip) : Chip :=
  let c1 := if c.b Reg.PWM_TRIP_STAT t = on then c else c.setPwmCh (16 + t) { c.pwmCh (16 + t) with levelAt := some e.time.up }
  c1.setB Reg.PWM_TRIP_STAT t on
/-- A trip input's filtered level as it stood at the end of the cycle before (R670). -/
def tripWas (e : Env) (c : Chip) (t : Nat) : Bool := c.b Reg.PWM_TRIP_STAT t != ((c.pwmCh (16 + t)).levelAt == some e.time.up)
/-- The reload that the window of a blanked trip input owes to this cycle (R672). -/
def tripWindow (e : Env) (t : Nat) (c : Chip) : Chip :=
  if c.b (Reg.PWM_TRIP_CFG t) 29 then pwmReload e (pwmMaster c (c.f (Reg.PWM_TRIP_CFG t) 24 4)) c else c

/-- TRIP_ASSERT: an enabled trip input asserts (R668); outside a blanking window it trips the channels that name it. -/
def execTripAssert (x : TripLevel) (s : State) : Host.Outcome State Fault Refusal :=
  let t := x.input.val
  .next (onChip (fun e c =>
    if tripDue c x then
      let c1 := tripLevel e t true (pwmShowBlank (tripWindow e t c))
      if pwmBlanked c1 t then c1 else pwmTrip e (pwmMaskOf c1 t) c1
    else c) s)

/-- TRIP_DEASSERT: a trip input's first inactive sample (R668). -/
def execTripDeassert (x : TripLevel) (s : State) : Host.Outcome State Fault Refusal :=
  .next (onChip (fun e c => if tripActive c x then c else tripLevel e x.input false c) s)

/-- BLANK_WINDOW_CLOSE is due: the window of input `t` has closed while the input was asserted (R672). -/
def blankDue (c : Chip) (t : Nat) : Bool := (c.pwmCh (c.f (Reg.PWM_TRIP_CFG t) 24 4)).late.testBit t
/-- BLANK_WINDOW_CLOSE: the first cycle after input `t`'s window; an input still asserted trips its channels (R672). -/
def execBlankWindowClose (t : Fin 6) (s : State) : Host.Outcome State Fault Refusal :=
  .next (onChip (fun e c =>
    if blankDue c t.val then
      let k := c.f (Reg.PWM_TRIP_CFG t.val) 24 4
      let c1 := c.setPwmCh k { c.pwmCh k with late := (c.pwmCh k).late ^^^ 2 ^ t.val }
      if c.b (Reg.PWM_TRIP_CFG t.val) 31 && c.b Reg.PWM_TRIP_STAT t.val && !pwmBlanked c t.val then pwmTrip e (pwmMaskOf c t.val) c1 else c1
    else c) s)

/-- An enabled trip input in a channel's mask was asserted at the end of the cycle before (R670). -/
def pwmKeeps (e : Env) (c : Chip) (j : Nat) : Bool :=
  (List.range 6).any (fun t => c.b (Reg.PWM_CH_CFG j) (8 + t) && c.b (Reg.PWM_TRIP_CFG t) 31 && tripWas e c t)
/-- An enabled trip input in a channel's mask asserts in this cycle, outside its window (R668). -/
def pwmTripsNow (e : Env) (c : Chip) (j : Nat) : Bool :=
  (List.range 6).any (fun t => c.b (Reg.PWM_CH_CFG j) (8 + t) && c.b (Reg.PWM_TRIP_CFG t) 31 && c.b Reg.PWM_TRIP_STAT t && !tripWas e c t && !pwmBlanked c t)
/-- A clear of a channel that was tripped before this cycle, judged against the filtered trip levels of the cycle before (R670); an input that
asserts in this cycle (`again`) trips it again. -/
def pwmClear (e : Env) (j : Nat) (again : Bool) (c : Chip) : Chip :=
  if pwmTripped c j ∧ (c.pwmCh j).tripAt ≠ some e.time.up then
    if pwmKeeps e c j then
      ((c.setB Reg.PWM_EVT 1 true).sat Reg.PWM_TRIP_CNT 0 16 1).log1 e 0x24 0 0x02
        (c.f Reg.PWM_TRIP_STAT 0 6 * 65536 + j)
    else
      let c1 := (c.setB (Reg.PWM_CH_STAT j) 31 false).setPwmCh j { c.pwmCh j with await := true }
      let c2 := ((pwmShow j c1).setB Reg.PWM_EVT 2 true).log1 e 0x24 0 0x03 j
      if again then pwmTrip e (2 ^ j) c2 else c2
  else c

/-- A write of PWM.TRIP_CLR after its checks requests a clear of each channel whose bit is 1 (R670). -/
def pwmTripClr (e : Env) (v : Word) (c : Chip) : Chip := eachBelow 16 (fun j x => if fbit v j then pwmClear e j (pwmTripsNow e c j) x else x) c
/-- TRIP_CLR: a write of PWM.TRIP_CLR (R670). -/
def execTripClr (p : Plane) (v : Word) (s : State) : Host.Outcome State Fault Refusal :=
  .next (onWrite p Reg.PWM_TRIP_CLR v (fun v s => onChip (fun e c => pwmTripClr e v c) s) s)

/-- The duty of an SRC = 1 channel at a boundary (R663): SH_CMP takes the emitted value and a load is armed. -/
def pwmDutyLoad (e : Env) (j cmp : Nat) (c : Chip) : Chip := pwmArm e j ((pwmShadow e j c).wr (Reg.PWM_SH_CMP j) (word (cmp % 2 ^ 17)))

end Sys2Proof.Machine
end

