-- ==== Sys2Proof/Machine/Asw.lean ====
section
/-! DEFINITION. Protected auxiliary switches (ch. 21): commands, the instant limit, the fuse accumulator, inrush, holding and
the keep window, supply causes and reports. -/
namespace Sys2Proof.Machine

/-- What an aux channel holds beside its registers. -/
def Chip.aswCh (c : Chip) (j : Nat) : AswCh := tget (fun _ => {}) c.asw.ch j
/-- The same written. -/
def Chip.setAswCh (c : Chip) (j : Nat) (a : AswCh) : Chip :=
  { c with asw := { c.asw with ch := tset (fun _ => ({} : AswCh)) c.asw.ch j a } }

/-- A channel's state (CH_STAT): 0 OFF, 1 INRUSH, 2 ON, 3 KEEP, 4 TRIP_INST, 5 TRIP_I2T, 6 TRIP_THERM, 7 HELD. -/
def aswState (c : Chip) (j : Nat) : Nat := c.f (Reg.ASW_CH_STAT j) 29 3
/-- The channel's output is on: INRUSH, ON or KEEP. -/
def aswOn (c : Chip) (j : Nat) : Bool := aswState c j == 1 || aswState c j == 2 || aswState c j == 3
/-- The channel has a latched trip. -/
def aswTripped (c : Chip) (j : Nat) : Bool := aswState c j == 4 || aswState c j == 5 || aswState c j == 6

/-- A channel's state set, with OUT_ON; OPEN_LOAD clears outside ON and EXT_V on a channel that is on (R687). -/
def aswSetState (j x : Nat) (c : Chip) : Chip :=
  let c1 := c.setF (Reg.ASW_CH_STAT j) 29 3 x
  let c2 := c1.setB Reg.ASW_STAT j (aswOn c1 j)
  let c3 := if x = 2 then c2 else c2.setB (Reg.ASW_CH_STAT j) 27 false
  if aswOn c3 j then c3.setB (Reg.ASW_CH_STAT j) 26 false else c3

/-- I_NOM in mA (CH_CFG, 10 mA steps). -/
def aswINom (c : Chip) (j : Nat) : Nat := 10 * c.f (Reg.ASW_CH_CFG j) 8 8
/-- The inrush allowance in mA; 0 means I_NOM (R682). -/
def aswInrushI (c : Chip) (j : Nat) : Nat :=
  let i := 10 * c.f (Reg.ASW_CH_LIM j) 0 10
  if i = 0 then aswINom c j else i
/-- The accumulator value at which a channel trips (R681). -/
def aswTripLevel (c : Chip) (j : Nat) : Nat := c.f (Reg.ASW_CH_I2T j) 0 16 * 1000000000

/-- A supply cause holds every channel off (R688; ASW.STAT.UV, OV, REVERSE). -/
def aswSupply (c : Chip) : Bool := c.b Reg.ASW_STAT 31 || c.b Reg.ASW_STAT 30 || c.b Reg.ASW_STAT 29
/-- A channel is held off: gate closed, fenced, or a supply cause (R689). -/
def aswHeld (c : Chip) (j : Nat) : Bool := !c.gate || c.fenced 0x70006000 j || aswSupply c

/-- A turn-on with a new inrush window (R682). -/
def aswTurnOn (e : Env) (j : Nat) (c : Chip) : Chip :=
  if 0 < c.f (Reg.ASW_CH_I2T j) 16 16 then aswSetState j 1 (c.setAswCh j { c.aswCh j with inrush := true, onAt := e.time.up })
  else aswSetState j 2 (c.setAswCh j { c.aswCh j with inrush := false })

/-- A trip (R684): the channel switches off and latches its cause, counted, flagged and logged. Causes 1 INST, 2 I2T,
3 THERM. -/
def aswTrip (e : Env) (j cause : Nat) (c : Chip) : Chip :=
  let c1 := aswSetState j (3 + cause) (c.setAswCh j { c.aswCh j with inrush := false })
  ((c1.setB Reg.ASW_EVT (cause - 1) true).sat (Reg.ASW_CH_CNT j) (32 - 8 * cause) 8 1).log1 e 0x25 0 0x01
    (cause * 2 ^ 28 + j)

/-- A channel is on, or its command turned it off in this cycle (R691). -/
def aswWasOn (e : Env) (c : Chip) (j : Nat) : Bool := aswOn c j || (c.aswCh j).offAt == some e.time.up
/-- The instant limit is met: every sample above it for 10 µs, that is two samples in a row (R680). -/
def aswInstMet (e : Env) (c : Chip) (j : Nat) : Bool := aswWasOn e c j && !aswTripped c j && 2 ≤ (c.aswCh j).instRun
/-- The fuse level is met (R681). -/
def aswI2tMet (e : Env) (c : Chip) (j : Nat) : Bool := aswWasOn e c j && !aswTripped c j && aswTripLevel c j ≤ (c.aswCh j).fuse

/-- A channel turns off as its command says; a trip that is met in the cycle latches (R691). -/
def aswTurnOff (e : Env) (j : Nat) (c : Chip) : Chip :=
  if aswInstMet e c j then aswTrip e j 1 c
  else if aswI2tMet e c j then aswTrip e j 2 c
  else aswSetState j 0 (if aswOn c j then c.setAswCh j { c.aswCh j with offAt := some e.time.up } else c)

/-- A channel takes its latched command, unless a trip, a hold, a running keep window or a clear since the last boundary governs it (R679,
R685, R689). -/
def aswFollow (e : Env) (j : Nat) (c : Chip) : Chip :=
  if aswTripped c j then c
  else if aswState c j = 3 ∧ !c.gate ∧ !c.fenced 0x70006000 j ∧ !aswSupply c then c
  else if aswHeld c j then aswSetState j 7 c
  else if c.b (Reg.ASW_CH_CFG j) 31 && fbit c.asw.applied j && !(c.aswCh j).cleared then
    (if aswState c j = 3 then aswSetState j (if (c.aswCh j).inrush then 1 else 2) c
     else if aswOn c j then c else aswTurnOn e j c)
  else aswTurnOff e j c

/-- Every channel follows. -/
def aswFollowAll (e : Env) (c : Chip) : Chip := eachBelow 16 (aswFollow e) c

/-- The Quoin gate closes (R689): a channel that is on keeps its state for KEEP_MS, every other one is held. -/
def aswGateClose (e : Env) (c : Chip) : Chip :=
  eachBelow 16 (fun j c =>
    if aswTripped c j then c
    else if aswOn c j && 0 < c.f (Reg.ASW_CH_CFG j) 16 5 then
      aswSetState j 3 (c.setAswCh j { c.aswCh j with keepTill := e.time.up + 200000 * c.f (Reg.ASW_CH_CFG j) 16 5 })
    else aswSetState j 7 c) c

/-- The Gather freeze latches ASW.CMD; the word latched a frame before takes effect at the outputs (R678). -/
def aswCmdLatch (e : Env) (c : Chip) : Chip :=
  let c1 := { c with asw := { c.asw with applied := c.asw.latched, latched := c.rd Reg.ASW_CMD &&& 0xFFFF } }
  aswFollowAll e (eachBelow 16 (fun j c =>
    let c2 := if (c.aswCh j).cleared then c.setAswCh j { c.aswCh j with cleared := false } else c
    c2.setB (Reg.ASW_CH_STAT j) 28 (fbit c2.asw.latched j)) c1)

/-- CH_STAT.FUSE of a channel: its accumulator as a part of the trip level in 1/65,536. -/
def aswFuseField (c : Chip) (j : Nat) : Nat :=
  let l := aswTripLevel c j
  if l = 0 then 65535 else min 65535 ((c.aswCh j).fuse * 65536 / l)

/-- INRUSH_END is due: INRUSH_MS since turn-on (R682). -/
def inrushDue (e : Env) (c : Chip) (j : Nat) : Bool :=
  (c.aswCh j).inrush && decide ((c.aswCh j).onAt + 200000 * c.f (Reg.ASW_CH_I2T j) 16 16 ≤ e.time.up)

/-- One channel's current sample of `i` mA (R680, R681, R687): the runs above the instant limit and below the open-load level, the
accumulator, the last samples, and the end of an open load. -/
def aswSample (e : Env) (j i : Nat) (c : Chip) : Chip :=
  let a := c.aswCh j
  let inom := aswINom c j
  let free := if a.inrush && !inrushDue e c j then max inom (aswInrushI c j) else inom
  let f := min (2 ^ 64 - 1) (a.fuse + i * i - free * free)
  let run := if 3 * inom < i then a.instRun + 1 else 0
  let ol := if aswState c j = 2 ∧ i < c.f (Reg.ASW_CH_LIM j) 16 16 then min 10001 (a.olRun + 1) else 0
  let c1 := c.setAswCh j { a with fuse := f, instRun := run, samples := (i :: a.samples).take 100, olRun := ol }
  let c2 := c1.setF (Reg.ASW_CH_STAT j) 0 16 (aswFuseField c1 j)
  if c.f (Reg.ASW_CH_LIM j) 16 16 ≤ i then c2.setB (Reg.ASW_CH_STAT j) 27 false else c2

/-- ASW_CURRENT_SAMPLE: the sensed currents of the 16 channels in mA, one sample every 10 µs (R680, R681). -/
def execAswCurrentSample (ma : List Nat) (s : State) : Host.Outcome State Fault Refusal :=
  .next (onChip (fun e c => eachBelow 16 (fun j c => aswSample e j (min 10000 (ma.getD j 0)) c) c) s)

/-- TRIP_INST: a channel above its instant limit for 10 µs trips (R680, R684). -/
def execTripInst (j : Fin 16) (s : State) : Host.Outcome State Fault Refusal :=
  .next (onChip (fun e c => if aswInstMet e c j.val then aswTrip e j.val 1 c else c) s)

/-- TRIP_I2T: a channel whose accumulator reaches its level trips, unless INST is met in the same sample (R681, R684). -/
def execTripI2t (j : Fin 16) (s : State) : Host.Outcome State Fault Refusal :=
  .next (onChip (fun e c => if aswI2tMet e c j.val && !aswInstMet e c j.val then aswTrip e j.val 2 c else c) s)

/-- TRIP_THERM: a switch above 170 °C trips its channel (R683). -/
def execTripTherm (j : Fin 16) (s : State) : Host.Outcome State Fault Refusal :=
  .next (onChip (fun e c => if aswTripped c j.val then c else aswTrip e j.val 3 c) s)

/-- A clear of one tripped channel (R685); `hot` says that its switch is above 150 °C. -/
def aswClear (e : Env) (j : Nat) (hot : Bool) (c : Chip) : Chip :=
  if aswTripped c j then
    if hot || aswTripLevel c j < 2 * (c.aswCh j).fuse then
      ((c.setB Reg.ASW_EVT 4 true).sat (Reg.ASW_CH_CNT j) 0 8 1).log1 e 0x25 0 0x02 j
    else ((aswSetState j 0 (c.setAswCh j { c.aswCh j with cleared := true })).setB Reg.ASW_EVT 3 true).log1 e 0x25 0 0x03 j
  else c

/-- A write of ASW.CLR after its checks (R685): the channels that it names, `hot` those still too hot. -/
def aswClr (v hot : Word) (s : State) : State :=
  onChip (fun e c => eachBelow 16 (fun j c => if fbit v j then aswClear e j (fbit hot j) c else c) c) s

/-- ASW_CLR: a write of ASW.CLR; `hot` has a bit for each channel whose switch is above 150 °C (R685). -/
def execAswClr (p : Plane) (v hot : Word) (s : State) : Host.Outcome State Fault Refusal :=
  .next (onWrite p Reg.ASW_CLR v (fun v s => aswClr v hot s) s)

/-- INRUSH_END: INRUSH_MS after turn-on the allowance ends (R682). -/
def execInrushEnd (j : Fin 16) (s : State) : Host.Outcome State Fault Refusal :=
  .next (onChip (fun e c =>
    if inrushDue e c j.val then
      let c1 := c.setAswCh j.val { c.aswCh j.val with inrush := false }
      if aswState c j.val = 1 then aswSetState j.val 2 c1 else c1
    else c) s)

/-- The ms of SITE_TIME. -/
def siteMs (e : Env) : Nat := e.time.site / 200000
/-- ASW_CURRENT_REPORT is due: SITE_TIME has come to another multiple of 200,000 cycles (R686). -/
def reportDue (e : Env) (c : Chip) : Bool := c.svc && siteMs e != c.asw.rep
/-- ASW_CURRENT_REPORT: every 200,000 cycles each channel's mean current in 2.5 mA steps and its sequence (R686). -/
def execAswCurrentReport (s : State) : Host.Outcome State Fault Refusal :=
  .next (onChip (fun e c =>
    if reportDue e c then
      eachBelow 16 (fun j c =>
        let l := (c.aswCh j).samples
        let cur := if l = [] then 0 else min 4095 (l.sum * 2 / (5 * l.length))
        (c.wrap (Reg.ASW_CH_CUR j) 28 4 1).setF (Reg.ASW_CH_CUR j) 0 12 cur) { c with asw := { c.asw with rep := siteMs e } }
    else c) s)

/-- OPEN_LOAD is due: a channel that is ON has drawn less than OL_I at every sample from the first one to 100 ms later (R77, R687). -/
def openDue (c : Chip) (j : Nat) : Bool :=
  aswState c j == 2 && !c.b (Reg.ASW_CH_STAT j) 27 && c.f (Reg.ASW_CH_LIM j) 16 16 != 0 && decide (10001 ≤ (c.aswCh j).olRun)
/-- OPEN_LOAD: a channel that is ON has drawn less than OL_I for 100 ms (R687). -/
def execOpenLoad (j : Fin 16) (s : State) : Host.Outcome State Fault Refusal :=
  .next (onChip (fun _ c =>
    if openDue c j.val
    then (c.setB (Reg.ASW_CH_STAT j.val) 27 true).setB Reg.ASW_EVT 7 true else c) s)

/-- EXT_V: an off output has stood above 4 V for 10 ms (`above`), or no longer does (R687). -/
def execExtV (j : Fin 16) (above : Bool) (s : State) : Host.Outcome State Fault Refusal :=
  .next (onChip (fun _ c =>
    if above then
      (if aswOn c j.val then c else (c.setB (Reg.ASW_CH_STAT j.val) 26 true).setB Reg.ASW_EVT 8 true)
    else c.setB (Reg.ASW_CH_STAT j.val) 26 false) s)

/-- SUPPLY_FAULT: a supply cause begins, 0 undervoltage, 1 overvoltage, 2 reverse polarity; every channel is held off
without a trip (R688). -/
def execSupplyFault (k : Fin 3) (s : State) : Host.Outcome State Fault Refusal :=
  .next (onChip (fun e c =>
    if c.b Reg.ASW_STAT (31 - k.val) then c
    else
      let c1 := (c.setB Reg.ASW_STAT (31 - k.val) true).setB Reg.ASW_EVT 6 true
      let c2 := eachBelow 16 (fun j c => if aswTripped c j then c
        else aswSetState j 7 (c.setAswCh j { c.aswCh j with inrush := false })) c1
      c2.log1 e 0x25 0 0x04 (2 ^ 31 + (k.val + 1) * 2 ^ 28)) s)

/-- SUPPLY_RETURN: a supply cause ends; once none is left the channels follow their commands with new inrush windows
(R688). -/
def execSupplyReturn (k : Fin 3) (s : State) : Host.Outcome State Fault Refusal :=
  .next (onChip (fun e c =>
    if c.b Reg.ASW_STAT (31 - k.val) then
      let c1 := (c.setB Reg.ASW_STAT (31 - k.val) false).setB Reg.ASW_EVT 6 true
      aswFollowAll e (c1.log1 e 0x25 0 0x04 ((k.val + 1) * 2 ^ 28))
    else c) s)

/-- KEEP_END is due: KEEP_MS since the gate closed (R689). -/
def keepDue (e : Env) (c : Chip) (j : Nat) : Bool := aswState c j == 3 && decide ((c.aswCh j).keepTill ≤ e.time.up)
/-- KEEP_END: a keep window runs out; the channel turns off and is held (R689). -/
def execKeepEnd (j : Fin 16) (s : State) : Host.Outcome State Fault Refusal :=
  .next (onChip (fun e c =>
    if keepDue e c j.val then (aswSetState j.val 7 c).setB Reg.ASW_EVT 5 true else c) s)

end Sys2Proof.Machine
end

