-- ==== Sys2Proof/Machine/Mem.lean ====
section
/-! DEFINITION. LPDDR4X as the DMA engines of the blocks see it: bytes by address, words little-endian (R7). A byte that
nothing has written reads 0 (DESIGN CHOICE, log entry 2). -/
namespace Sys2Proof.Machine

/-- What a byte that nothing has written reads. -/
def memBlank (_ : Nat) : Byte := 0

/-- One byte of LPDDR4X. -/
def memGet (m : List Host.Cell) (a : Nat) : Byte := tget memBlank m a
/-- One byte of LPDDR4X written, keeping the canonical form. -/
def memSet (m : List Host.Cell) (a : Nat) (v : Byte) : List Host.Cell := tset memBlank m a v
/-- The canonical form: addresses rising, no byte equal to what an unlisted address reads. -/
def memWf (m : List Host.Cell) : Bool := twf memBlank m
/-- Consecutive bytes written. -/
def memPut (m : List Host.Cell) (a : Nat) : List Byte → List Host.Cell
  | [] => m
  | b :: t => memPut (memSet m a b) (a + 1) t
/-- Consecutive bytes read. -/
def memTake (m : List Host.Cell) (a n : Nat) : List Byte := (List.range n).map (fun i => memGet m (a + i))
/-- The four bytes of a word, low byte first. -/
def wordBytes (v : Word) : List Byte :=
  [v.setWidth 8, (v >>> 8).setWidth 8, (v >>> 16).setWidth 8, (v >>> 24).setWidth 8]
/-- A word read. -/
def memWord (m : List Host.Cell) (a : Nat) : Word :=
  word ((memGet m a).toNat + 256 * (memGet m (a + 1)).toNat + 65536 * (memGet m (a + 2)).toNat
    + 16777216 * (memGet m (a + 3)).toNat)
/-- A word written. -/
def memWrWord (m : List Host.Cell) (a : Nat) (v : Word) : List Host.Cell := memPut m a (wordBytes v)
/-- Consecutive words written. -/
def memWrWords (m : List Host.Cell) (a : Nat) : List Word → List Host.Cell
  | [] => m
  | v :: t => memWrWords (memWrWord m a v) (a + 4) t

/-- A word read of the state's LPDDR4X. -/
def State.mw (s : State) (a : Nat) : Word := memWord s.mem a

end Sys2Proof.Machine
end

