-- ==== Sys2Proof/Machine/CanFd.lean ====
section
/-! DEFINITION. CAN FD controllers (ch. 18): reception into the ring, the transmit FIFO, fault confinement, recovery, aborts and
the indices. One text serves all eight: controllers 0 to 6 over the Service region and LPDDR4X, controller 7 over Heath
and its private SRAM. -/
namespace Sys2Proof.Machine

/-- What one controller works on: registers, the memory of its ring and FIFO, where the ring starts, its own state, and
what it asks to be logged, and the cycles since power-on. -/
structure CanV where
  regs : RegTable
  mem : List Host.Cell
  base : Nat
  st : CanSt
  logs : List LogReq
  now : Nat

/-- A field of a register of the view. -/
def CanV.f (v : CanV) (a lo w : Nat) : Nat := fget (rget v.regs a) lo w
/-- A bit of a register of the view. -/
def CanV.b (v : CanV) (a i : Nat) : Bool := fbit (rget v.regs a) i
/-- A register of the view written. -/
def CanV.wr (v : CanV) (a : Nat) (x : Word) : CanV := { v with regs := rset v.regs a x }
/-- A field of a register of the view set. -/
def CanV.setF (v : CanV) (a lo w x : Nat) : CanV := v.wr a (fset (rget v.regs a) lo w x)
/-- A bit of a register of the view set or cleared. -/
def CanV.setB (v : CanV) (a i : Nat) (x : Bool) : CanV := v.wr a (fsetb (rget v.regs a) i x)
/-- A counting field of the view advanced, stopping at its top. -/
def CanV.sat (v : CanV) (a lo w n : Nat) : CanV := v.setF a lo w (satAdd w (v.f a lo w) n)
/-- An entry asked to be logged by controller `c` (R633). -/
def CanV.log (v : CanV) (c cls detail : Nat) : CanV :=
  { v with logs := v.logs ++ [⟨0x22, if c = 7 then 1 else 0, cls, detail + c⟩] }

/-- STATE of a controller: 0 error active, 1 error passive, 2 bus-off, 3 not on the bus. -/
def canState (c : Nat) (v : CanV) : Nat := v.f (Reg.CAN_STAT c) 30 2
/-- The controller is enabled. -/
def canEn (c : Nat) (v : CanV) : Bool := v.b (Reg.CAN_CTL c) 31
/-- Listen-only mode. -/
def canLom (c : Nat) (v : CanV) : Bool := v.b (Reg.CAN_CTL c) 30
/-- The controller takes part in its bus: on it and not bus-off. -/
def canActive (c : Nat) (v : CanV) : Bool := canState c v ≤ 1
/-- RX_WR. -/
def canRxWr (c : Nat) (v : CanV) : Nat := v.f (Reg.CAN_HW_IDX c) 16 13
/-- RX_RD. -/
def canRxRd (c : Nat) (v : CanV) : Nat := v.f (Reg.CAN_SW_IDX c) 16 13
/-- TX_RD. -/
def canTxRd (c : Nat) (v : CanV) : Nat := v.f (Reg.CAN_HW_IDX c) 0 7
/-- TX_WR. -/
def canTxWr (c : Nat) (v : CanV) : Nat := v.f (Reg.CAN_SW_IDX c) 0 7

/-- The data bytes that a DLC gives (ISO 11898-1). -/
def dlcLen (d : Nat) : Nat :=
  if d ≤ 8 then d else if d ≤ 12 then 8 + 4 * (d - 8) else if d = 13 then 32 else if d = 14 then 48 else 64

/-- The STATE that the counters give (R627), with its flags, WARN and log entry; a TEC past 255 is bus-off. -/
def canConfine (c tec rec : Nat) (v : CanV) : CanV :=
  let old := canState c v
  let warn := decide (96 ≤ tec ∨ 96 ≤ rec)
  let new := if 255 < tec then 2 else if 128 ≤ tec ∨ 128 ≤ rec then 1 else 0
  let v1 := (v.setF (Reg.CAN_ECNT c) 0 8 (min 255 tec)).setF (Reg.CAN_ECNT c) 8 8 (min 255 rec)
  let up := warn && !v.b (Reg.CAN_STAT c) 29
  let v2 := (v1.setF (Reg.CAN_STAT c) 30 2 new).setB (Reg.CAN_STAT c) 29 warn
  let v3 := if up then v2.setB (Reg.CAN_EVT c) 4 true else v2
  let v4 := if new = 1 ∧ old = 0 then v3.setB (Reg.CAN_EVT c) 5 true else v3
  let v5 := if new = 2 ∧ old ≠ 2 then
      ({ v4 with st := { v4.st with boAt := v4.now } }.setB (Reg.CAN_EVT c) 6 true |>.sat (Reg.CAN_ECNT c) 16 16 1).setB (Reg.CAN_STAT c) 28
        (decide (v.f (Reg.CAN_CTL c) 0 16 = 0))
    else v4
  if new ≠ old ∨ up then v5.log c 0x01 (new * 2 ^ 30 + old * 2 ^ 28) else v5

/-- TEC and REC. -/
def canTec (c : Nat) (v : CanV) : Nat := v.f (Reg.CAN_ECNT c) 0 8
/-- REC. -/
def canRec (c : Nat) (v : CanV) : Nat := v.f (Reg.CAN_ECNT c) 8 8

/-- A frame written to the ring under R618 to R621: lost when the ring is full or its write meets a parity error. -/
def canRing (c : Nat) (echo : Bool) (x : CanRx) (v : CanV) : CanV :=
  let seq := v.st.seq
  let v0 := { v with st := { v.st with seq := (seq + 1) % 65536 } }
  if x.parity then v0.sat (Reg.CAN_LOST c) 8 8 1
  else if (canRxWr c v0 + 8192 - canRxRd c v0) % 8192 = 4096 then
    let v1 := { v0 with st := { v0.st with run := v0.st.run + 1 } }.sat (Reg.CAN_LOST c) 16 16 1
    if v.st.run = 0 then (v1.setB (Reg.CAN_EVT c) 1 true).log c 0x02 0 else v1
  else
    let a := v0.base + 80 * (canRxWr c v0 % 4096)
    let len := dlcLen x.dlc.toNat
    let w2 := (if echo then 2 ^ 31 else 0) + x.id.toNat
    let w3 := (if x.xtd then 2 ^ 31 else 0) + (if x.rtr then 2 ^ 30 else 0) + (if x.fdf then 2 ^ 29 else 0)
      + (if x.brs then 2 ^ 28 else 0) + (if x.esi then 2 ^ 27 else 0) + x.dlc.toNat * 2 ^ 23 + len * 2 ^ 16 + seq
    let m1 := memWrWords v0.mem a [x.ts.setWidth 32, (x.ts >>> 32).setWidth 32, word w2, word w3]
    let m2 := memPut m1 (a + 16) ((List.range 64).map (fun i => if i < len then x.data.getD i 0 else 0))
    let v1 := { v0 with mem := m2, st := { v0.st with run := 0 } }
    let v2 := v1.setF (Reg.CAN_HW_IDX c) 16 13 (canRxWr c v0 + 1)
    let v3 := (v2.setB (Reg.CAN_EVT c) 0 true).sat (Reg.CAN_CNT c) 16 16 1
    if 0 < v.st.run then v3.log c 0x03 (min 65535 v.st.run * 65536) else v3

/-- The identifiers that controller 7 accepts (R554). -/
def canSafeId (x : CanRx) : Bool :=
  !x.xtd && (let i := x.id.toNat / 2 ^ 18; i == 0x0F0 || i == 0x0F1 || (decide (0x100 ≤ i) && decide (i < 0x120)))

/-- REC after a frame received without error (ISO 11898-1). -/
def canRecDown (rec lvl : Nat) : Nat := if 127 < rec then min 127 (max 119 lvl) else rec - 1

/-- A valid frame received (R618, R627). -/
def canReceive (c : Nat) (x : CanRx) (v : CanV) : CanV :=
  if canEn c v && canActive c v then
    let v1 := if canLom c v then v else canConfine c (canTec c v) (canRecDown (canRec c v) x.recv) v
    if c = 7 ∧ !canSafeId x then
      (v1.setB Reg.SFN_EVT 2 true).sat Reg.SFN_CNT 8 8 1
    else canRing c false x v1
  else v

/-- A FIFO entry's address. -/
def canFifo (v : CanV) (i : Nat) : Nat := v.base + 0x50000 + 80 * (i % 64)
/-- A FIFO entry that may be sent: DLC and LEN agree, no RTR with FDF, no BRS without FDF (R619). -/
def canEntryOk (w3 : Word) : Bool :=
  dlcLen (fget w3 23 4) == fget w3 16 7 && !(fbit w3 30 && fbit w3 29) && !(fbit w3 28 && !fbit w3 29)

/-- An entry given up: TX_FAIL set and counted. -/
def canFail (c n : Nat) (v : CanV) : CanV := (v.setB (Reg.CAN_EVT c) 3 true).sat (Reg.CAN_LOST c) 0 8 n

/-- The controller sends: on the bus, enabled and not listen-only (R616, R626). -/
def canGoes (c : Nat) (v : CanV) : Bool := canActive c v && canEn c v && !canLom c v
/-- The first FIFO entry from an index on that may be sent; the index `w` where there is none. -/
def canFirstFrom (v : CanV) (w : Nat) : Nat → Nat → Nat
  | 0, i => i
  | n + 1, i => if i = w ∨ canEntryOk (memWord v.mem (canFifo v i + 12)) = true then i else canFirstFrom v w n ((i + 1) % 128)
/-- Where TX_RD comes to stand from an index: a controller that sends passes over entries that may not be sent (R619). -/
def canFirst (c : Nat) (v : CanV) (i : Nat) : Nat := if canGoes c v then canFirstFrom v (canTxWr c v) 128 i else i
/-- Entries at the head that may not be sent are passed over, TX_FAIL counted for each (R619). -/
def canSkip (c : Nat) (v : CanV) : CanV :=
  let i := canTxRd c v
  let j := canFirst c v i
  if i = j then v else canFail c ((j + 128 - i) % 128) (v.setF (Reg.CAN_HW_IDX c) 0 7 j)

/-- TX_RD passes the head. -/
def canPass (c : Nat) (v : CanV) : CanV := canSkip c (v.setF (Reg.CAN_HW_IDX c) 0 7 (canTxRd c v + 1))

/-- The entry at index `i` sent at its end of frame (R615, R617, R622, R624). -/
def canDone (c i : Nat) (ts : BitVec 64) (tdcv : Nat) (v : CanV) : CanV :=
  let a := canFifo v i
  let w2 := memWord v.mem (a + 8)
  let w3 := memWord v.mem (a + 12)
  let fd := fbit w3 29 && fbit w3 28 && v.b (Reg.CAN_CTL c) 27
  let v1 := if fd then v.setF (Reg.CAN_STAT c) 0 7 (min 127 tdcv) else v
  let v2 := if fd ∧ 127 < tdcv + v.f (Reg.CAN_DBT c) 7 7 then v1.setB (Reg.CAN_EVT c) 9 true else v1
  let v3 := (v2.setB (Reg.CAN_EVT c) 2 true).sat (Reg.CAN_CNT c) 0 16 1
  let v4 := ((v3.wr (Reg.CAN_TX_TS_LO c) (ts.setWidth 32)).wr (Reg.CAN_TX_TS_HI c) ((ts >>> 32).setWidth 32)).wr
    (Reg.CAN_TX_TAG c) (w3 &&& 0xFFFF)
  let v5 := canConfine c (canTec c v4 - 1) (canRec c v4) v4
  if v.b (Reg.CAN_CTL c) 28 then
    canRing c true ⟨ts, w2.setWidth 29, fbit w3 31, fbit w3 30, fbit w3 29, fbit w3 28,
      decide (canState c v = 1), BitVec.ofNat 4 (fget w3 23 4), memTake v.mem (a + 16) 64, false, 0⟩ v5
  else v5

/-- The frame in transmission ends well (R622, R623). -/
def canSent (c : Nat) (ts : BitVec 64) (tdcv : Nat) (v : CanV) : CanV :=
  if !canActive c v && !v.st.last then v
  else match v.st.aborted with
    | some i => canDone c i ts tdcv { v with st := { v.st with aborted := none, last := false } }
    | none =>
      if canTxRd c v = canTxWr c v ∨ ((canLom c v || !canEn c v) && !v.st.last) then v
      else
        let v1 := { canSkip c v with st := { v.st with last := false } }
        if canTxRd c v1 = canTxWr c v1 then v1
        else canDone c (canTxRd c v1) ts tdcv (canPass c v1)

/-- The attempt at the frame in transmission ends badly: given up under ONE_SHOT, after an ABORT, or when the controller
leaves the bus, else kept for a retry (R616, R622, R623). -/
def canMissed (c : Nat) (v : CanV) : CanV :=
  match v.st.aborted with
  | some _ => canFail c 1 { v with st := { v.st with aborted := none } }
  | none =>
    if canTxRd c v = canTxWr c v then v
    else if v.b (Reg.CAN_CTL c) 29 || v.st.last then
      canPass c (canFail c 1 { v with st := { v.st with last := false } })
    else v

/-- An arbitration loss or an error (R622, R626, R627). -/
def canError (c : Nat) (x : CanErr) (v : CanV) : CanV :=
  if !canActive c v && !v.st.last then v
  else if x.pxe then v.setB (Reg.CAN_EVT c) 10 true
  else if x.lost then (if x.tx then canMissed c v else v)
  else
    let v1 := if x.dataPhase then v.setF (Reg.CAN_STAT c) 22 3 x.code.toNat
      else v.setF (Reg.CAN_STAT c) 25 3 x.code.toNat
    if canLom c v && !v.st.last then v1
    else
      let v2 := if canActive c v then canConfine c (canTec c v1 + x.tec) (canRec c v1 + x.recv) v1 else v1
      if x.tx then canMissed c v2 else v2

/-- A write of CAN.CMD (R623, R628): ABORT gives up every entry that is not in transmission; RECOVER starts recovery while
bus-off. -/
def canCmd (c : Nat) (w : Word) (busy : Bool) (v : CanV) : CanV :=
  let v1 := if fbit w 1 then
      let n := (canTxWr c v + 128 - canTxRd c v) % 128
      let sending := busy && decide (0 < n) && canActive c v && canEn c v
      let k := if sending then n - 1 else n
      let va := { v with st := { v.st with aborted := if sending then some (canTxRd c v) else v.st.aborted } }
      let vb := va.setF (Reg.CAN_HW_IDX c) 0 7 (canTxWr c v)
      let vc := if 0 < k then canFail c k vb else vb
      (vc.setB (Reg.CAN_EVT c) 8 true).log c 0x04 (k * 65536)
    else v
  if fbit w 0 ∧ canState c v1 = 2 ∧ c ≠ 7 then v1.setB (Reg.CAN_STAT c) 28 true else v1

/-- A write of CAN.SW_IDX, each field judged by itself (R620). -/
def canSwIdx (c : Nat) (w : Word) (v : CanV) : CanV :=
  let rx := fget w 16 13
  let tx := fget w 0 7
  let rxOk := decide ((rx + 8192 - canRxRd c v) % 8192 ≤ (canRxWr c v + 8192 - canRxRd c v) % 8192)
  let txOk := decide ((tx + 128 - canTxWr c v) % 128 ≤ 64 - (canTxWr c v + 128 - canTxRd c v) % 128)
  let v1 := if rxOk then v.setF (Reg.CAN_SW_IDX c) 16 13 rx else v
  let v2 := if txOk then v1.setF (Reg.CAN_SW_IDX c) 0 7 tx else v1
  canSkip c (if rxOk && txOk then v2 else v2.setB (Reg.CAN_EVT c) 11 true)

/-- Recovery completes (R628). -/
def canRecovered (c : Nat) (v : CanV) : CanV :=
  if canState c v = 2 ∧ v.b (Reg.CAN_STAT c) 28 then
    let v1 := (v.setF (Reg.CAN_ECNT c) 0 16 0).setF (Reg.CAN_STAT c) 28 4 0
    canSkip c ((v1.setB (Reg.CAN_EVT c) 7 true).log c 0x01 (2 * 2 ^ 28))
  else v

/-- BO_WAIT_EXPIRE is due: BO_WAIT ms have passed since the entry to bus-off, and recovery has not begun (R628). -/
def boWaitDue (c : Nat) (v : CanV) : Bool :=
  canState c v == 2 && !v.b (Reg.CAN_STAT c) 28 && decide (v.st.boAt + 200000 * v.f (Reg.CAN_CTL c) 0 16 ≤ v.now)
/-- BO_WAIT has passed since bus-off (R628). -/
def canBoWait (c : Nat) (v : CanV) : CanV :=
  if boWaitDue c v then v.setB (Reg.CAN_STAT c) 28 true else v

/-- An enabled controller has seen 11 recessive bits (R616). -/
def canIntegrated (c : Nat) (v : CanV) : CanV :=
  if canEn c v ∧ canState c v = 3 then
    canSkip c ((v.setF (Reg.CAN_STAT c) 30 2 0).log c 0x01 (3 * 2 ^ 28))
  else v

/-- The effect of CAN.CTL as written over an old value (R616, R626). -/
def canImpose (c : Nat) (old : Word) (v : CanV) : CanV :=
  let was := fbit old 31
  let v1 := if was ∧ !canEn c v then
      let bo := decide (canState c v = 2)
      let v0 := (v.setF (Reg.CAN_STAT c) 30 2 3).setB (Reg.CAN_STAT c) 28 false
      { v0 with st := { v0.st with boWas := bo, last := canActive c v } }
    else if !was ∧ canEn c v then
      let v0 := { v with st := { v.st with boWas := false, last := false } }
      if v.st.boWas then
        (v0.setF (Reg.CAN_STAT c) 30 2 2).setB (Reg.CAN_STAT c) 28 (decide (v.f (Reg.CAN_CTL c) 0 16 = 0))
      else (v0.setF (Reg.CAN_ECNT c) 0 16 0).setB (Reg.CAN_STAT c) 29 false
    else v
  canSkip c (if was ∧ canEn c v1 ∧ !fbit old 30 ∧ canLom c v1 then { v1 with st := { v1.st with last := true } } else v1)

/-- An unfenced controller integrates with both counters at zero and its FIFO emptied (R629). -/
def canUnfence (c : Nat) (v : CanV) : CanV :=
  let v1 := (v.setF (Reg.CAN_STAT c) 28 4 0xC).setF (Reg.CAN_ECNT c) 0 16 0
  { v1.setF (Reg.CAN_HW_IDX c) 0 7 (canTxWr c v) with st := {} }

/-- Controller 0 to 6 as a view. -/
def canViewOf (now c : Nat) (q : Chip) (m : List Host.Cell) : CanV :=
  ⟨q.regs, m, q.n Reg.CAN_RING_LO + 2 ^ 32 * q.n Reg.CAN_RING_HI + 0x60000 * c, tget (fun _ => {}) q.can c, [], now⟩

/-- The effect of a controller on the state, with its log entries: controllers 0 to 6 while present, their region running
and not fenced; controller 7 while Heath runs and it is not fenced (R612, R629). -/
def onCan (c : Nat) (f : CanV → CanV) (s : State) : State :=
  if c = 7 then
    if s.chip.rgn .heath = 0 ∧ !s.heath.fenced 0x50005000 0 then
      let v := f ⟨s.heath.regs, s.heath.sram, 0, s.heath.can, [], s.env.time.up⟩
      let q := s.chip.putOrKeep s.heath.kept (v.logs.map (·.entry s.env))
      { s with chip := q.1, heath := { s.heath with regs := v.regs, sram := v.mem, can := v.st, kept := q.2 } }
    else s
  else
    if s.chip.svc ∧ !s.chip.fenced 0x70003000 c ∧ c < (if s.env.part.variant = .v5108 then 3 else 7) then
      let v := f (canViewOf s.env.time.up c s.chip s.mem)
      let q := { s.chip with regs := v.regs, can := tset (fun _ => ({} : CanSt)) s.chip.can c v.st }
      { s with chip := eachOf (v.logs.map (·.entry s.env)) (fun en q => q.putAt en) q, mem := v.mem }
    else s

/-- CAN_FRAME_RECEIVED: a valid frame is written to the receive ring, or lost (R618 to R621). -/
def execCanFrameReceived (c : Fin 8) (x : CanRx) (s : State) : Host.Outcome State Fault Refusal :=
  .next (onCan c.val (canReceive c.val x) s)

/-- CAN_FRAME_SENT: the head frame is sent (R615, R617, R622, R624). -/
def execCanFrameSent (c : Fin 8) (ts : BitVec 64) (tdcv : Nat) (s : State) : Host.Outcome State Fault Refusal :=
  .next (onCan c.val (canSent c.val ts tdcv) s)

/-- CAN_BUS_ERROR: an arbitration loss or an error (R622, R626, R627). -/
def execCanBusError (c : Fin 8) (x : CanErr) (s : State) : Host.Outcome State Fault Refusal :=
  .next (onCan c.val (canError c.val x) s)

/-- CAN_ABORT: CMD.ABORT written; `busy` says that the head is in transmission (R623). -/
def execCanAbort (p : Plane) (c : Fin 8) (busy : Bool) (s : State) : Host.Outcome State Fault Refusal :=
  .next (onWrite p (Reg.CAN_CMD c.val) 2 (fun v s => onCan c.val (canCmd c.val v busy) s) s)

/-- CAN_RECOVER: CMD.RECOVER written (R628). -/
def execCanRecover (p : Plane) (c : Fin 8) (s : State) : Host.Outcome State Fault Refusal :=
  .next (onWrite p (Reg.CAN_CMD c.val) 1 (fun v s => onCan c.val (canCmd c.val v false) s) s)

/-- BO_WAIT_EXPIRE: BO_WAIT ms after bus-off recovery starts (R628). -/
def execBoWaitExpire (c : Fin 8) (s : State) : Host.Outcome State Fault Refusal :=
  .next (onCan c.val (canBoWait c.val) s)

/-- RECOVERED: 128 recessive sequences complete recovery (R628). -/
def execRecovered (c : Fin 8) (s : State) : Host.Outcome State Fault Refusal :=
  .next (onCan c.val (canRecovered c.val) s)

/-- CAN_INTEGRATED: an enabled controller goes error active (R616). -/
def execCanIntegrated (c : Fin 8) (s : State) : Host.Outcome State Fault Refusal :=
  .next (onCan c.val (canIntegrated c.val) s)

/-- CAN_SW_IDX_WRITE: RX_RD and TX_WR advance field by field within their rules (R620). -/
def execCanSwIdxWrite (p : Plane) (c : Fin 8) (v : Word) (s : State) : Host.Outcome State Fault Refusal :=
  .next (onWrite p (Reg.CAN_SW_IDX c.val) v (fun v s => onCan c.val (canSwIdx c.val v) s) s)

end Sys2Proof.Machine
end

