-- ==== Sys2Proof/Config.lean ====
section
/-! DEFINITION. What the spec leaves to an implementation or to outside functions: constants with no body, which no proof can
see into (log entries 7 and 8). -/
namespace Sys2Proof.Config

/-- A value that the spec leaves undefined, of a kind and by the number of its draw (log entry 7). -/
opaque freeWord : Nat → Nat → Word

/-- The factory's coefficients of an oscillator: 0 the Heath channel B oscillator, 1 the backup oscillator (R316: held in MRAM, and the spec
gives none; log entry 3). T0 in 0.1 °C; TC1 and TC2 in ppm per 0.1 K and per its square, as numerators over one denominator, this plus one. -/
opaque oscT0 : Nat → Int
/-- The numerator of TC1. -/
opaque oscTC1 : Nat → Int
/-- The numerator of TC2. -/
opaque oscTC2 : Nat → Int
/-- The denominator less one. -/
opaque oscDen : Nat → Nat
/-- A correction that is no whole number of ppm is rounded up, by its numerator and denominator: the spec states no rounding (log entry 3). -/
opaque ppmUp : Int → Int → Bool

/-- The average over a demand interval of no duration, by its energy in mWh: the spec states none (R480; log entry 7). -/
opaque demandOfNothing : Nat → Nat

/-- What the 4 bits of SEAL_STAT.RESULT show of a code of 0x10 and above, which they cannot hold (R444, R490; log entry 7). -/
opaque resultOf : Nat → Nat

/-- The T_D in ms of a GUARD function's door that is a remote point, by its number: the spec states none (R524, R546; log
entry 7). -/
opaque remoteDoorMs : Nat → Nat

/-- The Allocator's worst-case cycle count by mapped stage slots, mapped outlets, used tree nodes and MAX_NEW: Erwael does not
publish the formula (R42; log entry 7). -/
opaque alcWcet : Nat → Nat → Nat → Nat → Nat

/-- The node that OUT_BIND shows where no limit binds though the target is below its bound, by the targets and bounds of the run and the
outlet: the spec states none (R189, R212; log entry 7). -/
opaque bindNode : List Nat → Nat → Nat

/-- What a receiver requests of the far transmitter, [11:0] of a REQUEST word, by port, lane and cycle: the choice is its own matter (R333;
log entry 7). -/
opaque eyeRequest : Nat → Nat → Nat → Nat

/-- The slots, less one, after which a STATUS slot leaves that an exclusion calls for, by port and cycle: within 4 (R339; log entry 7). -/
opaque statusWait : Nat → Nat → Fin 4

/-- A key that a CRY job makes, by the number of its making (R408; log entry 7). -/
opaque keyMade : Nat → BitVec 256

/-- A check byte of a Reed–Solomon codeword over its data: the spec gives neither the field's polynomial nor the code's roots (R638; log
entry 7). -/
opaque rsCheck : List (BitVec 8) → Nat → BitVec 8

/-- The interleaver's key of a position, by the symbols of the span and its coded bits: their order is that of the positions sent (R638 gives
none; log entry 7). -/
opaque ilvKey : Nat → Nat → Nat → Nat

/-- A byte of a Hedgerow payload as AES-128-CCM gives it, by key, EUI, frame counter and plain bytes (R645: the nonce's layout is not in the
spec; log entry 7). -/
opaque ccmByte : BitVec 256 → Nat → Nat → List (BitVec 8) → Nat → BitVec 8

/-- The payload of a BEACON (3) or a JOIN (4) that carries this list of addresses and SNRs, whose layout the spec does not give (R646, R647;
log entry 7). -/
opaque hdgList : Nat → List (Nat × Nat) → List (BitVec 8)

/-- DST of the JOIN that gives a node its address, which the spec does not give (R646; log entry 7). -/
opaque joinDst : Nat → Nat

/-- A word of the ECDSA P-256 signature of a record, with the key pair that the region generated at manufacture, by the bytes that it is
signed over: r in words 0 to 7, then s (14 R498; log entry 7). -/
opaque recordSignature : List (BitVec 8) → Nat → BitVec 32

/-- The state digest's CRC-32 over the whole mirrored state: the spec gives no order of its words (R581; log entry 7). -/
opaque stateDigest : Machine.CtlCopy → Word

/-- The comparison CRC-32 over the PWM shadow registers and the latched aux switch command word (20 R665, 21 R678): the spec gives no order of its words (R585; log
entry 7). -/
opaque outputCrc : List Word → Word → Word

/-- The committed-configuration CRC over the committed image: the spec gives no order of its words (R578, R591; log entry 7). -/
opaque configCrc : List (Nat × Word) → Word

end Sys2Proof.Config
end

