-- ==== Sys2Proof/Machine/Float.lean ====
section
/-! DEFINITION. IEEE 754 binary32 arithmetic on words: round to nearest, ties to even, no fused operations, subnormals flushed
to zero at the inputs and the results of an operation (R250). -/
namespace Sys2Proof.Machine

/-- Sign bit of a binary32 word. -/
def fSign (a : Word) : Bool := a.getLsbD 31
/-- Biased exponent. -/
def fExp (a : Word) : Nat := (a.toNat >>> 23) % 256
/-- Fraction field. -/
def fFrac (a : Word) : Nat := a.toNat % 2 ^ 23
/-- Not a number. -/
def fNan (a : Word) : Bool := fExp a == 255 && fFrac a != 0
/-- An infinity. -/
def fInf (a : Word) : Bool := fExp a == 255 && fFrac a == 0
/-- Finite. -/
def fFin (a : Word) : Bool := fExp a != 255
/-- Zero, or a subnormal that is taken as zero. -/
def fZero (a : Word) : Bool := fExp a == 0

/-- The quiet NaN that an invalid operation gives. -/
def fQNaN : Word := 0x7FC00000
/-- A signed infinity. -/
def fInfW (neg : Bool) : Word := if neg then 0xFF800000 else 0x7F800000
/-- A signed zero. -/
def fZeroW (neg : Bool) : Word := if neg then 0x80000000 else 0

/-- The significand of a finite number with its hidden bit; the value is `mant * 2 ^ (exp - 150)`. -/
def fMant (a : Word) : Nat := if fExp a = 0 then 0 else 2 ^ 23 + fFrac a
/-- The exponent of two that scales the significand. -/
def fScale (a : Word) : Int := (fExp a : Int) - 150

/-- The number `± m * 2 ^ e` rounded to nearest even and packed; `sticky` says that a nonzero part below was cut off. A
result that rounds below the normal range is flushed to zero; the upper half of the last subnormal step rounds up to the
smallest normal number. -/
def fPack (neg : Bool) (m : Nat) (e : Int) (sticky : Bool) : Word :=
  if m = 0 then fZeroW neg
  else
    let n := Nat.log2 m
    -- the significand cut or padded to 26 bits: 24 kept, one for the tie, one that gathers the rest
    let sh : Int := (n : Int) - 25
    let m1 := if 0 ≤ sh then m >>> sh.toNat else m <<< (-sh).toNat
    let lost := sticky || (decide (0 ≤ sh) && decide (m % 2 ^ sh.toNat ≠ 0))
    let m2 := m1 ||| (if lost then 1 else 0)
    let e2 := e + sh + 2
    let q := m2 >>> 2
    let r := m2 % 4
    let q1 := if 2 < r ∨ (r = 2 ∧ q % 2 = 1) then q + 1 else q
    let q2 := if q1 = 2 ^ 24 then 2 ^ 23 else q1
    let e3 := if q1 = 2 ^ 24 then e2 + 1 else e2
    let be := e3 + 150
    if 255 ≤ be then fInfW neg
    else if e2 + 150 = 0 ∧ q = 2 ^ 24 - 1 then BitVec.ofNat 32 ((if neg then 2 ^ 31 else 0) + 2 ^ 23)
    else if be ≤ 0 then fZeroW neg
    else BitVec.ofNat 32 ((if neg then 2 ^ 31 else 0) + be.toNat * 2 ^ 23 + (q2 - 2 ^ 23))

/-- A signed exact value `k * 2 ^ e` packed; an exact zero is positive. -/
def fOfExact (k : Int) (e : Int) : Word := fPack (decide (k < 0)) k.natAbs e false

/-- Sign change. -/
def fNeg (a : Word) : Word := a ^^^ 0x80000000
/-- Absolute value. -/
def fAbs (a : Word) : Word := a &&& 0x7FFFFFFF

/-- Sum. -/
def fAdd (a b : Word) : Word :=
  if fNan a || fNan b then fQNaN
  else if fInf a && fInf b then (if fSign a = fSign b then fInfW (fSign a) else fQNaN)
  else if fInf a then fInfW (fSign a)
  else if fInf b then fInfW (fSign b)
  else if fZero a && fZero b then fZeroW (fSign a && fSign b)
  else
    let e := min (fScale a) (fScale b)
    let x : Int := (fMant a * 2 ^ (fScale a - e).toNat : Nat)
    let y : Int := (fMant b * 2 ^ (fScale b - e).toNat : Nat)
    fOfExact ((if fSign a then -x else x) + (if fSign b then -y else y)) e

/-- Difference. -/
def fSub (a b : Word) : Word := fAdd a (fNeg b)

/-- Product. -/
def fMul (a b : Word) : Word :=
  let s := fSign a != fSign b
  if fNan a || fNan b then fQNaN
  else if fInf a || fInf b then (if fZero a || fZero b then fQNaN else fInfW s)
  else if fZero a || fZero b then fZeroW s
  else fPack s (fMant a * fMant b) (fScale a + fScale b) false

/-- Quotient. -/
def fDiv (a b : Word) : Word :=
  let s := fSign a != fSign b
  if fNan a || fNan b then fQNaN
  else if fInf a then (if fInf b then fQNaN else fInfW s)
  else if fInf b then fZeroW s
  else if fZero b then (if fZero a then fQNaN else fInfW s)
  else if fZero a then fZeroW s
  else
    let n := fMant a * 2 ^ 30
    fPack s (n / fMant b) (fScale a - fScale b - 30) (decide (n % fMant b ≠ 0))

/-- Ordered comparison: `a < b`; false when either is a NaN. -/
def fLt (a b : Word) : Bool :=
  if fNan a || fNan b then false
  else
    let key (w : Word) : Int := if fZero w then 0 else if fSign w then -((w.toNat % 2 ^ 31 : Nat) : Int) else (w.toNat % 2 ^ 31 : Nat)
    decide (key a < key b)
/-- Ordered comparison: `a ≤ b`. -/
def fLe (a b : Word) : Bool := !fNan a && !fNan b && !fLt b a
/-- Ordered equality. -/
def fEq (a b : Word) : Bool := fLe a b && fLe b a
/-- The smaller of two numbers; −0 below +0 (R250); a NaN where either is one. -/
def fMin (a b : Word) : Word :=
  if fNan a || fNan b then fQNaN
  else if fLt b a then b else if fLt a b then a else if fSign a then a else b
/-- The larger of two numbers; +0 above −0 (R250); a NaN where either is one. -/
def fMax (a b : Word) : Word :=
  if fNan a || fNan b then fQNaN
  else if fLt a b then b else if fLt b a then a else if fSign a then b else a
/-- A subnormal taken as zero of the same sign (R249). -/
def fFlush (a : Word) : Word := if fZero a then fZeroW (fSign a) else a

/-- An integer as binary32. -/
def fOfInt (i : Int) : Word := fOfExact i 0
/-- A finite number truncated toward zero. -/
def fTrunc (a : Word) : Int :=
  if !fFin a || fZero a then 0
  else
    let m := if 0 ≤ fScale a then fMant a * 2 ^ (fScale a).toNat else fMant a / 2 ^ (-fScale a).toNat
    if fSign a then -(m : Int) else m
/-- A finite number rounded down to a whole number, exact. -/
def fFloor (a : Word) : Word :=
  if !fFin a || fZero a then a
  else
    let t := fTrunc a
    let exact := decide (0 ≤ fScale a) || decide (fMant a % 2 ^ (-fScale a).toNat = 0)
    if exact then a else if fSign a then fOfInt (t - 1) else if t = 0 then fZeroW false else fOfInt t
/-- The integer square root. -/
def natSqrt (n : Nat) : Nat :=
  (List.range (Nat.log2 n / 2 + 1)).reverse.foldl (fun r i => if (r + 2 ^ i) * (r + 2 ^ i) ≤ n then r + 2 ^ i else r) 0
/-- Square root, correctly rounded. -/
def fSqrt (a : Word) : Word :=
  if fNan a then fQNaN
  else if fZero a then fZeroW (fSign a)
  else if fSign a then fQNaN
  else if fInf a then fInfW false
  else
    let odd := decide (fScale a % 2 ≠ 0)
    let m := (if odd then 2 * fMant a else fMant a) * 2 ^ 40
    let e := (if odd then fScale a - 1 else fScale a) - 40
    let r := natSqrt m
    fPack false r (e / 2) (decide (r * r ≠ m))
/-- A finite number rounded to the nearest integer, ties to even. -/
def fRound (a : Word) : Int :=
  if !fFin a || fZero a then 0
  else
    let m :=
      if 0 ≤ fScale a then fMant a * 2 ^ (fScale a).toNat
      else
        let d := 2 ^ (-fScale a).toNat
        let q := fMant a / d
        let r := 2 * (fMant a % d)
        if d < r ∨ (r = d ∧ q % 2 = 1) then q + 1 else q
    if fSign a then -(m : Int) else m

/-- A result that may be stored: finite, a subnormal taken as zero (R249, R250). -/
def fKeep (w : Word) : Option Word := if fFin w then some (fFlush w) else none

end Sys2Proof.Machine
end

