-- ==== Sys2Proof/Machine/Fence.lean ====
section
/-! DEFINITION. Fences and the fault record (ch. 3, R94 to R99, R112, R774): the fence maps, cells kept in several blocks, and
what a fence does at once. -/
namespace Sys2Proof.Machine

/-- The fault record CHIP.FAULT_A to CHIP.FAULT_TS_HI takes the most recent fault or fence (R112). -/
def Chip.faultRec (e : Env) (level rgn cause type inst cell : Nat) (c : Chip) : Chip :=
  let c1 := c.wr Reg.CHIP_FAULT_A (word (level * 2 ^ 30 + rgn * 2 ^ 28 + cause * 2 ^ 24 + type))
  let c2 := c1.wr Reg.CHIP_FAULT_B (word (inst * 2 ^ 24 + cell))
  (c2.wr Reg.CHIP_FAULT_TS_LO (e.time.stamp.setWidth 32)).wr Reg.CHIP_FAULT_TS_HI ((e.time.stamp >>> 32).setWidth 32)

/-- The DETAIL of a fault's log entry (R170, class 0xF0). -/
def faultDetail (level rgn cause cell : Nat) : Nat := level * 2 ^ 30 + rgn * 2 ^ 28 + cause * 2 ^ 24 + cell

/-- A fault or fence of a Control or Service unit: the record and the log entry (R112). -/
def Chip.fault (e : Env) (level rgn cause type inst cell : Nat) (c : Chip) : Chip :=
  (c.faultRec e level rgn cause type inst cell).log1 e type inst 0xF0 (faultDetail level rgn cause cell)

/-- The words of a page's fence map that say whether any cell is fenced, counted: COUNT and LOWEST of PG_FENCE. -/
def fenceWord (rd : Nat → Word) (page cells : Nat) : Word :=
  let l := (List.range cells).filter (fun j => fbit (rd (Reg.PG_FENCEMAP page (j / 32))) (j % 32))
  word (l.length * 65536 + l.headD 0xFFFF)

/-- The cells of a page by its base. -/
def cellsOf (page : Nat) : Nat := match pageAt page with | some g => g.cells | none => 0

/-- A fence-map bit of a Control or Service page, with PG_FENCE (R111). -/
def Chip.fenceBit (page j : Nat) (on : Bool) (c : Chip) : Chip :=
  let c1 := c.setB (Reg.PG_FENCEMAP page (j / 32)) (j % 32) on
  c1.wr (Reg.PG_FENCE page) (fenceWord c1.rd page (cellsOf page))
/-- The same of a Heath page. -/
def Heath.fenceBit (page j : Nat) (on : Bool) (h : Heath) : Heath :=
  let h1 := h.setB (Reg.PG_FENCEMAP page (j / 32)) (j % 32) on
  h1.wr (Reg.PG_FENCE page) (fenceWord h1.rd page (cellsOf page))
/-- The same of a Metrology page. -/
def Met.fenceBit (page j : Nat) (on : Bool) (m : Met) : Met :=
  let m1 := m.setB (Reg.PG_FENCEMAP page (j / 32)) (j % 32) on
  m1.wr (Reg.PG_FENCE page) (fenceWord m1.rd page (cellsOf page))

/-- The pages and cells that keep the unit of a page's cell (R774): a stage slot in ALC, XPT and MOV; an outlet in ALC
instance 8, THM and SES; any other cell in its own page. -/
def unitCells (page j : Nat) : List (Nat × Nat) :=
  let stage (i : Nat) := [(0x40004000 + 0x1000 * i, j), (0x4000E000 + 0x1000 * i, j), (0x40016000 + 0x1000 * i, j)]
  let outlet (o : Nat) := [(0x4000C000, o), (0x40030000 + 0x1000 * (o / 32), o % 32), (0x70000000 + 0x1000 * (o / 32), o % 32)]
  match pageAt page with
  | some g =>
    match g.kind with
    | .alcS | .xpt | .movS => stage g.inst
    | .alcO => outlet j
    | .thm | .ses => outlet (32 * g.inst + j)
    | _ => [(page, j)]
  | none => [(page, j)]

/-- Cells that a fence or an unfence acts on at once by their own hardware: PWM channels and aux switches (R94, R96). -/
def fenceActs (e : Env) (page : Nat) (c : Chip) : Chip :=
  if page = 0x70005000 then pwmHoldAll c else if page = 0x70006000 then aswFollowAll e c else c

/-- FENCE (R94, R96, R112, R774): a cell of Control or Service is fenced with a cause, once. The fence shows in every page
of its unit, and joins the input image at the next freeze. -/
def Chip.fence (e : Env) (cause page j : Nat) (c : Chip) : Chip :=
  if c.fenced page j then c
  else
    let u := unitCells page j
    let c1 := eachOf u (fun x c => (c.fenceBit x.1 x.2 true).perr e x.1 14) c
    let c2 := { c1 with flt := { c1.flt with fresh := c1.flt.fresh ++ u } }
    let c3 := match pageAt page with
      | some g => c2.fault e 0 (regionCode (regionOf page)) cause g.type g.inst j
      | none => c2
    fenceActs e page c3

/-- A cell leaves its fence (R99, R774): class 0xF2 is logged for each page of its unit. -/
def Chip.unfence (e : Env) (page j : Nat) (c : Chip) : Chip :=
  if c.fenced page j then
    let c1 := eachOf (unitCells page j) (fun x c =>
      match pageAt x.1 with
      | some g => (c.fenceBit x.1 x.2 false).log1 e g.type g.inst 0xF2 x.2
      | none => c.fenceBit x.1 x.2 false) c
    fenceActs e page c1
  else c

/-- An entry of a page's region appended under R169. -/
def State.logPage (type inst cls detail page : Nat) (s : State) : State :=
  match regionOf page with
  | .heath => onHeath (fun _ h => (h, [⟨type, inst, cls, detail⟩])) s
  | .metrology => onMet (fun _ m => (m, [⟨type, inst, cls, detail⟩])) s
  | _ => onChip (fun e c => c.log1 e type inst cls detail) s

/-- FENCE of a cell of any region. -/
def State.fence (cause page j : Nat) (s : State) : State :=
  match regionOf page, pageAt page with
  | .heath, some g =>
    if s.heath.fenced page j then s
    else
      let s1 := onHeath (fun _ h => (h.fenceBit page j true).perr page 14) s
      (onChip (fun e c => c.faultRec e 0 2 cause g.type g.inst j) s1).logPage g.type g.inst 0xF0 (faultDetail 0 2 cause j) page
  | .metrology, some g =>
    if s.met.fenced page j then s
    else
      let s1 := onMet (fun _ m => (m.fenceBit page j true).perr page 14) s
      (onChip (fun e c => c.faultRec e 0 3 cause g.type g.inst j) s1).logPage g.type g.inst 0xF0 (faultDetail 0 3 cause j) page
  | _, _ => onChip (fun e c => c.fence e cause page j) s

/-- The fence of a cell as the last Gather freeze took it (R96): set, and not in the frame now running. -/
def Chip.fencedFrozen (page j : Nat) (c : Chip) : Bool := c.fenced page j && !c.flt.fresh.contains (page, j)

end Sys2Proof.Machine
end

