-- ==== Sys2Proof/Machine/Site.lean ====
section
/-! DEFINITION. The site as the blocks read it (ch. 1): the port map, crosspoint entries and the constraint tree from their
configuration words, the inputs of units, and zero-forcing (R48, R176). -/
namespace Sys2Proof.Machine

/-- CLASS of a port's map word (R16): 1 CIN, 2 DIN, 3 BIN, 4 GEN. -/
def mapClass (c : Chip) (n : Nat) : Nat := c.f (Reg.PRT_MAP n) 29 3
/-- FIRST of a port's map word. -/
def mapFirst (c : Chip) (n : Nat) : Nat := c.f (Reg.PRT_MAP n) 16 9
/-- COUNT of a port's map word. -/
def mapCount (c : Chip) (n : Nat) : Nat := c.f (Reg.PRT_MAP n) 0 6
/-- The port that claims a unit for a class (R17, R18). -/
def portFor (p : Part) (c : Chip) (cls u : Nat) : Option Nat :=
  (List.range p.ports).find? (fun n => mapClass c n == cls && decide (mapFirst c n ≤ u) && decide (u < mapFirst c n + mapCount c n))
/-- The port of a stage slot; none when it is unmapped (R19). -/
def stagePort (p : Part) (c : Chip) (s : Nat) : Option Nat := portFor p c 1 s
/-- The port of an outlet; none when it is unmapped (R19). -/
def outletPort (p : Part) (c : Chip) (o : Nat) : Option Nat := portFor p c 2 o
/-- The BIN's port. -/
def binPort (p : Part) (c : Chip) : Option Nat := (List.range p.ports).find? (fun n => mapClass c n == 3)
/-- Consecutive missed frames of a port (PRT.TP_STAT.MISS_RUN). -/
def missRun (c : Chip) (n : Nat) : Nat := c.f (Reg.PRT_TP_STAT n) 8 8

/-- A crosspoint entry names an outlet (R213). -/
def xptOutlet (c : Chip) (s k : Nat) : Option Nat :=
  if c.b (Reg.XPT_ENTRY s k) 31 then some (c.f (Reg.XPT_ENTRY s k) 16 6) else none
/-- The timing class of a crosspoint entry (R213). -/
def xptClass (c : Chip) (s k : Nat) : Nat := c.f (Reg.XPT_ENTRY s k) 8 2
/-- The position of a stage that names an outlet. -/
def xptPos (c : Chip) (s o : Nat) : Option Nat := (List.range 16).find? (fun k => xptOutlet c s k == some o)
/-- A position carries neither mark (R220). -/
def xptClean (c : Chip) (s k : Nat) : Bool := !c.b (Reg.XPT_MARK s) k && !c.b (Reg.XPT_MARK s) (16 + k)

/-- KIND of a tree node (R185). -/
def nodeKind (c : Chip) (n : Nat) : Nat := c.f (Reg.CXT_NODE n 0) 28 4
/-- A supply node: root, transformer, feeder, cabinet bus or a supply group (ch. 1). -/
def nodeSupply (c : Chip) (n : Nat) : Bool :=
  let k := nodeKind c n
  k == 1 || k == 4 || k == 5 || k == 6 || (k == 7 && !c.b (Reg.CXT_NODE n 0) 27)
/-- A delivery node: outlet cable, connector or a delivery group. -/
def nodeDelivery (c : Chip) (n : Nat) : Bool :=
  let k := nodeKind c n
  k == 8 || k == 9 || (k == 7 && c.b (Reg.CXT_NODE n 0) 27)
/-- A node counts in 0.1 A (UNIT = 1). -/
def nodeAmps (c : Chip) (n : Nat) : Bool := c.b (Reg.CXT_NODE n 0) 26
/-- The parent of a node. -/
def nodeParent (c : Chip) (n : Nat) : Nat := c.f (Reg.CXT_NODE n 0) 16 10
/-- LIMIT of a node. -/
def nodeLimit (c : Chip) (n : Nat) : Nat := c.n (Reg.CXT_NODE n 1)
/-- A node and its ancestors, the root left out; at most 8 deep (R23). -/
def nodePathFrom (c : Chip) : Nat → Nat → List Nat
  | 0, _ => []
  | f + 1, n => if n = 0 then [] else n :: nodePathFrom c f (nodeParent c n)
/-- The path from a node to the root, the root left out. -/
def nodePath (c : Chip) (n : Nat) : List Nat := nodePathFrom c 8 n
/-- The one node of a kind (grid intake 2, battery source 3). -/
def nodeOf (c : Chip) (kind : Nat) : Option Nat := (List.range 1024).find? (fun n => nodeKind c n == kind)

/-- A stage's feedback. -/
def Chip.stgIn (c : Chip) (s : Nat) : StgIn := tget (fun _ => {}) c.img.stg s
/-- An outlet's feedback. -/
def Chip.outIn (c : Chip) (o : Nat) : OutIn := tget (fun _ => {}) c.img.out o
/-- A channel's value. -/
def Chip.chanIn (c : Chip) (port ch : Nat) : ChanIn := tget (fun _ => {}) c.img.chan (256 * port + ch)
/-- An axis drive's record. -/
def Chip.axIn (c : Chip) (port ch : Nat) : AxIn := tget (fun _ => {}) c.img.axes (256 * port + ch)
/-- The input image changed. -/
def Chip.onImg (c : Chip) (f : Image → Image) : Chip := { c with img := f c.img }
/-- A stage's feedback written. -/
def Chip.setStgIn (c : Chip) (s : Nat) (x : StgIn) : Chip :=
  c.onImg (fun i => { i with stg := tset (fun _ => ({} : StgIn)) i.stg s x })
/-- An outlet's feedback written. -/
def Chip.setOutIn (c : Chip) (o : Nat) (x : OutIn) : Chip :=
  c.onImg (fun i => { i with out := tset (fun _ => ({} : OutIn)) i.out o x })

/-- ALC.OUT_IN.ZERO formed from its conditions (R48, R176). -/
def outInZero (o : Nat) (c : Chip) : Chip :=
  c.setB (Reg.ALC_OUT_IN o) 31 (decide (c.f (Reg.ALC_OUT_IN o) 23 5 ≠ 0))
/-- A condition of ALC.OUT_IN set or cleared: 27 HEATH, 26 THERM_SD, 25 CREDIT, 24 UNPLUG, 23 FENCED. -/
def outInSet (o i : Nat) (v : Bool) (c : Chip) : Chip := outInZero o (c.setB (Reg.ALC_OUT_IN o) i v)
/-- The stop overlay zeroes an outlet (R48, R95): a condition of the image, or a fence set since. -/
def zeroForced (c : Chip) (o : Nat) : Bool := c.b (Reg.ALC_OUT_IN o) 31 || c.outletFenced o
/-- An outlet's fence in the image. -/
def outletFencedFrozen (c : Chip) (o : Nat) : Bool := c.b (Reg.ALC_OUT_IN o) 23

/-- The latched demand words of an outlet (R27, R175). -/
def demI (c : Chip) (o : Nat) : Word := tget (fun _ => 0) c.img.demI o
/-- SES.DEM_V as latched. -/
def demV (c : Chip) (o : Nat) : Word := tget (fun _ => 0) c.img.demV o
/-- The accounting voltage V_o (R176). -/
def accV (c : Chip) (o : Nat) : Nat := max (fget (demV c o) 0 16) (c.f Reg.ALC_SITE_CFG 0 16)
/-- DEM_BAD (R176). -/
def demBad (p : Part) (c : Chip) (o : Nat) : Bool :=
  (outletPort p c o).isSome && !outletFencedFrozen c o && fbit (demI c o) 31 &&
    (decide (fget (demV c o) 16 16 < fget (demV c o) 0 16) || decide (12500 < fget (demV c o) 16 16))
/-- An outlet beyond the count that its admitted node announces (R22; PRT.TP_STAT.ADMIT and COUNT). -/
def outletShort (p : Part) (c : Chip) (o : Nat) : Bool :=
  match outletPort p c o with
  | some n => c.f (Reg.PRT_TP_STAT n) 30 2 == 1 && decide (c.f (Reg.PRT_TP_STAT n) 21 6 ≤ o - mapFirst c n)
  | none => false
/-- The demand bound D_o (R176), from the image; zero for an outlet that its node does not announce (R22). -/
def demandBound (p : Part) (c : Chip) (o : Nat) : Nat :=
  let vmax := fget (demV c o) 16 16
  if c.img.short.contains o || (outletPort p c o).isNone || outletFencedFrozen c o || !fbit (demI c o) 31 || c.b (Reg.ALC_OUT_IN o) 31
      || decide (vmax < fget (demV c o) 0 16) || decide (12500 < vmax) then 0
  else
    min (min (min (fget (demI c o) 0 16) (c.f (Reg.ALC_OUT_LIMIT o) 16 16)) (min (c.f (Reg.ALC_OUT_IN o) 0 16) 30000))
      (min (c.f (Reg.ALC_OUT_RATE_P o) 0 22) 3750000 * 100 / accV c o)

/-- A 64-bit word made of fields, each by its low bit and its value. -/
def dword (l : List (Nat × Nat)) : BitVec 64 := BitVec.ofNat 64 (l.foldl (fun x f => x + f.2 * 2 ^ f.1) 0)
/-- A record header word (Table: Record header word): type, index, length and the type's own fields. -/
def recWord (type index len : Nat) (l : List (Nat × Nat)) : BitVec 64 := dword ((56, type) :: (48, index) :: (40, len) :: l)
/-- A number as a two's complement field. -/
def twos (w : Nat) (i : Int) : Nat := (i % (2 ^ w : Nat)).toNat
/-- A bit as a number. -/
def bitOf (b : Bool) : Nat := if b then 1 else 0

end Sys2Proof.Machine
end

