-- ==== Sys2Proof/Machine/Alloc.lean ====
section
/-! DEFINITION. Power allocation over the constraint tree (ch. 6): the site limit, the solver, grants and references, the move
planner, frozen-mode grants, what the Emit publishes, and grid events. -/
namespace Sys2Proof.Machine

/-- The Allocator's own state changed. -/
def Chip.onAlc (c : Chip) (f : AlcSt → AlcSt) : Chip := { c with alc := f c.alc }
/-- The committed grant of an outlet (R173). -/
def alcPrev (c : Chip) (o : Nat) : Nat := tget (fun _ => 0) c.alc.prev o
/-- The release count of an outlet (R173). -/
def alcRel (c : Chip) (o : Nat) : Nat := tget (fun _ => 0) c.alc.rel o

/-- A stage in the move sequencer's state. -/
def Chip.stgMov (c : Chip) (s : Nat) : StgMov := tget (fun _ => {}) c.mov.stg s
/-- A move slot beside its registers. -/
def Chip.movSlot (c : Chip) (m : Nat) : MovSlot := tget (fun _ => {}) c.mov.slots m
/-- A stage has a move in flight (MOV.STG.BUSY). -/
def movBusy (c : Chip) (s : Nat) : Bool := c.b (Reg.MOV_STG s) 31
/-- The move slot of a stage in a move. -/
def movOf (c : Chip) (s : Nat) : Nat := c.f (Reg.MOV_STG s) 24 7
/-- The step of a stage's move. -/
def movStep (c : Chip) (s : Nat) : Nat := c.f (Reg.MOV_STG s) 20 4
/-- The outlet that a move slot's move joins. -/
def movTo (c : Chip) (m : Nat) : Option Nat :=
  if c.b (Reg.MOV_SLOT_A m) 15 then some (c.f (Reg.MOV_SLOT_A m) 9 6) else none
/-- The outlet that a move slot's move leaves. -/
def movFrom (c : Chip) (m : Nat) : Option Nat :=
  if c.b (Reg.MOV_SLOT_A m) 23 then some (c.f (Reg.MOV_SLOT_A m) 16 6) else none
/-- The outlet that a stage serves: its position commanded closed and no move, or its move at step 8 (R177). -/
def servedBy (c : Chip) (s : Nat) : Option Nat :=
  if (c.stgMov s).deciding then none
  else if movBusy c s then (if movStep c s = 8 then movTo c (movOf c s) else none)
  else match (c.stgMov s).want with
    | some k => xptOutlet c s k
    | none => none
/-- The outlet toward which a stage moves at an earlier step (R177). A move that is abandoned and runs on to the end of its step no longer
counts for its target (DESIGN CHOICE, log entry 52). -/
def arrivingAt (c : Chip) (s : Nat) : Option Nat :=
  if movBusy c s && movStep c s != 8 && (c.movSlot (movOf c s)).ab.isNone then movTo c (movOf c s) else none
/-- A stage that serves no outlet and has no move (R177). -/
def stageFree (c : Chip) (s : Nat) : Bool :=
  !movBusy c s && (c.stgMov s).want.isNone && !(c.stgMov s).deciding

/-- The capacity of a stage toward an outlet of accounting voltage `v` (R177, R240, R241). -/
def stageCap (p : Part) (c : Chip) (s v : Nat) : Nat :=
  let st := c.f (Reg.ALC_STG_IN s) 30 2
  if (stagePort p c s).isNone || (c.stgMov s).deciding || c.fencedFrozen (alcPage s) (s % 64) || (st != 1 && st != 2) then 0
  else min (min (c.f (Reg.ALC_STG_CFG s) 0 16) (c.f (Reg.ALC_STG_IN s) 0 16)) (c.f (Reg.ALC_STG_RATE_P s) 0 18 * 100 / v)

/-- The values of the site limit (R178 to R184). -/
structure SiteLimit where
  grid : Nat
  dem : Nat
  batt : Nat
  aux : Nat
  site : Nat
  stale : Bool

/-- A value saturated to 32 bits. -/
def sat32 (i : Int) : Nat := if i < 0 then 0 else min i.toNat 0xFFFFFFFF

/-- A loop slot beside its registers. -/
def Chip.cenSlot (c : Chip) (s : Nat) : CenSlot := tget (fun _ => {}) c.cen.slots s
/-- A committed slot output in W (R184). -/
def slotWatts (c : Chip) (s : Nat) : Nat :=
  let w := (c.cenSlot s).out
  if fInf w then (if fSign w then 0 else 0xFFFFFFFE) else min (sat32 (fTrunc w)) 0xFFFFFFFE

/-- A measured source (R185): node record, analogue input or slot output. -/
def sourceValue (c : Chip) (src port ch idx : Nat) : Int :=
  if src = 0 then (c.chanIn port ch).value
  else if src = 1 then (c.f (Reg.CEN_AIN_VAL (idx % 4)) 0 25 : Nat)
  else if src = 2 then (slotWatts c idx : Nat)
  else 0

/-- The demand-interval cap from the feed (R180). -/
def demandCap (c : Chip) : Nat :=
  let m := c.n Reg.ALC_DEMAND_MAX
  let a := c.n Reg.ALC_FEED_AVG
  let e := c.f Reg.ALC_FEED_TIME 0 12
  let t := c.f Reg.ALC_FEED_TIME 16 12
  if m = 0xFFFFFFFF then 0xFFFFFFFF
  else
    let cap := if c.b Reg.ALC_FEED_TIME 30 then 2 * m - a
      else if m * t < a * e then 0 else (m * t - a * e) / (t - e)
    min (min cap 0xFFFFFFFF) (c.n Reg.ALC_DEMAND_CEIL)

/-- The site limit of a frame (R178 to R184, R209). -/
def siteLimit (p : Part) (c : Chip) : SiteLimit :=
  let ext0 := if c.f Reg.ALC_SITE_CFG 28 2 = 1 then slotWatts c (c.f Reg.ALC_SITE_CFG 16 10) else c.img.gridSet.toNat
  let ext := match nodeOf c 2 with | some n => min ext0 (nodeLimit c n) | none => ext0
  let feed := p.hasMet && c.f Reg.ALC_SITE_CFG 30 2 == 0
  let stale := feed && !c.b Reg.ALC_FEED_TIME 31
  let dem := if !feed then c.img.hostDem.toNat else if stale then 0xFFFFFFFF else demandCap c
  let trf := if !feed then c.img.hostTrf.toNat else if stale then 0xFFFFFFFF else c.n Reg.ALC_FEED_TCAP
  let g0 := min ext (min trf dem)
  let nom := c.f Reg.ALC_SAG_NOM 0 16
  let g := if c.img.sag then g0 * min (c.f Reg.ALC_SAG_MAG 0 16) nom / nom else g0
  let ax := c.rd Reg.ALC_AUX_SRC
  let aux := if fbit ax 31 then
      max (c.n Reg.ALC_AUX_FIX) (sat32 (sourceValue c (fget ax 29 2) (fget ax 24 5) (fget ax 16 8) (fget ax 0 10)))
    else c.n Reg.ALC_AUX_FIX
  let b := match nodeOf c 3, binPort p c with
    | some n, some q => if 0 < missRun c q then 0 else min (nodeLimit c n) (min c.img.batt.dis c.img.battSet.toNat)
    | _, _ => 0
  ⟨g, dem, b, aux, sat32 ((g : Int) - aux + b), stale⟩

/-- What the solver reads of one outlet: V_o, D_o, its class, weight, minimum, the assigned stages with capacities, the
arriving and the free reachable capacity, and its load coefficients by node in rising order (R176, R177, R187). -/
structure AlcOut where
  v : Nat
  d : Nat
  cls : Nat
  w : Nat
  minI : Nat
  ramp : Nat
  prev : Nat
  mine : List (Nat × Nat)
  arr : Nat
  free : List (Nat × Nat)
  coef : List (Nat × Nat)

/-- S_o. -/
def AlcOut.s (a : AlcOut) : Nat := (a.mine.map (·.2)).sum
/-- R_o (R177). -/
def AlcOut.r (a : AlcOut) : Nat := a.s + a.arr + (a.free.map (·.2)).sum

/-- Add to the entry of a node in a list in rising node order. -/
def coefAdd (n x : Nat) : List (Nat × Nat) → List (Nat × Nat)
  | [] => [(n, x)]
  | (m, y) :: t => if m = n then (m, y + x) :: t else if n < m then (n, x) :: (m, y) :: t else (m, y) :: coefAdd n x t

/-- The load coefficients of an outlet (Table: Load coefficients): the root, its delivery path, and the supply nodes above
the stages that carry it. -/
def loadCoefs (c : Chip) (o v : Nat) (mine free : List (Nat × Nat)) : List (Nat × Nat) :=
  let use := if (mine.map (·.2)).sum = 0 then free else mine
  let tot := (use.map (·.2)).sum
  let parts := use.foldl (fun l x =>
    (nodePath c (c.f (Reg.ALC_STG_CFG x.1) 16 10)).foldl (fun l n => coefAdd n x.2 l) l) []
  let supply := if tot = 0 then [] else parts.filterMap (fun x =>
    let a := (v * x.2 + tot - 1) / tot
    if a = 0 then none else some (x.1, a))
  let del := (nodePath c (c.f (Reg.ALC_OUT_CFG o) 16 10)).map (fun n => (n, if nodeAmps c n then 1 else v))
  del.foldl (fun l x => coefAdd x.1 x.2 l) ((0, v) :: supply)

/-- What the solver reads of an outlet. -/
def alcOutlet (p : Part) (c : Chip) (o : Nat) : AlcOut :=
  let v := accV c o
  let all := List.range p.stages
  let mine := (all.filter (fun s => servedBy c s == some o)).map (fun s => (s, stageCap p c s v))
  let arr := (all.filter (fun s => arrivingAt c s == some o)).map (fun s => stageCap p c s v)
  let free := (all.filter (fun s => stageFree c s && (stagePort p c s).isSome &&
    (List.range 16).any (fun k => xptOutlet c s k == some o && xptClean c s k))).map (fun s => (s, stageCap p c s v))
  { v := v, d := demandBound p c o, cls := c.f (Reg.ALC_OUT_CFG o) 28 3, w := c.f (Reg.ALC_OUT_CFG o) 8 8,
    minI := c.f (Reg.ALC_OUT_LIMIT o) 0 16, ramp := c.f (Reg.ALC_OUT_RAMP o) 0 16, prev := alcPrev c o,
    mine := mine, arr := arr.sum, free := free, coef := loadCoefs c o v mine free }

/-- a(n, o). -/
def coefOf (a : AlcOut) (n : Nat) : Nat := ((a.coef.find? (fun x => x.1 == n)).map (·.2)).getD 0

/-- A list of per-outlet numbers with one changed. -/
def putAt (l : List Nat) (i x : Nat) : List Nat := l.set i x

/-- The load of a node at given grants (R187). -/
def nodeLoad (outs : List AlcOut) (g : List Nat) (n : Nat) : Nat :=
  ((outs.zip g).map (fun x => coefOf x.1 n * x.2)).sum

/-- The effective limit of a node in internal units (R178, R186, R187): a node record is signed, an analogue input or a slot's watts are
not (R184). -/
def effLimit (c : Chip) (outs : List AlcOut) (site n : Nat) : Int :=
  if n = 0 then (site * 100 : Nat)
  else
    let k := if nodeAmps c n then 1 else 100
    let lim : Int := (nodeLimit c n * k : Nat)
    if c.b (Reg.CXT_NODE n 3) 31 then
      let meas : Int := (if c.f (Reg.CXT_NODE n 3) 29 2 = 0 then sgn (c.rd (Reg.CXT_NODE n 2)) else (c.n (Reg.CXT_NODE n 2) : Nat)) * k
      lim - max 0 (meas - (nodeLoad outs (outs.map (·.prev)) n : Nat))
    else lim

/-- What a run of the solver carries: grants, floors, passes, the classes that made a filling pass, which outlets were
frozen and by what, and the minimum shortfall flag. -/
structure Solve where
  g : List Nat
  f : List Nat
  passes : Nat
  filled : Nat
  binds : List (Option (Bool × Nat))
  short : Bool

/-- The nodes that a solver run looks at: root first, each with its effective limit, in rising order. -/
abbrev NodeList := List (Nat × Int)

/-- head(n) (R189). -/
def head (outs : List AlcOut) (g : List Nat) (x : Nat × Int) : Int := x.2 - (nodeLoad outs g x.1 : Nat)

/-- An exact quotient truncated toward zero, then held at 0: the levels of R189 are unsigned fixed-point numbers (R188). -/
def levelDiv (a : Int) (b : Nat) : Nat := (Int.tdiv (a * 65536) b).toNat

/-- Admission of one class's contracted minimums (R189). -/
def admitClass (outs : List AlcOut) (u : List Nat) (nodes : NodeList) (cls : Nat) (x : Solve) : Solve :=
  let grp := (List.range outs.length).filter (fun o => (outs[o]?.map (·.cls)) == some cls && decide (0 < u.getD o 0))
  if grp = [] then x
  else
    let fl (o : Nat) : Nat := min ((outs[o]?.map (·.minI)).getD 0) (u.getD o 0)
    let k := nodes.foldl (fun k n =>
      let extra := (grp.map (fun o => ((outs[o]?.map (fun a => coefOf a n.1)).getD 0) * fl o)).sum
      if 0 < extra then min k (levelDiv (head outs x.g n) extra) else k) 65536
    let f := grp.foldl (fun f o => putAt f o (fl o * k / 65536)) x.f
    let g := grp.foldl (fun g o => putAt g o (fl o * k / 65536)) x.g
    { x with g := g, f := f, passes := x.passes + 1, short := x.short || decide (k < 65536) }

/-- One filling pass of a class over its active outlets (R189): the outlets still active after it, the level, and the run. -/
def fillPass (outs : List AlcOut) (u : List Nat) (nodes : NodeList) (act : List Nat) (x : Solve) : List Nat × Nat × Solve :=
  let co (o n : Nat) : Nat := (outs[o]?.map (fun a => coefOf a n)).getD 0
  let w (o : Nat) : Nat := (outs[o]?.map (·.w)).getD 1
  let base := (List.range outs.length).map (fun o => if act.contains o then x.f.getD o 0 else x.g.getD o 0)
  let lamN := nodes.filterMap (fun n =>
    let slope := (act.map (fun o => co o n.1 * w o)).sum
    if 0 < slope then some (n.1, levelDiv (n.2 - (nodeLoad outs base n.1 : Nat)) slope) else none)
  let lamO (o : Nat) : Nat := (u.getD o 0 - x.f.getD o 0) * 65536 / w o
  let nodeMin := (lamN.map (·.2)).foldl min ((lamN.map (·.2)).headD 0)
  let lam := (act.map lamO).foldl min nodeMin
  act.foldl (fun (r : List Nat × Nat × Solve) o =>
    if lamO o = lam ∧ lam < nodeMin then
      (r.1, r.2.1, { r.2.2 with g := putAt r.2.2.g o (u.getD o 0), binds := r.2.2.binds.set o (some (true, 0)) })
    else match lamN.find? (fun n => n.2 == lam && decide (0 < co o n.1)) with
      | some n => (r.1, r.2.1, { r.2.2 with g := putAt r.2.2.g o (x.f.getD o 0 + w o * lam / 65536),
                                              binds := r.2.2.binds.set o (some (false, n.1)) })
      | none => (r.1 ++ [o], r.2.1, r.2.2)) ([], lam, x)

/-- The filling of one class: passes until none is active or 24 have been made (R189, R190). -/
def fillClass (outs : List AlcOut) (u : List Nat) (nodes : NodeList) (cls : Nat) : Nat → List Nat → Nat → Solve → Solve
  | 0, act, lam, x => settle act lam x
  | n + 1, act, lam, x =>
    if act = [] ∨ 24 ≤ x.passes then settle act lam x
    else
      let r := fillPass outs u nodes act { x with passes := x.passes + 1, filled := cls }
      fillClass outs u nodes cls n r.1 r.2.1 r.2.2
where
  /-- The outlets left active settle at the last level. -/
  settle (act : List Nat) (lam : Nat) (x : Solve) : Solve :=
    { x with g := act.foldl (fun g o => putAt g o (x.f.getD o 0 + ((outs[o]?.map (·.w)).getD 1) * lam / 65536)) x.g }

/-- Outlets of a class in pointer order (R188). -/
def pointerOrder (outs : List AlcOut) (ptr cls : Nat) : List Nat :=
  ((List.range outs.length).map (fun i => (ptr + i) % outs.length)).filter (fun o => (outs[o]?.map (·.cls)) == some cls)

/-- The leftover units (R189). -/
def leftover (outs : List AlcOut) (u : List Nat) (nodes : NodeList) (ptr : Nat) (x : Solve) : Solve :=
  eachBelow 8 (fun cls x => eachOf (pointerOrder outs ptr cls) (fun o x =>
    let a := outs[o]?.map (·.coef)
    if x.g.getD o 0 < u.getD o 0 ∧ (nodes.all (fun n =>
        let k := ((a.getD []).find? (fun y => y.1 == n.1)).map (·.2)
        match k with | some k => decide (k = 0 ∨ (k : Int) ≤ head outs x.g n) | none => true))
    then { x with g := putAt x.g o (x.g.getD o 0 + 1) } else x) x) x

/-- The targets of a completed Solve (R189, R190). -/
def targets (outs : List AlcOut) (sag : Bool) (nodes : NodeList) (ptr : Nat) : List Nat × Solve :=
  let u := outs.map (fun a => let x := min (min a.d (a.prev + a.ramp)) a.r; if sag then min x a.prev else x)
  let z := outs.map (fun _ => 0)
  let x0 : Solve := ⟨z, z, 0, 0, outs.map (fun _ => none), false⟩
  let x1 := eachBelow 8 (fun cls x => admitClass outs u nodes cls x) x0
  let x2 := eachBelow 8 (fun cls x =>
    let act := (List.range outs.length).filter (fun o =>
      (outs[o]?.map (·.cls)) == some cls && decide (x.g.getD o 0 < u.getD o 0))
    fillClass outs u nodes cls 25 act 0 x) x1
  (u, leftover outs u nodes ptr x2)

/-- |a - b|. -/
def absDiff (a b : Nat) : Nat := max a b - min a b

/-- The grants before the bound by the stages (R192), and RAMP_BYPASS. -/
def rampGrants (outs : List AlcOut) (t : List Nat) (nodes : NodeList) : List Nat × Bool :=
  let c0 := (outs.zip t).map (fun x =>
    let a := x.1
    let y := if absDiff x.2 a.prev ≤ max 1 (a.prev / 50) ∧ a.prev ≤ a.d then a.prev
      else if x.2 < a.prev then max x.2 (a.prev - a.ramp) else x.2
    min y a.d)
  nodes.foldl (fun r n =>
    if n.2 < ((nodeLoad outs r.1 n.1 : Nat) : Int) then
      ((List.range outs.length).map (fun o =>
        let co := (outs[o]?.map (fun a => coefOf a n.1)).getD 0
        if 0 < co ∧ t.getD o 0 < r.1.getD o 0 then t.getD o 0 else r.1.getD o 0), true)
    else r) (c0, false)

/-- A grant divided over stages in proportion to capacity, the rest one unit each in slot order (R194). -/
def divide (grant : Nat) (caps : List (Nat × Nat)) : List (Nat × Nat) :=
  let tot := (caps.map (·.2)).sum
  let base := caps.map (fun x => (x.1, if tot = 0 then 0 else grant * x.2 / tot))
  let rest := if tot = 0 then 0 else grant - (base.map (·.2)).sum
  (base.zipIdx).map (fun x => (x.1.1, x.1.2 + (if x.2 < rest then 1 else 0)))

/-- The assigned stages that no fence keeps at zero: a fenced one takes no unit of a grant (R95, R194). -/
def unfencedStages (c : Chip) (l : List (Nat × Nat)) : List (Nat × Nat) := l.filter (fun x => !c.fencedFrozen (alcPage x.1) (x.1 % 64))

/-- What the planner carries: S and A by outlet, the stages given away, the requests, the release counts (R196). -/
structure Plan where
  s : List Nat
  a : List Nat
  taken : List Nat
  left : List Nat
  reqs : List MoveReq
  rel : List Nat

/-- The cabinet DC-bus node of a stage (R197). -/
def busNode (c : Chip) (s : Nat) : Nat :=
  let path := nodePath c (c.f (Reg.ALC_STG_CFG s) 16 10)
  (path.find? (fun n => nodeKind c n == 6)).getD (c.f (Reg.ALC_STG_CFG s) 16 10)

/-- Insert by an order, keeping the list sorted. -/
def insertBy {α : Type} (lt : α → α → Bool) (x : α) : List α → List α
  | [] => [x]
  | y :: t => if lt x y then x :: y :: t else y :: insertBy lt x t
/-- Sort by an order. -/
def sortBy {α : Type} (lt : α → α → Bool) (l : List α) : List α := l.foldr (insertBy lt) []

/-- The candidates of an outlet in the order of R197: free stages by the headroom of their cabinet bus, then donors'
stages by the class of the donor, highest first, then the highest slot. Each with its donor. -/
def candidates (p : Part) (c : Chip) (outs : List AlcOut) (heads : Nat → Int) (o : Nat) : List (Nat × Option Nat) :=
  let free := ((outs[o]?.map (·.free)).getD []).map (·.1)
  let freeS := sortBy (fun x y => heads (busNode c y) < heads (busNode c x) ||
    (heads (busNode c x) == heads (busNode c y) && decide (x < y))) free
  let clean (s : Nat) : Bool := (List.range 16).any (fun k => xptOutlet c s k == some o && xptClean c s k)
  let don := (List.range p.stages).filterMap (fun s =>
    match servedBy c s with
    | some d => if d ≠ o ∧ !movBusy c s ∧ clean s then some (s, d) else none
    | none => none)
  let cl (d : Nat) : Nat := (outs[d]?.map (·.cls)).getD 0
  let donS := sortBy (fun x y => decide (cl y.2 < cl x.2) || (cl x.2 == cl y.2 && decide (y.1 < x.1))) don
  freeS.map (fun s => (s, none)) ++ donS.map (fun x => (x.1, some x.2))

/-- The planner serves the deficit of one outlet (R197, R198, R200). -/
def planDeficit (p : Part) (c : Chip) (outs : List AlcOut) (t : List Nat) (heads : Nat → Int) (room : Nat) (o : Nat)
    (x : Plan) : Plan :=
  if t.getD o 0 ≤ x.s.getD o 0 + x.a.getD o 0 ∨ room ≤ x.reqs.length then x
  else
    let v := (outs[o]?.map (·.v)).getD 0
    (candidates p c outs heads o).foldl (fun x y =>
      if room ≤ x.reqs.length ∨ t.getD o 0 ≤ x.s.getD o 0 + x.a.getD o 0 ∨ x.taken.contains y.1 then x
      else
        let cap := stageCap p c y.1 v
        if cap = 0 then x
        else match y.2 with
          | none => { x with a := putAt x.a o (x.a.getD o 0 + cap), taken := x.taken ++ [y.1],
                             reqs := x.reqs ++ [⟨y.1, none, some o⟩] }
          | some d =>
            let own := (((outs[d]?.map (·.mine)).getD []).find? (fun z => z.1 == y.1)).map (·.2)
            let capD := own.getD 0
            if x.s.getD d 0 < capD + t.getD d 0 then x
            else { x with s := putAt x.s d (x.s.getD d 0 - capD), a := putAt x.a o (x.a.getD o 0 + cap),
                          taken := x.taken ++ [y.1], left := x.left ++ [y.1],
                          reqs := x.reqs ++ [⟨y.1, some d, some o⟩] }) x

/-- The release of one outlet (R199, R200). -/
def planRelease (c : Chip) (outs : List AlcOut) (t : List Nat) (thr room o : Nat) (x : Plan) : Plan :=
  let rem := ((outs[o]?.map (·.mine)).getD []).filter (fun z => !x.left.contains z.1)
  let top := rem.getLast?
  match top with
  | none => { x with rel := putAt x.rel o 0 }
  | some z =>
    if x.s.getD o 0 < t.getD o 0 + z.2 then { x with rel := putAt x.rel o 0 }
    else
      let n := x.rel.getD o 0 + 1
      let idle := (rem.filter (fun z => !movBusy c z.1)).getLast?
      match idle with
      | some y =>
        if thr ≤ n ∧ x.reqs.length < room then
          { x with rel := putAt x.rel o 0, s := putAt x.s o (x.s.getD o 0 - y.2), left := x.left ++ [y.1],
                   taken := x.taken ++ [y.1], reqs := x.reqs ++ [⟨y.1, some o, none⟩] }
        else { x with rel := putAt x.rel o n }
      | none => { x with rel := putAt x.rel o n }

/-- Supply and delivery nodes with a measured value: they take part though no outlet loads them (R186, R192). -/
def measNodes (c : Chip) : List Nat :=
  ((tkeys c.regs 0x48010000 0x48014000).filter (fun a => a % 16 == 12 && c.b a 31)).map (fun a => (a - 0x48010000) / 16) |>.filter
    (fun n => decide (4 ≤ nodeKind c n) && decide (nodeKind c n ≤ 9))

/-- A whole run of the Allocator (R172 to R200). Releases take the room that deficits leave in the order of R197: classes, then pointer
(DESIGN CHOICE, log entry 52). Where no limit binds though the grant is below the target, the node shown is a free value of the targets and
bounds (log entry 7). -/
def allocate (p : Part) (c : Chip) : AlcRes :=
  let no := p.outlets
  let outs := (List.range no).map (alcOutlet p c)
  let lim := siteLimit p c
  let ids := (measNodes c).foldl (fun l n => coefAdd n 0 l) (outs.foldl (fun l a => a.coef.foldl (fun l x => coefAdd x.1 0 l) l) [])
  let nodes : NodeList := ids.map (fun x => (x.1, effLimit c outs lim.site x.1))
  let ptr := c.alc.ptr % no
  let r := targets outs c.img.sag nodes ptr
  let t := r.2.g
  let rg := rampGrants outs t nodes
  let g0 := (outs.zip rg.1).map (fun x => min x.2 x.1.s)
  let heads (n : Nat) : Int := effLimit c outs lim.site n - (nodeLoad outs g0 n : Nat)
  let room := min (c.f Reg.ALC_MOVE_CFG 24 8) (c.f Reg.MOV_STAT 16 8)
  let x0 : Plan := ⟨outs.map (·.s), outs.map (·.arr), [], [], [], (List.range no).map (alcRel c)⟩
  let order := (List.range 8).flatMap (pointerOrder outs ptr)
  let x1 := order.foldl (fun x o => planDeficit p c outs t heads room o x) x0
  let x2 := order.foldl (fun x o => planRelease c outs t (c.f Reg.ALC_MOVE_CFG 0 16) room o x) x1
  let grants := (rg.1.zip x2.s).map (fun x => min x.1 x.2)
  let mine (o : Nat) := ((outs[o]?.map (·.mine)).getD []).filter (fun z => !x2.left.contains z.1)
  let limit := decide (24 ≤ r.2.passes)
  { targets := t, grants := grants,
    held := (List.range no).map (fun o => rg.1.getD o 0 == (outs[o]?.map (·.prev)).getD 0 && (outs[o]?.map (·.prev)).getD 0 != t.getD o 0),
    wait := (rg.1.zip x2.s).map (fun x => decide (x.2 < x.1)),
    counts := (List.range no).map (fun o => (mine o).length),
    binds := (List.range no).map (fun o => match r.2.binds.getD o none with
      | some b => b
      | none => if t.getD o 0 = r.1.getD o 0 then (true, 0)
                else (false, Config.bindNode (t ++ r.1) o % 1024)),
    bad := (List.range no).map (demBad p c),
    refs := (List.range no).flatMap (fun o => (divide (grants.getD o 0) (unfencedStages c (mine o))).map (fun x => (x.1, o, x.2))),
    volts := outs.map (·.v), reqs := x2.reqs, rel := x2.rel,
    lims := [lim.grid, lim.dem, lim.batt, lim.aux, lim.site],
    passes := r.2.passes, lastClass := if limit then r.2.filled else 8,
    flags := [limit, r.2.short, rg.2, lim.stale] }

/-- A frozen frame's grants (R51, R52): the held grants, lowered toward the contracted minimum from the 65th frame on, each
bounded by the demand. -/
def frozenGrants (p : Part) (c : Chip) : AlcRes :=
  let no := p.outlets
  let held (o : Nat) : Nat := tget (fun _ => 0) c.alc.held o
  let grants := (List.range no).map (fun o => min (held o) (demandBound p c o))
  let mine (o : Nat) := ((List.range p.stages).filter (fun s => servedBy c s == some o)).map (fun s => (s, stageCap p c s (accV c o)))
  { targets := (List.range no).map held, grants := grants, held := grants.map (fun _ => false), wait := grants.map (fun _ => false),
    counts := (List.range no).map (fun o => (mine o).length), binds := grants.map (fun _ => (true, 0)),
    bad := (List.range no).map (demBad p c),
    refs := (List.range no).flatMap (fun o => (divide (grants.getD o 0) (unfencedStages c (mine o))).map (fun x => (x.1, o, x.2))),
    volts := (List.range no).map (accV c), rel := (List.range no).map (alcRel c),
    lims := [c.n Reg.ALC_LIM_GRID, c.n Reg.ALC_LIM_DEM, c.n Reg.ALC_LIM_BATT, c.n Reg.ALC_LIM_AUX, c.n Reg.ALC_LIM_SITE],
    flags := [false, false, false, false], frozen := true }

/-- The grants of a run as emitted, after the stop overlay (R48, R195). -/
def emittedGrant (c : Chip) (r : AlcRes) (o : Nat) : Nat := if zeroForced c o then 0 else r.grants.getD o 0
/-- The reference of a stage as emitted: its share of its outlet's grant, zero under the overlay or its own fence; the
sequencer's at the steps before 8 of a move (R194, R195, R224, R229). -/
def emittedRef (c : Chip) (r : AlcRes) (s : Nat) : Nat :=
  if c.stageFenced s then 0
  else if movBusy c s && movStep c s != 8 then
    (match movFrom c (movOf c s) with
     | some o => if movStep c s = 1 ∧ zeroForced c o then 0 else (c.stgMov s).ref
     | none => (c.stgMov s).ref)
  else match r.refs.find? (fun x => x.1 == s) with
    | some x => if zeroForced c x.2.1 then 0 else x.2.2
    | none => 0

/-- What the Emit publishes of a run for one outlet (R193, R195, R212). -/
def publishOutlet (r : AlcRes) (o : Nat) (c : Chip) : Chip :=
  let g := emittedGrant c r o
  let b := r.binds.getD o (true, 0)
  let c1 := c.wr (Reg.ALC_OUT_GRANT o) (word ((if r.wait.getD o false then 2 ^ 31 else 0) + (if r.held.getD o false then 2 ^ 30 else 0)
    + min 127 (r.counts.getD o 0) * 65536 + g))
  let c2 := c1.wr (Reg.ALC_OUT_GRANT_P o) (word (g * r.volts.getD o 0 / 100))
  let c3 := c2.wr (Reg.ALC_OUT_BIND o) (word (r.targets.getD o 0 * 65536 + (if b.1 then 2 ^ 15 else 0) + b.2))
  c3.setB (Reg.ALC_OUT_IN o) 28 (r.bad.getD o false)

/-- What the Emit publishes for one stage (R194, R195, R212). -/
def publishStage (r : AlcRes) (s : Nat) (c : Chip) : Chip :=
  let i := emittedRef c r s
  let m := movOf c s
  let busy := movBusy c s
  let own := if busy then
      (if movStep c s ≤ 2 then movFrom c m else if (movTo c m).isSome then movTo c m else movFrom c m)
    else servedBy c s
  let asg := (servedBy c s).isSome
  let c1 := c.wr (Reg.ALC_STG_OUT s) (word ((if asg then 2 ^ 31 else 0) + (if busy then 2 ^ 30 else 0) + own.getD 0 * 65536 + i))
  c1.wr (Reg.ALC_STG_PREF s) (word (i * (match own with | some o => r.volts.getD o (accV c o) | none => 0) / 100 % 2 ^ 18))

/-- What the Emit of a completed Solve leaves for the boundary: the site limit, the solver status and the events (R190, R212, Table: Allocator
inputs and outputs). -/
def publishSolve (r : AlcRes) (c : Chip) : Chip :=
  let fl (i : Nat) : Bool := r.flags.getD i false
  let st := r.passes * 2 ^ 27 + (if fl 0 then 2 ^ 26 else 0) + (if c.img.sag then 2 ^ 25 else 0) + (if fl 2 then 2 ^ 24 else 0)
    + r.reqs.length * 65536 + c.alc.ptr * 256 + r.lastClass
  let ev := bitOf (fl 2) + 2 * bitOf (fl 1) + 4 * bitOf (fl 0) + 8 * bitOf (fl 3)
  let lims := [Reg.ALC_LIM_GRID, Reg.ALC_LIM_DEM, Reg.ALC_LIM_BATT, Reg.ALC_LIM_AUX, Reg.ALC_LIM_SITE].zip (r.lims.map word)
  c.onAlc (fun a => { a with pub := (Reg.ALC_EVT, word ev) :: (Reg.ALC_SOLVE_STAT, word st) :: lims })

/-- The boundary shows what the Emit left: events add to those that stand (R190, R212). -/
def alcShow (c : Chip) : Chip :=
  (eachOf c.alc.pub (fun x c => c.wr x.1 (if x.1 = Reg.ALC_EVT then c.rd x.1 ||| x.2 else x.2)) c).onAlc (fun a => { a with pub := [] })

/-- The committed allocator state after the Emit of a completed Solve or of a frozen frame (R173, R174, R191). -/
def alcCommit (p : Part) (r : AlcRes) (c : Chip) : Chip :=
  let prev := (List.range p.outlets).foldl (fun l o => tset (fun _ => 0) l o (emittedGrant c r o)) c.alc.prev
  let rel := (List.range p.outlets).foldl (fun l o => tset (fun _ => 0) l o (r.rel.getD o 0)) c.alc.rel
  c.onAlc (fun a => { a with prev := prev, rel := rel, ptr := if r.frozen then a.ptr else (a.ptr + 1) % p.outlets,
                             last := some r, res := none })

/-- ALC.SAG_NOM's band (R206): the magnitude lies in [SAG_PCT, SWELL_PCT) of the nominal voltage. -/
def sagInBand (c : Chip) (mag : Nat) : Bool :=
  let nom := c.f Reg.ALC_SAG_NOM 0 16
  decide (c.f Reg.ALC_SAG_CFG 24 8 * nom ≤ mag * 100) && decide (mag * 100 < c.f Reg.ALC_SAG_CFG 16 8 * nom)

/-- The supervisor's magnitude of one microsecond (R206, R207): kept, with the lowest since the freeze. -/
def sagSample (mag : Nat) (c : Chip) : Chip :=
  c.onAlc (fun a => { a with mag := mag, seen := true, low := some (match a.low with | some x => min x mag | none => mag),
                             exc := a.exc || !sagInBand c mag,
                             first := if a.first.isNone && !sagInBand c mag then some mag else a.first })

/-- SAG_START: the magnitude has left its band; SAG_HOLD is set, flagged and logged (R206, R772). -/
def execSagStart (s : State) : Host.Outcome State Fault Refusal :=
  .next (onChip (fun e c =>
    match (if c.ctl && !c.alc.sag then c.alc.first else none) with
    | some m =>
      let c1 := (c.onAlc (fun a => { a with sag := true, inBand := 0, first := none })).setB Reg.ALC_EVT 4 true
      let up := decide (c.f Reg.ALC_SAG_NOM 0 16 ≤ m)
      c1.log1 e 0x10 8 0x01 ((if up then 2 ^ 31 else 0) + m % 65536)
    | none => c) s)

/-- The Gather freeze latches SAG_HOLD and the lowest magnitude, and counts in-band latches (R207, R210). -/
def sagFreeze (c : Chip) : Chip :=
  let m := c.alc.low.getD c.alc.mag
  let ok := sagInBand c m && !c.alc.exc
  let c1 := c.setF Reg.ALC_SAG_MAG 0 16 m
  let now : Bool := c.alc.seen && !sagInBand c c.alc.mag
  (c1.onAlc (fun a => { a with low := none, exc := now, first := if a.sag then (if now then some a.mag else none) else a.first,
                               inBand := if ok then a.inBand + 1 else 0 })).onImg
    (fun i => { i with sag := c.alc.sag })

/-- SAG_END: at the freeze that completes RELEASE in-band latches SAG_HOLD clears, in the image of that freeze too, flagged
and logged (R210, R772). -/
def execSagEnd (s : State) : Host.Outcome State Fault Refusal :=
  .next (onChip (fun e c =>
    if c.ctl && c.alc.sag && decide (c.f Reg.ALC_SAG_CFG 0 8 ≤ c.alc.inBand) then
      let c1 := ((c.onAlc (fun a => { a with sag := false })).onImg (fun i => { i with sag := false })).setB Reg.ALC_EVT 5 true
      c1.log1 e 0x10 8 0x02 (c.f Reg.ALC_SAG_MAG 0 16)
    else c) s)

end Sys2Proof.Machine
end

