-- ==== Sys2Proof/Machine/Moves.lean ====
section
/-! DEFINITION. Crosspoints and stage moves (ch. 7): the interlock, the marks, the steps of a move, abandonment, welds, bridges
and disagreements, releases and rejoining stages. -/
namespace Sys2Proof.Machine

/-- The sequencer's own state changed. -/
def Chip.onMov (c : Chip) (f : MovSt → MovSt) : Chip := { c with mov := f c.mov }
/-- A stage of the sequencer written. -/
def Chip.setStgMov (c : Chip) (s : Nat) (x : StgMov) : Chip :=
  c.onMov (fun m => { m with stg := tset (fun _ => ({} : StgMov)) m.stg s x })
/-- A move slot's own state written. -/
def Chip.setMovSlot (c : Chip) (m : Nat) (x : MovSlot) : Chip :=
  c.onMov (fun v => { v with slots := tset (fun _ => ({} : MovSlot)) v.slots m x })

/-- CONF: consecutive fresh frames for a confirmation. -/
def movConf (c : Chip) : Nat := c.f Reg.MOV_CFG 16 4
/-- A stage's feedback is fresh in the frame (XPT.POS.FRESH). -/
def xptFresh (c : Chip) (s : Nat) : Bool := c.b (Reg.XPT_POS s) 23
/-- The feedback of a stage (XPT.POS.FB_CL). -/
def xptFb (c : Chip) (s : Nat) : Nat := c.f (Reg.XPT_POS s) 0 16
/-- The position that the last Emit commanded closed (XPT.POS.CMD_CL, CMD_POS). -/
def xptCmd (c : Chip) (s : Nat) : Option Nat :=
  if c.b (Reg.XPT_POS s) 31 then some (c.f (Reg.XPT_POS s) 24 4) else none
/-- A move slot is fenced. -/
def movSlotFenced (c : Chip) (m : Nat) : Bool := c.fenced 0x4001E000 m
/-- The lowest free move slot that is not fenced (R226). -/
def movFree (c : Chip) : Option Nat := (List.range 128).find? (fun m => !c.b (Reg.MOV_SLOT_A m) 31 && !movSlotFenced c m)
/-- MOV.STAT.FREE and ACTIVE formed from the slots. -/
def movShow (c : Chip) : Chip :=
  let act := (List.range 128).filter (fun m => c.b (Reg.MOV_SLOT_A m) 31)
  let free := (List.range 128).filter (fun m => !c.b (Reg.MOV_SLOT_A m) 31 && !movSlotFenced c m)
  (c.setF Reg.MOV_STAT 16 8 free.length).setF Reg.MOV_STAT 8 8 act.length

/-- The stage's slot of a move. -/
def movStage (c : Chip) (m : Nat) : Nat := c.f (Reg.MOV_SLOT_A m) 0 9
/-- The step of a move slot. -/
def slotStep (c : Chip) (m : Nat) : Nat := c.f (Reg.MOV_SLOT_A m) 24 4
/-- AGE of a move slot. -/
def slotAge (c : Chip) (m : Nat) : Nat := c.f (Reg.MOV_SLOT_B m) 16 16
/-- The position of the stage that the move's target names. -/
def movTarget (c : Chip) (m : Nat) : Option Nat :=
  match movTo c m with | some o => xptPos c (movStage c m) o | none => none

/-- The reference that the last Emit sent for a stage. -/
def lastRef (c : Chip) (s : Nat) : Nat := c.f (Reg.ALC_STG_OUT s) 0 16

/-- VTGT (R232): the outlet's voltage where it already has a closed stage, the vehicle's present voltage else. -/
def movVtgt (p : Part) (c : Chip) (m : Nat) : Nat :=
  match movTo c m with
  | none => 0
  | some o =>
    let has := (List.range p.stages).any (fun s =>
      (match (c.stgMov s).want with | some k => xptOutlet c s k == some o | none => false) &&
        !(movBusy c s && decide (5 ≤ movStep c s ∧ movStep c s ≤ 7)))
    if has then (c.outIn o).vOut else fget (demV c o) 0 16

/-- A step is entered: AGE 0, the confirmations restart, and its entry action (Table: Move steps). -/
def movEnter (p : Part) (step m : Nat) (c : Chip) : Chip :=
  let s := movStage c m
  let x := c.stgMov s
  let want := if step ≤ 2 then x.want
    else if step = 6 ∨ step = 7 ∨ step = 8 then movTarget c m
    else none
  let ref := if step = 1 then lastRef c s - c.f Reg.MOV_CFG 0 16 else 0
  let c1 := (c.setF (Reg.MOV_SLOT_A m) 24 4 step).setF (Reg.MOV_STG s) 20 4 step
  let c2 := c1.wr (Reg.MOV_SLOT_B m) (word (if 5 ≤ step ∧ step ≤ 7 then movVtgt p c m else 0))
  (c2.setStgMov s { x with want := want, ref := ref }).setMovSlot m { c.movSlot m with conf := 0, late := false }

/-- A move takes a slot (R226, R228, R239). -/
def movBegin (e : Env) (m s step : Nat) (src dst : Option Nat) (c : Chip) : Chip :=
  let a := 2 ^ 31 + step * 2 ^ 24 + (match src with | some o => 2 ^ 23 + o * 65536 | none => 0)
    + (match dst with | some o => 2 ^ 15 + o * 512 | none => 0) + s
  let c1 := (c.wr (Reg.MOV_SLOT_A m) (word a)).wr (Reg.MOV_SLOT_C m) (e.time.frameNo.setWidth 32)
  let c2 := (((c1.setB (Reg.MOV_STG s) 31 true).setF (Reg.MOV_STG s) 24 7 m).setF (Reg.MOV_STG s) 20 4 step).setMovSlot m {}
  movShow ((movEnter e.part step m c2).sat Reg.MOV_STAT 0 8 1)

/-- A completed move: DONE, RELEASED or RAMP_TIMEOUT (Table: Move results). -/
def movCompleted (r : Nat) : Bool := decide (r ≤ 2)

/-- A move ends with a result (R230, R235, R243): its slot is freed, the stage keeps the commanded state that it has. -/
def movEnd (e : Env) (m r : Nat) (c : Chip) : Chip :=
  let s := movStage c m
  let step := slotStep c m
  let dur := (e.time.frameNo.setWidth 32 - c.rd (Reg.MOV_SLOT_C m)).toNat
  let c1 := (c.wr (Reg.MOV_SLOT_D m) (word (r * 2 ^ 24 + step * 2 ^ 20 + min 65535 dur))).wr (Reg.MOV_SLOT_A m) 0
  let c2 := (c1.wr (Reg.MOV_SLOT_B m) 0).setMovSlot m {}
  let c3 := ((c2.setB (Reg.MOV_STG s) 31 false).setF (Reg.MOV_STG s) 20 11 0).setF (Reg.MOV_STG s) 0 8 r
  let c4 := if movCompleted r then (c3.sat (Reg.MOV_STG_CNT s) 16 16 1).wrap Reg.MOV_DONE_CNT 0 32 1
    else (c3.sat (Reg.MOV_STG_CNT s) 0 16 1).wrap Reg.MOV_END_CNT 0 32 1
  let x := c4.stgMov s
  let c5 := if x.relDue.isNone then c4.setStgMov s { x with relPos := none } else c4
  movShow (c5.log1 e 0x13 8 0x01 (r * 2 ^ 24 + step * 2 ^ 20 + s * 128 + m))

/-- A stage fenced by any cause other than this chapter's own rules ends its move at once (R234). -/
def movStageFenced (e : Env) (s : Nat) (c : Chip) : Chip :=
  if movBusy c s then
    let c1 := movEnd e (movOf c s) 0x17 c
    c1.setStgMov s { c1.stgMov s with want := xptCmd c1 s, ref := 0 }
  else c

/-- FENCE of a Control or Service cell, with what it does to a stage's move (R94, R234). -/
def Chip.fenceCell (e : Env) (cause page j : Nat) (c : Chip) : Chip :=
  let was := c.fenced page j
  let c1 := c.fence e cause page j
  if was then c1
  else match pageAt page with
    | some g =>
      match g.kind with
      | .alcS | .xpt | .movS => movStageFenced e (64 * g.inst + j) c1
      | .movM => movShow c1
      | _ => c1
    | none => c1

/-- A stage fenced by the sequencer, for a weld or a bridge. -/
def movFence (e : Env) (s : Nat) (c : Chip) : Chip :=
  if c.stageFenced s then c
  else (c.fence e 9 (0x4000E000 + 0x1000 * (s / 64)) (s % 64)).setB Reg.MOV_EVT 0 true

/-- A position marked SUSPECT or WELDED, once, with its log entry (R220, R243): class 0x01, 0x02 or 0x03. -/
def xptMark (e : Env) (s k cls : Nat) (c : Chip) : Chip :=
  let bit := if cls = 2 then 16 + k else k
  if c.b (Reg.XPT_MARK s) bit then c
  else (c.setB (Reg.XPT_MARK s) bit true).log1 e 0x12 (s / 64) cls (s * 65536 + k * 256)

/-- The positions set in a 16-bit set. -/
def bits16 (v : Nat) : List Nat := (List.range 16).filter (fun k => v.testBit k)

/-- A failed opening (R237): WELDED on every position still closed, the stage fenced, the move ended. -/
def movWelded (e : Env) (m : Nat) (c : Chip) : Chip :=
  let s := movStage c m
  let c1 := eachOf (bits16 (xptFb c s)) (fun k c => xptMark e s k 2 c) c
  let c2 := (movFence e s c1).setB (Reg.XPT_EVT (s / 64)) 2 true
  movEnd e m 0x20 c2

/-- A move abandoned with a result (R234, R235). -/
def movAbandon (e : Env) (m r : Nat) (c : Chip) : Chip :=
  let c1 := c.setB Reg.MOV_EVT 1 true
  let c2 := if r = 0x16 then c1.setB Reg.MOV_EVT 3 true else c1
  let step := slotStep c m
  let s := movStage c m
  if step ≤ 2 then movEnd e m r c2
  else if step ≤ 4 then c2.setMovSlot m { c2.movSlot m with ab := some r }
  else if step = 5 then movEnd e m r (c2.setStgMov s { c2.stgMov s with want := none, ref := 0 })
  else movEnter e.part 9 m (c2.setMovSlot m { c2.movSlot m with ab := some r })

/-- A release created by the sequencer for a stage takes a slot (R223, R228); without one it stays due where `keep` (R239). -/
def movRelease (keep : Bool) (e : Env) (s : Nat) (src : Option Nat) (c : Chip) : Chip :=
  match movFree c with
  | some m =>
    let x := c.stgMov s
    let step := if x.started ∨ lastRef c s = 0 then 2 else 1
    movBegin e m s step src none (c.setStgMov s { x with relDue := none, relMid := false, started := false })
  | none => if keep then c.setStgMov s { c.stgMov s with relDue := some src } else c

/-- A due release may be created now (R239): no move, not fenced, and, for a disagreement found during a move, the stage serves no outlet
through the marked position and the disagreement still holds. -/
def relReady (c : Chip) (s : Nat) : Bool :=
  let x := c.stgMov s
  !movBusy c s && !c.stageFenced s && (match x.relPos with
    | some k => !x.relMid || (x.want != some k && (xptFb c s).testBit k)
    | none => true)

/-- The bridge check of a stage with fresh feedback (R238). -/
def movBridge (e : Env) (s : Nat) (c : Chip) : Chip :=
  let l := bits16 (xptFb c s)
  if 2 ≤ l.length then
    let c1 := eachOf l (fun k c => xptMark e s k 3 c) c
    let c2 := (movFence e s c1).setB (Reg.XPT_EVT (s / 64)) 3 true
    let c3 := if movBusy c2 s then movEnd e (movOf c2 s) 0x21 c2 else c2
    c3.setStgMov s { c3.stgMov s with want := xptCmd c3 s, ref := 0, wrong := (0, 0), opened := 0, deciding := false, decRun := 0 }
  else c

/-- The positions that a stage's own move is switching, which the disagreement checks leave out (R238). -/
def movExempt (c : Chip) (s : Nat) : List Nat :=
  if movBusy c s then
    let m := movOf c s
    let st := slotStep c m
    if st = 3 ∨ st = 4 ∨ st = 6 ∨ st = 7 ∨ st = 9 then
      (match movFrom c m with | some o => (xptPos c s o).toList | none => []) ++ (movTarget c m).toList
    else []
  else []

/-- A disagreement whose run has reached CONF asks for what is still to be done (R238, R239): the mark, or the release that no other one of the
position's is under way for. -/
def suspDue (c : Chip) (s k : Nat) : Bool :=
  let x := c.stgMov s
  !c.b (Reg.XPT_MARK s) k || (!c.stageFenced s && x.relDue.isNone && x.relPos != some k)

/-- The disagreement checks of a stage with fresh feedback (R238). -/
def movDisagree (s : Nat) (c : Chip) : Chip :=
  let x := c.stgMov s
  let l := bits16 (xptFb c s)
  let ex := movExempt c s
  let k1 := if l.length = 1 then l.head? else none
  let bad1 : Bool := match k1 with | some k => xptCmd c s != some k && !ex.contains k | none => false
  let wrong := if bad1 then (k1.getD 0, if x.wrong.1 = k1.getD 0 then x.wrong.2 + 1 else 1) else (0, 0)
  let bad2 : Bool := match xptCmd c s with | some k => !(xptFb c s).testBit k && !movBusy c s | none => false
  let opened := if bad2 then x.opened + 1 else 0
  let due1 := if bad1 ∧ movConf c ≤ wrong.2 ∧ suspDue c s wrong.1 then [wrong.1] else []
  let k2 := (xptCmd c s).getD 0
  let due2 := if bad2 ∧ movConf c ≤ opened ∧ suspDue c s k2 then [k2] else []
  c.setStgMov s { x with wrong := wrong, opened := opened, susp := due1 ++ due2 }

/-- The position that is alone closed in a stage's last fresh feedback (R241). -/
def fbAlone (c : Chip) (s : Nat) : Option Nat :=
  match bits16 (xptFb c s) with
  | [k] => some k
  | _ => none

/-- A stage whose state is still to be derived is commanded as its last fresh feedback shows, and the interlock takes that for the
previous frame's command (R241). -/
def movFollowFb (s : Nat) (c : Chip) : Chip :=
  let w := fbAlone c s
  ((c.setStgMov s { c.stgMov s with want := w, ref := 0 }).setB (Reg.XPT_POS s) 31 w.isSome).setF (Reg.XPT_POS s) 24 4 (w.getD 0)

/-- Step 1 of an evaluation for one stage (R223): the bridge check; a stage that rejoins counts its fresh frames, any other is checked
for disagreement. -/
def movCheck (e : Env) (s : Nat) (c : Chip) : Chip :=
  if !xptFresh c s then c
  else if 2 ≤ (bits16 (xptFb c s)).length then movBridge e s c
  else
    let x := c.stgMov s
    if x.deciding then movFollowFb s (c.setStgMov s { x with decRun := x.decRun + 1 })
    else movDisagree s c

/-- The positions of a stage whose disagreement has persisted are marked, and a release falls due (R220, R238, R239). -/
def movSuspect (e : Env) (s : Nat) (c : Chip) : Chip :=
  let x := c.stgMov s
  match x.susp with
  | [] => c
  | k :: _ =>
    let c1 := eachOf x.susp (fun k c => xptMark e s k 1 c) c
    let c2 := (c1.setStgMov s { x with susp := [] }).setB (Reg.XPT_EVT (s / 64)) 1 true
    if c2.stageFenced s then c2
    else c2.setStgMov s { c2.stgMov s with relDue := some (xptOutlet c s k), relPos := some k, relMid := movBusy c2 s }

/-- An unfenced or restarted stage has its CONF fresh frames (R241). -/
def rejoinDue (c : Chip) (s : Nat) : Bool := (c.stgMov s).deciding && decide (movConf c ≤ (c.stgMov s).decRun)
/-- Its state is derived from its feedback (R241). A stage that is fenced receives no release (R238). -/
def movRejoined (e : Env) (s : Nat) (c : Chip) : Chip :=
  let x := c.stgMov s
  let c1 := c.setStgMov s { x with deciding := false, decRun := 0, ref := 0 }
  match x.want with
  | none => c1.setStgMov s { c1.stgMov s with started := false }
  | some k =>
    if c.stageFenced s then c1
    else match xptOutlet c s k with
      | some o => movRelease true e s (some o) c1
      | none => movRelease true e s none (c1.setStgMov s { c1.stgMov s with want := none })

/-- Step 2 of an evaluation for one stage (R223, R239, R240): parking, and releases that are due. -/
def movOwnRelease (e : Env) (s : Nat) (c : Chip) : Chip :=
  let x := c.stgMov s
  match x.relDue with
  | some src =>
    if relReady c s then movRelease true e s src c
    else if !movBusy c s then c.setStgMov s { x with relDue := none, relPos := none, relMid := false } else c
  | none =>
    if c.b (Reg.MOV_STG s) 16 && !movBusy c s && !c.stageFenced s && !x.deciding then
      match servedBy c s with
      | some o => movRelease false e s (some o) c
      | none => c
    else c

/-- The condition of a step in one fresh frame (Table: Move steps). -/
def stepSees (c : Chip) (m : Nat) : Bool :=
  let s := movStage c m
  let i := c.stgIn s
  let st := slotStep c m
  if st = 2 then decide (i.iMeas.natAbs < 20)
  else if st = 4 ∨ st = 9 then decide (xptFb c s = 0)
  else if st = 5 then decide (absDiff i.vOut (c.f (Reg.MOV_SLOT_B m) 0 16) ≤ 50)
  else if st = 7 then decide (xptFb c s = 2 ^ ((movTarget c m).getD 16))
  else if st = 8 then decide ((i.iMeas - (lastRef c s : Nat)).natAbs ≤ max 20 (lastRef c s / 10))
  else false

/-- The condition to leave a step holds, the confirmations counted (R229). -/
def stepHolds (c : Chip) (m : Nat) : Bool :=
  let s := movStage c m
  let st := slotStep c m
  if st = 1 then decide (lastRef c s = 0)
  else if st = 3 then true
  else if st = 6 then xptCmd c s == movTarget c m && (movTarget c m).isSome
  else decide (movConf c ≤ (c.movSlot m).conf)

/-- The timeout of a step; none for steps without one (Table: Move steps). -/
def stepTimeout (c : Chip) (m : Nat) : Option Nat :=
  let s := movStage c m
  let cls (o : Option Nat) : Nat := match o with
    | some o => (match xptPos c s o with | some k => xptClass c s k | none => 0)
    | none => 0
  let st := slotStep c m
  if st = 2 then some (c.f Reg.MOV_TO_A 0 16)
  else if st = 4 then some (c.f (Reg.MOV_CT (cls (movFrom c m))) 0 16)
  else if st = 5 then some (c.f Reg.MOV_TO_A 16 16)
  else if st = 6 ∨ st = 7 then some (c.f (Reg.MOV_CT (cls (movTo c m))) 16 16)
  else if st = 8 then some (c.f Reg.MOV_TO_B 0 16)
  else if st = 9 then some (c.f (Reg.MOV_CT (cls (movTo c m))) 0 16)
  else none

/-- A step is left (R229, R230, R235): the next one is entered, or the move ends. -/
def movLeave (e : Env) (m : Nat) (c : Chip) : Chip :=
  let st := slotStep c m
  let s := movStage c m
  let free (c : Chip) : Chip := c.setStgMov s { c.stgMov s with want := none, ref := 0 }
  if st = 4 then
    match (c.movSlot m).ab with
    | some r => movEnd e m r (free c)
    | none => if (movTo c m).isNone then movEnd e m 0x01 (free c) else movEnter e.part 5 m c
  else if st = 8 then movEnd e m 0x00 c
  else if st = 9 then movEnd e m ((c.movSlot m).ab.getD 0x10) (free c)
  else movEnter e.part (st + 1) m c

/-- The first abandonment trigger of R234 that holds, the step's timeout left to its own row: the result, or the timeout. -/
def movTrigger (e : Env) (c : Chip) (m : Nat) (holds : Bool) : Option Nat :=
  let s := movStage c m
  let st := slotStep c m
  let lost := match movTo c m with | some o => decide (demandBound e.part c o = 0) | none => false
  let late : Bool := match stepTimeout c m with | some t => decide (t ≤ slotAge c m) && !holds | none => false
  let port := match stagePort e.part c s with | some n => decide (4 ≤ missRun c n) | none => false
  if st = 8 ∨ (c.movSlot m).ab.isSome ∨ (st = 4 ∧ late) then (if late then some 0 else none)
  else if lost then some 0x10
  else if late then some 0
  else if port then some 0x16
  else if st = 7 ∧ xptFresh c s ∧ (c.stgIn s).refused then some 0x15
  else if movSlotFenced c m then some 0x18
  else none

/-- Step 3 of an evaluation for one move slot (R223, R229, R231, R232, R234). A release that this evaluation has created has entered its
first step, whose condition is tested from the next evaluation on (R229). -/
def movEval (e : Env) (m : Nat) (c : Chip) : Chip :=
  if !c.b (Reg.MOV_SLOT_A m) 31 || c.rd (Reg.MOV_SLOT_C m) == e.time.frameNo.setWidth 32 then c
  else
    let s := movStage c m
    let st := slotStep c m
    let c1 := c.setF (Reg.MOV_SLOT_B m) 16 16 (satAdd 16 (slotAge c m) 1)
    let c2 := if 5 ≤ st ∧ st ≤ 7 then c1.setF (Reg.MOV_SLOT_B m) 0 16 (movVtgt e.part c1 m) else c1
    let q := c2.movSlot m
    let c3 := if xptFresh c2 s then c2.setMovSlot m { q with conf := if stepSees c2 m then q.conf + 1 else 0 } else c2
    let holds := stepHolds c3 m
    match movTrigger e c3 m holds with
    | some 0 => c3.setMovSlot m { c3.movSlot m with late := true }
    | some r =>
      let c4 := movAbandon e m r c3
      if st = 3 ∨ (st = 4 ∧ holds) then movLeave e m c4 else c4
    | none =>
      if holds then movLeave e m c3
      else if st = 1 then c3.setStgMov s { c3.stgMov s with ref := lastRef c3 s - c3.f Reg.MOV_CFG 0 16 }
      else c3

/-- A step's AGE has reached its timeout with the condition not held (R229, R234 to R237). -/
def movTimeout (e : Env) (m : Nat) (c : Chip) : Chip :=
  let st := slotStep c m
  let c1 := (c.setMovSlot m { c.movSlot m with late := false }).setB Reg.MOV_EVT 2 true
  if st = 4 ∨ st = 9 then movWelded e m c1
  else if st = 8 then movEnd e m 0x02 c1
  else if st = 2 then movAbandon e m 0x11 c1
  else if st = 5 then movAbandon e m 0x12 c1
  else if st = 6 then movAbandon e m 0x13 c1
  else if st = 7 then
    let stg := movStage c1 m
    let c2 := match movTarget c1 m with
      | some k => (xptMark e stg k 1 c1).setB (Reg.XPT_EVT (stg / 64)) 1 true
      | none => c1
    movAbandon e m 0x14 c2
  else c1
/-- A move's timeout waits to be dealt with. -/
def moveLate (c : Chip) (m : Nat) : Bool := c.b (Reg.MOV_SLOT_A m) 31 && (c.movSlot m).late

/-- A piece of an evaluation that a row of its own deals with: POSITION_SUSPECT, STAGE_REJOIN or STEP_TIMEOUT. -/
def movWaits (c : Chip) : MovTask → Bool
  | .mark s => (c.stgMov s).susp != []
  | .own s => rejoinDue c s
  | .late m => moveLate c m
  | _ => false
/-- A piece of an evaluation done (R223). -/
def movDo (e : Env) : MovTask → Chip → Chip
  | .check s, c => movCheck e s c
  | .mark s, c => movSuspect e s c
  | .own s, c => movOwnRelease e s (if rejoinDue c s then movRejoined e s c else c)
  | .slot m, c => movEval e m c
  | .late m, c => if moveLate c m then movTimeout e m c else c
/-- An evaluation goes through its pieces in order; with `stop` it waits at a piece that has a row of its own. -/
def movGo (e : Env) (stop : Bool) : List MovTask → Chip → Chip
  | [], c => c.onMov (fun v => { v with todo := [] })
  | t :: l, c => if stop && movWaits c t then c.onMov (fun v => { v with todo := t :: l }) else movGo e stop l (movDo e t c)
/-- The pieces of an evaluation in the order of R223. -/
def movTasks (p : Part) : List MovTask :=
  (List.range p.stages).flatMap (fun s => [.check s, .mark s]) ++ (List.range p.stages).map .own
    ++ (List.range 128).flatMap (fun m => [.slot m, .late m])
/-- What waited has been dealt with: the evaluation goes on. -/
def movResume (e : Env) (c : Chip) : Chip := movGo e true c.mov.todo c
/-- An evaluation that still waits ends: it lasts 600 cycles at most (R222). -/
def movFinish (e : Env) (c : Chip) : Chip := movGo e false c.mov.todo c

/-- SEQUENCER_EVALUATION (R222, R223): the stages checked, the sequencer's own releases, then the move slots. -/
def movEvaluate (e : Env) (c : Chip) : Chip := movGo e true (movTasks e.part) (c.setF Reg.MOV_STAT 0 8 0)

/-- POSITION_SUSPECT: the positions of a stage whose disagreement has persisted are marked, and a release falls due, which the evaluation
creates as it goes on (R220, R223, R238, R239). -/
def execPositionSuspect (s : Fin 512) (st : State) : Host.Outcome State Fault Refusal :=
  .next (onChip (fun e c => if (c.stgMov s.val).susp = [] then c else movResume e (movSuspect e s.val c)) st)

/-- STEP_TIMEOUT: AGE has reached the timeout with the condition not held, and the evaluation goes on (R229, R234 to R237). -/
def execStepTimeout (m : Fin 128) (s : State) : Host.Outcome State Fault Refusal :=
  .next (onChip (fun e c => if moveLate c m.val then movResume e (movTimeout e m.val c) else c) s)

/-- STAGE_REJOIN: after CONF fresh frames an unfenced or restarted stage's state is derived from its feedback, and the evaluation goes on
(R223, R241). -/
def execStageRejoin (s : Fin 512) (st : State) : Host.Outcome State Fault Refusal :=
  .next (onChip (fun e c => if rejoinDue c s.val then movResume e (movRejoined e s.val c) else c) st)

/-- A stage begins to derive its state (R241): at its unfence, or at a start of the Control region. -/
def movRejoin (started : Bool) (s : Nat) (c : Chip) : Chip :=
  movFollowFb s (c.setStgMov s { deciding := true, started := started })

/-- MOVE_REQUEST_ACCEPT (R226 to R228): one request of a completed Solve. -/
def movAccept (e : Env) (q : MoveReq) (c : Chip) : Chip :=
  match (if c.stageFenced q.stage || movBusy c q.stage then none else movFree c) with
  | some m => movBegin e m q.stage (if q.src.isNone then 4 else 1) q.src q.dst c
  | none => c.setB Reg.MOV_EVT 4 true

/-- The interlock of a stage in an Emit (R218, R219): the command that goes out, kept in XPT.POS. -/
def movEmit (s : Nat) (c : Chip) : Chip :=
  let prev := xptCmd c s
  let want := if c.stageFenced s then prev else (c.stgMov s).want
  let ok := want == prev || want.isNone || (prev.isNone && xptFresh c s && decide (xptFb c s = 0))
  let out := if ok then want else prev
  let c1 := if ok then c else c.setB (Reg.XPT_EVT (s / 64)) 0 true
  (c1.setB (Reg.XPT_POS s) 31 out.isSome).setF (Reg.XPT_POS s) 24 4 (out.getD 0)

/-- A stage's feedback at the bundle cut-off (R216, R240, R376): FB_CL, FRESH and FB_AGE, and what the Allocator sees. -/
def movFeedback (p : Part) (s : Nat) (c : Chip) : Chip :=
  let i := c.stgIn s
  let port := stagePort p c s
  let fresh := i.got && (match port with | some n => missRun c n == 0 | none => false)
  let age := c.f (Reg.XPT_POS s) 16 7
  let c1 := (c.setB (Reg.XPT_POS s) 23 fresh).setF (Reg.XPT_POS s) 16 7 (if fresh then 0 else satAdd 7 age 1)
  let c2 := if fresh then c1.setF (Reg.XPT_POS s) 0 16 i.fb else c1
  let gone : Bool := match port with
    | some n => decide (c.f Reg.PRT_TP_GCFG 28 4 ≤ missRun c n) | none => true
  let parked : Bool := c.b (Reg.MOV_PARK s) 0 && port.isSome && (c.b (Reg.MOV_STG s) 16 || !movBusy c s)
  let st := if parked then 0 else if c.fencedFrozen (alcPage s) (s % 64) then 3 else if gone ∨ i.state = 3 then 0 else i.state
  let c3 := ((c2.setF (Reg.ALC_STG_IN s) 30 2 st).setF (Reg.ALC_STG_IN s) 16 8 i.temp).setF (Reg.ALC_STG_IN s) 0 16
    (if gone then 0 else i.avail)
  (c3.setB (Reg.MOV_STG s) 16 parked).setStgIn s { i with got := false }

end Sys2Proof.Machine
end

