-- ==== Sys2Proof/Machine/Cen.lean ====
section
/-! DEFINITION. The Control Engine (ch. 8): programs of the loop slots, input bindings, analogue and pulse inputs, tables, open
and closed loops, trips, motion axes, and what the Emit sends of the slots' outputs. -/
namespace Sys2Proof.Machine

/-- The engine's own state changed. -/
def Chip.onCen (c : Chip) (f : CenSt → CenSt) : Chip := { c with cen := f c.cen }
/-- A loop slot's own state written. -/
def Chip.setCenSlot (c : Chip) (s : Nat) (x : CenSlot) : Chip :=
  c.onCen (fun z => { z with slots := tset (fun _ => ({} : CenSlot)) z.slots s x })
/-- An axis beside its registers. -/
def Chip.axis (c : Chip) (a : Nat) : AxisSt := tget (fun _ => {}) c.cen.axes a
/-- The same written. -/
def Chip.setAxis (c : Chip) (a : Nat) (x : AxisSt) : Chip :=
  c.onCen (fun z => { z with axes := tset (fun _ => ({} : AxisSt)) z.axes a x })
/-- An analogue input beside its registers. -/
def Chip.ain (c : Chip) (n : Nat) : AinSt := tget (fun _ => {}) c.cen.ain n
/-- A pulse input beside its registers. -/
def Chip.pin (c : Chip) (n : Nat) : PinSt := tget (fun _ => {}) c.cen.pin n
/-- The same written. -/
def Chip.setPin (c : Chip) (n : Nat) (x : PinSt) : Chip :=
  c.onCen (fun z => { z with pin := tset (fun _ => ({} : PinSt)) z.pin n x })

/-- NINS of a slot; 0 for an unused one (R252). -/
def cenNins (c : Chip) (s : Nat) : Nat := c.f (Reg.CEN_SLOT_CTL s) 0 6
/-- The slot is used. -/
def cenUsed (c : Chip) (s : Nat) : Bool := decide (0 < cenNins c s)
/-- TIER of a slot. -/
def cenTier (c : Chip) (s : Nat) : Nat := c.f (Reg.CEN_SLOT_CTL s) 16 2
/-- The axis in use that governs a slot (R280). -/
def cenAxis (c : Chip) (s : Nat) : Option Nat :=
  (List.range 8).find? (fun a => c.b (Reg.CEN_AX_CFG a) 31 && c.f (Reg.CEN_AX_CFG a) 0 10 == s)
/-- STATE of an axis: 0 OFF, 1 HOLD, 2 MOVE, 3 STOP, 4 FAULT. -/
def axState (c : Chip) (a : Nat) : Nat := c.f (Reg.CEN_AX_STAT a) 28 4
/-- The slot asks to be closed: its CLOSE bit, or where an axis governs it that axis's state: HOLD, MOVE and STOP close it, OFF and FAULT open
it (R271, R280). -/
def cenAsked (c : Chip) (ax : Nat → Nat) (s : Nat) : Bool :=
  match cenAxis c s with
  | some a => ax a == 1 || ax a == 2 || ax a == 3
  | none => c.b (Reg.CEN_SLOT_CTL s) 31

/-! ### The instruction set (R254, R255) -/

/-- clamp(x, lo, hi), each of its two operations with a finite result (R250, R275). -/
def fClamp (x lo hi : Word) : Option Word := do let m ← fKeep (fMax x lo); fKeep (fMin m hi)

/-- What a run of a slot carries: the working registers and the state words. -/
structure CenRun where
  x : List Word
  st : List Word

/-- A working register. -/
def CenRun.r (q : CenRun) (i : Nat) : Word := q.x.getD i 0
/-- A state word. -/
def CenRun.s (q : CenRun) (i : Nat) : Word := q.st.getD i 0
/-- Put a result in a working register. -/
def CenRun.put (q : CenRun) (d : Nat) (w : Word) : CenRun := { q with x := q.x.set d w }
/-- Put a result in a state word. -/
def CenRun.keep (q : CenRun) (i : Nat) (w : Word) : CenRun := { q with st := q.st.set i w }

/-- A feed-forward table read (R263); each operation rounded, none kept when one is not finite. In wrap mode the point before the first is the
last one (DEDUCED, log entry 53). -/
def cenLut (c : Chip) (tbl : Nat) (wrap : Bool) (a k0 k1 : Word) : Option Word := do
  let p (i : Nat) : Word := fFlush (c.rd (Reg.CEN_LUT tbl i))
  let t ← fKeep (fSub a k0)
  let u ← fKeep (fMul t k1)
  if wrap then
    let q ← fKeep (fDiv u (fOfInt 1024))
    let m ← fKeep (fMul (fOfInt 1024) (fFloor q))
    let u1 ← fKeep (fSub u m)
    let u2 := if fLe (fOfInt 1024) u1 then 0 else u1
    let i := fTrunc (fFloor u2)
    let f ← fKeep (fSub u2 (fFloor u2))
    let d ← fKeep (fSub (p ((i + 1) % 1024).toNat) (p (i % 1024).toNat))
    let y ← fKeep (fMul f d)
    fKeep (fAdd (p (i % 1024).toNat) y)
  else
    let u1 := fMin (fMax u 0) (fOfInt 1023)
    let i := min 1022 (fTrunc (fFloor u1)).toNat
    let f ← fKeep (fSub u1 (fOfInt i))
    let d ← fKeep (fSub (p (i + 1)) (p i))
    let y ← fKeep (fMul f d)
    fKeep (fAdd (p i) y)

/-- One instruction (Table: Instruction set): the run after it, or none where a result is not finite. -/
def cenStep (c : Chip) (slot : Nat) (w : Word) (q : CenRun) : Option CenRun :=
  let op := fget w 27 5
  let d := fget w 24 3
  let a := q.r (fget w 21 3)
  let b := q.r (fget w 18 3)
  let k (i : Nat) : Word := fFlush (c.rd (Reg.CEN_PROG slot (fget w 13 5 + i)))
  let s := fget w 10 3
  let one (r : Word) : Option CenRun := do let y ← fKeep r; some (q.put d y)
  match op with
  | 0x01 => one a
  | 0x02 => one (k 0)
  | 0x03 => one (fAdd a b)
  | 0x04 => one (fSub a b)
  | 0x05 => one (fMul a b)
  | 0x06 => one (fMul a (k 0))
  | 0x07 => one (fMin a b)
  | 0x08 => one (fMax a b)
  | 0x09 => do let y ← fClamp a (k 0) (k 1); some (q.put d y)
  | 0x0A => do
    let p ← fKeep (fMul (k 0) a)
    let t ← fKeep (fMul (k 1) a)
    let i0 ← fKeep (fAdd (q.s s) t)
    let i ← fClamp i0 (k 3) (k 4)
    let e ← fKeep (fSub a (q.s (s + 1)))
    let dd ← fKeep (fMul (k 2) e)
    let y0 ← fKeep (fAdd p i)
    let y1 ← fKeep (fAdd y0 dd)
    let y ← fClamp y1 (k 3) (k 4)
    some (((q.keep s i).keep (s + 1) (fFlush a)).put d y)
  | 0x0B => do
    let t1 ← fKeep (fMul (k 0) a)
    let t2 ← fKeep (fMul (k 1) (q.s s))
    let t3 ← fKeep (fMul (k 2) (q.s (s + 1)))
    let y0 ← fKeep (fAdd t1 t2)
    let y ← fKeep (fSub y0 t3)
    some (((q.keep s (fFlush a)).keep (s + 1) y).put d y)
  | 0x0C => do
    let lo ← fKeep (fSub (q.s s) (k 0))
    let hi ← fKeep (fAdd (q.s s) (k 1))
    let y ← fClamp a lo hi
    some ((q.keep s y).put d y)
  | 0x0D => do
    let y ← cenLut c (fget w 6 4) (fbit w 5) a (k 0) (k 1)
    some (q.put d y)
  | 0x0E => one (q.s s)
  | 0x0F => do let y ← fKeep a; some (q.keep s y)
  | 0x10 => do let y ← fKeep (fAdd (q.s s) a); some ((q.keep s y).put d y)
  | _ => some q

/-- A program from a word on: the output and the state words of a run that reaches OUT (R253), or none. -/
def cenProgram (c : Chip) (slot : Nat) : Nat → Nat → CenRun → Option (Word × List Word)
  | 0, _, _ => none
  | n + 1, i, q =>
    let w := c.rd (Reg.CEN_PROG slot i)
    if fget w 27 5 = 0x11 then (fKeep (q.r (fget w 21 3))).map (fun y => (y, q.st))
    else match cenStep c slot w q with
      | some q' => cenProgram c slot n (i + 1) q'
      | none => none

/-! ### Inputs (R256 to R259) -/

/-- What the slots of a run see of each other and of the axes: the slots as far as they have run, and each axis's state word,
p and v. -/
structure CenView where
  slots : List (Nat × CenSlot)
  axes : List (Nat × (Word × Word) × AxisSt)

/-- An axis of a view. -/
def CenView.ax (v : CenView) (c : Chip) (a : Nat) : (Word × Word) × AxisSt :=
  ((v.axes.find? (fun x => x.1 == a)).map (·.2)).getD ((c.rd (Reg.CEN_AX_STAT a), c.rd (Reg.CEN_AX_PSP a)), c.axis a)

/-- The results of the Allocator that the engine reads (R256): this frame's, or the last ones in force. -/
def alcNow (c : Chip) : AlcRes := (c.alc.res).getD ((c.alc.last).getD {})

/-- A site value (Table: Allocator and tree sources, SEL 1). -/
def siteValue (p : Part) (c : Chip) (i : Nat) : Int :=
  let r := alcNow c
  if i = 5 then
    (((List.range p.outlets).map (fun o => emittedGrant c r o * r.volts.getD o 0 / 100)).sum + r.lims.getD 3 0 : Nat)
  else (r.lims.getD i 0 : Nat)

/-- A binding's value and whether it is valid (R256 to R259). -/
def cenInput (p : Part) (c : Chip) (v : CenView) (slot tier : Nat) (b : Nat) : Bool × Word :=
  let pay := b % 8192
  match b / 8192 with
  | 1 => (true, (c.cenSlot slot).sp)
  | 2 => (c.b Reg.CEN_IN_STAT (pay % 4), fOfInt (c.f (Reg.CEN_AIN_VAL (pay % 4)) 0 25 : Nat))
  | 3 =>
    let n := pay % 4
    let w := c.rd (Reg.CEN_PIN_VAL n)
    (c.b Reg.CEN_IN_STAT (4 + n), fOfInt (if c.f (Reg.CEN_PIN_CFG n) 29 2 = 2 then sgn w else (w.toNat : Int)))
  | 4 =>
    let x := c.chanIn (pay / 256) (pay % 256)
    (decide (x.age < 4 ∧ missRun c (pay / 256) < 4), fOfInt x.value)
  | 5 =>
    let t := pay % 1024
    let now := decide (cenTier c t < tier)
    let q := if now then tget (fun _ => ({} : CenSlot)) v.slots t else c.cenSlot t
    (cenUsed c t && q.trip == 0 && !fbit (c.img.slotFmap.getD (t / 32) 0) (t % 32), q.out)
  | 6 =>
    let i := pay % 1024
    match pay / 1024 with
    | 0 => (true, fOfInt (sgn (c.rd (Reg.CXT_NODE i 2))))
    | 1 => (true, fOfInt (siteValue p c i))
    | 2 => (true, fOfInt (emittedGrant c (alcNow c) i : Nat))
    | 3 => (true, fOfInt (c.outIn i).iMeas)
    | 4 => (true, fOfInt (c.stgIn i).iMeas)
    | 5 => (true, fOfInt (emittedRef c (alcNow c) i : Nat))
    | 6 => (true, tget (fun _ => (0 : Word)) c.thm.hot i)
    | _ => (true, 0)
  | 7 =>
    let a := pay / 8 % 8
    let x := v.ax c a
    let cfg := c.rd (Reg.CEN_AX_CFG a)
    let d := c.axIn (fget cfg 25 5) (fget cfg 17 8)
    let act := fOfInt (sgn (c.rd (Reg.CEN_AX_POS a)))
    (decide (missRun c (fget cfg 25 5) < 4), match pay % 8 with
      | 0 => x.1.2
      | 1 => x.2.vel
      | 2 => act
      | 3 => fOfInt d.vel
      | _ => fSub x.1.2 act)
  | _ => (true, 0)

/-- The four bindings of a slot. -/
def cenBindings (c : Chip) (s : Nat) : List Nat :=
  [c.f (Reg.CEN_SLOT_IN01 s) 16 16, c.f (Reg.CEN_SLOT_IN01 s) 0 16,
   c.f (Reg.CEN_SLOT_IN23 s) 16 16, c.f (Reg.CEN_SLOT_IN23 s) 0 16]

/-- A slot trips with a cause: it sends SLOT_SAFE, and its state words stay as they were (R253, R275). -/
def cenTripped (c : Chip) (s cause : Nat) (q : CenSlot) : CenSlot :=
  { q with trip := cause, out := c.rd (Reg.CEN_SLOT_SAFE s), closed := false, valid := 0, reclose := false }

/-- A slot whose reclose is due, closed again for this run, unless an input is invalid now: then the count of valid freezes restarts
(R276, R279). -/
def cenReclose (q : CenSlot) (ok : Bool) : CenSlot :=
  if !(q.reclose && q.trip == 2) then q
  else if ok then { q with trip := 0, closed := false, valid := 0, reclose := false }
  else { q with valid := 0, reclose := false }

/-- One used slot of a frame (R253, R258, R271, R272, R275, R276). -/
def cenSlotRun (p : Part) (c : Chip) (v : CenView) (s : Nat) (r : CenRes) : CenRes :=
  let q0 := c.cenSlot s
  let ins := (cenBindings c s).map (cenInput p c v s (cenTier c s))
  let bad := ins.any (fun x => !x.1)
  let last := (ins.zipIdx).map (fun x => if x.1.1 then x.1.2 else q0.lastIn.getD x.2 0)
  let q := { (if c.slotFenced s then q0 else cenReclose q0 !bad) with lastIn := last }
  let again := q0.trip != 0 && q.trip == 0
  let put (x : CenSlot) (evt : Nat) (trips : List (Nat × Nat)) : CenRes :=
    { r with slots := tset (fun _ => ({} : CenSlot)) r.slots s x, evt := r.evt ||| evt ||| (if again then 16 else 0), trips := r.trips ++ trips,
             recl := r.recl ++ (if again then [s] else []) }
  if c.slotFenced s ∨ q.trip ≠ 0 then put { q with out := c.rd (Reg.CEN_SLOT_SAFE s), closed := false } 0 []
  else if !cenAsked c (fun a => fget (v.ax c a).1.1 28 4) s then put { q with out := q.man, closed := false } 0 []
  else
    let zero := List.replicate 8 (0 : Word)
    let ctl := c.rd (Reg.CEN_SLOT_CTL s)
    let st0 := if q.closed then (if q.st = [] then zero else q.st)
      else if fbit ctl 28 then zero.set (fget ctl 24 3) q.out else zero
    let q1 := { q with st := st0, closed := true }
    if bad && fbit ctl 29 then put (cenTripped c s 2 q1) 1 [(s, 2)]
    else
      let hold := if bad then 8 else 0
      match cenProgram c s (cenNins c s) 0 ⟨last.map fFlush ++ [0, 0, 0, 0], st0⟩ with
      | some (y, st) => put { q1 with out := y, st := st } hold []
      | none => put (cenTripped c s 1 q1) (hold + 3) [(s, 1)]

/-! ### Motion axes (R280 to R284) -/

/-- copysign. -/
def fCopySign (m s : Word) : Word := fAbs m ||| (s &&& 0x80000000)

/-- One frame of an axis's trajectory generator (R281): the state word, p and v after it. -/
def axisAdvance (c : Chip) (a : Nat) : (Word × Word) × AxisSt :=
  let stat := c.rd (Reg.CEN_AX_STAT a)
  let p := c.rd (Reg.CEN_AX_PSP a)
  let x := c.axis a
  let amax := c.rd (Reg.CEN_AX_AMAX a)
  let vmax := c.rd (Reg.CEN_AX_VMAX a)
  let dstop := c.rd (Reg.CEN_AX_DSTOP a)
  let tgt := fOfInt x.goal
  let st := fget stat 28 4
  let show1 (w : Word) (p : Word) : Word := fsetb w 23 (fEq p tgt)
  if st = 2 then
    let d := fSub tgt p
    let brake := fDiv (fMul x.vel x.vel) (fAdd amax amax)
    let v1 := if fLe (fAbs d) (fAdd brake (fAbs x.vel))
      then fSub x.vel (fCopySign (fMin amax (fAbs x.vel)) x.vel)
      else fMin (fMax (fAdd x.vel (fCopySign amax d)) (fNeg vmax)) vmax
    let p1 := fAdd p v1
    if fLe (fAbs (fSub tgt p1)) amax && fLe (fAbs v1) amax
    then ((show1 (fset stat 28 4 1) tgt, tgt), { x with vel := 0 })
    else ((show1 stat p1, p1), { x with vel := v1 })
  else if st = 3 then
    let v1 := fSub x.vel (fCopySign (fMin dstop (fAbs x.vel)) x.vel)
    let p1 := fAdd p v1
    let next := if fEq v1 0 then (if fbit stat 22 || fbit stat 21 then fsetb (fset stat 28 4 0) 21 false else fset stat 28 4 1) else stat
    ((show1 next p1, p1), { x with vel := v1 })
  else ((show1 stat p, p), x)

/-- CONTROL_ENGINE_RUN (R268): the axes, then the used slots tier by tier in rising index. -/
def cenRun (p : Part) (c : Chip) : CenRes :=
  let axes := if p.hasAxes then ((List.range 8).filter (fun a => c.b (Reg.CEN_AX_CFG a) 31)).map (fun a => (a, axisAdvance c a)) else []
  let used := (List.range 1024).filter (cenUsed c)
  let r0 : CenRes := { slots := c.cen.slots, axes := axes }
  (List.range 4).foldl (fun r t =>
    (used.filter (fun s => cenTier c s == t)).foldl (fun r' s => cenSlotRun p c ⟨r.slots, axes⟩ s r') r) r0

/-- An axis state change logged (R287). -/
def axLog (e : Env) (a : Nat) (old new : Word) (c : Chip) : Chip :=
  if fget old 28 4 = fget new 28 4 then c
  else c.log1 e 0x14 16 0x03 (fget new 28 4 * 2 ^ 28 + fget new 24 4 * 2 ^ 24 + a)

/-- The cause that CEN.CAUSEk shows for a slot (R286). -/
def cenCause (c : Chip) (s : Nat) : Nat := if c.slotFenced s then 3 else (c.cenSlot s).trip

/-- CLOSED, TRIP, CAUSE and SLOT_OUT of one slot shown (R286). -/
def cenShow (s : Nat) (c : Chip) : Chip :=
  let i := s / 64
  let b := s % 64
  let q := c.cenSlot s
  let k := cenCause c s
  let lo := if b < 32 then Reg.CEN_CLOSED_LO i else Reg.CEN_CLOSED_HI i
  let tr := if b < 32 then Reg.CEN_TRIP_LO i else Reg.CEN_TRIP_HI i
  let c1 := (c.setB lo (b % 32) (q.closed && k == 0)).setB tr (b % 32) (k != 0)
  (c1.setF (Reg.CEN_CAUSE i (b / 8)) (4 * (b % 8)) 4 k).wr (Reg.CEN_SLOT_OUT s) q.out

/-- What the boundary shows of fences set or cleared since the slots' last run (R278, R279, R286). -/
def cenShowFences (c : Chip) : Chip :=
  eachBelow 16 (fun i c =>
    let page := 0x4001F000 + 0x1000 * i
    if [Reg.PG_FENCEMAP page 0, Reg.PG_FENCEMAP page 1, Reg.CEN_TRIP_LO i, Reg.CEN_TRIP_HI i].all (fun a => c.rd a == 0) then c
    else eachBelow 64 (fun j c =>
      let k := cenCause c (64 * i + j)
      if c.f (Reg.CEN_CAUSE i (j / 8)) (4 * (j % 8)) 4 = k then c else cenShow (64 * i + j) c) c) c

/-- The engine's results are committed at the end of a completed Solve (R267, R275, R276, R287). -/
def cenCommit (e : Env) (c : Chip) : Chip :=
  match c.cen.res with
  | none => c
  | some r =>
    let c1 := c.onCen (fun z => { z with slots := r.slots, res := none })
    let c2 := c1.wr Reg.CEN_EVT (c1.rd Reg.CEN_EVT ||| word r.evt)
    let c3a := eachOf r.recl (fun s c => c.log1 e 0x14 (s / 64) 0x02 s) c2
    let c3 := eachOf r.trips (fun x c => c.log1 e 0x14 (x.1 / 64) 0x01 (x.2 * 2 ^ 28 + x.1)) c3a
    let c4 := eachOf r.axes (fun x c =>
      let old := c.rd (Reg.CEN_AX_STAT x.1)
      axLog e x.1 old x.2.1.1 (((c.wr (Reg.CEN_AX_STAT x.1) x.2.1.1).wr (Reg.CEN_AX_PSP x.1) x.2.1.2).setAxis x.1 x.2.2)) c3
    let c5 := eachOf r.trips (fun x c => match cenAxis c x.1 with
      | some a => if x.2 ≠ 4 ∧ 1 ≤ axState c a ∧ axState c a ≤ 3 then c.setAxis a { c.axis a with faultDue := 4 } else c
      | none => c) c4
    eachOf ((List.range 1024).filter (fun s => cenUsed c5 s || (tkeys r.slots s (s + 1)) != [])) cenShow c5

/-! ### The Gather freeze -/

/-- One analogue input at the freeze (R260). -/
def ainFreeze (n : Nat) (c : Chip) : Chip :=
  let x := c.ain n
  let c1 := if x.count = 0 then c
    else c.setF (Reg.CEN_AIN_VAL n) 0 25 (min (Int.tdiv x.sum x.count).toNat (2 ^ 25 - 1))
  let c2 := c1.setB Reg.CEN_IN_STAT n (c.b (Reg.CEN_AIN_CFG n) 31 && decide (0 < x.count) && x.ok)
  c2.onCen (fun z => { z with ain := tset (fun _ => ({} : AinSt)) z.ain n {} })

/-- One pulse input at the freeze (R261, R262); `fn` says that its two-hand function is active. -/
def pinFreeze (frame : Nat) (fn : Nat → Bool) (n : Nat) (c : Chip) : Chip :=
  let cfg := c.rd (Reg.CEN_PIN_CFG n)
  let x := c.pin n
  let on := !fbit cfg 19 || fn (fget cfg 8 4)
  let mode := fget cfg 29 2
  let win := x.stamps.filter (fun t => decide (frame ≤ t.2 + 2 ^ fget cfg 20 4))
  let m := win.length
  let span := (win.headD (0, 0)).1 - (win.getLastD (0, 0)).1
  let val : Word :=
    if mode = 2 then (if on then x.pos else c.rd (Reg.CEN_PIN_VAL n))
    else if !on then 0
    else if mode = 0 then word x.edges
    else if m < 2 ∨ span = 0 then 0 else word ((m - 1) * 200000000000 / span)
  let loss := mode == 1 && fbit cfg 27 && on && decide (m < 2)
  let c1 := c.wr (Reg.CEN_PIN_VAL n) val
  let c2 := (c1.setB Reg.CEN_IN_STAT (4 + n) (fbit cfg 31 && !x.bad && !loss)).setB Reg.CEN_IN_STAT (8 + n) (fbit cfg 31 && on)
  c2.setPin n { x with edges := 0, bad := false, pos := if mode = 2 ∧ !on then val else x.pos,
                       stamps := x.stamps.filter (fun t => decide (frame ≤ t.2 + 1024)) }

/-- What the bundle cut-off shows wrong with an axis (R283): 0x2 its drive's port missed in 4 consecutive frames, 0x3 its position outside the soft
limits. -/
def axInputCause (c : Chip) (a : Nat) : Nat :=
  let act := sgn (c.rd (Reg.CEN_AX_POS a))
  if 4 ≤ missRun c (c.f (Reg.CEN_AX_CFG a) 25 5) then 2
  else if act < sgn (c.rd (Reg.CEN_AX_LIM_LO a)) ∨ sgn (c.rd (Reg.CEN_AX_LIM_HI a)) < act then 3
  else 0

/-- One axis at the freeze (R282 to R284): the command and target latched, the Heath stop, the FAULT causes. -/
def axFreeze (e : Env) (a : Nat) (c : Chip) : Chip :=
  if !c.b (Reg.CEN_AX_CFG a) 31 then c.setF (Reg.CEN_AX_CMD a) 0 4 0
  else
    let cfg := c.rd (Reg.CEN_AX_CFG a)
    let stop := c.b (Reg.ALC_OUT_IN (fget cfg 10 6)) 27
    let x := c.axis a
    let st := axState c a
    let act := sgn (c.rd (Reg.CEN_AX_POS a))
    let err := fAbs (fSub (c.rd (Reg.CEN_AX_PSP a)) (fOfInt act))
    let far := fLt (fOfInt (c.f (Reg.CEN_AX_FE a) 8 24 : Nat)) err
    let live := decide (1 ≤ st ∧ st ≤ 3)
    let fe := if live && far then x.fe + 1 else 0
    let cause := if !live then 0
      else if far ∧ c.f (Reg.CEN_AX_FE a) 0 8 ≤ fe then 1
      else axInputCause c a
    let c1 := c.setAxis a { x with cmd := c.f (Reg.CEN_AX_CMD a) 0 4, tgt := sgn (c.rd (Reg.CEN_AX_TGT a)), fe := fe,
                                   faultDue := if x.faultDue ≠ 0 then x.faultDue else cause }
    let c2 := (c1.setF (Reg.CEN_AX_CMD a) 0 4 0).setB (Reg.CEN_AX_STAT a) 22 stop
    if stop ∧ (st = 1 ∨ st = 2) then
      let w := fset (c2.rd (Reg.CEN_AX_STAT a)) 28 4 3
      axLog e a (c2.rd (Reg.CEN_AX_STAT a)) w (c2.wr (Reg.CEN_AX_STAT a) w)
    else c2

/-- A slot's inputs at the freeze: SLOT_MAN and SLOT_SP latched, and the run of valid freezes of a slot tripped with cause
INPUT (R256, R271, R276). -/
def slotFreeze (p : Part) (s : Nat) (c : Chip) : Chip :=
  let q := c.cenSlot s
  let ok := (cenBindings c s).all (fun b => (cenInput p c ⟨c.cen.slots, []⟩ s (cenTier c s) b).1)
  let v := if q.trip = 2 ∧ c.b (Reg.CEN_SLOT_CTL s) 30 ∧ ok then q.valid + 1 else 0
  c.setCenSlot s { q with man := c.rd (Reg.CEN_SLOT_MAN s), sp := c.rd (Reg.CEN_SLOT_SP s), valid := v, reclose := q.reclose && decide (0 < v) }

/-- The engine's part of the Gather freeze (R36, R260 to R262, R282 to R284). -/
def cenFreeze (e : Env) (fn : Nat → Bool) (c : Chip) : Chip :=
  let c1 := eachBelow 4 ainFreeze c
  let c2 := eachBelow 4 (pinFreeze e.time.frameNo.toNat fn) c1
  let c3a := if e.part.hasAxes then eachBelow 8 (axFreeze e) c2 else c2
  let c3 := c3a.onImg (fun i => { i with axSt := (List.range 8).map (axState c3a) })
  eachOf ((List.range 1024).filter (cenUsed c3)) (slotFreeze e.part) c3

/-- The actual positions at the bundle cut-off, and the FAULT causes of that frame that they show (R283). -/
def axFeedback (a : Nat) (c : Chip) : Chip :=
  let cfg := c.rd (Reg.CEN_AX_CFG a)
  if fbit cfg 31 then
    let c1 := c.wr (Reg.CEN_AX_POS a) (wordI (c.axIn (fget cfg 25 5) (fget cfg 17 8)).pos)
    let x := c1.axis a
    if 1 ≤ axState c1 a ∧ axState c1 a ≤ 3 ∧ x.faultDue = 0 then c1.setAxis a { x with faultDue := axInputCause c1 a } else c1
  else c

/-! ### Commands of the axes and inputs -/

/-- An axis command acts once, if it is the one latched (R282): the axis's new state word and target, or a refusal. While the
engine's results of a Solve stand uncommitted, it waits. -/
def axCommand (a cmd : Nat) (f : Env → Chip → Option Chip) (s : State) : State :=
  onChip (fun e c =>
    if e.part.hasAxes && c.b (Reg.CEN_AX_CFG a) 31 && decide ((c.axis a).cmd = cmd) && c.cen.res.isNone then
      let c1 := c.setAxis a { c.axis a with cmd := 0 }
      match f e c1 with
      | some c2 => axLog e a (c.rd (Reg.CEN_AX_STAT a)) (c2.rd (Reg.CEN_AX_STAT a)) c2
      | none => c1.setB Reg.CEN_EVT 5 true
    else c) s

/-- The target lies within the soft limits. -/
def axInLimits (c : Chip) (a : Nat) (t : Int) : Bool :=
  decide (sgn (c.rd (Reg.CEN_AX_LIM_LO a)) ≤ t ∧ t ≤ sgn (c.rd (Reg.CEN_AX_LIM_HI a)))

/-- AXIS_ENABLE: OFF to HOLD at the actual position; refused while a Heath stop is present (R282). -/
def execAxisEnable (a : Fin 8) (s : State) : Host.Outcome State Fault Refusal :=
  .next (axCommand a.val 1 (fun _ c =>
    if axState c a.val = 0 ∧ !c.b (Reg.CEN_AX_STAT a.val) 22 then
      some (((c.setF (Reg.CEN_AX_STAT a.val) 28 4 1).wr (Reg.CEN_AX_PSP a.val) (fOfInt (sgn (c.rd (Reg.CEN_AX_POS a.val))))).setAxis a.val
        { c.axis a.val with vel := 0, fe := 0 })
    else none) s)

/-- AXIS_MOVE: HOLD to MOVE, or a new target in MOVE, within the soft limits (R282). -/
def execAxisMove (a : Fin 8) (s : State) : Host.Outcome State Fault Refusal :=
  .next (axCommand a.val 2 (fun _ c =>
    let x := c.axis a.val
    if (axState c a.val = 1 ∨ axState c a.val = 2) ∧ axInLimits c a.val x.tgt then
      some ((c.setF (Reg.CEN_AX_STAT a.val) 28 4 2).setAxis a.val { x with goal := x.tgt })
    else none) s)

/-- AXIS_STOP: MOVE to STOP (R282). -/
def execAxisStop (a : Fin 8) (s : State) : Host.Outcome State Fault Refusal :=
  .next (axCommand a.val 3 (fun _ c =>
    if axState c a.val = 2 then some (c.setF (Reg.CEN_AX_STAT a.val) 28 4 3) else none) s)

/-- AXIS_DISABLE: HOLD to OFF; MOVE to STOP with DIS_PEND; DIS_PEND set in STOP (R282). -/
def execAxisDisable (a : Fin 8) (s : State) : Host.Outcome State Fault Refusal :=
  .next (axCommand a.val 4 (fun _ c =>
    match axState c a.val with
    | 1 => some (c.setF (Reg.CEN_AX_STAT a.val) 28 4 0)
    | 2 => some ((c.setF (Reg.CEN_AX_STAT a.val) 28 4 3).setB (Reg.CEN_AX_STAT a.val) 21 true)
    | 3 => some (c.setB (Reg.CEN_AX_STAT a.val) 21 true)
    | _ => none) s)

/-- AXIS_RESET: FAULT to OFF (R282). -/
def execAxisReset (a : Fin 8) (s : State) : Host.Outcome State Fault Refusal :=
  .next (axCommand a.val 5 (fun _ c =>
    if axState c a.val = 4 then some (c.setF (Reg.CEN_AX_STAT a.val) 28 4 0) else none) s)

/-- AXIS_FAULT: an axis enters FAULT from HOLD, MOVE or STOP with its cause; its slot trips with cause AXIS,
whatever it has tripped with before (R283, R275). -/
def execAxisFault (a : Fin 8) (s : State) : Host.Outcome State Fault Refusal :=
  .next (onChip (fun e c =>
    let x := c.axis a.val
    let st := axState c a.val
    if e.part.hasAxes && c.b (Reg.CEN_AX_CFG a.val) 31 && decide (x.faultDue ≠ 0) && c.cen.res.isNone then
      let c0 := c.setAxis a.val { x with faultDue := 0, fe := 0, vel := 0 }
      if st = 0 ∨ st = 4 then c0
      else
        let old := c.rd (Reg.CEN_AX_STAT a.val)
        let new := fsetb (fset (fset old 28 4 4) 24 4 x.faultDue) 21 false
        let c1 := axLog e a.val old new ((c0.wr (Reg.CEN_AX_STAT a.val) new).setB Reg.CEN_EVT 6 true)
        let slot := c.f (Reg.CEN_AX_CFG a.val) 0 10
        if (c1.cenSlot slot).trip ≠ 4 then
          let c2 := (c1.setCenSlot slot (cenTripped c1 slot 4 (c1.cenSlot slot))).setB Reg.CEN_EVT 0 true
          cenShow slot (c2.log1 e 0x14 (slot / 64) 0x01 (4 * 2 ^ 28 + slot))
        else c1
    else c) s)

/-- SLOT_RECLOSE: a slot tripped with cause INPUT and RECLOSE closes again after 64 freezes with every input valid (R276): the
next Solve runs it, and a completed one takes away the trip, flags and logs it; an overrun discards that (R270). -/
def execSlotReclose (k : Fin 1024) (s : State) : Host.Outcome State Fault Refusal :=
  .next (onChip (fun _ c =>
    let q := c.cenSlot k.val
    if q.trip = 2 ∧ c.b (Reg.CEN_SLOT_CTL k.val) 30 ∧ 64 ≤ q.valid then c.setCenSlot k.val { q with reclose := true } else c) s)

/-- ANALOGUE_INPUT_CONVERSION: a conversion in µV or nA joins the frame's average (R260). -/
def execAnalogueInputConversion (n : Fin 4) (v : Int) (s : State) : Host.Outcome State Fault Refusal :=
  .next (onChip (fun _ c =>
    let x := c.ain n.val
    let cur := c.b (Reg.CEN_AIN_CFG n.val) 30
    let ok := if cur then decide (3600000 ≤ v ∧ v ≤ 21000000) else decide (0 ≤ v ∧ v ≤ 10500000)
    c.onCen (fun z => { z with ain := tset (fun _ => ({} : AinSt)) z.ain n.val ⟨x.sum + v, x.count + 1, x.ok && ok⟩ })) s)

/-- The quadrature step from one pair of levels to the next: A leading B counts up (log entry 9). -/
def quadStep (a b a' b' : Bool) : Int :=
  if a = a' ∧ b = b' then 0
  else if (a, b, a', b') ∈ [(false, false, true, false), (true, false, true, true), (true, true, false, true), (false, true, false, false)]
  then 1 else -1

/-- A pin's level as the filter passes it on: it counts once it has been stable for 2^FILT cycles (R261). -/
def pinLevel (cfg : Word) (was : Bool) (x : PinLevel) : Bool := if 2 ^ fget cfg 24 3 ≤ x.stood then x.high else was

/-- PULSE_INPUT_EDGE: the levels of a pulse input's two pins, each with the cycles for which it has been stable (R261, R262). -/
def execPulseInputEdge (n : Fin 4) (pa pb : PinLevel) (s : State) : Host.Outcome State Fault Refusal :=
  .next (onChip (fun e c =>
    let x := c.pin n.val
    let cfg := c.rd (Reg.CEN_PIN_CFG n.val)
    let on := c.b Reg.CEN_IN_STAT (8 + n.val)
    let a := pinLevel cfg x.a pa
    let b := pinLevel cfg x.b pb
    let y := { x with a := a, b := b }
    if !fbit cfg 31 then c.setPin n.val y
    else if fget cfg 29 2 = 2 then
      if a ≠ x.a ∧ b ≠ x.b then c.setPin n.val { y with ill := true }
      else c.setPin n.val { y with pos := if on then x.pos + BitVec.ofInt 32 (quadStep x.a x.b a b) else x.pos }
    else if a != x.a && (a || fbit cfg 28) then
      c.setPin n.val { y with edges := x.edges + 1, stamps := (e.time.site, e.time.frameNo.toNat) :: x.stamps }
    else c.setPin n.val y) s)

/-- PIN_FAULT: an illegal quadrature transition is counted and makes the input invalid for the frame (R261). -/
def execPinFault (n : Fin 4) (s : State) : Host.Outcome State Fault Refusal :=
  .next (onChip (fun _ c =>
    let x := c.pin n.val
    if x.ill then (c.setPin n.val { x with ill := false, bad := true, faults := x.faults + 1 }).setB Reg.CEN_EVT 7 true
    else c) s)

/-! ### Imposition (R272, R274, R277, R278) -/

/-- The values that a list of staged entries writes to a register, in order. -/
def entriesFor (l : List (Nat × Word)) (a : Nat) : List Word := (l.filter (fun x => x.1 == a)).map (·.2)

/-- A list holds an entry with CLOSE = 0 and a later one with CLOSE = 1. -/
def opensThenCloses : List Word → Bool → Bool
  | [], _ => false
  | w :: t, seen => if fbit w 31 then seen || opensThenCloses t seen else opensThenCloses t true

/-- What an Imposition does to a slot beside its words: an unused slot's output reads +0 (R252), a restart (R274), or the clearing of
a trip (R277). -/
def cenImposed (l : List (Nat × Word)) (s : Nat) (c : Chip) : Chip :=
  let es := entriesFor l (Reg.CEN_SLOT_CTL s)
  if es = [] then c
  else
    let q := c.cenSlot s
    let axFault := match cenAxis c s with | some a => axState c a == 4 | none => false
    let clear := q.trip ≠ 4 ∨ !axFault
    if cenNins c s = 0 then cenShow s (c.setCenSlot s { trip := if clear then 0 else q.trip })
    else if opensThenCloses es false then
      cenShow s (c.setCenSlot s { q with closed := false, trip := if clear then 0 else q.trip, valid := 0 })
    else if !c.b (Reg.CEN_SLOT_CTL s) 31 ∧ clear then
      cenShow s (c.setCenSlot s { q with trip := 0, closed := q.closed && cenAsked c (axState c) s, valid := 0 })
    else c

/-- A binding that an Imposition has changed has never been valid (R258). `i` is the first of the word's two bindings. -/
def bindImposed (s i : Nat) (old new : Word) (c : Chip) : Chip :=
  let q := c.cenSlot s
  let gone (k : Nat) : Bool := (k == i && fget old 16 16 != fget new 16 16) || (k == i + 1 && fget old 0 16 != fget new 0 16)
  c.setCenSlot s { q with lastIn := (List.range 4).map (fun k => if gone k then 0 else q.lastIn.getD k 0) }

/-- An unfenced slot (R278): state words +0, closed from its first run if CLOSE = 1, without the initialisation of R272. -/
def cenUnfence (s : Nat) (c : Chip) : Chip :=
  c.setCenSlot s { closed := c.b (Reg.CEN_SLOT_CTL s) 31 }

/-! ### Destinations (R264 to R266) -/

/-- The used slot that sends to a destination; the battery set-point takes no index. -/
def slotFor (c : Chip) (kind idx : Nat) : Option Nat :=
  (List.range 1024).find? (fun s => cenUsed c s && c.f (Reg.CEN_SLOT_DST s) 28 4 == kind && (kind == 4 || c.f (Reg.CEN_SLOT_DST s) 0 10 == idx))
/-- A committed output in a destination's unit: truncated and held in its range, with whether it was held (R264). -/
def toField (w : Word) (lo hi : Int) : Int × Bool :=
  let v := if fInf w then (if fSign w then lo - 1 else hi + 1) else fTrunc w
  if v < lo then (lo, true) else if hi < v then (hi, true) else (v, false)
/-- The value sent to a destination; 0 where no slot names it. -/
def destValue (c : Chip) (kind idx : Nat) (lo hi : Int) : Int × Bool :=
  match slotFor c kind idx with
  | some s => toField (c.cenSlot s).out lo hi
  | none => (0, false)

/-- A trim's share of each assigned stage: the magnitude divided as R194 divides a grant, with the trim's sign (R265). -/
def trimShare (p : Part) (c : Chip) (o s : Nat) (trim : Int) : Int :=
  let mine := ((List.range p.stages).filter (fun t => servedBy c t == some o)).map (fun t => (t, stageCap p c t (accV c o)))
  match (divide trim.natAbs mine).find? (fun x => x.1 == s) with
  | some x => if trim < 0 then -(x.2 : Int) else x.2
  | none => 0

/-- The trim field of a stage as sent (R265, R266). -/
def stageTrim (p : Part) (c : Chip) (s iref : Nat) : Int × Bool :=
  if iref = 0 ∨ (movBusy c s ∧ movStep c s ≤ 7) then (0, false)
  else
    let own := destValue c 1 s (-32768) 32767
    let sh := match servedBy c s with
      | some o => if zeroForced c o then (0, false) else
          let t := destValue c 2 o (-32768) 32767
          (trimShare p c o s t.1, t.2)
      | none => (0, false)
    let sum := (match servedBy c s with | some o => if zeroForced c o then 0 else own.1 | none => own.1) + sh.1
    let v := max (-32768) (min 32767 sum)
    (v, own.2 || sh.2 || decide (v ≠ sum))

/-- ENGINE_DUTY_LOAD (R663): at the boundary a channel with SRC = 1 takes its duty from its slot's emitted output. -/
def cenDuty (e : Env) (j : Nat) (c : Chip) : Chip :=
  if c.b (Reg.PWM_CH_CFG j) 29 then
    match slotFor c 6 j with
    | some s =>
      let x := fMin (fMax (c.cenSlot s).out 0) (fOfInt 1)
      pwmDutyLoad e j (fTrunc (fMul x (fOfInt (c.f (Reg.PWM_SH_PERIOD j) 0 16 + 1 : Nat)))).toNat c
    | none => c
  else c

end Sys2Proof.Machine
end

