-- ==== Sys2Proof/Machine/Crc.lean ====
section
/-! DEFINITION. The cyclic checks of the spec, bit by bit: CRC-8 of a Hedgerow header (R637) and the reflected 32-bit checks
of records and images. -/
namespace Sys2Proof.Machine

/-- One byte through the CRC-8 of polynomial 0x07, most significant bit first. -/
def crc8Byte (crc : BitVec 8) (b : BitVec 8) : BitVec 8 :=
  (List.range 8).foldl (fun c _ => if c.getLsbD 7 then (c <<< 1) ^^^ 0x07 else c <<< 1) (crc ^^^ b)
/-- CRC-8, polynomial 0x07, over bytes in order, from zero. -/
def crc8 (l : List (BitVec 8)) : BitVec 8 := l.foldl crc8Byte 0

/-- One byte through a reflected 32-bit check with the given reflected polynomial. -/
def crcRByte (poly crc : BitVec 32) (b : BitVec 8) : BitVec 32 :=
  (List.range 8).foldl (fun c _ => if c.getLsbD 0 then (c >>> 1) ^^^ poly else c >>> 1) (crc ^^^ b.setWidth 32)
/-- A reflected 32-bit check over bytes, from all ones, complemented at its close. -/
def crcR (poly : BitVec 32) (l : List (BitVec 8)) : BitVec 32 := ~~~ (l.foldl (crcRByte poly) 0xFFFFFFFF)
/-- The CRC-32 of IEEE 802.3. -/
def crc32 (l : List (BitVec 8)) : BitVec 32 := crcR 0xEDB88320 l
/-- The CRC-32C (Castagnoli). -/
def crc32c (l : List (BitVec 8)) : BitVec 32 := crcR 0x82F63B78 l

end Sys2Proof.Machine
end

