-- ==== Sys2Proof/Machine/LineCode.lean ====
section
/-! DEFINITION. The line code of a HaralLink port (ch. 10): scrambler, sync headers, block types, slots and the framing of a bundle. -/
namespace Sys2Proof.Machine

/-- A field of a 64-bit word. -/
def dget (v : BitVec 64) (lo w : Nat) : Nat := (v.toNat >>> lo) % 2 ^ w

/-! ### Slots in time -/

/-- The least number of FCLK cycles in which `n` slots of 26.4 ns have passed (R326). -/
def slotTime (n : Nat) : Nat := (n * 132 + 24) / 25

/-! ### The scrambler (R324) -/

/-- The line's bits as one number: 58 bits before a payload, then its 64. -/
def lineBits (prior : BitVec 58) (line : BitVec 64) : BitVec 122 := prior.setWidth 122 ||| (line.setWidth 122 <<< 58)

/-- A payload from its scrambled bits: x^58 + x^39 + 1, least significant bit first. -/
def descramble (prior : BitVec 58) (line : BitVec 64) : BitVec 64 :=
  let x := lineBits prior line
  ((x >>> 58) ^^^ (x >>> 19) ^^^ x).setWidth 64

/-- The scrambled bits of a payload: the first 39 follow from the bits before it, the others from those too. -/
def scramble (prior : BitVec 58) (d : BitVec 64) : BitVec 64 :=
  let mix (line : BitVec 64) : BitVec 64 := let x := lineBits prior line; d ^^^ ((x >>> 19) ^^^ x).setWidth 64
  mix (mix 0 &&& 0x7FFFFFFFFF)

/-- The 58 bits that stand before the block after this one. -/
def nextPrior (line : BitVec 64) : BitVec 58 := (line >>> 6).setWidth 58

/-! ### Blocks (R324, R325) -/

/-- What a block is: data, a control block of a defined type, or none that a receiver takes. -/
inductive BlockKind where
  | data | idle | align | train | status | start | term | bad
  deriving DecidableEq, Repr

/-- A descrambled block. -/
abbrev Block := BlockKind × BitVec 64

/-- A block's kind from its sync header and its type byte (Table: Control block types). -/
def blockKind (hdr : BitVec 2) (p : BitVec 64) : BlockKind :=
  if hdr = 1 then .data
  else if hdr = 2 then
    match p.toNat % 256 with
    | 0x1E => .idle
    | 0x4B => .align
    | 0x55 => .train
    | 0x66 => .status
    | 0x78 => .start
    | 0x87 => .term
    | _ => .bad
  else .bad

end Sys2Proof.Machine
namespace Sys2Proof
open Machine

/-- A block's payload. -/
def LineBlock.payload (b : LineBlock) : BitVec 64 := descramble b.prior b.line
/-- A block's kind. -/
def LineBlock.kind (b : LineBlock) : BlockKind := blockKind b.hdr b.payload

end Sys2Proof
namespace Sys2Proof.Machine

/-- The blocks that a lane carried. -/
def laneBlocks : BitVec 58 → List (BitVec 2 × BitVec 64) → List Block
  | _, [] => []
  | p, x :: t => (blockKind x.1 (descramble p x.2), descramble p x.2) :: laneBlocks (nextPrior x.2) t

end Sys2Proof.Machine
namespace Sys2Proof
open Machine

/-- The blocks of a stream. -/
def LaneStream.read (l : LaneStream) : List Block := laneBlocks l.prior l.blocks

end Sys2Proof
namespace Sys2Proof.Machine

/-- Headers and payloads sent on a lane, scrambled from the bits before them. -/
def laneSend : BitVec 58 → List (BitVec 2 × BitVec 64) → List (BitVec 2 × BitVec 64)
  | _, [] => []
  | p, x :: t => (x.1, scramble p x.2) :: laneSend (nextPrior (scramble p x.2)) t

/-! ### Slots and the assembly of a bundle (R326, R350) -/

/-- A block that fills its slot on every lane and is stripped from the stream. -/
def isFiller (k : BlockKind) : Bool := k == .idle || k == .align || k == .status

/-- A slot's part of the stream: nothing of a filler slot, D0 before D1 otherwise; a filler block beside another kind breaks the stream. -/
def slotStream (s : List Block) : List Block :=
  match s with
  | [] => []
  | x :: t =>
    if isFiller x.1 then (if t.all (fun y => y.1 == x.1) then [] else [(.bad, 0)])
    else if t.any (fun y => isFiller y.1) then [(.bad, 0)] else s

end Sys2Proof.Machine
namespace Sys2Proof
open Machine

/-- The slots of a bundle. -/
def UpBundle.slots (b : UpBundle) : List (List Block) :=
  match b.lane with
  | some k => (if k = 0 then b.d0 else b.d1).read.map (fun x => [x])
  | none => (b.d0.read.zip b.d1.read).map (fun x => [x.1, x.2])
/-- The lanes that it came on. -/
def UpBundle.lanes (b : UpBundle) : List Nat := match b.lane with | some k => [k.val] | none => [0, 1]
/-- Its stream of blocks. -/
def UpBundle.stream (b : UpBundle) : List Block := b.slots.flatMap slotStream
/-- The payload of its START block. -/
def UpBundle.start (b : UpBundle) : BitVec 64 := match b.stream with | x :: _ => x.2 | [] => 0
/-- The payloads of its data blocks. -/
def UpBundle.blocks (b : UpBundle) : List (BitVec 64) := ((b.stream.drop 1).takeWhile (fun x => x.1 == BlockKind.data)).map (·.2)
/-- What follows them. -/
def UpBundle.tail (b : UpBundle) : List Block := (b.stream.drop 1).dropWhile (fun x => x.1 == BlockKind.data)
/-- The payload of its TERM block. -/
def UpBundle.term (b : UpBundle) : BitVec 64 := match b.tail with | x :: _ => x.2 | [] => 0

/-- The slots are a bundle (R350): an ALIGN slot, START, data blocks and TERM, and after a TERM on D0 a data block of zeros on D1. -/
def UpBundle.whole (b : UpBundle) : Bool :=
  (match b.slots with | s :: _ => s.all (fun x => x.1 == BlockKind.align) | [] => false)
    && (b.lane.isSome || b.d0.blocks.length == b.d1.blocks.length)
    && (match b.stream with | x :: _ => x.1 == .start | [] => false)
    && (match b.tail with
        | x :: [] => x.1 == .term
        | [x, y] => x.1 == .term && b.lane.isNone && y == (.data, 0)
        | _ => false)

end Sys2Proof
namespace Sys2Proof.Machine

/-- A stream in slots: one block a slot, or D0 before D1 with a data block of zeros after a last block on D0. -/
def laySlots (dual : Bool) : List (BitVec 2 × BitVec 64) → List (List (BitVec 2 × BitVec 64))
  | [] => []
  | [x] => [if dual then [x, (1, 0)] else [x]]
  | x :: y :: t => if dual then [x, y] :: laySlots dual t else [x] :: [y] :: laySlots dual t

/-- The slots of a bundle: ALIGN on every lane in use, then its stream (R326, R350). -/
def bundleSlots (dual : Bool) (start term : BitVec 64) (w : List (BitVec 64)) : List (List (BitVec 2 × BitVec 64)) :=
  List.replicate (if dual then 2 else 1) (2, 0x4B) :: laySlots dual ((2, start ||| 0x78) :: w.map (fun v => ((1 : BitVec 2), v)) ++ [(2, term ||| 0x87)])

/-! ### TRAIN and STATUS blocks (R331, R339) -/

/-- A TRAIN block's fields. -/
structure TrainWord where
  eyeW : Nat
  eyeH : Nat
  response : BitVec 16
  request : BitVec 16
  echo : Bool
  mark : Bool
  ready : Bool
  step : Nat
  deriving DecidableEq, Repr

/-- A TRAIN block's payload (Table: TRAIN block). -/
def TrainWord.payload (x : TrainWord) : BitVec 64 :=
  BitVec.ofNat 64 (x.eyeW % 256 * 2 ^ 56 + x.eyeH % 256 * 2 ^ 48 + x.response.toNat * 2 ^ 32 + x.request.toNat * 2 ^ 16
    + (if x.echo then 2 ^ 14 else 0) + (if x.mark then 2 ^ 13 else 0) + (if x.ready then 2 ^ 12 else 0) + x.step % 16 * 256 + 0x55)

/-- A received TRAIN block's fields. -/
def trainRead (p : BitVec 64) : TrainWord :=
  { eyeW := (p >>> 56).toNat, eyeH := (p >>> 48).toNat % 256, response := (p >>> 32).setWidth 16, request := (p >>> 16).setWidth 16,
    echo := p.getLsbD 14, mark := p.getLsbD 13, ready := p.getLsbD 12, step := (p >>> 8).toNat % 16 }

/-- A STATUS block's payload (Table: STATUS block). -/
def statusPayload (d0Out d1Out retrain : Bool) : BitVec 64 :=
  (0x66 : BitVec 64) ||| (if d0Out then 0x100 else 0) ||| (if d1Out then 0x200 else 0) ||| (if retrain then 0x400 else 0)

end Sys2Proof.Machine
end

