-- ==== Sys2Proof/Machine/PortPhy.lean ====
section
/-! DEFINITION. HaralLink ports: training, transmit taps, lane monitors, exclusion and rejoining (ch. 10). Events of the wire
arrive as commands with what the receiver measured (log entry 8). Times are counted in FCLK cycles since power-on. -/
namespace Sys2Proof.Machine

/-- A port's physical state. -/
def Chip.phyOf (c : Chip) (n : Nat) : PhySt := tget (fun _ => {}) c.phy n
/-- The same written. -/
def Chip.setPhy (c : Chip) (n : Nat) (x : PhySt) : Chip := { c with phy := tset (fun _ => ({} : PhySt)) c.phy n x }
/-- A data lane: 0 D0, 1 D1. -/
def PhySt.lane (x : PhySt) (k : Nat) : PhyLane := if k = 0 then x.d0 else x.d1
/-- The same written. -/
def PhySt.setLane (x : PhySt) (k : Nat) (l : PhyLane) : PhySt := if k = 0 then { x with d0 := l } else { x with d1 := l }

/-- PSTATE: 0 DISABLED, 1 DOWN, 2 TRAINING, 3 UP_DUAL, 4 UP_SINGLE. -/
def prtState (c : Chip) (n : Nat) : Nat := c.f (Reg.PRT_PHY_STAT n) 29 3
/-- The port is up. -/
def prtUp (c : Chip) (n : Nat) : Bool := prtState c n == 3 || prtState c n == 4
/-- The port is present, enabled and not fenced, and its region runs (R330, R345). -/
def prtLive (e : Env) (c : Chip) (n : Nat) : Bool :=
  c.ctl && decide (n < e.part.ports) && c.b (Reg.PRT_PHY_CFG n) 31 && !c.portFenced n
/-- SINGLE and LANE_SEL (R336): the one lane that the port may use. -/
def prtForced (c : Chip) (n : Nat) : Option Nat :=
  if c.b (Reg.PRT_PHY_CFG n) 28 then some (c.f (Reg.PRT_PHY_CFG n) 27 1) else none
/-- The lanes that a training trains. -/
def prtLanes (c : Chip) (n : Nat) : List Nat := match prtForced c n with | some k => [k] | none => [0, 1]
/-- A lane is excluded by this receiver. -/
def prtOut (c : Chip) (n k : Nat) : Bool := c.b (Reg.PRT_PHY_STAT n) (8 + k)

/-- PRT.UP and PRT.DEGR formed from a port's state and its latched downward mode. -/
def prtShow (n : Nat) (c : Chip) : Chip :=
  (c.setB Reg.PRT_UP n (prtUp c n)).setB Reg.PRT_DEGR n (prtState c n == 4 || (prtUp c n && c.b (Reg.PRT_PHY_STAT n) 27))
/-- PSTATE set. -/
def prtSet (n st : Nat) (c : Chip) : Chip := prtShow n (c.setF (Reg.PRT_PHY_STAT n) 29 3 st)

/-- A log entry of a port (R349). -/
def prtLog (e : Env) (n cls detail : Nat) (c : Chip) : Chip := c.log1 e 0x16 0 cls (detail + n)

/-- ADMIT of a port: 0 none, 1 admitted, 2 refused, 3 unsynced (R359). -/
def prtAdmit (c : Chip) (n : Nat) : Nat := c.f (Reg.PRT_TP_STAT n) 30 2
/-- The admission state set; a change is logged (R359, R387). -/
def prtSetAdmit (e : Env) (n a : Nat) (c : Chip) : Chip :=
  if prtAdmit c n = a then c
  else
    let c1 := c.setF (Reg.PRT_TP_STAT n) 30 2 a
    prtLog e n 0x23 (a * 2 ^ 30 + c1.f (Reg.PRT_TP_STAT n) 27 3 * 2 ^ 27) c1

/-- The transmit taps' preset (R332). -/
def tapsPreset : Nat := 2 * 2 ^ 12 + 54 * 2 ^ 5 + 8

/-- A lane at the start of a training: its receiver's history stays. -/
def PhyLane.fresh (l : PhyLane) : PhyLane := { outs := l.outs, badAt := l.badAt, errAt := l.errAt }

/-- A training attempt from step 1 (R330 to R334): preset taps, no lane excluded, nothing measured. A training in progress
starts again without counting another attempt. -/
def phyTrain (e : Env) (n : Nat) (c : Chip) : Chip :=
  let c1 := if prtState c n = 2 then c else c.sat (Reg.PRT_PHY_STAT n) 0 8 1
  let x := c.phyOf n
  let c2 := c1.setPhy n { d0 := x.d0.fresh, d1 := x.d1.fresh, startAt := e.time.up, upAt := x.upAt, fell := x.fell, monAt := x.monAt, latched := x.latched }
  let c3 := (c2.setF (Reg.PRT_PHY_STAT n) 8 2 0).setF (Reg.PRT_PHY_STAT n) 28 1 0
  let c4 := ((c3.setF (Reg.PRT_PHY_TRAIN n) 28 4 1).setF (Reg.PRT_PHY_TRAIN n) 16 7 0).setF (Reg.PRT_PHY_TRAIN n) 0 16 0xFFFF
  prtSet n 2 (c4.wr (Reg.PRT_PHY_TAPS n) (word (tapsPreset * 65537)))

/-- A port that is up goes down with a cause (R349). -/
def phyFall (e : Env) (n cause : Nat) (c : Chip) : Chip :=
  if prtUp c n then
    let c1 := c.setPhy n { c.phyOf n with fell := some (e.time.up, cause), farOut := 0 }
    prtLog e n 0x11 (cause * 2 ^ 28) (prtSet n 1 (c1.setB (Reg.PRT_PERR n) 4 true))
  else c

/-- PORT_DOWN (R337): the port goes down and trains again at once. -/
def phyDown (e : Env) (n cause : Nat) (c : Chip) : Chip :=
  let c1 := phyFall e n cause c
  if prtLive e c1 n then phyTrain e n c1 else c1

/-- A port is disabled or fenced (R345): electrical idle, training stopped; its admission ends (R359). -/
def phyIdle (e : Env) (n : Nat) (fenced : Bool) (c : Chip) : Chip :=
  let c1 := prtSetAdmit e n 0 (phyFall e n 5 c)
  let x := c1.phyOf n
  let c2 := (c1.setPhy n { fell := x.fell, upAt := x.upAt, latched := x.latched }).setF (Reg.PRT_PHY_TRAIN n) 28 4 0
  prtSet n (if fenced then 1 else 0) ((c2.setF (Reg.PRT_PHY_STAT n) 8 2 0).setF (Reg.PRT_PHY_STAT n) 26 3 0)

/-- An imposed PHY_CFG word (R330, R346): EN, RETRAIN, SINGLE and LANE_SEL act; RETRAIN reads 0. -/
def phyImposed (e : Env) (n : Nat) (old : Word) (c : Chip) : Chip :=
  let v := c.rd (Reg.PRT_PHY_CFG n)
  let c1 := c.setB (Reg.PRT_PHY_CFG n) 29 false
  if !fbit v 31 then (if fbit old 31 then phyIdle e n false c1 else c1)
  else if !fbit old 31 || fbit v 29 || fget v 27 2 != fget old 27 2 then c1.setPhy n { c1.phyOf n with due := true }
  else c1

/-- PORT_TRAINING_START (R330): a port trains after the Control region's start, and where an Imposition asks for it. -/
def execPortTrainingStart (n : Fin 32) (s : State) : Host.Outcome State Fault Refusal :=
  .next (onChip (fun e c =>
    if prtLive e c n && ((c.phyOf n).due || prtState c n == 0 || (prtState c n == 1 && !(c.phyOf n).retry)) then
      phyTrain e n (phyFall e n 4 c)
    else c) s)

/-- RETRY milliseconds have passed since a failed attempt (R335): 200,000 cycles each. -/
def retryDue (e : Env) (c : Chip) (n : Nat) : Bool :=
  decide ((c.phyOf n).failAt + c.f (Reg.PRT_PHY_CFG n) 0 8 * 200000 ≤ e.time.up)

/-- TRAINING_RETRY (R335): RETRY milliseconds after a failed attempt. -/
def execTrainingRetry (n : Fin 32) (s : State) : Host.Outcome State Fault Refusal :=
  .next (onChip (fun e c =>
    if prtLive e c n && prtState c n == 1 && (c.phyOf n).retry && retryDue e c n then phyTrain e n c else c) s)

/-- One tap's step (R332): the tap, and its result 0 held, 1 updated, 2 at minimum, 3 at maximum. -/
def tapStep (act v lo hi sum : Nat) : Nat × Nat :=
  if act = 1 then (if hi ≤ v ∨ 64 ≤ sum then (v, 3) else (v + 1, 1))
  else if act = 2 then (if v ≤ lo then (v, 2) else (v - 1, 1))
  else (v, 0)

/-- A request applied to the taps of a lane: the packed taps and the RESPONSE (R332). -/
def tapRequest (taps req : Nat) : Nat × Nat :=
  let seq := req / 2 ^ 12 % 16
  if req / 32 % 2 = 1 then (tapsPreset, seq * 2 ^ 12 + 32)
  else
    let pre := taps / 2 ^ 12 % 16
    let main := taps / 32 % 128
    let post := taps % 32
    let a := tapStep (req / 2 ^ 10 % 4) pre 0 12 (pre + main + post)
    let b := tapStep (req / 2 ^ 8 % 4) main 32 64 (a.1 + main + post)
    let d := tapStep (req / 2 ^ 6 % 4) post 0 24 (a.1 + b.1 + post)
    (a.1 * 2 ^ 12 + b.1 * 32 + d.1, seq * 2 ^ 12 + a.2 * 2 ^ 10 + b.2 * 2 ^ 8 + d.2 * 2 ^ 6)

/-- Code errors of a port counted (R338). -/
def phyCodeErr (n k : Nat) (c : Chip) : Chip :=
  if k = 0 then c else (c.sat (Reg.PRT_PHY_CNT n) 16 16 k).setB (Reg.PRT_PERR n) 0 true

/-- The requests of the lane with the most (PHY_TRAIN.REQS). -/
def phyReqs (n : Nat) (c : Chip) : Chip :=
  let x := c.phyOf n
  c.setF (Reg.PRT_PHY_TRAIN n) 16 7 (min 127 (max x.d0.reqs x.d1.reqs))

/-! ### Training frames and the port's own TRAIN blocks (R329, R331, R333) -/

/-- The number of the attempt's training frame of 32 slots that a cycle falls into. -/
def frameOf (start now : Nat) : Nat := (now - start) * 25 / (32 * 132)
/-- The cycle in which the first training frame at or after a cycle begins. -/
def frameFrom (start now : Nat) : Nat := start + slotTime (32 * (((now - start) * 25 + (32 * 132 - 1)) / (32 * 132)))

/-- A request's actions without the code that no request carries; the low bits are zero (Table: Request and response words). -/
def requestBits (v : Nat) : Nat :=
  let act (i : Nat) : Nat := if v / 2 ^ i % 4 = 3 then 0 else v / 2 ^ i % 4 * 2 ^ i
  act 10 + act 8 + act 6 + v / 32 % 2 * 32

/-- The receiver of a lane makes its next request (R333): SEQ moves on, and one with an action or PRESET counts. -/
def phyAsk (e : Env) (n k : Nat) (c : Chip) : Chip :=
  let x := c.phyOf n
  let l := x.lane k
  let v := requestBits (Config.eyeRequest n k e.time.up)
  let req : BitVec 16 := BitVec.ofNat 16 ((l.request.toNat / 2 ^ 12 + 1) % 16 * 2 ^ 12 + v)
  phyReqs n (c.setPhy n (x.setLane k { l with request := req, waiting := true, answAt := none, reqs := if v = 0 then l.reqs else l.reqs + 1 }))

/-- The TRAIN block that a lane sends in the present training frame (R331). READY goes out once the lanes are aligned (log entry 54). -/
def ownTrain (e : Env) (c : Chip) (n k : Nat) : TrainWord :=
  let x := c.phyOf n
  let l := x.lane k
  let now (t : Nat) : Bool := frameOf x.startAt t == frameOf x.startAt e.time.up
  let at1 := c.f (Reg.PRT_PHY_TRAIN n) 28 4
  { eyeW := c.f (Reg.PRT_PHY_EYE n) (16 * k) 8, eyeH := c.f (Reg.PRT_PHY_EYE n) (16 * k + 8) 8, response := l.response, request := l.request,
    echo := (match l.echoAt with | some t => now t | none => false),
    mark := (match x.markAt with | some (j, t) => j == k && now t | none => false),
    ready := at1 == 5 && l.step == 4, step := if l.step = 2 ∨ l.step = 3 then l.step else at1 }

/-- The port's STATUS block (R339): it never asks for retraining (log entry 54). -/
def ownStatus (c : Chip) (n : Nat) : BitVec 64 := statusPayload (prtOut c n 0) (prtOut c n 1) false

/-- A STATUS slot leaves in this cycle: a new one, or one of every 256 slots after it (R339). -/
def statusDue (e : Env) (c : Chip) (n : Nat) : Bool :=
  let t := (c.phyOf n).statusAt
  prtUp c n && decide (t ≤ e.time.up) && slotTime ((e.time.up - t) * 25 / 132 / 256 * 256) == e.time.up - t

/-- A new STATUS leaves within four slots (R339). -/
def phyTell (e : Env) (n : Nat) (c : Chip) : Chip :=
  c.setPhy n { c.phyOf n with statusAt := e.time.up + slotTime (Config.statusWait n e.time.up).val }

/-- What a transmit lane carries: electrical idle, training frames, the stream of blocks, or, on a lane that the far end excludes, TRAIN
blocks with the requests held (R331, R336, R340, R345). -/
inductive LaneTx where
  | idle
  | train (blk : TrainWord)
  | stream
  | held (blk : TrainWord)
  deriving DecidableEq, Repr

/-- What a transmit lane of a port carries now. A failed port that waits for its retry sends nothing (log entry 54). -/
def laneTx (e : Env) (c : Chip) (n k : Nat) : LaneTx :=
  if !prtLive e c n || !(prtLanes c n).contains k then .idle
  else if prtState c n = 2 then .train (ownTrain e c n k)
  else if !prtUp c n then .idle
  else if (c.phyOf n).farOut / 2 ^ k % 2 = 1 then .held { ownTrain e c n k with echo := false, mark := false, ready := false }
  else .stream

/-- What a TRAIN block does on a lane in training (R329, R332, R333): a new request is applied and answered, the answer to the own
request is taken, READY is seen, a MARK is to be echoed, and an ECHO of the own MARK closes the measurement. The own MARK goes out once
the far receiver shows that it has block lock (log entry 54). -/
def phyTrainBlock (e : Env) (n k : Nat) (p : BitVec 64) (c : Chip) : Chip :=
  let b := trainRead p
  let req := b.request.toNat
  let now := e.time.up
  let x := c.phyOf n
  let l := x.lane k
  let bad := ([6, 8, 10] : List Nat).filter (fun i => req / 2 ^ i % 4 == 3 && req / 32 % 2 == 0)
  let isNew : Bool := l.seq != some (req / 2 ^ 12)
  let t := tapRequest (c.f (Reg.PRT_PHY_TAPS n) (16 * k) 16) req
  let c1 := if isNew then phyCodeErr n bad.length (c.setF (Reg.PRT_PHY_TAPS n) (16 * k) 16 t.1) else c
  let l1 := if isNew then { l with seq := some (req / 2 ^ 12), response := BitVec.ofNat 16 t.2 } else l
  let l2 := if l1.waiting && b.response.toNat / 2 ^ 12 == l1.request.toNat / 2 ^ 12 then { l1 with waiting := false, answAt := some now } else l1
  let l3 := { l2 with ready := l2.ready || b.ready, echoAt := if b.mark then some (frameFrom x.startAt (now + slotTime 32)) else l2.echoAt }
  let mark := if x.markAt.isNone && decide (3 ≤ b.step) then some (k, frameFrom x.startAt now) else x.markAt
  let c2 := c1.setPhy n { x.setLane k l3 with markAt := mark }
  match x.markAt with
  | some (j, m) =>
    if b.echo && j == k && decide (m ≤ now) && c2.f (Reg.PRT_PHY_TRAIN n) 0 16 == 0xFFFF then
      c2.setF (Reg.PRT_PHY_TRAIN n) 0 16 (min 0xFFFE (((now - m) * 25 - 32 * 132) / 25))
    else c2
  | none => c2

/-- A block that a lane received is judged (R325, R338): what no receiver takes is counted, breaks a bundle, and, with an invalid header,
counts against block lock. -/
def laneBad (e : Env) (n k : Nat) (b : LineBlock) (c : Chip) : Chip :=
  let x := c.phyOf n
  let l := x.lane k
  let bad := if b.hdr = 1 ∨ b.hdr = 2 then l.badAt else e.time.up :: l.badAt.filter (fun t => decide ((e.time.up - t) * 25 < 64 * 132))
  c.setPhy n (x.setLane k { l with badAt := bad, errAt := some e.time.up })
/-- The same on a port, counted. -/
def phyBadBlock (e : Env) (n k : Nat) (b : LineBlock) (c : Chip) : Chip := laneBad e n k b (phyCodeErr n 1 c)

/-- PHY_ABORT (R341): an upward bundle in progress is discarded. -/
def phyAbort (n : Nat) (rx : Bool) (c : Chip) : Chip := if rx then c.setB (Reg.PRT_PERR n) 7 true else c

/-- TRAIN_BLOCK_RECEIVED (R330, R332): on a port that does not train, a TRAIN block on a lane in use starts a training; `rx` says that an
upward bundle is in progress. -/
def execTrainBlockReceived (n : Fin 32) (lane : Fin 2) (blk : LineBlock) (rx : Bool) (s : State) : Host.Outcome State Fault Refusal :=
  .next (onChip (fun e c =>
    if !prtLive e c n then c
    else if blk.kind = .bad then phyBadBlock e n lane blk c
    else if blk.kind ≠ .train then c
    else if prtState c n = 2 then (if (prtLanes c n).contains lane.val then phyTrainBlock e n lane blk.payload c else c)
    else if prtUp c n && (prtOut c n lane || !(prtLanes c n).contains lane.val) then c
    else phyTrainBlock e n lane blk.payload (phyTrain e n (phyFall e n 4 (phyAbort n (rx && prtUp c n) c)))) s)

/-- TRAIN_FAIL (R335): the attempt fails with a code and, for a lane's code, the lane. -/
def phyFail (e : Env) (n code lane : Nat) (c : Chip) : Chip :=
  let c1 := ((c.setF (Reg.PRT_PHY_TRAIN n) 28 4 0).setF (Reg.PRT_PHY_TRAIN n) 24 4 code).setF (Reg.PRT_PHY_TRAIN n) 23 1 lane
  let c2 := prtSet n 1 ((c1.setB (Reg.PRT_PERR n) 3 true).setPhy n { c1.phyOf n with retry := true, failAt := e.time.up })
  prtLog e n 0x12 (code * 2 ^ 28 + lane * 2 ^ 27) c2

/-- The lanes that have passed equalisation, and whether any is still training. -/
def phyPassed (c : Chip) (n : Nat) : List Nat := (prtLanes c n).filter (fun k => ((c.phyOf n).lane k).step == 4)
/-- A lane is still in steps 2 or 3. -/
def phyBusy (c : Chip) (n : Nat) : Bool :=
  (prtLanes c n).any (fun k => ((c.phyOf n).lane k).step == 2 || ((c.phyOf n).lane k).step == 3)

/-- PHY_TRAIN.STEP while lanes train on their own: that of the lane furthest behind; ALIGN once every lane has ended, which starts its
limit. -/
def phyStepShow (e : Env) (n : Nat) (c : Chip) : Chip :=
  let st := ((prtLanes c n).map (fun k => ((c.phyOf n).lane k).step)).filter (fun x => x == 2 || x == 3)
  match st with
  | [] => (c.setPhy n { c.phyOf n with eqAt := e.time.up }).setF (Reg.PRT_PHY_TRAIN n) 28 4 4
  | x :: t => c.setF (Reg.PRT_PHY_TRAIN n) 28 4 (t.foldl min x)

/-- A lane fails in an attempt (R335, R336): the attempt fails once no lane can pass. -/
def phyLaneFail (e : Env) (n k code : Nat) (c : Chip) : Chip :=
  let x := c.phyOf n
  let c1 := c.setPhy n (x.setLane k { x.lane k with step := 0, fail := code })
  if (prtForced c n).isSome then phyFail e n 7 k c1
  else if (phyPassed c1 n).isEmpty && !phyBusy c1 n then phyFail e n code k c1
  else phyStepShow e n c1

/-- The port comes up on the lanes that passed (R335, R336); no header has been received since (R359). -/
def phyUp (e : Env) (n : Nat) (c0 : Chip) : Chip :=
  let c := prtSetAdmit e n 0 c0
  let p := phyPassed c n
  let x := { c.phyOf n with upAt := e.time.up }
  let c1 := c.setF (Reg.PRT_PHY_TRAIN n) 28 4 0
  match p with
  | [k] =>
    let o := 1 - k
    let c2 := (c1.setB (Reg.PRT_PHY_STAT n) (8 + o) ((prtForced c n).isNone)).setF (Reg.PRT_PHY_STAT n) 28 1 k
    let c3 := if (prtForced c n).isNone then
        (c2.setF (Reg.PRT_PHY_TRAIN n) 24 4 (x.lane o).fail).setF (Reg.PRT_PHY_TRAIN n) 23 1 o else c2
    let y := { x with farOut := 2 ^ o }
    let c4 := (c3.setB (Reg.PRT_PERR n) 5 true).setPhy n (y.setLane o { y.lane o with goodAt := e.time.up, exAt := some e.time.up, toldAt := e.time.up })
    prtLog e n 0x10 (2 ^ 31) (phyTell e n (prtSet n 4 c4))
  | _ => prtLog e n 0x10 0 (phyTell e n (prtSet n 3 (c1.setPhy n { x with farOut := 0 })))

/-- No header of a lane has been invalid over the last 64 slots, all of them received (R338). -/
def lockHeld (e : Env) (l : PhyLane) : Bool :=
  decide (l.seekAt + slotTime 64 ≤ e.time.up) && l.badAt.all (fun t => decide (64 * 132 ≤ (e.time.up - t) * 25))
/-- Sixteen or more of the last 64 headers of a lane have been invalid (R338). -/
def lockGone (e : Env) (l : PhyLane) : Bool :=
  decide (16 ≤ (l.badAt.filter (fun t => decide ((e.time.up - t) * 25 < 64 * 132))).length)
/-- Four training frames have passed since the answer to the last request (R333). -/
def eyeSeen (e : Env) (l : PhyLane) : Bool :=
  match l.answAt with | some t => decide (t + slotTime 128 ≤ e.time.up) | none => false

/-- The cycle at which a step of the attempt reaches its limit (Table: Training steps). -/
def stepLimit (x : PhySt) (step : Nat) : Nat :=
  if step = 1 then x.startAt + 40000
  else if step = 2 then x.lockAt + 40000
  else if step = 4 then x.eqAt + 10000
  else x.startAt + 400000

/-- Step 1 is met: the lanes that train look for block lock. -/
def phyLocked (e : Env) (n : Nat) (c : Chip) : Chip :=
  let x := { c.phyOf n with lockAt := e.time.up }
  let go (k : Nat) (x : PhySt) : PhySt := if (prtLanes c n).contains k then x.setLane k { x.lane k with step := 2, seekAt := e.time.up } else x
  phyStepShow e n (c.setPhy n (go 1 (go 0 x)))

/-- TRAINING_STEP_DONE (R334, R335): the condition of the port's step, or of a lane's, is met within its limit. At step 3 `h` and `w` are the
lane's eye over the four frames after an answer, and an eye that is too small leads to the next request; at step 4 `w` is the skew of the
lanes in slots. -/
def execTrainingStepDone (n : Fin 32) (step : Nat) (lane : Fin 2) (h w : BitVec 8) (s : State) : Host.Outcome State Fault Refusal :=
  .next (onChip (fun e c =>
    let x := c.phyOf n
    let at1 := c.f (Reg.PRT_PHY_TRAIN n) 28 4
    let l := x.lane lane
    if !(prtLive e c n && prtState c n == 2 && (step == 3 || decide (e.time.up < stepLimit x step)) && decide (e.time.up < stepLimit x 5)) then c
    else if step = 1 ∧ at1 = 1 ∧ !c.b (Reg.PRT_PHY_STAT n) 21 ∧ !c.b (Reg.PRT_PHY_STAT n) 20 then phyLocked e n c
    else if step = 2 ∧ l.step = 2 ∧ !c.b (Reg.PRT_PHY_STAT n) (17 + 2 * lane) ∧ lockHeld e l then
      phyStepShow e n (phyAsk e n lane ((c.setPhy n (x.setLane lane { l with step := 3 })).setB (Reg.PRT_PHY_STAT n) (16 + 2 * lane) false))
    else if step = 3 ∧ l.step = 3 ∧ eyeSeen e l then
      let c1 := c.setF (Reg.PRT_PHY_EYE n) (16 * lane) 16 (h.toNat * 256 + w.toNat)
      if c.f (Reg.PRT_PHY_CFG n) 16 8 ≤ h.toNat ∧ c.f (Reg.PRT_PHY_CFG n) 8 8 ≤ w.toNat then
        phyStepShow e n (c1.setPhy n (x.setLane lane { l with step := 4 }))
      else if l.reqs < 64 then phyAsk e n lane c1
      else c1
    else if step = 4 ∧ at1 = 4 ∧ !phyBusy c n ∧ w.toNat ≤ 8 then c.setF (Reg.PRT_PHY_TRAIN n) 28 4 5
    else if step = 5 ∧ at1 = 5 ∧ (phyPassed c n).all (fun k => (x.lane k).ready) then phyUp e n c
    else c) s)

/-- TRAINING_STEP_TIMEOUT (R334): a step has reached its limit; `los` says that the clock lane has no signal. Step 3 ends with the 64th
request, answered and measured without a pass. An attempt ends after 2 ms at whatever step it stands. -/
def execTrainingStepTimeout (n : Fin 32) (step : Nat) (lane : Fin 2) (los : Bool) (s : State) : Host.Outcome State Fault Refusal :=
  .next (onChip (fun e c =>
    let at1 := c.f (Reg.PRT_PHY_TRAIN n) 28 4
    let x := c.phyOf n
    let l := x.lane lane
    if !(prtLive e c n && prtState c n == 2 && (step == 3 || decide (stepLimit x step ≤ e.time.up))) then c
    else if step = 1 ∧ at1 = 1 then phyFail e n (if los || c.b (Reg.PRT_PHY_STAT n) 21 then 1 else 2) 0 c
    else if step = 2 ∧ l.step = 2 then phyLaneFail e n lane 3 c
    else if step = 3 ∧ l.step = 3 ∧ l.reqs = 64 ∧ eyeSeen e l then phyLaneFail e n lane 4 c
    else if step = 4 ∧ at1 = 4 ∧ !phyBusy c n then phyFail e n 5 0 c
    else if step = 5 then phyFail e n 6 0 c
    else c) s)

/-! ### Lane monitors (R337, R338) -/

/-- A LOS (`los`) or LOL assertion counted and flagged (PHY_CNT, PERR), with its bit in PHY_STAT. -/
def phyMonitor (e : Env) (n bit : Nat) (los : Bool) (c : Chip) : Chip :=
  let x := c.phyOf n
  let c1 := (c.setB (Reg.PRT_PHY_STAT n) bit true).setPhy n { x with monAt := tset (fun _ => 0) x.monAt bit e.time.up }
  if los then (c1.sat (Reg.PRT_PHY_CNT n) 8 8 1).setB (Reg.PRT_PERR n) 1 true
  else (c1.sat (Reg.PRT_PHY_CNT n) 0 8 1).setB (Reg.PRT_PERR n) 2 true

/-- A monitor's condition to clear holds (Table: Lane monitors): for 10 µs, or, for a data lane's lock, with 64 valid headers. -/
def phyReturn (e : Env) (n bit : Nat) (c : Chip) : Chip :=
  let x := c.phyOf n
  let k := (bit - 16) / 2
  let ok : Bool := if bit = 16 ∨ bit = 18 then lockHeld e (x.lane k) else decide (tget (fun _ => 0) x.monAt bit + 2000 ≤ e.time.up)
  if c.b (Reg.PRT_PHY_STAT n) bit && ok then
    let c1 := c.setB (Reg.PRT_PHY_STAT n) bit false
    if bit < 20 then c1.setPhy n (x.setLane k { x.lane k with goodAt := e.time.up }) else c1
  else c

/-- A port that goes down in one cycle by several monitors records the first of them in the order clock LOS, clock LOL, data lanes (R346,
R349). -/
def phyGoverns (e : Env) (n cause : Nat) (c : Chip) : Chip :=
  match (c.phyOf n).fell with
  | some (t, old) =>
    if t = e.time.up ∧ cause < old ∧ old ≤ 3 ∧ c.ctl then
      let c1 := c.unput ⟨e.time.stamp, srcWord 0x16 0 0x11, word (old * 2 ^ 28 + n)⟩
      prtLog e n 0x11 (cause * 2 ^ 28) (c1.setPhy n { c1.phyOf n with fell := some (t, cause) })
    else c
  | none => c

/-- A clock monitor's assertion (R337): the port goes down; past step 1 of a training, the training starts again. -/
def phyClock (e : Env) (n : Nat) (los : Bool) (m : LineMon) (c : Chip) : Chip :=
  if !prtLive e c n then c
  else if m.back then phyReturn e n (if los then 21 else 20) c
  else
    let cause := if los then 1 else 2
    let c1 := phyMonitor e n (if los then 21 else 20) los c
    if prtUp c n then phyDown e n cause (phyAbort n m.rx c1)
    else
      let c2 := phyGoverns e n cause c1
      if prtState c n == 2 && c.f (Reg.PRT_PHY_TRAIN n) 28 4 != 1 then phyTrain e n c2 else c2

/-- A rejoin of the other lane in the cycle of an exclusion is not carried out, and its count of slots starts again (R346). -/
def phyUnrejoin (e : Env) (n k : Nat) (c : Chip) : Chip :=
  let x := c.phyOf n
  match x.rejoin with
  | some (t, j, was) =>
    if t = e.time.up ∧ j ≠ k ∧ prtState c n = 3 then
      let c1 := if c.ctl then c.unput ⟨e.time.stamp, srcWord 0x16 0 0x14, word (j * 2 ^ 31 + n)⟩ else c
      let c2 := c1.setPhy n { x.setLane j { x.lane j with goodAt := e.time.up } with rejoin := none }
      prtSet n 4 (((c2.setB (Reg.PRT_PERR n) 6 was).setB (Reg.PRT_PHY_STAT n) (8 + j) true).setF (Reg.PRT_PHY_STAT n) 28 1 (1 - j))
    else c
  | none => c

/-- LANE_EXCLUDED (R337, R339, R343): a lane in service is excluded, and a STATUS says so; the last one takes the port down; the fourth
exclusion within a second holds the lane out. -/
def phyExclude (e : Env) (n k : Nat) (los : Bool) (c : Chip) : Chip :=
  let c0 := phyTell e n (phyUnrejoin e n k c)
  let x := c0.phyOf n
  let l := x.lane k
  let outs := e.time.up :: l.outs.filter (fun t => decide (e.time.up < t + 200000000))
  let flap : Bool := decide (4 ≤ outs.length)
  let l1 := { l with outs := outs, flap := l.flap || flap, exAt := some e.time.up, toldAt := x.statusAt, goodAt := e.time.up }
  let c1 := (c0.setPhy n (x.setLane k l1)).setB (Reg.PRT_PHY_STAT n) (8 + k) true
  let c2 := prtLog e n 0x13 (k * 2 ^ 31 + (if los then 2 ^ 30 else 0)) c1
  let c3 := if flap then prtLog e n 0x15 (k * 2 ^ 31) (c2.setB (Reg.PRT_PERR n) 8 true) else c2
  if prtState c0 n = 3 then prtSet n 4 ((c3.setB (Reg.PRT_PERR n) 5 true).setF (Reg.PRT_PHY_STAT n) 28 1 (1 - k))
  else phyDown e n 3 c3

/-- A data lane's monitor (R337, R341): block lock goes with 16 invalid headers of 64 (R338). -/
def phyData (e : Env) (n k : Nat) (los : Bool) (m : LineMon) (c : Chip) : Chip :=
  let bit := (if los then 17 else 16) + 2 * k
  if !prtLive e c n then c
  else if m.back then phyReturn e n bit c
  else if !los && (c.b (Reg.PRT_PHY_STAT n) bit || !lockGone e ((c.phyOf n).lane k)) then c
  else
    let c1 := phyMonitor e n bit los c
    let x := c1.phyOf n
    let c2 := c1.setPhy n (x.setLane k { x.lane k with goodAt := e.time.up, seekAt := e.time.up })
    if prtUp c n && !prtOut c n k && (prtLanes c n).contains k then phyExclude e n k los (phyAbort n m.rx c2) else c2

/-- STATUS_BLOCK_RECEIVED (R330, R340, R346): the far end's exclusions, which the next freeze latches, or its wish to retrain, which starts
a training whatever the port's state. -/
def execStatusBlockReceived (n : Fin 32) (blk : LineBlock) (rx : Bool) (s : State) : Host.Outcome State Fault Refusal :=
  .next (onChip (fun e c =>
    let p := blk.payload
    if !prtLive e c n then c
    else if blk.kind = .bad then phyBadBlock e n 0 blk c
    else if blk.kind ≠ .status then c
    else if p.getLsbD 10 then phyTrain e n (phyFall e n 4 (phyAbort n (rx && prtUp c n) c))
    else if prtUp c n then c.setPhy n { c.phyOf n with farOut := (if p.getLsbD 8 then 1 else 0) + (if p.getLsbD 9 then 2 else 0) }
    else c) s)

/-- An excluded lane has held lock, and its eye, for 65,536 slots (R343). -/
def laneRejoinDue (e : Env) (c : Chip) (n : Nat) (x : LaneEye) : Bool :=
  !c.b (Reg.PRT_PHY_STAT n) (16 + 2 * x.lane) && !c.b (Reg.PRT_PHY_STAT n) (17 + 2 * x.lane)
    && decide (((c.phyOf n).lane x.lane).goodAt + slotTime 65536 ≤ e.time.up)
    && decide (c.f (Reg.PRT_PHY_CFG n) 16 8 ≤ x.h.toNat) && decide (c.f (Reg.PRT_PHY_CFG n) 8 8 ≤ x.w.toNat)

/-- A port's excluded lane that has met its conditions rejoins (R343); an exclusion of the other lane in the same cycle undoes it. -/
def phyRejoin (e : Env) (n : Nat) (x : LaneEye) (c : Chip) : Chip :=
  let k := x.lane.val
  if prtLive e c n && prtState c n == 4 && prtOut c n k && c.b (Reg.PRT_PHY_CFG n) 30 && (prtForced c n).isNone
      && !((c.phyOf n).lane k).flap && laneRejoinDue e c n x && ((c.phyOf n).lane (1 - k)).exAt != some e.time.up then
    let c0 := phyTell e n (c.setF (Reg.PRT_PHY_EYE n) (16 * k) 16 (x.h.toNat * 256 + x.w.toNat))
    let c1 := ((c0.setPhy n { c0.phyOf n with rejoin := some (e.time.up, k, c.b (Reg.PRT_PERR n) 6) }).setB (Reg.PRT_PHY_STAT n) (8 + k) false).setF
      (Reg.PRT_PHY_STAT n) 28 1 0
    prtLog e n 0x14 (k * 2 ^ 31) (prtSet n 3 (c1.setB (Reg.PRT_PERR n) 6 true))
  else c

/-! ### Upward bundles on the wire (R325, R336, R341, R344) -/

/-- A bundle began after the port came up (R336). -/
def bundleStarted (c : Chip) (n : Nat) (b : UpBundle) : Bool := decide ((c.phyOf n).upAt ≤ b.since)
/-- It came on a lane that a STATUS excluded more than 2 µs before its start (R344). -/
def bundleOut (c : Chip) (n : Nat) (b : UpBundle) : Bool :=
  b.lanes.any (fun k => prtOut c n k && decide (((c.phyOf n).lane k).toldAt + 400 < b.since))
/-- The port went down, or a lane that it used was excluded, while it came (R341). -/
def bundleAborted (c : Chip) (n : Nat) (b : UpBundle) : Bool :=
  (match (c.phyOf n).fell with | some (t, _) => decide (b.since ≤ t) && decide ((c.phyOf n).upAt ≤ b.since ∨ t < (c.phyOf n).upAt) | none => false)
    || b.lanes.any (fun k => prtOut c n k || (match ((c.phyOf n).lane k).exAt with | some t => decide (b.since ≤ t) | none => false))
/-- A block broke it (R325). -/
def bundleBroken (c : Chip) (n : Nat) (b : UpBundle) : Bool :=
  b.lanes.any (fun k => !(prtLanes c n).contains k || (match ((c.phyOf n).lane k).errAt with | some t => decide (b.since ≤ t) | none => false))

/-- Nothing on the wire stands against a bundle. -/
def bundleClean (c : Chip) (n : Nat) (b : UpBundle) : Bool :=
  bundleStarted c n b && !bundleOut c n b && !bundleAborted c n b && !bundleBroken c n b

/-- The latch of every port at the end of a frame's last cycle (R342): PSTATE, the receive lane and the downward mode. -/
def phyLatch (e : Env) (c : Chip) : Chip :=
  eachBelow e.part.ports (fun n c =>
    let out := (c.phyOf n).farOut
    let m : Bool × Nat := match prtForced c n with
      | some k => (true, k)
      | none => if out = 1 then (true, 1) else if out = 2 then (true, 0) else (false, 0)
    let c1 := (c.setB (Reg.PRT_PHY_STAT n) 27 (prtUp c n && m.1)).setF (Reg.PRT_PHY_STAT n) 26 1 (if prtUp c n then m.2 else 0)
    prtShow n (c1.setPhy n { c1.phyOf n with latched := c1.rd (Reg.PRT_PHY_STAT n) })) c

/-- The latch as the input image holds it (R342). -/
def phyImage (e : Env) (c : Chip) : List (Word × Nat) := (List.range e.part.ports).map (fun n => ((c.phyOf n).latched, (c.phyOf n).farOut))

/-- The latched state and mode of a port: up, and in single-lane mode its lane (R342). -/
def latchedUp (c : Chip) (n : Nat) : Bool := let p := fget (c.phyOf n).latched 29 3; p == 3 || p == 4
/-- Single-lane mode as latched. -/
def latchedSingle (c : Chip) (n : Nat) : Bool := fbit (c.phyOf n).latched 27

/-- The words of PRT as a snapshot shows them: PHY_STAT as the freeze latched it (R342). -/
def phySnap (e : Env) (c : Chip) : Chip := eachBelow e.part.ports (fun n c => c.wr (Reg.PRT_PHY_STAT n) (c.phyOf n).latched) c

end Sys2Proof.Machine
end

