-- ==== Sys2Proof/Machine/PortTransport.lean ====
section
/-! DEFINITION. HaralLink transport, the upward direction (ch. 11): acceptance and admission, the records of a bundle, the
acknowledged sub-layer, and missed and lost ports. What goes down stands in Downward.lean. -/
namespace Sys2Proof.Machine

/-- A port's transport state. -/
def Chip.tpOf (c : Chip) (n : Nat) : TpSt := tget (fun _ => {}) c.tp n
/-- The same written. -/
def Chip.setTp (c : Chip) (n : Nat) (x : TpSt) : Chip := { c with tp := tset (fun _ => ({} : TpSt)) c.tp n x }

/-- A signed field of a 64-bit word. -/
def dsgn (v : BitVec 64) (lo w : Nat) : Int := signOf w (dget v lo w)
/-- The eight bytes of a data block, low byte first (R351). -/
def blockBytes (v : BitVec 64) : List Byte := (List.range 8).map (fun k => (v >>> (8 * k)).setWidth 8)
/-- CRC-32 over data blocks in stream order (R351). -/
def blocksCrc (l : List (BitVec 64)) : Word := crc32 (l.flatMap blockBytes)

/-- The header words of a downward bundle (Table: Downward header). -/
def dnHeader (e : Env) (c : Chip) (n : Nat) (control : Bool) : List (BitVec 64) :=
  let x := c.tpOf n
  let g := Reg.PRT_TP_GCFG
  [dword [(32, e.time.frameNo.toNat % 2 ^ 32), (16, x.seq.toNat), (12, if control then 1 else 2), (10, c.period), (8, if c.f Reg.QN_STAT 29 3 ≤ 1 then c.f Reg.QN_STAT 29 3 else 2),
          (5, mapClass c n), (0, n)],
   dword [(48, c.f Reg.FRM_LEN 16 16), (32, c.f (Reg.PRT_TUN_STAT n) 0 16), (28, c.f g 28 4), (20, c.f g 20 8), (19, bitOf x.trst),
          (0, c.f (Reg.PRT_TP_SEQ n) 16 16)]]

/-- An imposed map word of a port: the last valid header is judged against the class mapped now (R359). -/
def prtMapImposed (e : Env) (n : Nat) (c : Chip) : Chip :=
  if mapClass c n = 0 then prtSetAdmit e n 0 c
  else if prtAdmit c n = 1 ∨ prtAdmit c n = 2 then
    prtSetAdmit e n (if c.f (Reg.PRT_TP_STAT n) 27 3 = mapClass c n then 1 else 2) c
  else c

/-- A flag of PRT.PERR. -/
def prtFlag (n i : Nat) (c : Chip) : Chip := c.setB (Reg.PRT_PERR n) i true
/-- CRC_ERR, FRAME_ERR and FMT_ERR of TP_ERR counted, with their PERR flag where there is one. -/
def prtCrcErr (n : Nat) (c : Chip) : Chip := prtFlag n 22 (c.sat (Reg.PRT_TP_ERR n) 24 8 1)
/-- FRAME_ERR. -/
def prtFrameErr (n : Nat) (c : Chip) : Chip := prtFlag n 23 (c.sat (Reg.PRT_TP_ERR n) 16 8 1)
/-- FMT_ERR: a bundle's failure of form. -/
def prtFmtErr (n : Nat) (c : Chip) : Chip := c.sat (Reg.PRT_TP_ERR n) 8 8 1
/-- A record skipped with a flag (R364). -/
def prtSkip (n i : Nat) (c : Chip) : Chip := prtFlag n i (c.sat (Reg.PRT_TP_ERR n) 0 8 1)

/-- A record: its header word and the words that follow. -/
abbrev TpWords := BitVec 64 × List (BitVec 64)

/-- The records of a bundle; none where a LEN runs past the last block (R364). The fuel is the number of blocks. -/
def tpRecords : Nat → List (BitVec 64) → Option (List TpWords)
  | _, [] => some []
  | 0, _ => none
  | f + 1, h :: t =>
    let n := dget h 40 8
    if t.length < n then none
    else match tpRecords f (t.drop n) with
      | some l => some ((h, t.take n) :: l)
      | none => none

/-- What an upward bundle hands on beyond the chip's registers: a telegram for Heath, a vehicle frame of an outlet, a block of
an outlet's metering stream. -/
inductive Delivery where
  | safety (words : List (BitVec 64))
  | vehicle (outlet : Nat) (bytes : List Byte)
  | stream (outlet : Nat) (bytes : List Byte)
  deriving DecidableEq, Repr

/-- Upward record types are 0x81 to 0x85 and 0x87 to 0x89 (Table: Record types). -/
def upType (t : Nat) : Bool := decide (0x81 ≤ t) && decide (t ≤ 0x89) && t != 0x86
/-- The down types, known but not allowed upward. -/
def downType (t : Nat) : Bool := decide (1 ≤ t) && decide (t ≤ 9)

/-- A TUNNEL record's LEN is that of its BYTES, 1 to 2,040 (Table: Acknowledged record fields). -/
def tunnelLen (h : BitVec 64) (len : Nat) : Bool :=
  decide (1 ≤ dget h 11 11 ∧ dget h 11 11 ≤ 2040) && len == (dget h 11 11 + 7) / 8

/-- A record passes R364's tests of class, INDEX and LEN; `units` are the units that the node announced. -/
def recOk (cls units t i len : Nat) : Bool :=
  if t = 0x81 then cls == 1 && decide (i < units) && len == 1
  else if t = 0x82 then cls == 2 && decide (i < units) && len == 2
  else if t = 0x83 then cls == 3 && i == 0 && len == 1
  else if t = 0x84 then len == 1
  else if t = 0x85 then len == 0
  else if t = 0x87 then i == 0 && decide (1 ≤ len) && decide (len ≤ 4)
  else if t = 0x88 then (cls == 2 || cls == 4) && decide (1 ≤ len) && (i == 0x20 || (cls == 2 && decide (i / 16 ≤ 1) && decide (i % 16 < 4) && decide (i % 16 < units)))
  else t == 0x89 && decide (len ≤ 16)

/-- A stage's feedback record taken (Table: STAGE_CMD and STAGE_FB). -/
def takeStage (s : Nat) (r : TpWords) (c : Chip) : Chip :=
  let w := r.2.getD 0 0
  let st := dget r.1 38 2
  c.setStgIn s { got := true, state := if st = 3 then 0 else st, refused := r.1.getLsbD 37, fb := dget r.1 16 16,
                 avail := dget r.1 0 16, iMeas := dsgn w 48 16, vOut := dget w 32 16, temp := dget w 24 8 }

/-- An outlet's feedback record taken (Table: OUTLET_CMD and OUTLET_FB). -/
def takeOutlet (o : Nat) (r : TpWords) (c : Chip) : Chip :=
  let a := r.2.getD 0 0
  let b := r.2.getD 1 0
  c.setOutIn o { c.outIn o with got := true, pp := r.1.getLsbD 39, latch := r.1.getLsbD 38, iso := r.1.getLsbD 37, start := dget r.1 35 2, stop := dget r.1 33 2, iMeas := dsgn r.1 16 16, vOut := dget r.1 0 16, temps := [dsgn a 0 16, dsgn a 16 16, dsgn a 32 16, dsgn a 48 16, dsgn b 0 16, dsgn b 16 16], flow := dget b 48 16, svalid := dget b 32 6 }

/-- A record that is not acknowledged taken into the input image (R364 to R371). -/
def takeRecord (n : Nat) (r : TpWords) (c : Chip) : Chip :=
  let t := dget r.1 56 8
  let i := dget r.1 48 8
  let w := r.2.getD 0 0
  if t = 0x81 then (if i < mapCount c n then takeStage (mapFirst c n + i) r c else c)
  else if t = 0x82 then (if i < mapCount c n then takeOutlet (mapFirst c n + i) r c else c)
  else if t = 0x83 then
    c.onImg (fun m => { m with battNew := { soc := dget r.1 32 8, pMeas := dsgn r.1 0 32, dis := dget w 32 32, chg := dget w 0 32 } })
  else if t = 0x84 then
    let x : AxIn := { ready := r.1.getLsbD 39, fault := r.1.getLsbD 38, sto := r.1.getLsbD 37, pos := dsgn r.1 0 32, vel := dsgn w 32 32 }
    c.onImg (fun m => { m with axes := tset (fun _ => ({} : AxIn)) m.axes (256 * n + i) x })
  else if t = 0x85 then
    let x : ChanIn := { value := dsgn r.1 0 32, age := (c.chanIn n i).age, got := true }
    c.onImg (fun m => { m with chan := tset (fun _ => ({} : ChanIn)) m.chan (256 * n + i) x })
  else c

/-- A tunnel part taken (Table: Acknowledged record fields): the series so far, and the frame that a last part completes. -/
def takePart (n : Nat) (r : TpWords) (c : Chip) : Chip × Option (List Byte) :=
  let i := dget r.1 48 8
  let seg := dget r.1 22 2
  let data := (r.2.flatMap blockBytes).take (dget r.1 11 11)
  let x := c.tpOf n
  let old := tget (fun _ => ([] : List Byte)) x.parts i
  let keep (l : List Byte) : Chip := c.setTp n { x with parts := tset (fun _ => ([] : List Byte)) x.parts i l }
  if seg = 0 then (keep [], some data)
  else if seg = 1 then (keep data, none)
  else if seg = 2 then (keep (old ++ data), none)
  else (keep [], some (old ++ data))

/-- ACK_RECORD_RECEIVED (R379): an acknowledged record is delivered when it is the expected one, else a duplicate or a gap. -/
def takeAck (n : Nat) (r : TpWords) (c : Chip) : Chip × List Delivery :=
  let tseq := dget r.1 24 16
  let next := c.f (Reg.PRT_TUN_STAT n) 0 16
  let behind := (next + 65536 - tseq) % 65536
  if (c.tpOf n).wait then (c, [])
  else if behind = 0 then
    let c1 := c.wrap (Reg.PRT_TUN_STAT n) 0 16 1
    if dget r.1 56 8 = 0x88 then
      let i := dget r.1 48 8
      let q := takePart n r c1
      let o := mapFirst c n + i % 16
      match q.2 with
      | some b => (q.1, if mapCount c n ≤ i % 16 then [] else if i < 4 ∧ mapClass c n = 2 then [.vehicle o b] else if 16 ≤ i ∧ i < 20 then [.stream o b] else [])
      | none => (q.1, [])
    else (c1, [])
  else if behind ≤ 32768 then (c.sat (Reg.PRT_TUN_CNT n) 16 8 1, [])
  else (c.sat (Reg.PRT_TUN_CNT n) 8 8 1, [])

/-- The records of an accepted bundle in order (R364): what passes is taken, the rest skipped and counted. -/
def tpTake (n units : Nat) : List TpWords → List (Nat × Nat) → Chip → Chip × List Delivery
  | [], _, c => (c, [])
  | r :: t, seen, c =>
    let ty := dget r.1 56 8
    let i := dget r.1 48 8
    if !upType ty then tpTake n units t seen (prtSkip n (if downType ty then 26 else 25) c)
    else if !recOk (mapClass c n) units ty i r.2.length || (ty == 0x88 && !tunnelLen r.1 r.2.length) then tpTake n units t seen (prtSkip n 26 c)
    else if ty < 0x88 ∧ seen.contains (ty, i) then tpTake n units t seen (prtSkip n 27 c)
    else if ty < 0x88 then
      let q := tpTake n units t ((ty, i) :: seen) (takeRecord n r c)
      (q.1, (if ty = 0x87 then [Delivery.safety r.2] else []) ++ q.2)
    else
      let a := takeAck n r c
      let q := tpTake n units t seen a.1
      (q.1, a.2 ++ q.2)

/-- Transmit frames that the acknowledgement of their record completes: TX_RD advances (R393). -/
def tunAcked (l : List TpRec) (c : Chip) : Chip := eachOf l (fun r c => c.wrap (Reg.SES_TUN r.outlet) 20 6 1) c

/-- TACK of an accepted bundle (R379, R380): every record that it passes is acknowledged. -/
def takeTack (n tack : Nat) (c : Chip) : Chip :=
  let x := c.tpOf n
  let done (r : TpRec) : Bool := let d := (tack + 65536 - r.tseq) % 65536; decide (1 ≤ d) && decide (d ≤ 32768)
  tunAcked (x.tx.filter done) (c.setTp n { x with tx := x.tx.filter (fun r => !done r) })

/-- Pending records discarded by a reset are reported lost: TX_LOST counts, and TX_RD passes them (R381, R394). -/
def tunLost (l : List TpRec) (c : Chip) : Chip :=
  eachOf l (fun r c => (c.wrap (Reg.SES_TUN r.outlet) 20 6 1).sat (Reg.SES_TUN r.outlet) 0 8 1) c

/-- A reset of the sub-layer (R381): both series restart at 0, TRST goes out, the reset is flagged, counted and logged. -/
def tunReset (e : Env) (n : Nat) (own : Bool) (c : Chip) : Chip :=
  let x := c.tpOf n
  let c1 := tunLost x.tx (c.setTp n { x with tx := [], trst := true, wait := own, parts := [] })
  let c2 := prtFlag n 31 ((c1.wr (Reg.PRT_TUN_STAT n) 0).sat (Reg.PRT_TUN_CNT n) 0 8 1)
  prtLog e n 0x22 (if own then 2 ^ 31 else 0) c2

/-- TRST in an accepted header (R381, R384): the answer to this chip's own reset, or the node's reset. -/
def takeTrst (e : Env) (n : Nat) (c : Chip) : Chip :=
  let x := c.tpOf n
  if x.wait then c.setTp n { x with wait := false }
  else if x.trst then c
  else tunReset e n false c

/-- Stages and outlets of a port that its node does not announce are mapped but unavailable (R22). -/
def shortUnits (n units : Nat) (c : Chip) : Chip :=
  let l := (List.range (mapCount c n)).filter (fun i => decide (units ≤ i))
  if l.isEmpty then c
  else
    let c1 := prtFlag n 17 c
    eachOf l (fun i c =>
      if mapClass c n = 1 then c.setStgIn (mapFirst c n + i) {}
      else c.setOutIn (mapFirst c n + i) { missRun := (c.outIn (mapFirst c n + i)).missRun }) c1

/-- A unit of an accepted bundle without its record (R365). -/
def recMissing (n units : Nat) (c : Chip) : Chip :=
  let m := (List.range (min units (mapCount c n))).any (fun i =>
    if mapClass c n = 1 then !(c.stgIn (mapFirst c n + i)).got else if mapClass c n = 2 then !(c.outIn (mapFirst c n + i)).got else false)
  if m then prtFlag n 28 c else c

/-- PORT_REGAINED (R375): the first accepted bundle after a loss. -/
def prtRegain (e : Env) (n : Nat) (c : Chip) : Chip :=
  if c.b Reg.PRT_LOST n then prtLog e n 0x21 0 (c.setB Reg.PRT_LOST n false) else c

/-- What a valid upward header shows and decides (R359, R21, R22): the node's words, its flags and the admission. -/
def tpHeader (e : Env) (n : Nat) (h0 h1 : BitVec 64) (unsynced : Bool) (c : Chip) : Chip :=
  let cls := dget h0 13 3
  let c1 := c.wr (Reg.PRT_TP_NODE n) (word (dget h1 0 32))
  let c2 := (c1.setF (Reg.PRT_TP_STAT n) 21 9 (cls * 64 + dget h0 7 6)).setF (Reg.PRT_TP_STAT n) 18 3 (dget h0 4 3)
  let c3 := if h0.getLsbD 5 then prtFlag n 29 c2 else c2
  let c4 := if h0.getLsbD 4 then prtFlag n 30 c3 else c3
  let c5 := if cls = mapClass c n then c4 else prtFlag n 16 c4
  if mapClass c n = 0 then c5
  else prtSetAdmit e n (if unsynced then 3 else if cls = mapClass c n then 1 else 2) c5

/-- An accepted bundle of an admitted port (R357, R364 to R379). -/
def tpAccept (e : Env) (n : Nat) (b : UpBundle) (recs : List TpWords) (c : Chip) : Chip × List Delivery :=
  let h0 := b.blocks.getD 0 0
  let h1 := b.blocks.getD 1 0
  let units := dget h0 7 6
  let c1 := c.setTp n { c.tpOf n with done := true, crc := some (word (dget b.term 32 32)) }
  let c2 := (c1.wr (Reg.PRT_TP_SEQ n) (word (dget h0 16 16 * 65536 + dget h1 48 16))).setF (Reg.PRT_TP_SIZE n) 16 16 (b.blocks.length + 2)
  let c3 := prtRegain e n (c2.setF (Reg.PRT_TP_STAT n) 8 8 0)
  let c4 := takeTack n (dget h1 32 16) c3
  let c5 := if h0.getLsbD 3 then takeTrst e n c4 else c4
  let q := tpTake n units recs [] (if mapClass c n ≤ 2 then shortUnits n units c5 else c5)
  (if mapClass c n ≤ 2 then recMissing n units q.1 else q.1, q.2)

/-- A bundle completes at or after the cut-off (R37). -/
def bundleLate (c : Chip) (b : UpBundle) : Bool := decide (c.cuts.cut ≤ b.cycle) || c.frm.phase != 0

/-- An upward bundle judged (R357, R360, R384): its flags and counts, the admission, and, where it is accepted, its
records. -/
def tpUpward (e : Env) (n : Nat) (b : UpBundle) (c : Chip) : Chip × List Delivery :=
  let h0 := b.blocks.getD 0 0
  let h1 := b.blocks.getD 1 0
  let form : Bool := b.whole && !bundleBroken c n b && b.blocks.length == dget b.start 48 16 && decide (2 ≤ b.blocks.length)
  let dir := b.start.getLsbD 47
  let crc : Bool := dget b.term 32 32 == (blocksCrc b.blocks).toNat
  let frame : Bool := dget h0 32 32 == e.time.frameNo.toNat % 2 ^ 32
  let unsynced : Bool := dget h0 32 32 == 0xFFFFFFFF
  let late := bundleLate c b
  let c0 := if late then prtFlag n 21 (c.sat (Reg.PRT_TP_CNT n) 0 16 1) else c
  if bundleOut c n b then (prtFlag n 9 c, [])
  else if bundleAborted c n b then (phyAbort n true c, [])
  else if !form || !dir then (prtFmtErr n c0, [])
  else if !crc then (prtCrcErr n c0, [])
  else if !frame then
    let c1 := prtFrameErr n c0
    (if unsynced && !late then tpHeader e n h0 h1 true c1 else c1, [])
  else if late then (c0, [])
  else if (c.tpOf n).done then (prtFmtErr n c0, [])
  else
    let c1 := tpHeader e n h0 h1 unsynced c0
    if mapClass c n = 0 ∨ prtAdmit c1 n ≠ 1 then (c1, [])
    else match tpRecords b.blocks.length (b.blocks.drop 2) with
      | none => (prtFmtErr n (prtFlag n 24 c1), [])
      | some recs => tpAccept e n b recs c1

/-- PORT_MISSED at the bundle cut-off (R37, R375), and the ages that go with it (R365, R370). -/
def tpCutOff (n : Nat) (c : Chip) : Chip :=
  if mapClass c n = 0 then c.setB Reg.PRT_MISS n false
  else if (c.tpOf n).done then c.setB Reg.PRT_MISS n false
  else
    let c1 := prtFlag n 20 (c.setB Reg.PRT_MISS n true)
    (c1.sat (Reg.PRT_TP_CNT n) 16 16 1).setF (Reg.PRT_TP_STAT n) 8 8 (satAdd 8 (c.f (Reg.PRT_TP_STAT n) 8 8) 1)

/-- The channel values' ages at the cut-off (R370). -/
def chanCutOff (c : Chip) : Chip :=
  c.onImg (fun m => { m with chan := m.chan.map (fun x =>
    (x.1, { x.2 with age := if x.2.got then 0 else min 4 (x.2.age + 1), got := false })) })

/-- An outlet's freshness at the cut-off (R37, R365, R292). -/
def outCutOff (p : Part) (o : Nat) (c : Chip) : Chip :=
  let i := c.outIn o
  let fresh : Bool := i.got && (match outletPort p c o with | some n => (c.tpOf n).done | none => false)
  c.setOutIn o { i with got := false, fresh := fresh, missRun := if fresh then 0 else i.missRun + 1 }

/-- At the boundary the ports await a new bundle. -/
def tpBoundary (c : Chip) : Chip :=
  { c with tp := c.tp.filterMap (fun x =>
      let y : TpSt := { x.2 with done := false, crc := none }
      if y = {} then none else some (x.1, y)) }

/-- PORT_LOST: MISS_RUN has reached 4 (R375). -/
def execPortLost (n : Fin 32) (s : State) : Host.Outcome State Fault Refusal :=
  .next (onChip (fun e c =>
    if c.ctl && mapClass c n != 0 && decide (4 ≤ missRun c n) && !c.b Reg.PRT_LOST n then
      prtLog e n 0x20 0 (prtFlag n 19 (c.setB Reg.PRT_LOST n true))
    else c) s)

/-- NODE_STAGES_UNAVAILABLE: from the frame in which a CIN port's MISS_RUN reaches HOLD its stages read unavailable in the
input image (R376). -/
def execNodeStagesUnavailable (n : Fin 32) (s : State) : Host.Outcome State Fault Refusal :=
  .next (onChip (fun _ c =>
    if c.ctl && mapClass c n == 1 && decide (c.f Reg.PRT_TP_GCFG 28 4 ≤ missRun c n) then
      eachBelow (mapCount c n) (fun i c =>
        let r := Reg.ALC_STG_IN (mapFirst c n + i)
        let st := c.f r 30 2
        (c.setF r 30 2 (if st = 3 then 3 else 0)).setF r 0 16 0) c
    else c) s)

/-- The oldest unacknowledged record of a port waits for RETRY_F frames or more (R380). -/
def tunStale (e : Env) (c : Chip) (n : Nat) : Option TpRec :=
  match (c.tpOf n).tx with
  | r :: _ => if 0 < r.times ∧ r.sentAt + c.f Reg.PRT_TP_GCFG 16 4 ≤ e.time.frameNo.toNat then some r else none
  | [] => none

/-- ACK_RESEND: every record from the oldest unacknowledged one on is to be sent again (R380). -/
def execAckResend (n : Fin 32) (s : State) : Host.Outcome State Fault Refusal :=
  .next (onChip (fun e c =>
    match (if c.ctl then tunStale e c n else none) with
    | some r =>
      if r.times ≤ c.f Reg.PRT_TP_GCFG 12 4 then
        let x := c.tpOf n
        c.setTp n { x with tx := x.tx.map (fun r => if 0 < r.times then { r with due := true } else r) }
      else c
    | none => c) s)

/-- TUN_RESET: a record has been sent RETRY_MAX + 1 times without acknowledgement (R381). -/
def execTunReset (n : Fin 32) (s : State) : Host.Outcome State Fault Refusal :=
  .next (onChip (fun e c =>
    match (if c.ctl then tunStale e c n else none) with
    | some r => if c.f Reg.PRT_TP_GCFG 12 4 < r.times then tunReset e n true c else c
    | none => c) s)

end Sys2Proof.Machine
end

