-- ==== Sys2Proof/Machine/Clock.lean ====
section
/-! DEFINITION. The passing of FCLK cycles: the offset in the frame, the cycles since power-on, and the precision-time clock
(02 R71, 24 R737). Time passes in an empty-queue step and in the commands that a cycle of the frame brings about (log entry 1). -/
namespace Sys2Proof.Machine

/-- Host, memory and debug interfaces changed. -/
def Chip.onHif (c : Chip) (f : HostSt → HostSt) : Chip := { c with hif := f c.hif }

/-- Units of 2^−32 ns in a second. -/
def ptpSecond : Nat := 1000000000 * 2 ^ 32
/-- The precision-time clock's seconds (48 bits) and nanoseconds. -/
def ptpSec (h : HostSt) : Nat := h.ptp / ptpSecond % 2 ^ 48
/-- Nanoseconds within the second. -/
def ptpNs (h : HostSt) : Nat := h.ptp % ptpSecond / 2 ^ 32
/-- The clock set, modulo 2^48 seconds. -/
def ptpWrap (x : Int) : Nat := (x % ((2 ^ 48 * ptpSecond : Nat) : Int)).toNat

/-- The precision-time clock after `n` cycles (R737): 5 ns plus PTP_ADJ × 2^−32 ns each; a whole second that passes starts a
pulse where PPS_EN is set (R740). -/
def ptpRun (n : Nat) (c : Chip) : Chip :=
  if c.svc && c.b Reg.ETH_PTP_CFG 31 then
    let x := ptpWrap ((c.hif.ptp : Int) + n * (5 * 2 ^ 32 + (c.rd Reg.ETH_PTP_ADJ).toInt))
    let sec : Bool := x / ptpSecond != c.hif.ptp / ptpSecond
    c.onHif (fun h => { h with ptp := x, ppsDue := h.ppsDue || (sec && c.b Reg.ETH_PTP_CFG 30) })
  else c

/-- `n` cycles pass; the offset moves while the Control region runs. While it does not, FRAME_NO and the offset stand as they were, and
events of Heath and Metrology carry that stamp (DESIGN CHOICE, log entry 49). -/
def State.advance (n : Nat) (s : State) : State :=
  let t := s.env.time
  let s1 := { s with env := { s.env with time := { t with offset := if s.chip.ctl then t.offset + n else t.offset, up := t.up + n } } }
  onChip (fun _ c => ptpRun n c) s1

/-- Time passes to cycle `n` of the frame, where that is still to come. -/
def State.reach (n : Nat) (s : State) : State := s.advance (n - s.env.time.offset)

end Sys2Proof.Machine
end

