-- ==== Sys2Proof/Machine/Galley.lean ====
section
/-! DEFINITION. Galley transactions: staging, the commands of GAL.CMD, how a transaction ends, the markers and what a boundary
imposes (ch. 5). The passes of Proof themselves stand in Proof.lean. -/
namespace Sys2Proof.Machine

/-- The Galley's own state changed. -/
def Chip.onGal (c : Chip) (f : Galley → Galley) : Chip := { c with gal := f c.gal }

/-- A command is refused (R143): the code and CMD_REFUSED, all else unchanged. -/
def galRefuse (e : Env) (k code : Nat) (c : Chip) : Chip := (c.setF (Reg.GAL_STATE k) 16 8 code).perr e 0x40002000 18

/-- A slot's list is discarded (R144, R143). -/
def galDrop (k : Nat) (c : Chip) : Chip :=
  let l := (c.slot k).list
  let c1 := (c.setSlot k {}).onGal (fun g => { g with queue := g.queue.filter (· != k), accepted := g.accepted.filter (· != k),
                                                       cut := g.cut.filter (· != k) })
  (c1.wr (Reg.GAL_LIST k) 0).refreshGalleys l

/-- The outcome word of a transaction's log entry: TAG and slot (R170). -/
def galWord (c : Chip) (k : Nat) : Nat := c.f (Reg.GAL_STATE k) 0 16 * 2 ^ 16 + k * 2 ^ 14

/-- A transaction fails with a code, an address and a list index (R144, R150, R157). GAL.LIST of a transaction that failed or was rolled
back reads zero (DESIGN CHOICE, log entry 51). Outside the boundary's set the partner learns of it. -/
def galFail (e : Env) (k code addr entry : Nat) (c : Chip) : Chip :=
  let c1 := galDrop k c
  let c2 := (c1.setF (Reg.GAL_STATE k) 28 4 6).setF (Reg.GAL_STATE k) 16 8 code
  let c3 := (c2.wr (Reg.GAL_FAIL_ADDR k) (word addr)).setF (Reg.GAL_FAIL_INFO k) 0 13 entry
  let c3 := if c.gal.cut.contains k then c3 else c3.lead k (.dropped (Fin.ofNat 4 k))
  c3.log1 e 0x03 0 0x02 (galWord c k + code)

/-- Every transaction accepted after another that failed or was rolled back fails with BASIS_LOST (R154). -/
def galBasisLost (e : Env) (after : List Nat) (c : Chip) : Chip := eachOf after (fun k => galFail e k 0x1F 0 0) c

/-- The transactions accepted after one that still await Imposition. -/
def galAfter (c : Chip) (k : Nat) : List Nat := (c.gal.accepted.dropWhile (· != k)).drop 1

/-- A transaction is rolled back (R143, R154). -/
def galRollback (e : Env) (k : Nat) (c : Chip) : Chip :=
  let after := galAfter c k
  let w := galWord c k
  let c1 := (galDrop k c).setF (Reg.GAL_STATE k) 28 4 7
  galBasisLost e after ((c1.lead k (.dropped (Fin.ofNat 4 k))).log1 e 0x03 0 0x03 w)

/-- OPEN (R136, R137, R143). Where BUSY and ROLE both hold, BUSY is the code (DESIGN CHOICE, log entry 51). -/
def galOpen (e : Env) (p : Plane) (k tag : Nat) (c : Chip) : Chip :=
  let st := c.slotState k
  if 1 ≤ st ∧ st ≤ 4 then galRefuse e k 0x01 c
  else if (c.openSlot p).isSome then galRefuse e k 0x02 c
  else if c.roleIs 2 ∧ k ≠ 2 then galRefuse e k 0x03 c
  else
    let c1 := c.setSlot k {}
    let c2 := (c1.wr (Reg.GAL_STATE k) (word (2 ^ 28 + tag))).wr (Reg.GAL_LIST k) 0
    (((c2.wr (Reg.GAL_TARGET k) 0).wr (Reg.GAL_FAIL_ADDR k) 0).wr (Reg.GAL_FAIL_INFO k) (word (planeCode p * 2 ^ 29))).lead k
      (.opened (Fin.ofNat 4 k) p (BitVec.ofNat 16 tag))

/-- The checker's order among commands of one cycle: slots 3, 0, 1, 2 (R148). -/
def slotRank (k : Nat) : Nat := if k = 3 then 0 else k + 1

/-- A pass joins the checker's queue (R148): before those of the same cycle that the slot order puts after it. -/
def galQueue (now k : Nat) (g : Galley) : Galley :=
  let first (j : Nat) : Bool := !(g.came.contains (j, now) && decide (slotRank k < slotRank j))
  { g with queue := g.queue.takeWhile first ++ k :: g.queue.dropWhile first, came := (k, now) :: g.came.filter (fun x => x.1 != k) }

/-- PROOF and COMMIT (R143, R148): the pass joins the checker's queue. -/
def galPass (e : Env) (k kind : Nat) (c : Chip) : Chip :=
  let st := c.slotState k
  if st = 1 ∨ st = 3 then
    ((c.setSlot k { c.slot k with pass := kind }).setF (Reg.GAL_STATE k) 28 4 2).onGal (galQueue e.time.up k)
  else galRefuse e k 0x01 c

/-- The commit cut of a committed transaction's target frame is past (R143, R153). -/
def galLate (e : Env) (c : Chip) (k : Nat) : Bool :=
  decide ((c.slot k).target.toNat ≤ e.time.frameNo.toNat + 1) && c.gal.past

/-- ROLLBACK (R143). -/
def galRoll (e : Env) (k : Nat) (c : Chip) : Chip :=
  let st := c.slotState k
  if 1 ≤ st ∧ st ≤ 3 then galRollback e k c
  else if st = 4 then (if galLate e c k then galRefuse e k 0x04 c else galRollback e k c)
  else galRefuse e k 0x01 c

/-- What a write of GAL.CMD does by its OP (R143). -/
def galCommand (e : Env) (p : Plane) (k op tag : Nat) (c : Chip) : Chip :=
  if op = 0 then c
  else if op = 1 then galOpen e p k tag c
  else if op = 2 then galPass e k 1 c
  else if op = 3 then galPass e k 2 c
  else if op = 4 then galRoll e k c
  else galRefuse e k 0x01 c

/-- A write of GAL.CMD of a slot, after its checks: the register holds the word, and the command acts. -/
def galWrite (p : Plane) (k : Nat) (v : Word) (s : State) : State :=
  onChip (fun e c => galCommand e p k (fget v 0 4) (fget v 16 16) (c.wr (Reg.GAL_CMD k) v)) s

/-- A GAL.CMD write of one command by a plane. -/
def galCmdWrite (p : Plane) (k : Fin 4) (tag : BitVec 16) (op : Nat) (s : State) : State :=
  if s.chip.ctl then onWrite p (Reg.GAL_CMD k) (word (tag.toNat * 65536 + op)) (galWrite p k) s else s

/-- GALLEY_OPEN (R143). -/
def execGalleyOpen (p : Plane) (k : Fin 4) (tag : BitVec 16) (s : State) : Host.Outcome State Fault Refusal :=
  .next (galCmdWrite p k tag 1 s)
/-- GALLEY_PROOF (R143). -/
def execGalleyProof (p : Plane) (k : Fin 4) (tag : BitVec 16) (s : State) : Host.Outcome State Fault Refusal :=
  .next (galCmdWrite p k tag 2 s)
/-- GALLEY_COMMIT (R143). -/
def execGalleyCommit (p : Plane) (k : Fin 4) (tag : BitVec 16) (s : State) : Host.Outcome State Fault Refusal :=
  .next (galCmdWrite p k tag 3 s)
/-- GALLEY_ROLLBACK (R143, R154). -/
def execGalleyRollback (p : Plane) (k : Fin 4) (tag : BitVec 16) (s : State) : Host.Outcome State Fault Refusal :=
  .next (galCmdWrite p k tag 4 s)
/-- GALLEY_NOP: OP 0x0 does nothing but show in GAL.CMD (R143). -/
def execGalleyNop (p : Plane) (k : Fin 4) (tag : BitVec 16) (s : State) : Host.Outcome State Fault Refusal :=
  .next (galCmdWrite p k tag 0 s)

/-- GALLEY_STAGE: a write to a staged register or a Galley window word (R138 to R141); dropped with its flag where a check
of R125 fails. A word that is not staged is no case of this command. -/
def execGalleyStage (p : Plane) (a : Nat) (v : Word) (s : State) : Host.Outcome State Fault Refusal :=
  .next (if s.chip.ctl then
    (match checkWrite s p a 4 v with
     | .dropped s' => s'
     | .staged s' => s'
     | .pass .. => s)
    else s)

/-- A slot that a restart ends (R156): OPEN, PROVING, PROVED, or COMMITTED without its marker. -/
def galLosable (c : Chip) (k : Nat) : Bool :=
  c.slotOpen k || (c.slotState k == 4 && !(c.slot k).marker)

/-- A restart of the GAL block or of the Control region ends every such slot with RESTART; the outcomes are logged once
logging resumes (R156). -/
def galRestart (e : Env) (c : Chip) : Chip :=
  eachOf ((List.range 4).filter (galLosable c)) (fun k => galFail e k 0x21 0 0) c

/-- A change of owner (R161): transactions of slots 0, 1 and the pair slot without a marker fail with TAKEOVER. -/
def galTakeover (e : Env) (c : Chip) : Chip :=
  eachOf (([0, 1, 3] : List Nat).filter (galLosable c)) (fun k => galFail e k 0x20 0 0) c

/-- The committed image with a transaction's entries (R156). -/
def imagePut (l : List (Nat × Word)) (m : RegTable) : RegTable := l.foldl (fun m x => rset m x.1 x.2) m

/-- The MRAM marker of a transaction is written (R156): it belongs to the committed image. -/
def galMark (k : Nat) (c : Chip) : Chip :=
  { (c.setSlot k { c.slot k with marker := true }) with image := imagePut (c.slot k).list c.image }

/-- A transaction may take its marker: its boundary pass passed, and, on a chip that is not SOLO, the partner's verdict on a
pair-slot transaction was a pass (R153, R160). -/
def galPassing (c : Chip) (k : Nat) : Bool :=
  (c.slot k).verdict == some 0 && (k != 3 || c.roleIs 0 || (c.slot k).partner == some 0)

/-- The transaction that takes the next marker: the first of this boundary's set without one, if it passes; what follows one that
fails has lost its basis (R154, R156). -/
def markNext (c : Chip) : Option Nat := (c.gal.cut.find? (fun k => !(c.slot k).marker)).filter (galPassing c)

/-- A verdict of the partner on the pair-slot transaction of this boundary is heeded if it comes by M + 1,400 (R153, R160). -/
def partnerSays (e : Env) (code : Nat) (c : Chip) : Chip :=
  if c.ctl && !c.roleIs 0 && c.gal.past && c.gal.cut.contains 3 && (c.slot 3).partner == none && decide (e.time.offset ≤ c.cuts.mirror + 1400) then
    c.setSlot 3 { c.slot 3 with partner := some (code % 256) }
  else c

/-- PARTNER_VERDICT: the partner's verdict on the pair-slot transaction of this boundary, which the boundary judges (R160). -/
def execPartnerVerdict (code : Nat) (s : State) : Host.Outcome State Fault Refusal := .next (onChip (fun e c => partnerSays e code c) s)

/-- What a boundary does with one transaction of its set: imposed, with its count of entries kept in GAL.LIST (DESIGN CHOICE, log entry 51), with GAL.SEQ and the log (R155, R157). The words
themselves are applied by the caller. -/
def galImposed (e : Env) (k : Nat) (c : Chip) : Chip :=
  let w := galWord c k
  let n := (c.slot k).list.length
  let c1 := (galDrop k c).setF (Reg.GAL_STATE k) 28 4 5
  let c2 := c1.setF (Reg.GAL_LIST k) 0 13 n
  (c2.wr Reg.GAL_SEQ (word (c.n Reg.GAL_SEQ + 1))).log1 e 0x03 0 0x01 (w + n % 8192)

end Sys2Proof.Machine
end

