-- ==== Sys2Proof/Machine/HdgCode.lean ====
section
/-! DEFINITION. What a Hedgerow frame is on the line (19 R636 to R639): the carriers, the two layers of the code, the interleaver and
the symbols that the payload fills. -/
namespace Sys2Proof.Machine

/-- A key slot. -/
def CrySt.slot (x : CrySt) (n : Nat) : BitVec 256 := tget (fun _ => 0) x.slots n

/-- A list cut into pieces of `n` elements, the last one shorter where they do not divide it. -/
def piecesOf {α : Type} (n : Nat) (l : List α) : List (List α) :=
  if n = 0 then [] else (List.range ((l.length + n - 1) / n)).map (fun k => (l.drop (n * k)).take n)

/-- The carriers of the band (R636, Table: Band plans). -/
def hdgBand (c : Chip) : List Nat :=
  match c.f Reg.HDG_CFG 29 2 with
  | 0 => (List.range 65).map (· + 48)
  | 1 => (List.range 33).map (· + 124)
  | 2 => (List.range 421).map (· + 200)
  | _ => []
/-- A carrier that an enabled notch names (R636). -/
def hdgNotched (c : Chip) (k : Nat) : Bool :=
  (List.range 4).any (fun i => c.b (Reg.HDG_NOTCH i) 31 && decide (c.f (Reg.HDG_NOTCH i) 0 10 ≤ k ∧ k ≤ c.f (Reg.HDG_NOTCH i) 16 10))
/-- The carriers that are driven: those of the band that no enabled notch names (R636). -/
def hdgCarriers (c : Chip) : List Nat := (hdgBand c).filter (fun k => !hdgNotched c k)
/-- The coded bits that one symbol carries in a MODE: each on 4 carriers in ROBUST, else 1, 2 or 3 to a carrier (R637). -/
def hdgSymbolBits (c : Chip) (mode : Nat) : Nat :=
  if mode = 0 then (hdgCarriers c).length / 4 else mode * (hdgCarriers c).length

/-- The check bytes that the outer code adds to a codeword (R638). -/
def rsChecks : Nat := 16
/-- The data bytes of the longest codeword, of n = 255 (R638). -/
def rsData : Nat := 255 - rsChecks
/-- A codeword of the outer code: its data and 16 check bytes (R638; the field's polynomial is not in the spec, log entry 7). -/
def rsWord (l : List Byte) : List Byte := l ++ (List.range rsChecks).map (Config.rsCheck l)
/-- The outer code over a payload: codewords of n at most 255, all but the last of the longest length (DESIGN CHOICE, log entry 55). -/
def rsEncode (l : List Byte) : List Byte := ((piecesOf rsData l).map rsWord).flatten
/-- A codeword of the outer code is corrected up to 8 byte errors (R638). -/
def rsCorrects (errs : Nat) : Bool := decide (errs ≤ 8)

/-- The parity of the bits of a word. -/
def bitParity (w : BitVec 7) : Bool := (List.range 7).foldl (fun x i => xor x (w.getLsbD i)) false
/-- The two coded bits of the present bit and the six before it: the generators 133 and 171 in octal (R638). -/
def convBits (w : BitVec 7) : List Bool := [bitParity (w &&& 0x5B), bitParity (w &&& 0x79)]
/-- The window moves on to the next bit, which enters at the top. -/
def convShift (w : BitVec 7) (b : Bool) : BitVec 7 := (w >>> 1) ||| (if b then 0x40 else 0)
/-- The inner code from a window on. -/
def convFrom : BitVec 7 → List Bool → List Bool
  | _, [] => []
  | w, b :: l => convBits (convShift w b) ++ convFrom (convShift w b) l
/-- The inner code: rate 1/2, constraint length 7, terminated with 6 zero bits (R638). -/
def convEncode (l : List Bool) : List Bool := convFrom 0 (l ++ List.replicate 6 false)

/-- The bits of a byte, most significant first (DESIGN CHOICE, log entry 55). -/
def byteBits (b : Byte) : List Bool := (List.range 8).map (fun i => b.getLsbD (7 - i))
/-- The coded bits of a payload (R638). -/
def hdgCoded (l : List Byte) : List Bool := if l = [] then [] else convEncode ((rsEncode l).map byteBits).flatten

/-- A position into an order by keys. -/
def ilvInsert (key : Nat → Nat) (i : Nat) : List Nat → List Nat
  | [] => [i]
  | j :: l => if key i ≤ key j then i :: j :: l else j :: ilvInsert key i l
/-- The order in which the interleaver sends the positions of a span of `n` coded bits over `depth` symbols: some order of all of them,
free (R638 gives none; log entry 7). -/
def ilvOrder (depth n : Nat) : List Nat := (List.range n).foldr (ilvInsert (Config.ilvKey depth n)) []
/-- A span of coded bits interleaved. -/
def interleave (depth : Nat) (l : List Bool) : List Bool := (ilvOrder depth l.length).map (fun i => l.getD i false)
/-- The symbols of a payload: spans of ILV symbols' bits are interleaved, a shorter frame or rest over its own length (R638). -/
def hdgSymbols (bits ilv : Nat) (payload : List Byte) : List (List Bool) :=
  piecesOf bits (((piecesOf (bits * ilv) (hdgCoded payload)).map (fun l => interleave ((l.length + bits - 1) / bits) l)).flatten)

/-- A header as its eight bytes' worth, with its check byte (R637). -/
def hdgHeader (type mode src dst zc bytes ilv seq : Nat) : BitVec 64 :=
  let h := BitVec.ofNat 64 (type % 16 * 2 ^ 60 + mode % 4 * 2 ^ 58 + src % 256 * 2 ^ 50 + dst % 256 * 2 ^ 42 + zc % 4096 * 2 ^ 30 +
    bytes % 2048 * 2 ^ 19 + ilv % 128 * 2 ^ 12 + seq % 16 * 2 ^ 8)
  h ||| (crc8 ((List.range 7).map (fun i => (h >>> (56 - 8 * i)).setWidth 8))).setWidth 64

/-- The mode that a receiver advertises for a frame of a mean SNR in 0.25 dB (R639, Table: Mode thresholds). -/
def hdgAdvert (snr : Nat) : Nat := if 72 ≤ snr then 3 else if 48 ≤ snr then 2 else if 24 ≤ snr then 1 else 0

/-- The cycles of a symbol of 1.44 ms (R636). -/
def hdgSymbol : Nat := 288000
/-- The 5120's time from its last rising zero crossing to an instant, in 10 µs; 0xFFF when it has none (R637, R650). -/
def hdgZcAt (c : Chip) (at' : Nat) : Nat :=
  let p := c.f Reg.HDG_STAT 0 16
  match c.hdg.zcAt with
  | some t => if c.b Reg.HDG_STAT 30 ∧ p ≠ 0 then (((at' : Int) - t) % (p * 2000)).toNat / 2000 else 0xFFF
  | none => 0xFFF

/-- What a frame carries to the line: its TYPE, MODE, DST, SEQ, frame counter, route header and payload. -/
structure HdgOut where
  type : Nat
  mode : Nat := 0
  dst : Nat := 0xFF
  seq : Nat
  ctr : Nat
  eui : Nat
  route : List Nat := []
  data : List Byte := []

/-- The payload as the line carries it: AES-128-CCM under the key of slot KEY_SLOT, with its tag of 8 bytes; an ACK has none (R644, R645;
log entry 7). -/
def hdgSealed (c : Chip) (o : HdgOut) : List Byte :=
  if o.type = 2 then []
  else (List.range (o.data.length + 8)).map (Config.ccmByte (c.cry.slot (c.f Reg.HDG_CFG 8 8)) o.eui o.ctr o.data)

/-- A frame of the 5120 that ends now, as the line carried it: 8 preamble symbols, 4 of the header in ROBUST and the payload's in MODE, sent with
HDG.CFG.ILV_SYM (R637, R638). -/
def hdgFrame (e : Env) (c : Chip) (o : HdgOut) : HdgFrame :=
  let ilv := c.f Reg.HDG_CFG 16 7
  let symbols := hdgSymbols (hdgSymbolBits c o.mode) ilv (hdgSealed c o)
  { hdr := hdgHeader o.type o.mode 0 o.dst (hdgZcAt c (e.time.up - hdgSymbol * (4 + symbols.length))) o.data.length ilv o.seq
    route := o.route
    symbols := symbols }

end Sys2Proof.Machine
end

