-- ==== Sys2Proof/Machine/Hedgerow.lean ====
section
/-! DEFINITION. Hedgerow site-wiring network (ch. 19): reception, duplicates, joining, routes, neighbour phase, sending with
its retries, the rings and the node table in LPDDR4X. -/
namespace Sys2Proof.Machine

/-- An effect on the Control and Service regions and on LPDDR4X. -/
def onChipMem (f : Env → Chip × List Host.Cell → Chip × List Host.Cell) (s : State) : State :=
  let r := f s.env (s.chip, s.mem)
  { s with chip := r.1, mem := r.2 }

/-- The registers and the memory that Hedgerow works on. -/
abbrev ChipMem := Chip × List Host.Cell

/-- A peer by short address. -/
def Chip.hdgPeer (c : Chip) (a : Nat) : HdgPeer := tget (fun _ => {}) c.hdg.peers a
/-- The same written. -/
def Chip.setHdgPeer (c : Chip) (a : Nat) (p : HdgPeer) : Chip :=
  { c with hdg := { c.hdg with peers := tset (fun _ => ({} : HdgPeer)) c.hdg.peers a p } }
/-- Hedgerow's own state changed. -/
def Chip.onHdg (c : Chip) (f : HdgSt → HdgSt) : Chip := { c with hdg := f c.hdg }

/-- The ring base (HDG.RING_LO, RING_HI). -/
def hdgBase (c : Chip) : Nat := c.n Reg.HDG_RING_LO + 2 ^ 32 * c.n Reg.HDG_RING_HI
/-- A node table entry (R652); its four words follow one another. -/
def hdgNode (c : Chip) (a : Nat) : Nat := hdgBase c + 0x40000 + 16 * a
/-- The EUI in a node table entry; 0 for an unused one. -/
def hdgEui (cm : ChipMem) (a : Nat) : Nat :=
  (memWord cm.2 (hdgNode cm.1 a)).toNat + 2 ^ 32 * (memWord cm.2 (hdgNode cm.1 a + 4)).toNat
/-- A lower-indexed entry carries the same EUI (R646). -/
def hdgDup (cm : ChipMem) (a : Nat) : Bool :=
  decide (hdgEui cm a ≠ 0) && (List.range a).any (fun b => 1 ≤ b && hdgEui cm b == hdgEui cm a)
/-- The entry serves a node: it carries an EUI that no lower one carries. -/
def hdgUsed (cm : ChipMem) (a : Nat) : Bool := decide (1 ≤ a ∧ a ≤ 240 ∧ hdgEui cm a ≠ 0) && !hdgDup cm a

/-- The addresses of nodes, 1 to 240. -/
def hdgAddrs : List Nat := (List.range 240).map (· + 1)

/-- Hedgerow runs: present, enabled, and its region running. -/
def hdgOn (e : Env) (c : Chip) : Bool := e.part.hasHdg && c.b Reg.HDG_CFG 31 && c.svc
/-- The chip may drive the line: its role is SOLO or ACTIVE (R654). -/
def hdgMaySend (c : Chip) : Bool := c.roleIs 0 || c.roleIs 1
/-- HDG.STAT.DRV_ON formed (R654, R642). -/
def hdgShowDrv (e : Env) (c : Chip) : Chip :=
  c.setB Reg.HDG_STAT 31 (hdgOn e c && hdgMaySend c && !c.hdg.off)

/-- A frame dropped: RX_DROP set and counted. -/
def hdgDrop (c : Chip) : Chip := (c.setB Reg.HDG_EVT 4 true).sat Reg.HDG_CNT 0 8 1
/-- A frame failed: TX_FAIL set and counted. -/
def hdgFail (c : Chip) : Chip := (c.setB Reg.HDG_EVT 1 true).sat Reg.HDG_CNT 8 8 1

/-- The beacon period in cycles. -/
def hdgPeriod (c : Chip) : Nat := c.f Reg.HDG_ROUTE 0 16 * 200000000
/-- The mean SNR of the last frames from a node heard within four beacon periods (R647). -/
def hdgMean (e : Env) (c : Chip) (a : Nat) : Option Nat :=
  let p := c.hdgPeer a
  match p.heard with
  | some t => if e.time.up ≤ t + 4 * hdgPeriod c ∧ p.snrs ≠ [] then some (p.snrs.sum / p.snrs.length) else none
  | none => none
/-- The SNR that `b` reports of frames from `a`; address 0 is the 5120 itself. -/
def hdgHears (e : Env) (c : Chip) (b a : Nat) : Option Nat :=
  if b = 0 then hdgMean e c a else ((c.hdgPeer b).list.find? (fun x => x.1 == a)).map (·.2)
/-- The SNR of a link: the lower of its two directions; none where either is missing (R647). -/
def hdgLink (e : Env) (c : Chip) (a b : Nat) : Option Nat :=
  match hdgHears e c a b, hdgHears e c b a with
  | some x, some y => some (min x y)
  | _, _ => none
/-- The cost of a link of SNR `s` (R648). -/
def hdgCost (c : Chip) (s : Nat) : Nat := min 15 (1 + (120 - s) / 8) + c.f Reg.HDG_ROUTE 28 4

/-- A route: its cost and its addresses after the 5120, in order. -/
abbrev HdgRoute := Nat × List Nat
/-- The order of routes: cost, then links, then the first hop's address (R648). -/
def hdgBetter (x y : HdgRoute) : Bool :=
  x.1 < y.1 || (x.1 == y.1 && (x.2.length < y.2.length ||
    (x.2.length == y.2.length && x.2.headD 0 < y.2.headD 0)))
/-- The better of an optional route and a new one. -/
def hdgPick (x : Option HdgRoute) (y : HdgRoute) : Option HdgRoute :=
  match x with
  | none => some y
  | some z => if hdgBetter y z then some y else some z
/-- Routes of exactly one link more: each known route carried on over each link of its last node. -/
def hdgExtend (e : Env) (c : Chip) (nodes : List Nat) (m : List (Nat × HdgRoute)) : List (Nat × HdgRoute) :=
  nodes.filterMap (fun v =>
    (m.foldl (fun best x =>
      if x.2.2.contains v then best
      else match hdgLink e c x.1 v with
        | some s => hdgPick best (x.2.1 + hdgCost c s, x.2.2 ++ [v])
        | none => best) none).map (fun r => (v, r)))
/-- The best route to each node with at most `h` further links. -/
def hdgSearch (e : Env) (c : Chip) (nodes : List Nat) : Nat → List (Nat × HdgRoute) → List (Nat × HdgRoute) →
    List (Nat × HdgRoute)
  | 0, _, best => best
  | h + 1, m, best =>
    let m1 := hdgExtend e c nodes m
    let best1 := nodes.filterMap (fun v =>
      let old := (best.find? (fun x => x.1 == v)).map (·.2)
      match (m1.find? (fun x => x.1 == v)).map (·.2) with
      | some r => (hdgPick old r).map (fun r => (v, r))
      | none => old.map (fun r => (v, r)))
    hdgSearch e c nodes h m1 best1
/-- The cost of a path over the present links; none where a link is missing, the path too long or too dear (R648). -/
def hdgPathCost (e : Env) (c : Chip) (path : List Nat) : Option Nat :=
  let go := path.foldl (fun (x : Option Nat × Nat) v =>
    (match x.1, hdgLink e c x.2 v with
     | some k, some s => some (k + hdgCost c s)
     | _, _ => none, v)) (some 0, 0)
  match go.1 with
  | some k => if path ≠ [] ∧ path.length ≤ c.f Reg.HDG_ROUTE 20 4 ∧ k ≤ 255 then some k else none
  | none => none

/-- Words 2 and 3 of a node table entry written, WSEQ advanced (R652). -/
def hdgWriteNode (a : Nat) (w2 w3 : Nat) (cm : ChipMem) : ChipMem :=
  let at3 := hdgNode cm.1 a + 12
  let seq := ((memWord cm.2 at3).toNat % 256 + 1) % 256
  (cm.1, memWrWord (memWrWord cm.2 (hdgNode cm.1 a + 8) (word w2)) at3 (word (w3 / 256 * 256 + seq)))

/-- One node's route chosen, logged on a change, and written (R648, R658). -/
def hdgRouteNode (e : Env) (best : List (Nat × HdgRoute)) (a : Nat) (cm : ChipMem) : ChipMem :=
  let c := cm.1
  let p := c.hdgPeer a
  let w2 := (memWord cm.2 (hdgNode c a + 8)).toNat
  let w3 := (memWord cm.2 (hdgNode c a + 12)).toNat
  let was := w2.testBit 11
  let new := if hdgUsed cm a && p.joined then
      ((best.find? (fun x => x.1 == a)).map (·.2)).filter (fun r => r.1 ≤ 255) else none
  let old := if hdgUsed cm a && p.joined then hdgPathCost e c p.path else none
  let use : Option HdgRoute := match old, new with
    | some k, some r => if r.1 + c.f Reg.HDG_ROUTE 24 4 ≤ k ∧ r.2 ≠ p.path then some r else some (k, p.path)
    | some k, none => some (k, p.path)
    | none, r => r
  let path := (use.map (·.2)).getD []
  let cost := (use.map (·.1)).getD 0
  let next := if path.length ≤ 1 then 0 else path.headD 0
  let snr := min 255 ((hdgLink e c 0 a).getD 0)
  let n2 := next * 2 ^ 24 + cost * 2 ^ 16 + path.length * 2 ^ 12 + (if use.isSome then 2 ^ 11 else 0) + w2 % 2 ^ 11 / 2 ^ 7 * 2 ^ 7
  let n3 := w3 / 65536 * 65536 + snr * 256
  let c1 := c.setHdgPeer a { p with path := path }
  let c2 := if path ≠ p.path ∧ path ≠ [] then
      (c1.setB Reg.HDG_EVT 3 true).log1 e 0x23 0 0x02 (next * 65536 + cost * 256 + a) else c1
  let c3 := if was ∧ use.isNone then c2.log1 e 0x23 0 0x01 a else c2
  if n2 = w2 ∧ n3 / 256 = w3 / 256 then (c3, cm.2) else hdgWriteNode a n2 n3 (c3, cm.2)

/-- ROUTE_RECOMPUTE (R648): the routes to every joined node, the node table and HDG.STAT.NODES; entries with a duplicate EUI
are ignored and set DUP_EUI (R646). -/
def hdgRecompute (e : Env) (cm : ChipMem) : ChipMem :=
  let dup := hdgAddrs.any (hdgDup cm)
  let c := if dup then cm.1.setB Reg.HDG_EVT 8 true else cm.1
  let nodes := hdgAddrs.filter (fun a => hdgUsed cm a && (c.hdgPeer a).joined)
  let best := hdgSearch e c nodes (c.f Reg.HDG_ROUTE 20 4) [(0, (0, []))] []
  let written := hdgAddrs.filter (fun a => decide (hdgEui cm a ≠ 0))
  let r := eachOf written (hdgRouteNode e best) (c, cm.2)
  let reach := written.filter (fun a => (memWord r.2 (hdgNode r.1 a + 8)).toNat.testBit 11)
  (r.1.setF Reg.HDG_STAT 16 8 reach.length, r.2)

/-- The header's check byte holds (R637). -/
def hdgCrcOk (h : BitVec 64) : Bool :=
  crc8 ((List.range 7).map (fun i => (h >>> (56 - 8 * i)).setWidth 8)) == h.setWidth 8

/-- A field of the PHY header. -/
def hdgF (x : HdgRx) (lo w : Nat) : Nat := (x.hdr.toNat >>> lo) % 2 ^ w

/-- θ, the sector and whether it is certain (R651). -/
def hdgPhase (r zc p : Nat) : Nat × Nat × Bool :=
  if p = 0 then (0, 0, false)
  else
    let theta := (((r : Int) - zc) % p).toNat
    let sec := (theta * 6 + p / 2) / p
    let d : Int := (theta : Int) * 6 - sec * p
    (theta, sec % 6, decide (d.natAbs ≤ p / 4))

/-- The neighbour phase of a frame, where it gives one: θ, sector, valid (R651). -/
def hdgFramePhase (c : Chip) (x : HdgRx) : Option (Nat × Nat × Bool) :=
  match x.r with
  | some r => if hdgF x 30 12 = 0xFFF then none else
      let q := hdgPhase r (hdgF x 30 12) (c.f Reg.HDG_STAT 0 16)
      some (q.1, q.2.1, q.2.2 && c.b Reg.HDG_STAT 30)
  | none => none

/-- What every frame tells of its sender: SNR, time of hearing, phase in the node table (R647, R651). -/
def hdgNote (e : Env) (x : HdgRx) (cm : ChipMem) : ChipMem :=
  let src := hdgF x 50 8
  let p := cm.1.hdgPeer src
  let c := cm.1.setHdgPeer src { p with snrs := (x.snr :: p.snrs).take 8, heard := some e.time.up }
  match hdgFramePhase c x with
  | some q =>
    if hdgUsed cm src then
      let w2 := (memWord cm.2 (hdgNode c src + 8)).toNat
      let w3 := (memWord cm.2 (hdgNode c src + 12)).toNat
      hdgWriteNode src (w2 / 2 ^ 11 * 2 ^ 11 + q.2.1 * 2 ^ 8 + (if q.2.2 then 2 ^ 7 else 0)) (q.1 * 65536 + w3 % 65536) (c, cm.2)
    else (c, cm.2)
  | none => (c, cm.2)

/-- The receive and transmit indices. -/
def hdgRxWr (c : Chip) : Nat := c.f Reg.HDG_HW_IDX 16 7
/-- TX_RD. -/
def hdgTxRd (c : Chip) : Nat := c.f Reg.HDG_HW_IDX 0 7
/-- RX_RD. -/
def hdgRxRd (c : Chip) : Nat := c.f Reg.HDG_SW_IDX 16 7
/-- TX_WR. -/
def hdgTxWr (c : Chip) : Nat := c.f Reg.HDG_SW_IDX 0 7

/-- A frame written to the receive ring, or dropped where the ring is full (R652). -/
def hdgDeliver (x : HdgRx) (cm : ChipMem) : ChipMem :=
  let c := cm.1
  let i := hdgRxWr c
  if (i + 128 - hdgRxRd c) % 128 = 64 then (hdgDrop c, cm.2)
  else
    let a := hdgBase c + 0x480 * (i % 64)
    let ph := hdgFramePhase c x
    let w0 := hdgF x 60 4 * 2 ^ 28 + hdgF x 50 8 * 2 ^ 20 + hdgF x 19 11
    let w3 := min 255 x.snr * 2 ^ 24 + (match ph with
      | some q => q.2.1 * 2 ^ 21 + (if q.2.2 then 2 ^ 20 else 0)
      | none => 0)
    let m1 := memWrWords cm.2 a [word w0, x.ts.setWidth 32, (x.ts >>> 32).setWidth 32, word w3]
    let m2 := memPut m1 (a + 0x10) (x.data.take (min 1024 (hdgF x 19 11)))
    (((c.setF Reg.HDG_HW_IDX 16 7 (i + 1)).setB Reg.HDG_EVT 0 true).sat Reg.HDG_CNT 16 16 1, m2)

/-- The frame counter of an EUI accepted (R645). -/
def hdgAccept (eui ctr : Nat) (c : Chip) : Chip :=
  c.onHdg (fun h => { h with ctrs := tset (fun _ => (none : Option Nat)) h.ctrs eui (some ctr) })
/-- The payload is decoded: its depth is one that a node must decode, and the outer code corrects every codeword (R638). -/
def hdgDecodes (x : HdgRx) : Bool := decide (1 ≤ hdgF x 12 7 ∧ hdgF x 12 7 ≤ 111) && x.errs.all rsCorrects
/-- The payload is decoded, its tag checks and its counter is new (R638, R645): one that the outer code cannot correct fails its tag
(DEDUCED, log entry 55). -/
def hdgAuth (eui : Nat) (x : HdgRx) (c : Chip) : Bool :=
  hdgDecodes x && x.tagOk && (match tget (fun _ => (none : Option Nat)) c.hdg.ctrs eui with
    | some k => decide (k < x.ctr)
    | none => true)

/-- An entry of the transmit ring. -/
def hdgTxAddr (c : Chip) : Nat := hdgBase c + 0x20000 + 0x480 * (hdgTxRd c % 64)
/-- The frame at TX_RD completes with a result: written to its entry, the index advanced (R652). -/
def hdgComplete (result : Nat) (cm : ChipMem) : ChipMem :=
  let a := hdgTxAddr cm.1
  let m := memWrWord cm.2 a (fset (memWord cm.2 a) 18 2 result)
  let c := cm.1.setF Reg.HDG_HW_IDX 0 7 (hdgTxRd cm.1 + 1)
  (c.onHdg (fun h => { h with tries := 0, waiting := false }), m)

/-- The unicast frame at TX_RD has gone without its ACK: a retry is due, or it fails (R643, R644). -/
def hdgRetry (cm : ChipMem) : ChipMem :=
  if cm.1.hdg.tries < cm.1.f Reg.HDG_CFG 0 4 then
    (cm.1.onHdg (fun h => { h with tries := h.tries + 1, be := min 7 (h.be + 1), waiting := false }), cm.2)
  else hdgComplete 1 (hdgFail cm.1, cm.2)

/-- The neighbour that a frame for `d` goes to: the route's first hop, or the node itself. -/
def hdgHop (c : Chip) (d : Nat) : Nat :=
  let p := (c.hdgPeer d).path
  if p.length ≤ 1 then d else p.headD d

/-- An ACK: the frame at TX_RD is sent when its ACK comes from the neighbour that it went to (R639, R644). -/
def hdgAcked (x : HdgRx) (cm : ChipMem) : ChipMem :=
  let src := hdgF x 50 8
  let c := cm.1.setHdgPeer src { cm.1.hdgPeer src with mode := hdgF x 58 2 }
  let peer := fget (memWord cm.2 (hdgTxAddr c)) 20 8
  if c.hdg.waiting && hdgHop c peer == src
  then hdgComplete 0 (c.onHdg (fun h => { h with be := 3 }), cm.2) else (c, cm.2)

/-- A JOIN (R646): an EUI of the allow-list is answered with its address; another one is
dropped and counted without an event. -/
def hdgJoin (e : Env) (x : HdgRx) (cm : ChipMem) : ChipMem :=
  if hdgAuth x.eui.toNat x cm.1 then
    let c := hdgAccept x.eui.toNat x.ctr cm.1
    match hdgAddrs.find? (fun a => hdgUsed cm a && hdgEui cm a == x.eui.toNat) with
    | some a =>
      if hdgMaySend c then
        let c1 := (c.setHdgPeer a { c.hdgPeer a with joined := true }).onHdg (fun h => { h with joins := h.joins ++ [a] })
        ((c1.setB Reg.HDG_EVT 2 true).log1 e 0x23 0 0x01 (2 ^ 31 + a), cm.2)
      else (c, cm.2)
    | none => (c.sat Reg.HDG_CNT 0 8 1, cm.2)
  else (hdgDrop cm.1, cm.2)

/-- A frame to be forwarded to the next address of its route header (R649). -/
def hdgFwd (eui : Nat) (x : HdgRx) : HdgFwd :=
  { type := hdgF x 60 4, next := x.route.headD 0, rest := x.route.drop 1, eui := eui, ctr := x.ctr,
    data := x.data.take (min 1024 (hdgF x 19 11)) }

/-- DATA, MGMT and BEACON after the header: duplicates, the tag and counter, then delivery or the beacon's list. -/
def hdgBody (e : Env) (x : HdgRx) (cm : ChipMem) : ChipMem :=
  let src := hdgF x 50 8
  let type := hdgF x 60 4
  let uni := decide ((type = 1 ∨ type = 5) ∧ hdgF x 42 8 ≠ 0xFF)
  let eui := hdgEui cm src
  let owe (c : Chip) : Chip := if uni && hdgMaySend c then c.onHdg (fun h => { h with acks := h.acks ++ [src] }) else c
  let p := cm.1.hdgPeer src
  if p.lastSeq = some (hdgF x 8 4) ∧ type ≠ 3 then (owe (hdgDrop cm.1), cm.2)
  else if (src ≠ 0 ∧ !hdgUsed cm src) ∨ !hdgAuth eui x cm.1 then (hdgDrop cm.1, cm.2)
  else
    let c := hdgAccept eui x.ctr (cm.1.setHdgPeer src { p with lastSeq := some (hdgF x 8 4) })
    let c := if src = 0 then c.onHdg (fun h => { h with ctr := max h.ctr x.ctr }) else c
    if type = 3 then
      let q := c.hdgPeer src
      hdgRecompute e (c.setHdgPeer src { q with list := x.nbrs, joined := true }, cm.2)
    else if x.route ≠ [] then
      (owe (if hdgMaySend c then c.onHdg (fun h => { h with forwards := h.forwards ++ [hdgFwd eui x] }) else c), cm.2)
    else hdgDeliver x (owe c, cm.2)

/-- HDG_FRAME_RECEIVED: a Hedgerow PHY frame is received, decoded, authenticated and delivered or dropped (R637 to R653). -/
def execHdgFrameReceived (x : HdgRx) (s : State) : Host.Outcome State Fault Refusal :=
  .next (onChipMem (fun e cm =>
    if hdgOn e cm.1 && hdgCrcOk x.hdr then
      let type := hdgF x 60 4
      let dst := hdgF x 42 8
      let cm1 := if type = 4 then cm else hdgNote e x cm
      if type = 4 then hdgJoin e x cm1
      else if type = 2 then (if dst = 0 then hdgAcked x cm1 else cm1)
      else if type = 3 ∨ ((type = 1 ∨ type = 5) ∧ (dst = 0 ∨ dst = 0xFF)) then hdgBody e x cm1
      else cm1
    else cm) s)

/-- The clipped samples and the peak current of a frame sent (R640). -/
def hdgLine (clips ipk : Nat) (c : Chip) : Chip :=
  let c1 := c.wr Reg.HDG_LINE (word (min 65535 ipk * 65536 + min 255 clips))
  if 0 < clips then c1.setB Reg.HDG_EVT 6 true else c1

/-- A frame has left: the line's figures, and the frame as the line carried it (R638, R640). -/
def hdgSend (e : Env) (clips ipk : Nat) (o : HdgOut) (c : Chip) : Chip :=
  hdgLine clips ipk (c.onHdg (fun h => { h with line := some (hdgFrame e c o) }))
/-- A frame of the 5120 leaves: its SEQ and its frame counter advance (R637, R645). -/
def hdgSent (e : Env) (clips ipk : Nat) (o : HdgOut) (c : Chip) : Chip :=
  hdgSend e clips ipk o (c.onHdg (fun h => { h with seq := (h.seq + 1) % 16, ctr := h.ctr + 1 }))

/-- What an ACK to a node carries: the mode advertised for the node's frame (R639, R644). -/
def hdgAckOut (c : Chip) (eui a : Nat) : HdgOut :=
  { type := 2, mode := hdgAdvert ((c.hdgPeer a).snrs.headD 0), dst := a, seq := c.hdg.seq, ctr := c.hdg.ctr, eui := eui }
/-- What the JOIN that answers a node carries (R646). -/
def hdgJoinOut (c : Chip) (eui a : Nat) : HdgOut :=
  { type := 4, dst := Config.joinDst a, seq := c.hdg.seq, ctr := c.hdg.ctr, eui := eui, data := (Config.hdgList 4 [(a, 0)]).take 1024 }
/-- What the 5120's BEACON carries: the neighbours heard in the last 4 beacon periods and their mean SNR (R647). -/
def hdgBeaconOut (e : Env) (c : Chip) (eui : Nat) : HdgOut :=
  let nbrs := hdgAddrs.filterMap (fun a => (hdgMean e c a).map (fun m => (a, m)))
  { type := 3, seq := c.hdg.seq, ctr := c.hdg.ctr, eui := eui, data := (Config.hdgList 3 nbrs).take 1024 }
/-- What a forwarded frame carries: the 5120 is its sender on this hop (R649; DEDUCED, log entry 55). -/
def hdgFwdOut (c : Chip) (f : HdgFwd) : HdgOut :=
  { type := f.type, mode := (c.hdgPeer f.next).mode, dst := f.next, seq := c.hdg.seq, ctr := f.ctr, eui := f.eui, route := f.rest,
    data := f.data }
/-- What the frame at TX_RD carries: to the route's first hop in the mode that it advertised, or a broadcast in ROBUST; a retry repeats its
SEQ and counter (R639, R644, R649). -/
def hdgRingOut (cm : ChipMem) : HdgOut :=
  let c := cm.1
  let a := hdgTxAddr c
  let w := memWord cm.2 a
  let d := fget w 20 8
  let hop := hdgHop c d
  let first := c.hdg.tries = 0
  { type := fget w 28 4, mode := if d = 0xFF then 0 else (c.hdgPeer hop).mode, dst := if d = 0xFF then 0xFF else hop
    seq := if first then c.hdg.seq else c.hdg.txSeq, ctr := if first then c.hdg.ctr else c.hdg.txCtr, eui := hdgEui cm 0
    route := if d = 0xFF then [] else (c.hdgPeer d).path.drop 1, data := memTake cm.2 (a + 0x10) (min 1024 (fget w 0 11)) }
/-- The frame at TX_RD leaves: at its first sending SEQ and frame counter advance, a retry repeats them (R637, R644, R645). -/
def hdgRingSent (e : Env) (clips ipk : Nat) (cm : ChipMem) : Chip :=
  let c := cm.1
  let o := hdgRingOut cm
  if c.hdg.tries = 0 then (hdgSent e clips ipk o c).onHdg (fun h => { h with txSeq := o.seq, txCtr := o.ctr }) else hdgSend e clips ipk o c

/-- The frame at TX_RD leaves: an entry of another TYPE is refused, a broadcast is done, a unicast awaits its ACK (R644,
R652). -/
def hdgSendRing (e : Env) (clips ipk : Nat) (cm : ChipMem) : ChipMem :=
  if hdgTxRd cm.1 = hdgTxWr cm.1 ∨ cm.1.hdg.waiting then cm
  else
    let w := memWord cm.2 (hdgTxAddr cm.1)
    if fget w 28 4 ≠ 1 ∧ fget w 28 4 ≠ 5 then hdgComplete 2 cm
    else
      let c := hdgRingSent e clips ipk cm
      if fget w 20 8 = 0xFF then hdgComplete 0 (c.onHdg (fun h => { h with be := 3 }), cm.2)
      else (c.onHdg (fun h => { h with waiting := true, sentAt := e.time.up }), cm.2)

/-- HDG_FRAME_SENT: after its backoff a frame has been transmitted (R643, R644, R649, R652). -/
def execHdgFrameSent (k : HdgTx) (clips ipk : Nat) (s : State) : Host.Outcome State Fault Refusal :=
  .next (onChipMem (fun e cm =>
    let c := cm.1
    if hdgOn e c && hdgMaySend c && !c.hdg.off then
      match k with
      | .ring => hdgSendRing e clips ipk cm
      | .ack => match c.hdg.acks with
          | a :: l => (hdgSent e clips ipk (hdgAckOut c (hdgEui cm 0) a) (c.onHdg (fun h => { h with acks := l })), cm.2)
          | [] => cm
      | .join => match c.hdg.joins with
          | a :: l => (hdgSent e clips ipk (hdgJoinOut c (hdgEui cm 0) a) (c.onHdg (fun h => { h with joins := l, be := 3 })), cm.2)
          | [] => cm
      | .forward => match c.hdg.forwards with
          | f :: l => (hdgSend e clips ipk (hdgFwdOut c f)
              (c.onHdg (fun h => { h with forwards := l, be := 3, seq := (h.seq + 1) % 16 })), cm.2)
          | [] => cm
      | .beacon => if c.hdg.beacon
          then (hdgSent e clips ipk (hdgBeaconOut e c (hdgEui cm 0)) (c.onHdg (fun h => { h with beacon := false, be := 3 })), cm.2) else cm
    else cm) s)

/-- HDG_ACK_TIMEOUT is due: 6 symbols of 1.44 ms have passed since the end of the frame that awaits its ACK (R636, R644). -/
def ackDue (e : Env) (c : Chip) : Bool := c.hdg.waiting && decide (c.hdg.sentAt + 6 * 288000 ≤ e.time.up)
/-- HDG_ACK_TIMEOUT: no ACK began within 6 symbols; the frame is retried or fails (R644). -/
def execHdgAckTimeout (s : State) : Host.Outcome State Fault Refusal :=
  .next (onChipMem (fun e cm => if ackDue e cm.1 then hdgRetry cm else cm) s)

/-- A BEACON falls due. -/
def hdgBeacon (e : Env) (c : Chip) : Chip := c.onHdg (fun h => { h with beacon := true, beaconAt := e.time.up })
/-- BEACON_TIMER is due: BEACON_S seconds since the last one, on a chip that may send (R647, R654). -/
def beaconDue (e : Env) (c : Chip) : Bool := hdgOn e c && hdgMaySend c && decide (c.hdg.beaconAt + hdgPeriod c ≤ e.time.up)
/-- BEACON_TIMER: a BEACON becomes due (R647), on a chip that may send (R654). -/
def execBeaconTimer (s : State) : Host.Outcome State Fault Refusal :=
  .next (onChip (fun e c => if beaconDue e c then hdgBeacon e c else c) s)

/-- DRV_TRIP: the line driver trips, on temperature or on clipping; a ring frame on the line is lost and counted as a failed
send, and its retry waits for the driver (R642, R655, R658). -/
def execDrvTrip (temp sending : Bool) (s : State) : Host.Outcome State Fault Refusal :=
  .next (onChipMem (fun e cm =>
    if hdgOn e cm.1 && !cm.1.hdg.off then
      let c1 := hdgShowDrv e (cm.1.onHdg (fun h => { h with off := true, offAt := e.time.up }))
      let c2 := (c1.setB Reg.HDG_EVT 5 true).log1 e 0x23 0 0x03 (if temp then 1 else 0)
      if sending && hdgTxRd c2 != hdgTxWr c2 && !c2.hdg.waiting then
        if fget (memWord cm.2 (hdgTxAddr c2)) 20 8 = 0xFF then hdgComplete 1 (hdgFail c2, cm.2)
        else if c2.hdg.tries < c2.f Reg.HDG_CFG 0 4 then hdgRetry (c2.sat Reg.HDG_CNT 8 8 1, cm.2)
        else hdgRetry (c2, cm.2)
      else (c2, cm.2)
    else cm) s)

/-- DRIVER_RESUME is due: 1 s since the trip (R642). -/
def driverDue (e : Env) (c : Chip) : Bool := c.hdg.off && decide (c.hdg.offAt + 200000000 ≤ e.time.up)
/-- DRIVER_RESUME: 1 s after a trip the driver resumes (R642). -/
def execDriverResume (s : State) : Host.Outcome State Fault Refusal :=
  .next (onChip (fun e c => if driverDue e c then hdgShowDrv e (c.onHdg (fun h => { h with off := false })) else c) s)

/-- ZC_LOST is due: the supervisor has seen no crossing for 50 ms (R650). -/
def zcDue (e : Env) (c : Chip) : Bool :=
  e.part.hasHdg && c.b Reg.HDG_STAT 30 && (match c.hdg.zcAt with | some t => decide (t + 10000000 ≤ e.time.up) | none => true)
/-- ZC_LOST: ZC_VALID is cleared (R650). -/
def execZcLost (s : State) : Host.Outcome State Fault Refusal :=
  .next (onChip (fun e c => if zcDue e c then c.setB Reg.HDG_STAT 30 false else c) s)

/-- A write of HDG.SW_IDX after its checks: each index is judged by itself (R652); one that breaks its rule keeps its value. -/
def hdgSwIdx (v : Word) (c : Chip) : Chip :=
  let rx := fget v 16 7
  let tx := fget v 0 7
  let rxOk := decide ((rx + 128 - hdgRxRd c) % 128 ≤ (hdgRxWr c + 128 - hdgRxRd c) % 128)
  let txOk := decide ((tx + 128 - hdgTxWr c) % 128 ≤ 64 - (hdgTxWr c + 128 - hdgTxRd c) % 128)
  let c1 := if rxOk then c.setF Reg.HDG_SW_IDX 16 7 rx else c
  let c2 := if txOk then c1.setF Reg.HDG_SW_IDX 0 7 tx else c1
  if rxOk && txOk then c2 else c2.setB Reg.HDG_EVT 9 true
/-- HDG_SW_IDX_WRITE: firmware advances RX_RD and TX_WR (R652). -/
def execHdgSwIdxWrite (p : Plane) (v : Word) (s : State) : Host.Outcome State Fault Refusal :=
  .next (onWrite p Reg.HDG_SW_IDX v (fun v s => onChip (fun _ c => hdgSwIdx v c) s) s)

/-- The chip leaves SOLO or ACTIVE (R654, R655): the frame at TX_RD that awaits its ACK is cut with RESULT 0x3, and what was
to be sent is dropped. -/
def hdgRoleCut (e : Env) (cm : ChipMem) : ChipMem :=
  let c := cm.1.onHdg (fun h => { h with acks := [], joins := [], forwards := [], beacon := false })
  let r := if c.hdg.waiting then hdgComplete 3 (c.setB Reg.HDG_EVT 7 true, cm.2) else (c, cm.2)
  (hdgShowDrv e r.1, r.2)

/-- The supervisor's sample of U1 in 0.1 V (R206, R650): a rising crossing sets ZC_VALID, and with the one before it gives the
line period in 10 µs. -/
def hdgCrossing (e : Env) (u1 : Int) (c : Chip) : Chip :=
  if !e.part.hasHdg || !c.svc then c
  else
    let h := c.hdg
    let rose : Bool := match h.u1 with | some x => decide (x < 0) && decide (0 ≤ u1) | none => false
    let c1 := c.onHdg (fun h => { h with u1 := some u1, zcAt := if rose then some e.time.up else h.zcAt })
    if !rose then c1
    else
      let c2 := c1.setB Reg.HDG_STAT 30 true
      match h.zcAt with
      | some t => c2.setF Reg.HDG_STAT 0 16 ((e.time.up - t) / 2000)
      | none => c2

end Sys2Proof.Machine
end

