-- ==== Sys2Proof/Machine/Snapshots.lean ====
section
/-! DEFINITION. Coherent snapshots and the software entries of the event log (ch. 5). -/
namespace Sys2Proof.Machine

/-- The pages that are present on a part. -/
def presentPages (pt : Part) : List Page :=
  pageRuns.flatMap (fun r => ((List.range r.n).filterMap (fun i => pageAt (r.base + 0x1000 * i))).filter (pagePresent pt))

/-- What a capture writes into a bank: the registers of every region with PG_STAT of every present page (R162). -/
def snapBankOf (s : State) : SnapBank :=
  let put (r : Region) (t : RegTable) : RegTable :=
    ((presentPages s.env.part).filter (fun g => decide (regionOf g.base = r))).foldl
      (fun t g => rset t (Reg.PG_STAT g.base) (pgStat s g.base)) t
  { seq := s.env.time.frameNo.setWidth 32, chip := put .service (put .control (phySnap s.env s.chip).regs), heath := put .heath s.heath.regs,
    met := put .metrology s.met.regs }

/-- A plane's hold is set (SNP.HOLDp.HOLD). -/
def snapHeld (c : Chip) (p : Nat) : Bool := c.b (Reg.SNP_HOLD p) 0
/-- A plane's reader written. -/
def Chip.setSnap (c : Chip) (p : Nat) (q : SnapPlane) : Chip :=
  { c with snaps := tset (fun _ => ({} : SnapPlane)) c.snaps p q }

/-- A capture for one plane (R163, R165): the bank that is not read is filled, and becomes the read bank unless it is held. -/
def snapPlane (b : SnapBank) (p : Nat) (c : Chip) : Chip :=
  let q := c.snap p
  let q1 := if q.readB then { q with bankA := b } else { q with bankB := b }
  if snapHeld c p then c.setSnap p { q1 with fresh := true, age := q.age + 1 }
  else c.setSnap p { q1 with readB := !q.readB }

/-- SNAPSHOT_CAPTURE (R162): in the boundary cycle, after Imposition, for each plane's pair of banks. -/
def snapCapture (s : State) : State :=
  let b := snapBankOf s
  onChip (fun _ c => eachBelow 3 (snapPlane b) c) s

/-- The end of a plane's hold (R165): the plane reads the most recent bank. -/
def snapRelease (p : Nat) (expired : Bool) (c : Chip) : Chip :=
  let q := c.snap p
  let c1 := c.setSnap p { q with readB := if q.fresh then !q.readB else q.readB, fresh := false, age := 0 }
  let c2 := (c1.setB (Reg.SNP_HOLD p) 0 false).wr (Reg.SNP_HELD_SEQ p) 0
  if expired then c2.setB (Reg.SNP_HOLD p) 1 true else c2

/-- Every hold in force is released with EXPIRED: the Control region restarts or the role changes (R166). -/
def snapReleaseAll (c : Chip) : Chip := eachBelow 3 (fun p c => if snapHeld c p then snapRelease p true c else c) c

/-- A write of SNP.HOLD after its checks (R165): EXPIRED clears where it carries a 1, HOLD sets or ends the hold. -/
def snapHoldWrite (p : Nat) (v : Word) (c : Chip) : Chip :=
  let c1 := if fbit v 1 then c.setB (Reg.SNP_HOLD p) 1 false else c
  if fbit v 0 then
    if snapHeld c p then c1
    else
      let q := c.snap p
      ((c1.setSnap p { q with fresh := false, age := 0 }).setB (Reg.SNP_HOLD p) 0 true).wr (Reg.SNP_HELD_SEQ p) q.read.seq
  else if snapHeld c p then snapRelease p false c1 else c1

/-- SNAPSHOT_HOLD_SET: a write of 1 to the HOLD bit of a plane's own cell; `clr` is the bit that clears EXPIRED (R165). -/
def execSnapshotHoldSet (p : Plane) (clr : Bool) (s : State) : Host.Outcome State Fault Refusal :=
  .next (if s.chip.ctl then
    onWrite p (Reg.SNP_HOLD (planeCode p)) (word (if clr then 3 else 1)) (fun v => onChip (fun _ => snapHoldWrite (planeCode p) v)) s
    else s)

/-- SNAPSHOT_HOLD_CLEAR: a write of 0 to the HOLD bit (R165). -/
def execSnapshotHoldClear (p : Plane) (clr : Bool) (s : State) : Host.Outcome State Fault Refusal :=
  .next (if s.chip.ctl then
    onWrite p (Reg.SNP_HOLD (planeCode p)) (word (if clr then 2 else 0)) (fun v => onChip (fun _ => snapHoldWrite (planeCode p) v)) s
    else s)

/-- HOLD_EXPIRED: the 8th boundary since a plane's hold was set has passed (R165). -/
def execHoldExpired (p : Plane) (s : State) : Host.Outcome State Fault Refusal :=
  .next (onChip (fun _ c =>
    if c.ctl && decide (planeCode p < 3) && snapHeld c (planeCode p) && decide (8 ≤ (c.snap (planeCode p)).age) then
      snapRelease (planeCode p) true c
    else c) s)

/-- A write of SNP.LOG_PUT after its checks (R171): a software entry, or RSVD_WR for a class of 0xF0 and above. -/
def logPut (p : Nat) (cls : Nat) (s : State) : State :=
  if 0xF0 ≤ cls then s.perr 0x40003000 0
  else onChip (fun e c => c.log1 e 0x04 p cls (c.n (Reg.SNP_LOG_DETAIL p))) s

/-- LOG_PUT: a plane writes its cell's LOG_PUT word (R171). -/
def execLogPut (p : Plane) (v : Word) (s : State) : Host.Outcome State Fault Refusal :=
  .next (if s.chip.ctl then onWrite p (Reg.SNP_LOG_PUT (planeCode p)) v (fun v => logPut (planeCode p) (fget v 0 8)) s else s)

end Sys2Proof.Machine
end

