-- ==== Sys2Proof/Machine/Quoin.lean ====
section
/-! DEFINITION. The Quoin lines and the roles of the pair (ch. 17): claim, release, the gate, and what a change of role does.
Also the copies of the mirrored state that a boundary commits and an anchor holds (R579, R587). -/
namespace Sys2Proof.Machine

/-- The pair's own state changed. -/
def Chip.onPair (c : Chip) (f : PairSt → PairSt) : Chip := { c with pair := f c.pair }

/-- The jobs of a CRY ring. -/
def CrySt.ring (x : CrySt) (k : Nat) : List CryJob := tget (fun _ => []) x.rings k
/-- The same written. -/
def CrySt.setRing (x : CrySt) (k : Nat) (l : List CryJob) : CrySt := { x with rings := tset (fun _ => []) x.rings k l }
/-- A slot filled with a key. -/
def CrySt.setSlot (x : CrySt) (n : Nat) (v : BitVec 256) : CrySt := { x with slots := tset (fun _ => 0) x.slots n v }
/-- A slot filled with a new key (R408: its value is the firmware's and CRY's own matter). -/
def CrySt.fill (x : CrySt) (n : Nat) : CrySt := { x.setSlot n (Config.keyMade x.made) with made := x.made + 1 }

/-- The role in QN.STAT: 0 SOLO, 1 ACTIVE, 2 STANDBY, 3 JOINING, 4 BARRED. -/
def Chip.role (c : Chip) : Nat := c.f Reg.QN_STAT 29 3
/-- A key slot of an active chip is copied to the partner's CRY block, under the key of the link's training (R606). -/
def cryCopy (n : Fin 256) (c : Chip) : Chip :=
  if c.role == 1 && c.linkUp && c.pair.keyed then c.onPair (fun p => { p with sesOut := p.sesOut ++ [(0, .key n (c.cry.slot n) true)] }) else c

/-- The partner line reads low (QN.STAT.PARTNER_LOW). -/
def Chip.partnerLow (c : Chip) : Bool := c.b Reg.QN_STAT 25
/-- The ROLE_PRI strap as sampled at the start (QN.STAT.PRI). -/
def Chip.pri (c : Chip) : Bool := c.b Reg.QN_STAT 27

/-- The gate closes (R573): PWM outputs trip-safe, aux switches into their keep window. -/
def gateClose (e : Env) (c : Chip) : Chip :=
  if c.gate then
    let c1 := c.setB Reg.QN_STAT 28 false
    pwmHoldAll (aswGateClose e c1)
  else c

/-- The gate opens (R573): PWM outputs run from the PWM state, aux channels take their commanded states. -/
def gateOpen (e : Env) (c : Chip) : Chip :=
  if c.gate then c else aswFollowAll e (pwmHoldAll (c.setB Reg.QN_STAT 28 true))

/-- QUOIN_RELEASE (R575): the chip lets its line go and its gate closes. -/
def quoinRelease (e : Env) (c : Chip) : Chip :=
  let c1 := if c.pair.low then
      ((c.onPair (fun p => { p with low := false, bothAt := none })).setB Reg.QN_EVT 2 true).setB Reg.QN_STAT 24 false
    else c
  gateClose e (c1.onPair (fun p => { p with wait := none, claimAt := none }))

/-- QUOIN_CLAIM (R571, R572): the chip pulls its line low; with the partner line low a ROLE_PRI chip stays blocked and any other
yields within two cycles. `cause` is what the role change will record. -/
def quoinClaim (e : Env) (cause : Nat) (c : Chip) : Chip :=
  let c1 := c.onPair (fun p => { p with cause := cause })
  if c.pair.low then c1
  else if c.partnerLow then
    if c.pri then (c1.onPair (fun p => { p with low := true })).setB Reg.QN_STAT 24 true
    else c1.setB Reg.QN_EVT 4 true
  else c1.onPair (fun p => { p with low := true, bothAt := some e.time.up })

/-- A change of role (R567, R611), with its cause: shown, flagged and logged; snapshot holds are released (R166), and
Hedgerow's driver is cut where the chip leaves SOLO or ACTIVE and beacons at once where it becomes ACTIVE (R654), and on an ACTIVE chip halted
cores resume (24 R743) and MIR.STAT.ERR reads 0. -/
def roleSet (r cause : Nat) (s : State) : State :=
  let old := s.chip.role
  if old = r then s
  else
    let s1 := onChip (fun e c =>
      let c1 := (c.setF Reg.QN_STAT 29 3 r).setF Reg.QN_STAT 0 4 (if r = 3 then 1 else 0)
      let c2 := (snapReleaseAll (c1.setB Reg.QN_EVT 0 true)).onPair (fun p => { p with acked := p.written })
      c2.log1 e 0x18 0 0x01 (r * 2 ^ 29 + old * 2 ^ 26 + cause)) s
    let s1 := if r = 1 then onChip (fun _ c => (c.setF Reg.MIR_STAT 0 16 0).onHif (fun h => { h with halted := 0 })) s1 else s1
    if old ≤ 1 ∧ 2 ≤ r then onChipMem hdgRoleCut s1
    else onChip (fun e c => hdgShowDrv e (if r = 1 && hdgOn e c then hdgBeacon e c else c)) s1

/-- A planned swap is pending (QN.SWAP_AT). -/
def swapPending (c : Chip) : Bool := c.rd Reg.QN_SWAP_AT != 0
/-- A swap ends, done or cancelled with a cause (R601, R602, R611): flagged and logged, QN.SWAP and SWAP_AT clear. -/
def swapEnd (e : Env) (cancel : Option Nat) (c : Chip) : Chip :=
  if !swapPending c then c
  else
    let c1 := ((c.wr Reg.QN_SWAP 0).wr Reg.QN_SWAP_AT 0).onPair (fun p => { p with moves := 0, swapping := false, swapIn := false })
    match cancel with
    | none => ((c1.setB Reg.QN_EVT 9 true).sat Reg.QN_CNT 16 8 1).log1 e 0x18 0 0x02 (2 ^ 31)
    | some k => (c1.setB Reg.QN_EVT 10 true).log1 e 0x18 0 0x02 k

/-- A page whose state belongs to the mirrored state (R579). -/
def mirroredKind (k : PageKind) : Bool :=
  match k with
  | .alcS | .alcO | .xpt | .movS | .movM | .cen | .cenAx | .thm | .prt | .ses | .pwm | .asw => true
  | _ => false

/-- A word of crosspoint marks (R221). -/
def isMarkWord (a : Nat) : Bool :=
  match pageAt a with | some g => g.kind == .xpt && decide (0x400 ≤ a - g.base) && (a - g.base) % 0x20 == 4 | none => false

/-- A word of the chip's own ring of shutdown records, which the pair does not share (R317). -/
def isRecordWord (a : Nat) : Bool :=
  a == Reg.THM_SDR_CNT || a == Reg.THM_SDR_SEL || (List.range 8).any (fun k => Reg.THM_SDR_W k == a)
/-- The words of latched shutdowns (R303). -/
def isShutWord (a : Nat) : Bool := a == Reg.THM_SHUT 0 || a == Reg.THM_SHUT 1

/-- A word of the mirrored state: a register of a mirrored page that is neither configuration nor page header nor fence map, and no
flag or counter that a local reader clears; of PWM the shadow registers (20 R665), of the aux switches none (21 R678). -/
def isMirrored (a : Nat) : Bool :=
  match pageAt a with
  | some g =>
    let off := a - g.base
    g.kind != .asw && (g.kind != .pwm || (decide (0x400 ≤ off) && (off % 0x40 == 8 || off % 0x40 == 0xC))) &&
    mirroredKind g.kind && !isRecordWord a && (g.kind != .prt || (decide (0x400 ≤ off) && off % 0x40 == 0x38)) && decide (0x40 ≤ off) && !(decide (0x380 ≤ off) && decide (off < 0x400)) &&
      (match regAt g a with | some (d, _) => !isStaged d && d.acc != .w1c && d.acc != .rc && d.acc != .wo | none => false)
  | none => false

/-- A table with the entries of another that meet a test, over those of its own that do not. -/
def tableMix (p : Nat → Bool) (own other : RegTable) : RegTable :=
  (other.filter (fun x => p x.1)).foldl (fun t x => rset t x.1 x.2) (own.filter (fun x => !p x.1))

/-- What the Allocator keeps of its own chip's intake supervisor (06 R206 to R210), over another copy of its state. -/
def supervisorOf (own other : AlcSt) : AlcSt :=
  { other with sag := own.sag, mag := own.mag, seen := own.seen, low := own.low, exc := own.exc, first := own.first, inBand := own.inBand }

/-- A fence-map word of a Control or Service page, which is part of the mirrored state (03 R97). -/
def mirroredMap (a : Nat) : Bool := inFenceMap a && (regionOf a == .control || regionOf a == .service)

/-- Words of the mirrored state that each chip keeps in its fault record: fence maps, marks and latched shutdowns. They are joined, and never put
back to an older state (R97, R221, R303). -/
def mirroredKept (a : Nat) : Bool := mirroredMap a || isMarkWord a || isShutWord a

/-- The mirrored state as it stands (R579): without what each chip samples by itself, with what the fault records share, and of the aux switches the
latched command word (21 R678). -/
def mirrorCopy (c : Chip) : CtlCopy :=
  { regs := c.regs.filter (fun x => isMirrored x.1 || mirroredKept x.1), alc := supervisorOf {} c.alc, mov := c.mov, cen := { c.cen with ain := [], pin := [] }, thm := c.thm, marks := c.thmKept.marks, reached := c.thmKept.reached,
    tx := c.tp.map (fun x => (x.1, x.2.tx)), ses := c.ses, asw := { latched := c.asw.latched } }

/-- The mirrored state put back (R596, R591), but for what the fault record keeps (03 R94, 07 R221, 09 R303, R309): every record of the sub-layer that it cannot prove acknowledged is to be sent
again (R382). -/
def mirrorRestore (m : CtlCopy) (c : Chip) : Chip :=
  let tx (n : Nat) : List TpRec := (tget (fun _ => ([] : List TpRec)) m.tx n).map (fun r => { r with due := decide (0 < r.times) })
  let c1 : Chip := { c with regs := tableMix (fun a => isMirrored a && !mirroredKept a) c.regs m.regs, alc := supervisorOf c.alc m.alc, mov := m.mov,
                            cen := { m.cen with ain := c.cen.ain, pin := c.cen.pin }, thm := m.thm, ses := m.ses,
                            asw := { c.asw with latched := m.asw.latched } }
  let c2 := eachBelow 32 (fun n c =>
    let x : TpSt := { (tget (fun _ => ({} : TpSt)) c.tp n) with tx := tx n }
    { c with tp := tset (fun _ => ({} : TpSt)) c.tp n x }) c1
  eachBelow 64 (fun o c => c.setF (Reg.THM_OSTAT o) 18 6 (tget (fun _ => 0) c.thmKept.marks o)) c2

end Sys2Proof.Machine
end

