-- ==== Sys2Proof/Machine/Thm.lean ====
section
/-! DEFINITION. Cable cooling and temperature management of the outlets (ch. 9): the pin model, sensor checks, levels and
ceilings, the shutdown latch and the shutdown record. -/
namespace Sys2Proof.Machine

/-- An outlet's cooling state. -/
def Chip.thmOut (c : Chip) (o : Nat) : ThmOut := tget (fun _ => {}) c.thm.outs o
/-- The same written. -/
def Chip.setThmOut (c : Chip) (o : Nat) (x : ThmOut) : Chip :=
  { c with thm := { c.thm with outs := tset (fun _ => ({} : ThmOut)) c.thm.outs o x } }
/-- The suspect marks of an outlet's sensors (R307). -/
def thmMarks (c : Chip) (o : Nat) : Nat := tget (fun _ => 0) c.thmKept.marks o
/-- The same written; THM.OSTAT shows them. -/
def thmSetMarks (o m : Nat) (c : Chip) : Chip :=
  { c with thmKept := { c.thmKept with marks := tset (fun _ => 0) c.thmKept.marks o m } }.setF (Reg.THM_OSTAT o) 18 6 m
/-- An outlet's shutdown is latched (R301). -/
def thmShut (c : Chip) (o : Nat) : Bool := c.b (Reg.THM_SHUT (o / 32)) (o % 32)

/-- Rounded operations that end the evaluation on a result that is not finite (R291). -/
def tAdd (a b : Word) : Option Word := fKeep (fAdd a b)
/-- Difference (R291). -/
def tSub (a b : Word) : Option Word := fKeep (fSub a b)
/-- Product (R291). -/
def tMul (a b : Word) : Option Word := fKeep (fMul a b)
/-- Quotient (R291). -/
def tDiv (a b : Word) : Option Word := fKeep (fDiv a b)

/-- What an evaluation of one outlet reads: measured values, the sensors that may be trusted by their status and enables,
the marks, and STALE (R292). -/
structure ThmView where
  meas : List Int
  valid : Nat
  marks : Nat
  stale : Bool
  deriving DecidableEq, Repr

/-- A sensor is enabled in THM.OCFG: 0 to 3 pins, 4 coolant in, 5 coolant out. -/
def thmEnabled (c : Chip) (o k : Nat) : Bool := c.b (Reg.THM_OCFG o) (if k < 4 then 27 + k else 21 + k)
/-- A sensor is trusted (R292). -/
def thmTrust (c : Chip) (o : Nat) (v : ThmView) (k : Nat) : Bool :=
  thmEnabled c o k && v.valid.testBit k && !v.marks.testBit k && !v.stale
/-- A measured value in 0.1 °C. -/
def thmMeas (v : ThmView) (k : Nat) : Int := v.meas.getD k 0
/-- A whole number as binary32. -/
def tInt (i : Int) : Word := fOfInt i
/-- The enabled pins of an outlet in rising order. -/
def thmPins (c : Chip) (o : Nat) : List Nat := (List.range 4).filter (thmEnabled c o)
/-- SHARE of a pin. -/
def thmShare (c : Chip) (o p : Nat) : Word := tInt (c.f (Reg.THM_SHARE o) (24 - 8 * p) 8 : Nat)
/-- PENALTY in 0.1 °C. -/
def thmPenalty (c : Chip) (o : Nat) : Word := tInt (10 * c.f (Reg.THM_GCFG (o / 32)) 16 8 : Nat)
/-- COOL_DEF in 0.1 °C. -/
def thmCoolDef (c : Chip) (o : Nat) : Word := tInt (10 * c.f (Reg.THM_GCFG (o / 32)) 8 8 : Nat)

/-- T_w, T_cg and the sensor that gives T_cg: 4 or 5, or 6 for the default (R293, R317). -/
def thmCoolant (c : Chip) (o : Nat) (v : ThmView) : Option (Word × Word × Nat) := do
  let a := thmTrust c o v 4
  let b := thmTrust c o v 5
  let x := tInt (thmMeas v 4)
  let y := tInt (thmMeas v 5)
  if a && b then
    let t ← tAdd x y
    let t ← tDiv t (tInt 2)
    pure (if thmMeas v 4 < thmMeas v 5 then (t, y, 5) else (t, x, 4))
  else if a then pure (← tAdd x (thmPenalty c o), x, 4)
  else if b then pure (← tAdd y (thmPenalty c o), y, 5)
  else pure (thmCoolDef c o, thmCoolDef c o, 6)

/-- Pin states as at initialisation (R295). -/
def thmInit (c : Chip) (o : Nat) (v : ThmView) (tw : Word) : List Word :=
  (List.range 4).map (fun p => if thmTrust c o v p then tInt (thmMeas v p) else tw)

/-- i_s of a pin: its share of the outlet current (R294). -/
def thmPinI (c : Chip) (o p : Nat) (i : Word) : Option Word := do
  let x ← tMul i (thmShare c o p)
  tDiv x (tInt 128)

/-- One pin through the model (R294): tp_pri, the new T_p and the new T_b. -/
def thmPin (c : Chip) (o : Nat) (v : ThmView) (i tw : Word) (x : ThmOut) (p : Nat) : Option (Word × Word × Word) := do
  let tp := x.tp.getD p 0
  let tb := x.tb.getD p 0
  let is ← thmPinI c o p i
  let q ← tMul is is
  let heat ← tMul (c.rd (Reg.THM_A_P o)) q
  let dpb ← tSub tp tb
  let dbw ← tSub tb tw
  let bx ← tMul (c.rd (Reg.THM_B_P o)) dpb
  let pri ← tAdd tp heat
  let pri ← tSub pri bx
  let y ← tMul (c.rd (Reg.THM_B_B o)) dpb
  let z ← tMul (c.rd (Reg.THM_C_B o)) dbw
  let tbn ← tAdd tb y
  let tbn ← tSub tbn z
  if thmTrust c o v p then
    let e ← tSub (tInt (thmMeas v p)) pri
    let e ← tMul (c.rd (Reg.THM_KOBS (o / 32))) e
    pure (pri, ← tAdd pri e, tbn)
  else pure (pri, pri, tbn)

/-- The distance of a measured value from a model value. -/
def thmDist (m : Int) (t : Word) : Option Word := do
  let d ← tSub (tInt m) t
  pure (fAbs d)

/-- The pair check of R305 on pins `a` and `a + 1`: the pin that it counts against. -/
def thmPair (c : Chip) (o : Nat) (v : ThmView) (pri : List Word) (a : Nat) : Option (List Nat) := do
  if thmTrust c o v a && thmTrust c o v (a + 1) &&
      decide (10 * c.f (Reg.THM_BANDS o) 24 8 < (thmMeas v a - thmMeas v (a + 1)).natAbs) then
    let x ← thmDist (thmMeas v a) (pri.getD a 0)
    let y ← thmDist (thmMeas v (a + 1)) (pri.getD (a + 1) 0)
    pure (if fLt y x then [a] else [a + 1])
  else pure []

/-- The model check of R305 on one pin. -/
def thmModelCheck (c : Chip) (o : Nat) (v : ThmView) (pri : List Word) (p : Nat) : Option (List Nat) := do
  if thmTrust c o v p then
    let x ← thmDist (thmMeas v p) (pri.getD p 0)
    pure (if fLt (tInt (10 * c.f (Reg.THM_BANDS o) 16 8 : Nat)) x then [p] else [])
  else pure []

/-- The mean of the conductor temperatures of the enabled pins. -/
def thmMeanB (c : Chip) (o : Nat) (tb : List Word) : Option Word := do
  let s ← (thmPins c o).foldlM (fun x p => tAdd x (tb.getD p 0)) (tInt 0)
  tDiv s (tInt (thmPins c o).length)

/-- The coolant check of R306. -/
def thmCoolCheck (c : Chip) (o : Nat) (v : ThmView) (tb : List Word) : Option (List Nat) := do
  let d := thmMeas v 5 - thmMeas v 4
  if thmTrust c o v 4 && thmTrust c o v 5 &&
      (decide (d < -(10 * c.f (Reg.THM_BANDS o) 8 8 : Nat)) || decide ((10 * c.f (Reg.THM_BANDS o) 0 8 : Nat) < d)) then
    let m ← thmMeanB c o tb
    let x ← thmDist (thmMeas v 4) m
    let y ← thmDist (thmMeas v 5) m
    pure (if fLt y x then [4] else [5])
  else pure []

/-- A level after one evaluation (R299): it rises to the highest threshold reached, and falls below a threshold only when
the value lies below it by its hysteresis; a latched SHUTDOWN does not fall. -/
def thmLevel (old : Nat) (x : Word) (thr hys : Nat → Nat) (latched : Bool) : Nat :=
  let reach := ([1, 2, 3].filter (fun l => fLe (tInt (thr l : Nat)) x)).foldl max 0
  let fall (l : Nat) : Bool := !(l == 3 && latched) && fLt x (tInt ((thr l : Int) - hys l))
  if old ≤ reach then reach
  else
    let l3 := if old = 3 ∧ fall 3 then 2 else old
    let l2 := if l3 = 2 ∧ reach < 2 ∧ fall 2 then 1 else l3
    if l2 = 1 ∧ reach < 1 ∧ fall 1 then 0 else l2

/-- A threshold of the pins (`cool` false) or of the coolant, in 0.1 °C: 1 warning, 2 throttle, 3 shutdown. -/
def thmThr (c : Chip) (o : Nat) (cool : Bool) (l : Nat) : Nat :=
  10 * c.f (if cool then Reg.THM_CTHR o else Reg.THM_PTHR o) (32 - 8 * l) 8
/-- The hysteresis of a threshold in 0.1 °C. -/
def thmHys (c : Chip) (o : Nat) (cool : Bool) (l : Nat) : Nat :=
  10 * c.f (Reg.THM_HYS o) ((if cool then 20 else 32) - 4 * l) 4

/-- The derating factor of R298. -/
def thmFactor (c : Chip) (o : Nat) (cool : Bool) (t : Word) : Option Word := do
  let sd := tInt (thmThr c o cool 3 : Nat)
  let a ← tSub sd t
  let b ← tSub sd (tInt (thmThr c o cool 2 : Nat))
  let f ← tDiv a b
  pure (fMin (fMax f (tInt 0)) (tInt 1))

/-- pin_cap of R297. -/
def thmCap (h r sh : Word) : Option Word :=
  if fLe h (tInt 0) then some (tInt 0)
  else do
    let m ← tDiv h r
    let m ← fKeep (fSqrt m)
    let m ← tMul m (tInt 128)
    tDiv m sh

/-- A whole part as a number, none below zero. -/
def thmWhole (x : Word) : Nat := (fTrunc (fFloor x)).toNat

/-- What R296 to R298 and R311 give for one pin: T_g, its level, its contribution and its predicted temperature. -/
def thmPinOut (c : Chip) (o : Nat) (v : ThmView) (i tw r : Word) (tp : List Word) (old p : Nat) :
    Option (Word × Nat × Nat × Word) := do
  let tg ← if thmTrust c o v p then pure (tInt (thmMeas v p)) else tAdd (tp.getD p 0) (thmPenalty c o)
  let lv := thmLevel old tg (thmThr c o false) (thmHys c o false) (thmShut c o)
  let hor := c.rd (Reg.THM_HOR_F o)
  let thr := tInt (thmThr c o false 2 : Nat)
  let sh := thmShare c o p
  let h ← tSub thr tg
  let h ← tDiv h hor
  let h ← tAdd h tg
  let h ← tSub h tw
  let hs ← tSub thr tw
  let cap ← thmCap h r sh
  let css ← thmCap hs r sh
  let k ← if lv < 2 then pure (thmWhole cap)
    else do
      let f ← thmFactor c o false tg
      let x ← tMul (fMin css (tInt (c.f (Reg.THM_OVD o) 16 16 : Nat))) f
      pure (thmWhole x)
  let is ← thmPinI c o p i
  let q ← tMul is is
  let t ← tMul r q
  let t ← tAdd tw t
  let t ← tSub t tg
  let t ← tMul hor t
  let t ← tAdd tg t
  pure (tg, lv, k, t)

/-- What an evaluation shows for an outlet: T_g by pin, T_w, T_cg and its sensor, levels, ceiling before its bounds, and
the hottest predicted temperature. -/
structure ThmRes where
  tg : List (Nat × Word)
  tcg : Word
  sensor : Nat
  lv : List Nat
  cap : Nat
  hot : Word
  deriving DecidableEq, Repr

/-- Steps 5 of R771: levels, ceilings and the SEL 6 value from pin states. -/
def thmPost (c : Chip) (o : Nat) (v : ThmView) (i : Word) (x : ThmOut) : Option ThmRes := do
  let (tw, tcg, sn) ← thmCoolant c o v
  let r ← tDiv (c.rd (Reg.THM_A_P o)) (c.rd (Reg.THM_B_P o))
  let s ← tDiv (c.rd (Reg.THM_B_B o)) (c.rd (Reg.THM_C_B o))
  let s ← tAdd (tInt 1) s
  let r ← tMul r s
  let l ← (thmPins c o).mapM (fun p => do pure (p, ← thmPinOut c o v i tw r x.tp (x.lv.getD p 0) p))
  let lc := thmLevel (x.lv.getD 4 0) tcg (thmThr c o true) (thmHys c o true) (thmShut c o)
  let ovd := c.f (Reg.THM_OVD o) 16 16
  let kc ← if 2 ≤ lc then do
      let f ← thmFactor c o true tcg
      let y ← tMul (tInt (ovd : Nat)) f
      pure (thmWhole y)
    else pure ovd
  let lvs := (List.range 4).map (fun p => match l.find? (fun y => y.1 == p) with | some y => y.2.2.1 | none => 0)
  let hot := match l with
    | [] => tw
    | y :: t => t.foldl (fun m z => fMax m z.2.2.2.2) y.2.2.2.2
  pure { tg := l.map (fun y => (y.1, y.2.1)), tcg := tcg, sensor := sn, lv := lvs ++ [lc],
         cap := min (l.foldl (fun m y => min m y.2.2.2.1) (min ovd kc)) 30000, hot := hot }

/-- The pin model and the checks of one evaluation, steps 1 to 3 of R771: the new pin states and the sensors that a check
counts against. -/
def thmModel (c : Chip) (o : Nat) (v : ThmView) (fresh : Bool) (i : Word) (x : ThmOut) : Option (ThmOut × List Nat) := do
  let (tw, _, _) ← thmCoolant c o v
  let x1 := if x.tp.isEmpty then { x with tp := thmInit c o v tw, tb := thmInit c o v tw } else x
  let l ← (thmPins c o).mapM (fun p => do pure (p, ← thmPin c o v i tw x1 p))
  let at' (f : Word × Word × Word → Word) (old : List Word) : List Word := (List.range 4).map (fun p =>
    match l.find? (fun y => y.1 == p) with | some y => f y.2 | none => old.getD p 0)
  let pri := at' (fun y => y.1) x1.tp
  let tb := at' (fun y => y.2.2) x1.tb
  let bad ← if fresh then do
      let a ← thmPair c o v pri 0
      let b ← thmPair c o v pri 2
      let m ← (thmPins c o).mapM (thmModelCheck c o v pri)
      let k ← thmCoolCheck c o v tb
      pure (a ++ b ++ m.flatten ++ k)
    else pure []
  pure ({ x1 with tp := at' (fun y => y.2.1) x1.tp, tb := tb }, bad)

/-- The words of the selected shutdown record (THM.SDR_Wk); zero where SEQ is no longer in the ring. -/
def sdrShow (c : Chip) : Chip :=
  let q := c.n Reg.THM_SDR_SEL
  let w := tget (fun _ => ([] : List Word)) c.thmKept.ring (q % 64)
  let ok : Bool := decide (q < c.n Reg.THM_SDR_CNT) && (w.getD 0 0).toNat == q && !w.isEmpty
  eachBelow 8 (fun k c => c.wr (Reg.THM_SDR_W k) (if ok then w.getD k 0 else 0)) c

/-- SHUTDOWN_RECORD_WRITE (R317): one record joins the ring in MRAM. -/
def sdrWrite (e : Env) (source : Nat) (model : Bool) (sensor outlet : Nat) (value : Int) (thr : Nat) (c : Chip) : Chip :=
  let seq := c.n Reg.THM_SDR_CNT
  let st := e.time.stamp
  let w1 := source * 2 ^ 28 + (if model then 2 ^ 27 else 0) + sensor * 2 ^ 24 + outlet * 2 ^ 16 + (value % 65536).toNat
  let ws := [word seq, word w1, st.setWidth 32, (st >>> 32).setWidth 32, c.rd Reg.ETH_BND_S_LO,
    c.rd Reg.ETH_BND_S_HI &&& 0xFFFF, word (thr * 65536)]
  let ws := ws ++ [crc32 (ws.flatMap (fun (w : Word) => (List.range 4).map (fun k => (w >>> (8 * k)).setWidth 8)))]
  sdrShow ({ c with thmKept := { c.thmKept with ring := tset (fun _ => ([] : List Word)) c.thmKept.ring (seq % 64) ws } }.wr
    Reg.THM_SDR_CNT (word (seq + 1)))

/-- A temperature as a whole number of 0.1 °C, rounded down. -/
def thmTenths (x : Word) : Int := fTrunc (fFloor x)

/-- THERMAL_SHUTDOWN (R301, R317, R318): a value of an outlet that has reached SHUTDOWN: the record, the latch and the log. -/
def thmShutdown (e : Env) (o : Nat) (v : ThmView) (r : ThmRes) (k : Nat) (c : Chip) : Chip :=
  let seq := c.n Reg.THM_SDR_CNT
  let c1 := if k < 4 then
      let t := match r.tg.find? (fun y => y.1 == k) with | some y => y.2 | none => 0
      sdrWrite e 1 (!thmTrust c o v k) k o (thmTenths t) (thmThr c o false 3) c
    else sdrWrite e 2 (r.sensor == 6) r.sensor o (thmTenths r.tcg) (thmThr c o true 3) c
  let c2 := (c1.setB (Reg.THM_SHUT (o / 32)) (o % 32) true).setB (Reg.THM_EVT (o / 32)) 2 true
  let kept := c2.thmKept
  let m := tset (fun _ => 0) kept.reached o (tget (fun _ => 0) kept.reached o ||| 2 ^ k)
  let c3 := { c2 with thmKept := { kept with reached := m } }
  c3.log1 e 0x15 (o / 32) 0x03 seq

/-- The half-words that THM shows for two temperatures; 0x8000 where there is none. -/
def thmHalf (hi lo : Option Int) : Word :=
  let f : Option Int → Nat := fun x => match x with | some i => (i % 65536).toNat | none => 0x8000
  word (f hi * 65536 + f lo)

/-- What an evaluation shows in the outlet's cell: temperatures, LIMITED, MODEL_FAULT, level and ceiling. -/
def thmShow (o : Nat) (v : ThmView) (tg : List (Nat × Word)) (limited fault : Bool) (level therm : Nat) (c : Chip) : Chip :=
  let t (p : Nat) : Option Int := (tg.find? (fun y => y.1 == p)).map (fun y => thmTenths y.2)
  let k (i : Nat) : Option Int := if thmTrust c o v i then some (thmMeas v i) else none
  let c1 := ((c.wr (Reg.THM_TPIN01 o) (thmHalf (t 1) (t 0))).wr (Reg.THM_TPIN23 o) (thmHalf (t 3) (t 2))).wr
    (Reg.THM_TCOOL o) (thmHalf (k 5) (k 4))
  let old := c.rd (Reg.THM_OSTAT o)
  c1.wr (Reg.THM_OSTAT o) (word (level * 2 ^ 30 + (if limited then 2 ^ 29 else 0) + (if fbit old 28 && v.stale then 2 ^ 28 else 0)
    + (if fault then 2 ^ 27 else 0) + thmMarks c o * 2 ^ 18 + therm))

/-- The sensors that count as suspect in this frame (R304, R310): marked, or enabled with an invalid status. -/
def thmSuspects (c : Chip) (o : Nat) (v : ThmView) : Nat :=
  ((List.range 6).filter (fun k => thmEnabled c o k && (v.marks.testBit k || !v.valid.testBit k))).length

/-- The level of the outlet after an evaluation, flagged and logged where it changes (R300, R321). -/
def thmLevelLog (e : Env) (o new : Nat) (c : Chip) : Chip :=
  let old := c.f (Reg.THM_OSTAT o) 30 2
  if new = old then c
  else
    let c1 := if old < new ∧ new < 3 then c.setB (Reg.THM_EVT (o / 32)) (new - 1) true
      else if old < new then c.setB (Reg.THM_EVT (o / 32)) 2 true else c
    c1.log1 e 0x15 (o / 32) 0x01 (new * 2 ^ 30 + old * 2 ^ 28 + o)

/-- The outlet is at a level below SHUTDOWN by every value that had reached it (R302). -/
def thmClearable (c : Chip) (o : Nat) (r : ThmRes) : Bool :=
  let m := tget (fun _ => 0) c.thmKept.reached o
  (List.range 4).all (fun p => !m.testBit p || (match r.tg.find? (fun y => y.1 == p) with
      | some y => fLt y.2 (tInt ((thmThr c o false 3 : Int) - thmHys c o false 3))
      | none => true)) &&
    (!m.testBit 4 || fLt r.tcg (tInt ((thmThr c o true 3 : Int) - thmHys c o true 3)))

/-- What an evaluation reads of an outlet (R292, R304): from the fourth missed frame in a row every sensor is untrusted. -/
def thmView (c : Chip) (o : Nat) : ThmView :=
  let i := c.outIn o
  { meas := i.temps, valid := i.svalid, marks := thmMarks c o ||| (c.thmOut o).due,
    stale := decide (4 ≤ i.missRun) }

/-- The model current of an outlet (R292). -/
def thmI (c : Chip) (o : Nat) : Word :=
  if (c.outIn o).fresh then tInt (c.outIn o).iMeas else tInt (c.f (Reg.ALC_OUT_GRANT o) 0 16 : Nat)

/-- The deviation counts and the marks that they make due (R307): a fresh frame counts, any other leaves them. -/
def thmCount (c : Chip) (o : Nat) (fresh : Bool) (bad : List Nat) (x : ThmOut) : ThmOut :=
  if !fresh then x
  else
    let dev := (List.range 6).map (fun k => if bad.contains k then x.dev.getD k 0 + 1 else 0)
    let due := ((List.range 6).filter (fun k => decide (c.f (Reg.THM_GCFG (o / 32)) 24 8 ≤ dev.getD k 0) && bad.contains k)).foldl
      (fun m k => m ||| 2 ^ k) x.due
    { x with dev := dev, due := due }

/-- The SEL 6 value of an outlet (R311). -/
def thmSetHot (o : Nat) (v : Word) (c : Chip) : Chip :=
  { c with thm := { c.thm with hot := tset (fun _ => (0 : Word)) c.thm.hot o v } }

/-- T_g of the enabled pins by their states alone, where the rest of an evaluation gives no finite result (R291, R296). -/
def thmFallback (c : Chip) (o : Nat) (v : ThmView) (x : ThmOut) : List (Nat × Word) :=
  (thmPins c o).map (fun p =>
    let tp := x.tp.getD p 0
    (p, if thmTrust c o v p then tInt (thmMeas v p) else (tAdd tp (thmPenalty c o)).getD tp))

/-- THM_EVALUATION (R771) of an outlet with EN = 1. -/
def thmEvalOn (e : Env) (o : Nat) (c : Chip) : Chip :=
  let fresh := (c.outIn o).fresh
  let i := thmI c o
  let x := c.thmOut o
  let v := thmView c o
  let safe := c.f (Reg.THM_OCFG o) 0 16
  let out (fault : Bool) (x : ThmOut) (res : Option ThmRes) : Chip :=
    let v := { v with marks := thmMarks c o ||| x.due }
    let lim : Bool := decide (2 ≤ thmSuspects c o v) || v.stale || fault
    let c1 := if lim && !c.b (Reg.THM_OSTAT o) 29 then c.setB (Reg.THM_EVT (o / 32)) 4 true else c
    let c1 := if fault then c1.setB (Reg.THM_EVT (o / 32)) 6 true else c1
    match res with
    | some r =>
      let newly := (List.range 5).filter (fun k => r.lv.getD k 0 == 3 && !(tget (fun _ => 0) c.thmKept.reached o).testBit k)
      let c2 := eachOf newly (thmShutdown e o v r) c1
      let level := max (r.lv.foldl max 0) (if thmShut c2 o then 3 else 0)
      let therm := if thmShut c2 o then 0 else if lim then min r.cap safe else r.cap
      let c3 := thmShow o v r.tg lim fault level therm (thmLevelLog e o level c2)
      thmSetHot o r.hot (c3.setThmOut o { x with lv := r.lv, clear := thmClearable c3 o r })
    | none =>
      let c2 := thmShow o v (thmFallback c o v x) lim fault (c.f (Reg.THM_OSTAT o) 30 2) (if thmShut c o then 0 else safe) c1
      c2.setThmOut o x
  match thmModel c o v fresh i x with
  | some (x1, bad) =>
    let x2 := thmCount c o fresh bad x1
    match thmPost c o { v with marks := thmMarks c o ||| x2.due } i x2 with
    | some r => out false x2 (some r)
    | none =>
      let tw := match thmCoolant c o v with | some y => y.1 | none => thmCoolDef c o
      let x3 := { x2 with tp := thmInit c o v tw, tb := thmInit c o v tw }
      out true x3 (thmPost c o { v with marks := thmMarks c o ||| x3.due } i x3)
  | none =>
    let tw := match thmCoolant c o v with | some y => y.1 | none => thmCoolDef c o
    let x3 := { x with tp := thmInit c o v tw, tb := thmInit c o v tw }
    out true x3 (thmPost c o v i x3)

/-- THM_EVALUATION of an outlet with EN = 0 (R298, R311): no level, ceiling 30,000, and SEL 6 delivers T_w; LIMITED shows with
STALE (R292). -/
def thmEvalOff (o : Nat) (c : Chip) : Chip :=
  let v := thmView c o
  let tw := match thmCoolant c o v with | some y => y.1 | none => thmCoolDef c o
  let c1 := thmShow o v [] v.stale false 0 30000 (c.setThmOut o { c.thmOut o with tp := [], tb := [], lv := [], dev := [] })
  thmSetHot o tw c1

/-- THM_EVALUATION at the bundle cut-off (R288, R290): every outlet that is not fenced (Table: Fenced cell behaviour). -/
def thmEvaluate (e : Env) (c : Chip) : Chip :=
  eachBelow e.part.outlets (fun o c =>
    if c.outletFenced o then c.setThmOut o { c.thmOut o with tp := [], tb := [] }
    else if c.b (Reg.THM_OCFG o) 31 then thmEvalOn e o c else thmEvalOff o c) c

/-- SENSOR_SUSPECT: a sensor whose deviation count has reached SUSP_FRAMES is recorded as suspect (R307, R321). The
evaluation that brought the count there already works without it. -/
def execSensorSuspect (o : Fin 64) (k : Fin 6) (s : State) : Host.Outcome State Fault Refusal :=
  .next (onChip (fun e c =>
    let x := c.thmOut o
    if c.ctl && x.due.testBit k then
      let c1 := thmSetMarks o (thmMarks c o ||| 2 ^ k.val) (c.setThmOut o { x with due := x.due ^^^ 2 ^ k.val })
      (c1.setB (Reg.THM_EVT (o / 32)) 3 true).log1 e 0x15 (o / 32) 0x02 (k.val * 256 + o.val)
    else c) s)

/-- STALE: an outlet without a fresh record for four frames in a row is shown stale and limited (R292, R310). -/
def execStale (o : Fin 64) (s : State) : Host.Outcome State Fault Refusal :=
  .next (onChip (fun _ c =>
    if c.ctl && !c.outletFenced o && decide (4 ≤ (c.outIn o).missRun) && !c.b (Reg.THM_OSTAT o) 28 then
      let c1 := if c.b (Reg.THM_OSTAT o) 29 then c else c.setB (Reg.THM_EVT (o / 32)) 4 true
      ((c1.setB (Reg.THM_OSTAT o) 28 true).setB (Reg.THM_OSTAT o) 29 true).setB (Reg.THM_EVT (o / 32)) 5 true
    else c) s)

/-- T_g of a pin as the last evaluation showed it: its whole part decides every threshold (R296, R299). -/
def thmShown (c : Chip) (o p : Nat) : Int :=
  signOf 16 (c.f (if p < 2 then Reg.THM_TPIN01 o else Reg.THM_TPIN23 o) (16 * (p % 2)) 16)
/-- T_cg as the last evaluation showed it: the higher coolant value, or COOL_DEF × 10 where none was trusted (R293). -/
def thmShownCool (c : Chip) (o : Nat) : Int :=
  let t : List Int := ([0, 16] : List Nat).filterMap (fun b =>
    if c.f (Reg.THM_TCOOL o) b 16 = 0x8000 then none else some (signOf 16 (c.f (Reg.THM_TCOOL o) b 16)))
  match t with | [] => (10 * c.f (Reg.THM_GCFG (o / 32)) 8 8 : Nat) | x :: l => l.foldl max x
/-- The levels that the values of the last evaluation give once a shutdown is cleared (R299, R302). -/
def thmLevelsCleared (c : Chip) (o : Nat) (lv : List Nat) : List Nat :=
  (List.range 5).map (fun k =>
    let l := lv.getD k 0
    if l ≠ 3 then l
    else if k = 4 then thmLevel 3 (tInt (thmShownCool c o)) (thmThr c o true) (thmHys c o true) false
    else if thmEnabled c o k then thmLevel 3 (tInt (thmShown c o k)) (thmThr c o false) (thmHys c o false) false
    else 0)

/-- An imposed OCFG word of an outlet (R295, R302, R309): SD_CLR and SUSP_CLR act and read 0; a rising EN makes the pin
states due for initialisation. -/
def thmImposed (e : Env) (o : Nat) (old : Word) (c : Chip) : Chip :=
  let v := c.rd (Reg.THM_OCFG o)
  let x := c.thmOut o
  let c1 := c.wr (Reg.THM_OCFG o) (v &&& ~~~ fmask 18 7)
  let m := fget v 18 6
  let x1 := { x with dev := (List.range 6).map (fun k => if m.testBit k then 0 else x.dev.getD k 0),
                     due := (List.range 6).foldl (fun d k => if m.testBit k && d.testBit k then d ^^^ 2 ^ k else d) x.due,
                     tp := if fbit v 31 && !fbit old 31 then [] else x.tp, tb := if fbit v 31 && !fbit old 31 then [] else x.tb }
  let mk := (List.range 6).foldl (fun d k => if m.testBit k && d.testBit k then d ^^^ 2 ^ k else d) (thmMarks c o)
  let c2 := thmSetMarks o mk (c1.setThmOut o x1)
  if fbit v 24 && thmShut c o then
    if x.clear then
      let c3 := c2.setB (Reg.THM_SHUT (o / 32)) (o % 32) false
      let c4 := { c3 with thmKept := { c3.thmKept with reached := tset (fun _ => 0) c3.thmKept.reached o 0 } }
      (c4.setThmOut o { x1 with lv := thmLevelsCleared c o x.lv }).log1 e 0x15 (o / 32) 0x04 o
    else (c2.setB (Reg.THM_EVT (o / 32)) 7 true).log1 e 0x15 (o / 32) 0x05 o
  else c2

/-- The Gather freeze latches the results of the last evaluation into the input image (R289, R302). -/
def thmFreeze (e : Env) (c : Chip) : Chip :=
  eachBelow e.part.outlets (fun o c =>
    outInSet o 26 (thmShut c o) (c.setF (Reg.ALC_OUT_IN o) 0 16 (c.f (Reg.THM_OSTAT o) 0 16))) c

end Sys2Proof.Machine
end

