-- ==== Sys2Proof/Machine/Restart.lean ====
section
/-! DEFINITION. How regions and the chip go down (ch. 3 and 22): the reset of a region's state, region restarts with their
rate limit, and the chip fault. How they come back stands in Power.lean. -/
namespace Sys2Proof.Machine

/-- Fence-map words and the fence count of a page: kept in the MRAM fault record (R98). -/
def fenceKept (a : Nat) : Bool :=
  match pageAt a with
  | some g => (decide (0x380 ≤ a - g.base) && decide (a - g.base < 0x400)) || a - g.base == 0x18
  | none => false

/-- Words of the Control region that its reset does not touch: the chip page but for the event log's count, fence maps,
GAL.SEQ, crosspoint marks, latched shutdowns and their count (R98, R221, R303, R169). -/
def controlKept (a : Nat) : Bool :=
  (decide (0x40000000 ≤ a) && decide (a < 0x40001000) && a != Reg.CHIP_LOG_WR) || fenceKept a || a == Reg.GAL_SEQ
    || (decide (0x4000E000 ≤ a) && decide (a < 0x40016000) && (List.range 64).any (fun j => Reg.XPT_MARK (64 * ((a - 0x4000E000) / 0x1000) + j) == a))
    || a == Reg.THM_SHUT 0 || a == Reg.THM_SHUT 1 || a == Reg.THM_SDR_CNT

/-- Words of the Service region's addresses that its reset does not touch: housekeeping, which lies in the Heath power domain
(R312), the supply page, the boot words in MRAM, and fence maps. -/
def serviceKept (a : Nat) : Bool :=
  (decide (0x70007000 ≤ a) && decide (a < 0x70009000)) || fenceKept a || a == Reg.OSP_BOOT || a == Reg.OSP_DBG || a == Reg.UPD_HTH_PROG

/-- A word of the Control region. -/
def inControl (a : Nat) : Bool := regionOf a == .control
/-- A word of the Service region. -/
def inService (a : Nat) : Bool := regionOf a == .service

/-- The registers after a reset of one region: its words that are not kept read their reset values. -/
def dropRegs (mine kept : Nat → Bool) (m : RegTable) : RegTable := m.filter (fun x => !mine x.1 || kept x.1)

/-- The outcomes that a restart leaves to be logged (R156): lost transactions fail with RESTART, marked ones are imposed. -/
def galEnded (c : Chip) : List (Nat × Bool × Nat) :=
  (([0, 1, 2, 3] : List Nat).filter (galLosable c)).map (fun k => (k, false, galWord c k + 0x21)) ++
    (c.gal.accepted.filter (fun k => (c.slot k).marker)).map (fun k => (k, true, galWord c k + (c.slot k).list.length % 8192))

/-- What a region's restart abandons of the remedies at lower levels (R87): its words in replay and scrub, fabric writes in replay, blocks that
restart and the writes that they hold. -/
def fltClear (r : Region) (f : FaultSt) : FaultSt :=
  { f with replays := f.replays.filter (fun x => regionOf x.1 != r), wreplays := f.wreplays.filter (fun x => regionOf x.1 != r),
           held := f.held.filter (fun x => regionOf x != r), waitW := f.waitW.filter (fun x => regionOf x.2.1 != r) }

/-- PG_GALLEY of every page, whose slots are lost (R139, R156). -/
def isPgGalley (a : Nat) : Bool := match pageAt a with | some g => a == Reg.PG_GALLEY g.base | none => false

/-- The health bundles that the ports send while the Control region restarts (Table: Region restart): of a port that is up, its header
alone. -/
def healthOnly (e : Env) (c : Chip) : List (Nat × TpSt) :=
  ((List.range e.part.ports).filter (fun n => prtUp c n && !c.portFenced n)).map (fun n =>
    (n, { down := dnHeader e c n false, seq := (c.tpOf n).seq + 1 }))

/-- The state of the Control region at its reset (Table: Region restart, R105, R169): its registers and engines, the log ring;
the readers keep the most recent bank, so that SEQ does not step back before the start (R166), and what MRAM keeps stays. -/
def controlClear (c : Chip) : Chip :=
  let held := ([0, 1, 2] : List Nat).filter (snapHeld c)
  let st := galEnded c
  let tags := st.map (fun x => (x.1, c.f (Reg.GAL_STATE x.1) 0 16))
  let c1 : Chip := { c with
    regs := dropRegs inControl controlKept (c.regs.filter (fun x => !isPgGalley x.1)), log := [], snaps := (snapReleaseAll c).snaps, now := [], frm := {}, gal := { ended := st },
    flt := { fltClear .control c.flt with blockLog := c.flt.blockLog.filter (fun x => !inControl x.1), fresh := [], inWas := [], imgWas := {} },
    img := {}, alc := {}, mov := {}, cen := {}, thm := {}, phy := [], tp := [], pair := {}, bnd := {}, own := {}, sent := [] }
  let c2 := eachOf held (fun p c => c.setB (Reg.SNP_HOLD p) 1 true) c1
  let c3 := eachOf tags (fun x c => c.wr (Reg.GAL_STATE x.1) (word x.2)) c2
  let c4 := eachOf (st.filter (fun x => !x.2.1)) (fun x c => (c.setF (Reg.GAL_STATE x.1) 28 4 6).setF (Reg.GAL_STATE x.1) 16 8 0x21) c3
  let c5 := eachOf (st.filter (fun x => x.2.1)) (fun x c => c.setF (Reg.GAL_STATE x.1) 28 4 5) c4
  eachOf c5.thmKept.marks (fun x c => c.setF (Reg.THM_OSTAT x.1) 18 6 x.2) c5

/-- A region restarts, or is held in reset (CHIP.RGN_STAT); the time at which a restart begins is kept (R106). -/
def rgnDown (e : Env) (r : Region) (st : Nat) (c : Chip) : Chip :=
  let c1 := c.setRgn r st
  { c1 with flt := { c1.flt with rgnAt := (regionCode r, e.time.up) :: c1.flt.rgnAt.filter (fun x => x.1 != regionCode r) } }

/-- The Control region goes down: 1 restarting, 2 held in reset. The Quoin is released, PWM outputs are trip-safe, aux
switches enter their keep window and ports send health bundles only (Table: Region restart). A region that is down already only changes its
state. -/
def controlDown (st : Nat) (s : State) : State :=
  if s.chip.ctl then
    let s1 := onChip (fun e c =>
      let c1 := pwmHoldAll (rgnDown e .control st (controlClear (quoinRelease e c)))
      if st = 1 then { c1 with tp := healthOnly e c } else c1) s
    onChipMem hdgRoleCut s1
  else onChip (fun e c => rgnDown e .control st (if st = 2 then { c with tp := [] } else c)) s

/-- What a reset of the Service region does to the host interfaces (24 R740 to R743): the clock, the rings and an operation on flash
are lost, and a slot with an abandoned ERASE is torn; flash itself stays. -/
def hifClear (h : HostSt) : HostSt :=
  let cut := match h.op with | some o => if o.op = 1 then [512 * o.slot + o.addr / 0x10000] else [] | none => []
  { flash := h.flash, verified := h.verified, torn := cut ++ h.torn, fallback := h.fallback }

/-- What a restart leaves of trip latches and keep windows (20 R671, 21 R684, R689): the trips of PWM channels and aux switches, aux
channels in their keep window, and the supply causes. -/
def latchesKept (old c : Chip) : Chip :=
  let c1 := c.setF Reg.ASW_STAT 29 3 (old.f Reg.ASW_STAT 29 3)
  eachBelow 16 (fun j c =>
    let c2 := if pwmTripped old j then pwmShow j (c.setB (Reg.PWM_CH_STAT j) 31 true) else c
    if aswTripped old j ∨ aswState old j = 3 then aswSetState j (aswState old j) c2 else c2) c1

/-- A reset ends the latched trips (20 R671, 21 R690); with `cut` the keep windows end too, as the rails of the outputs have failed
(22 R697). -/
def latchesReset (cut : Bool) (c : Chip) : Chip :=
  eachBelow 16 (fun j c =>
    let c1 := pwmShow j (c.setB (Reg.PWM_CH_STAT j) 31 false)
    if aswTripped c j ∨ (cut ∧ aswState c j = 3) then aswSetState j 7 c1 else c1) c

/-- The state of the Service region at its reset. -/
def serviceClear (c : Chip) : Chip :=
  latchesKept c
    { c with
      hif := hifClear c.hif
      regs := dropRegs inService serviceKept (c.setB Reg.QN_STAT 23 false).regs
      can := []
      hdg := {}
      pwm := []
      ses := []
      cry := { c.cry with rings := [] }
      asw := { c.asw with latched := 0, applied := 0 }
      flt := fltClear .service c.flt }

/-- The Service region goes down: 1 restarting, 2 held in reset. -/
def serviceDown (st : Nat) (s : State) : State :=
  onChip (fun e c => pwmHoldAll (rgnDown e .service st (if c.svc then serviceClear c else c))) s

/-- The count of a region's restarts in CHIP.RGN_STAT. -/
def rgnCount (r : Region) (c : Chip) : Chip :=
  match r with
  | .metrology => c.sat Reg.CHIP_RGN_STAT 24 8 1
  | .control => c.sat Reg.CHIP_RGN_STAT 16 8 1
  | .service => c.sat Reg.CHIP_RGN_STAT 8 8 1
  | .heath => c

/-- The flag of a region's restart in CHIP.ESC. -/
def escBit : Region → Nat
  | .control => 0 | .service => 1 | .metrology => 2 | .heath => 3

/-- FCLK cycles of a second (R69: FCLK runs at 200 MHz). -/
def cyclesPerSec : Nat := 200000000

/-- Steps 1 to 4 of R108, which a die shutdown takes too (R315). -/
def chipHold (s : State) : State := serviceDown 2 (controlDown 2 s)

/-- CHIP_FAULT (R108, R109): the record and the log, then the hold. A second fault within 600 s of the first sets CHIP_HELD. Where more than
two occur, the 600 s count from the latest one before (DESIGN CHOICE, log entry 50). -/
def chipFault (rgn cause type inst : Nat) (s : State) : State :=
  let s1 := onChip (fun e c =>
    let c1 := (c.fault e 3 rgn cause type inst 0xFFFF).setB Reg.CHIP_ESC 4 true
    let again : Bool := match c.flt.chipFaultAt with
      | some t => decide (e.time.up < t + 600 * cyclesPerSec)
      | none => false
    let c2 := if again then c1.setB Reg.CHIP_ESC 5 true else c1
    { c2 with flt := { c2.flt with chipFaultAt := some e.time.up } }) s
  chipHold s1

/-- The third restart of a region within 60 s (R107). -/
def rgnThird (e : Env) (r : Region) (c : Chip) : Bool :=
  decide (2 ≤ (c.flt.rgnLog.filter (fun x => x.1 == regionCode r && decide (e.time.up < x.2 + 60 * cyclesPerSec))).length)

/-- The Service restart of an ACTIVE chip with a healthy standby releases the Quoin at the next boundary (Table: Region
restart); a planned swap that is pending is cancelled (R602, 23 Table: Service-life contention). -/
def serviceHandover (e : Env) (c : Chip) : Chip :=
  if c.roleIs 1 && c.f Reg.QN_PARTNER 29 3 == 2 && !c.pair.swapping then (swapEnd e (some 3) c).onPair (fun p => { p with handover := true }) else c

/-- What a restart of a region counts and flags (R104, R107): RGN_STAT, CHIP.ESC and the times of its restarts. -/
def rgnMark (e : Env) (r : Region) (c : Chip) : Chip :=
  let c1 := rgnCount r (c.setB Reg.CHIP_ESC (escBit r) true)
  { c1 with flt := { c1.flt with rgnLog := (regionCode r, e.time.up) :: c1.flt.rgnLog.filter (fun x => decide (e.time.up < x.2 + 60 * cyclesPerSec)) } }

/-- A region begins its restart; `cause` is what a start of the Control region records (R704). -/
def rgnBegin (cause : Nat) (r : Region) (s : State) : State :=
  match r with
  | .control => onChip (fun _ c => { c with pwr := { c.pwr with causes := cause :: c.pwr.causes } }) (controlDown 1 s)
  | .service => serviceDown 1 (onChip serviceHandover s)
  | .metrology | .heath => onChip (fun e c => rgnDown e r 1 { c with flt := fltClear r c.flt }) s

/-- REGION_RESTART after a fault (R104, R107): the record and the log, the flag and the count; the third within 60 s is a chip
fault. `cause` is that of CHIP.FAULT_A; `type` and `inst` name the block where one is at fault. -/
def regionRestart (r : Region) (cause type inst : Nat) (s : State) : State :=
  if rgnThird s.env r s.chip then chipFault (regionCode r) 3 type inst s
  else rgnBegin 7 r (onChip (fun e c => rgnMark e r (c.fault e 2 (regionCode r) cause type inst 0xFFFF)) s)

/-- A restart of a region that software or the boot logic asks for (R590, R711, R719, R734): as after a fault, without a fault's
record. -/
def regionAgain (cause : Nat) (r : Region) (s : State) : State :=
  if rgnThird s.env r s.chip then chipFault (regionCode r) 3 1 0 s else rgnBegin cause r (onChip (fun e c => rgnMark e r c) s)

end Sys2Proof.Machine
end

