-- ==== Sys2Proof/Machine/SafePath.lean ====
section
/-! DEFINITION. Safe data paths (ch. 16): telegrams and their checks on both networks, the combined state of a remote point, the
Heath telegram, and what a partner's telegram does. -/
namespace Sys2Proof.Machine

/-- Heath with the entries that an effect appends to the event log. -/
abbrev HthLog := Heath × List LogReq

/-- The region changed, under a log. -/
def hthDo (f : Heath → Heath) (x : HthLog) : HthLog := (f x.1, x.2)
/-- An entry of type 0x40 HTH (R544). -/
def hthEntry (cls detail : Nat) (x : HthLog) : HthLog := (x.1, x.2 ++ [⟨0x40, 0, cls, detail⟩])
/-- An entry of type 0x41 SFN (R566). -/
def sfnEntry (cls detail : Nat) (x : HthLog) : HthLog := (x.1, x.2 ++ [⟨0x41, 0, cls, detail⟩])
/-- An effect under a condition. -/
def hthWhen (b : Bool) (f : HthLog → HthLog) (x : HthLog) : HthLog := if b then f x else x
/-- What Heath holds beside its registers, changed. -/
def Heath.onSt (h : Heath) (f : HthSt → HthSt) : Heath := { h with st := f h.st }

/-- Words as bytes, little-endian (R7, R548). -/
def wordsBytes (l : List Word) : List Byte := l.flatMap wordBytes
/-- The telegram CRC over the words before it (R548). -/
def teleCrc (l : List Word) : Word := crc32c (wordsBytes l)

/-- Source `i` on a network: 0 A, 1 B. -/
def Heath.net (h : Heath) (net i : Nat) : HthNet := tget (fun _ => {}) (if net = 0 then h.st.netA else h.st.netB) i
/-- The same written. -/
def Heath.setNet (h : Heath) (net i : Nat) (t : HthNet) : Heath :=
  h.onSt (fun x => if net = 0 then { x with netA := tset (fun _ => ({} : HthNet)) x.netA i t }
    else { x with netB := tset (fun _ => ({} : HthNet)) x.netB i t })

/-- FCLK cycles of the 10 ms after which a network is lost (R558). -/
def lossCycles : Nat := 2000000
/-- The network is lost at this instant: none accepted yet, or 10 ms since the last (R558). -/
def netGone (e : Env) (t : HthNet) : Bool :=
  match t.at' with
  | some a => decide (a + lossCycles ≤ e.time.up)
  | none => true
/-- A source is enabled (R545). -/
def srcOn (h : Heath) (i : Nat) : Bool := h.b (Reg.SFN_SRC i) 31

/-- A network's state for a bit of a source: 0 demand, 1 run, 2 fault, 3 lost (R558). -/
def netState (e : Env) (t : HthNet) (bit : Nat) : Nat := if netGone e t then 3 else t.states / 4 ^ bit % 4

/-- Two TS values agree within SKEW (R559). -/
def skewOk (h : Heath) (a b : Nat) : Bool :=
  let d := (a + 2 ^ 32 - b) % 2 ^ 32
  decide (min d (2 ^ 32 - d) ≤ h.f Reg.SFN_CFG 12 4 * 100)

/-- A point's combined state (R559): STATE as RP_STAT codes it, both network states, and a failed SKEW test. A fenced point
reads demand (Table: Fenced cell behaviour). -/
def pointOf (e : Env) (h : Heath) (p : Nat) : Nat × Nat × Nat × Bool :=
  let i := h.f (Reg.HTH_RP_CFG p) 8 5
  let bit := h.f (Reg.HTH_RP_CFG p) 0 3
  let ta := h.net 0 i
  let tb := h.net 1 i
  let na := netState e ta bit
  let nb := netState e tb bit
  let skew := na == 1 && nb == 1 && !skewOk h ta.ts tb.ts
  let c := if h.fenced (0x50002000 + 0x1000 * (p / 64)) (p % 64) then 0
    else if na = 2 ∨ nb = 2 then 3 else if na = 3 ∨ nb = 3 then 2 else if na = 1 ∧ nb = 1 ∧ !skew then 1 else 0
  (c, na, nb, skew)

/-- A point is configured, and its source enabled (R546). -/
def pointOn (h : Heath) (p : Nat) : Bool := h.b (Reg.HTH_RP_CFG p) 31 && srcOn h (h.f (Reg.HTH_RP_CFG p) 8 5)

/-- Milliseconds since a network's last telegram, at most 255. -/
def netAge (e : Env) (t : HthNet) : Nat := match t.at' with | some a => min 255 ((e.time.up - a) / 200000) | none => 255

/-- REMOTE_POINT_COMBINE (R559): a configured point's registers at step 1 of a channel A cycle. -/
def pointCycle (e : Env) (p : Nat) (x : HthLog) : HthLog :=
  let h := x.1
  if !pointOn h p then x
  else
    let i := h.f (Reg.HTH_RP_CFG p) 8 5
    let c := pointOf e h p
    let was := h.f (Reg.HTH_RP_STAT p) 30 2
    let skewWas := h.b (Reg.HTH_RP_STAT p) 25
    let h1 := h.wr (Reg.HTH_RP_STAT p) (word (c.1 * 2 ^ 30 + c.2.1 * 2 ^ 28 + c.2.2.1 * 2 ^ 26 + (if c.2.2.2 then 2 ^ 25 else 0)
      + netAge e (h.net 0 i) * 256 + netAge e (h.net 1 i)))
    let h2 := if was = 1 ∧ c.1 ≠ 1 then h1.sat (Reg.HTH_RP_CNT p) 16 16 1 else h1
    let h3 := if was ≠ 2 ∧ c.1 = 2 then h2.sat (Reg.HTH_RP_CNT p) 8 8 1 else h2
    let h4 := if c.2.2.2 && !skewWas then h3.sat (Reg.HTH_RP_CNT p) 0 8 1 else h3
    let judged := c.2.1 == 1 && c.2.2.1 == 1
    let fresh := c.2.2.2 && !h.b (Reg.SFN_SRC_STAT i) 29
    let h5 := if judged then h4.setB (Reg.SFN_SRC_STAT i) 29 c.2.2.2 else h4
    let h6 := if c.2.2.2 then h5.setB Reg.SFN_EVT 6 true else h5
    hthWhen fresh (sfnEntry 0x02 i) (h6, x.2)

/-- Function states of a channel as FSTATE shows them (Table: Heath telegram). -/
def statesOf (c : HthCh) : Nat :=
  (List.range 16).foldl (fun x k => x + (tget (fun _ => ({} : HthFn)) c.fns k).st * 4 ^ k) 0
/-- The RUN bits of function states. -/
def runOf (states : Nat) : Nat := (List.range 16).foldl (fun x k => if states / 4 ^ k % 4 = 2 then x + 2 ^ k else x) 0

/-- The Heath telegram of a network, with its SEQ (R550): the states are channel A's at the end of its last cycle. -/
def heathTele (e : Env) (h : Heath) (net seq : Nat) : List Word :=
  let t := h.st
  let l := [word (2 * 2 ^ 28 + net * 2 ^ 27 + h.f Reg.SFN_CFG 16 16), word seq, word (e.time.up / 2000), word t.states,
    word ((65535 - t.run % 65536) * 65536 + t.run % 65536),
    word (h.f Reg.HTH_CFG 30 2 * 2 ^ 30 + (if e.part.safeMaster then 2 ^ 29 else 0) + (if h.b Reg.HTH_STAT 31 then 2 ^ 28 else 0)
      + h.f Reg.SFN_CFG 8 4 * 2 ^ 24 + t.swA * 256 + t.swB), h.rd Reg.HTH_CFG_CRC]
  l ++ [teleCrc l]

/-- Channel B withholds the telegram: its own states differ from FSTATE or RUN (R550). -/
def teleHeld (h : Heath) : Bool := statesOf h.st.b != h.st.states || (h.st.run &&& runOf (statesOf h.st.b)) != h.st.run

/-- The identifier of this chip's Heath telegrams (R554). -/
def heathIdent (h : Heath) : Nat := if h.f Reg.HTH_CFG 30 2 ≠ 0 ∧ !h.b Reg.HTH_STAT 25 then 0x0F1 else 0x0F0

/-- The Heath telegram of network A for a downward bundle, when channel B does not withhold it (R552). -/
def teleDown (e : Env) (h : Heath) : Option (List Word) × Heath :=
  if teleHeld h then (none, h.setB Reg.SFN_EVT 7 true)
  else
    let n := (h.st.seqA + 1) % 2 ^ 32
    (some (heathTele e h 0 n), h.onSt (fun t => { t with seqA := n }))

/-- The telegram put into controller 7's transmit FIFO: base format, bit-rate switching, 32 bytes; it replaces one that is
pending (R553, R556). -/
def teleQueue (l : List Word) (h : Heath) : Heath :=
  let wr := h.f (Reg.CAN_SW_IDX 7) 0 7
  let pend : Bool := wr != h.f (Reg.CAN_HW_IDX 7) 0 7
  let i := if pend then wr + 127 else wr
  let a := 0x50000 + 80 * (i % 64)
  let m := memWrWords h.sram (a + 8) (word (heathIdent h * 2 ^ 18) :: word (2 ^ 29 + 2 ^ 28 + 13 * 2 ^ 23 + 32 * 2 ^ 16) :: l)
  let h1 := { h with sram := m }
  if pend then h1 else h1.setF (Reg.CAN_SW_IDX 7) 0 7 (wr + 1)

/-- Heath sends its telegram on network B, unless channel B withholds it (R550, R556). -/
def teleSend (e : Env) (h : Heath) : Heath :=
  let h1 := h.onSt (fun t => { t with sentRun := t.run, sentAge := 0 })
  if teleHeld h then h1.setB Reg.SFN_EVT 7 true
  else
    let n := h.n Reg.SFN_TXSEQ + 1
    teleQueue (heathTele e h 1 (n % 2 ^ 32)) (h1.wr Reg.SFN_TXSEQ (word n))

/-- The check of Table: Telegram checks that a telegram fails first, as its cause; 0 when it passes. `src` is the source
whose port or identifier it arrived on, `mate` says that it arrived on the partner's identifier. -/
def teleCheck (e : Env) (h : Heath) (net : Nat) (src : Option Nat) (mate : Bool) (l : List Word) : Nat :=
  let w (i : Nat) : Word := l.getD i 0
  let kind := fget (w 0) 28 4
  let t := if kind = 2 then h.st.partner else match src with | some i => h.net net i | none => {}
  let fmt : Bool := fget (w 0) 27 1 == net &&
    ((kind == 1 && l.length == 6 && fget (w 0) 24 3 == 0 && decide (1 ≤ fget (w 0) 16 8) && decide (fget (w 0) 16 8 ≤ 8) && w 4 == 0)
      || (kind == 2 && l.length == 8 && fget (w 0) 16 11 == 0 && fget (w 5) 16 8 == 0))
  let own : Bool := if kind = 2 then mate && fget (w 0) 0 16 == h.f Reg.SFN_PARTNER 0 16
    else match src with
      | some i => srcOn h i && fget (w 0) 0 16 == h.f (Reg.SFN_SRC i) 0 16
      | none => false
  let d := ((w 1).toNat + 2 ^ 32 - t.seq) % 2 ^ 32
  let fresh : Bool := netGone e t || (decide (1 ≤ d) && decide (d ≤ 2 ^ 31 - 1))
  let body := w (if kind = 2 then 4 else 3)
  let cpl : Bool := fget body 16 16 == 65535 - fget body 0 16 && (kind == 2 || (List.range 8).all (fun b => fget body (2 * b) 2 != 3))
  if !fmt then 1 else if teleCrc (l.take (l.length - 1)) ≠ w (l.length - 1) then 2 else if !own then 3 else if !fresh then 4
  else if !cpl then 5 else 0

/-- TELEGRAM_REJECT (R557, R566): flagged and counted; logged for a source at most once in 1,000 ms on a network. -/
def teleReject (e : Env) (net : Nat) (src : Option Nat) (cause : Nat) (x : HthLog) : HthLog :=
  let h1 := (x.1.setB Reg.SFN_EVT (cause - 1) true).sat Reg.SFN_CNT (if cause = 2 then 24 else if cause = 4 then 16 else 8) 8 1
  match src with
  | some i =>
    let t := h1.net net i
    let h2 := h1.sat (Reg.SFN_SRC_STAT i) 16 8 1
    let quiet : Bool := match t.rejAt with | some a => decide (e.time.up < a + 200000000) | none => false
    if quiet then (h2, x.2)
    else sfnEntry 0x03 (cause * 2 ^ 28 + net * 2 ^ 27 + i) (h2.setNet net i { t with rejAt := some e.time.up }, x.2)
  | none => (h1, x.2)

/-- NETWORK_LOST (R558): recorded once for a loss. -/
def netLose (net i : Nat) (x : HthLog) : HthLog :=
  let h1 := x.1.setNet net i { x.1.net net i with lost := true }
  let h2 := ((h1.setB (Reg.SFN_SRC_STAT i) (31 - net) false).setB Reg.SFN_EVT 5 true).sat Reg.SFN_CNT 0 8 1
  sfnEntry 0x01 (net * 2 ^ 31 + 2 ^ 30 + i) (h2, x.2)

/-- A point telegram accepted from source `i` (R557, R558). -/
def pointTake (e : Env) (net i : Nat) (l : List Word) (x : HthLog) : HthLog :=
  let w (k : Nat) : Word := l.getD k 0
  let t0 := x.1.net net i
  let x1 := hthWhen (!t0.lost && netGone e t0) (netLose net i) x
  let t := x1.1.net net i
  let h1 := x1.1.setNet net i { t with at' := some e.time.up, seq := (w 1).toNat, ts := (w 2).toNat, states := fget (w 3) 0 16, lost := false }
  let h2 := (h1.setF (Reg.SFN_SRC_STAT i) (if net = 0 then 8 else 0) 8 (fget (w 1) 0 8)).setB (Reg.SFN_SRC_STAT i) (31 - net) true
  hthWhen t.lost (sfnEntry 0x01 (net * 2 ^ 31 + i)) (h2, x1.2)

/-- What an accepted partner telegram does (R537): SHADOW_DIS at the fifth in a row that differs, DUAL_MASTER while both claim,
PAIR_MISMATCH as the last one says. -/
def mateTake (e : Env) (l : List Word) (x : HthLog) : HthLog :=
  let w (k : Nat) : Word := l.getD k 0
  let h := x.1
  let pair := h.f Reg.HTH_CFG 30 2
  let h1 := h.onSt (fun t => { t with partner := { t.partner with at' := some e.time.up, seq := (w 1).toNat, ts := (w 2).toNat, lost := false } })
  if pair = 0 then (h1, x.2)
  else
    let own := statesOf h.st.a
    let diff := (List.range 16).foldl (fun a k => if own / 4 ^ k % 4 = (w 3).toNat / 4 ^ k % 4 then a else a + 2 ^ k) 0
    let run := if diff = 0 then 0 else min 5 (h.st.shadow + 1)
    let h2 := (h1.onSt (fun t => { t with shadow := run })).setB Reg.HTH_STAT 27 (fget (w 5) 30 2 != pair)
    let x1 : HthLog := if run = 5 ∧ h.st.shadow = 4 then hthEntry 0x06 diff (h2.setB Reg.HTH_EVT 7 true, x.2) else (h2, x.2)
    let dual : Bool := pair == 1 && e.part.safeMaster && fget (w 5) 30 2 == 1 && fbit (w 5) 29
    let was := h.b Reg.HTH_STAT 28
    let x2 := hthDo (fun h => h.setB Reg.HTH_STAT 28 dual) x1
    let x3 := hthWhen (dual && !was) (fun y => hthEntry 0x07 1 (hthDo (fun h => h.setB Reg.HTH_EVT 6 true) y)) x2
    hthWhen (was && !dual) (hthEntry 0x07 0) x3

/-- A telegram in Heath's mailbox (R557). -/
def teleArrive (e : Env) (net : Nat) (src : Option Nat) (mate : Bool) (l : List Word) (x : HthLog) : HthLog :=
  let cause := teleCheck e x.1 net src mate l
  if cause ≠ 0 then teleReject e net src cause x
  else if fget (l.getD 0 0) 28 4 = 2 then mateTake e l x
  else match src with
    | some i => pointTake e net i l x
    | none => x

/-- NETWORK_A_TELEGRAM (R551): the SAFETY record of an accepted bundle on an admitted port. -/
def netATake (n : Nat) (l : List Word) (e : Env) (x : HthLog) : HthLog :=
  let src := (List.range 32).find? (fun i => srcOn x.1 i && x.1.f (Reg.SFN_SRC i) 24 5 == n)
  match src with
  | some _ => teleArrive e 0 src false l x
  | none => x

/-- The oldest frame of controller 7's receive ring is taken as a telegram (R553, R554, R557); an own frame that TX_ECHO wrote there is
none. -/
def netBTake (e : Env) (h : Heath) : HthLog :=
  let rd := h.f (Reg.CAN_SW_IDX 7) 16 13
  if rd = h.f (Reg.CAN_HW_IDX 7) 16 13 then (h, [])
  else
    let a := 80 * (rd % 4096)
    let id := fget (memWord h.sram (a + 8)) 18 11
    let len := fget (memWord h.sram (a + 12)) 16 7
    let l := (List.range (len / 4)).map (fun i => memWord h.sram (a + 16 + 4 * i))
    let h1 := h.setF (Reg.CAN_SW_IDX 7) 16 13 (rd + 1)
    let src := if 0x100 ≤ id then some (id - 0x100) else none
    if fbit (memWord h.sram (a + 8)) 31 then (h1, []) else teleArrive e 1 src (decide (id < 0x100) && id != heathIdent h) l (h1, [])

/-- Heath evaluates: it is not restarting and has started. -/
def hthOn (s : State) : Bool := s.chip.rgn .heath == 0

/-- HEATH_TELEGRAM_SEND: Heath's own telegram on network B (R556). -/
def execHeathTelegramSend (s : State) : Host.Outcome State Fault Refusal :=
  .next (if hthOn s then onHeath (fun e h => (teleSend e h, [])) s else s)

/-- NETWORK_B_TELEGRAM: the next telegram that controller 7 has received is checked (R557). -/
def execNetworkBTelegram (s : State) : Host.Outcome State Fault Refusal :=
  .next (if hthOn s then onHeath netBTake s else s)

/-- NETWORK_LOST: 10 ms without an accepted telegram (R558). -/
def execNetworkLost (i : Fin 32) (b : Bool) (s : State) : Host.Outcome State Fault Refusal :=
  let net := if b then 1 else 0
  .next (if hthOn s && srcOn s.heath i && !(s.heath.net net i).lost && netGone s.env (s.heath.net net i) then
      onHeath (fun _ h => netLose net i (h, [])) s
    else s)

end Sys2Proof.Machine
end

