-- ==== Sys2Proof/Machine/Heath.lean ====
section
/-! DEFINITION. Heath's two channels (ch. 15): input legs with their filters, test windows and discrepancies, reset inputs,
functions, switch commands, published stop states, and the ways in which Heath fails. -/
namespace Sys2Proof.Machine

/-- Channel A (0) or B (1). -/
def Heath.ch (h : Heath) (i : Nat) : HthCh := if i = 0 then h.st.a else h.st.b
/-- A channel changed. -/
def Heath.onCh (h : Heath) (i : Nat) (f : HthCh → HthCh) : Heath :=
  h.onSt (fun t => if i = 0 then { t with a := f t.a } else { t with b := f t.b })
/-- An input of a channel. -/
def HthCh.inp (c : HthCh) (j : Nat) : HthIn := tget (fun _ => {}) c.ins j
/-- An input changed. -/
def HthCh.onIn (j : Nat) (f : HthIn → HthIn) (c : HthCh) : HthCh := { c with ins := tset (fun _ => ({} : HthIn)) c.ins j (f (c.inp j)) }
/-- A reset input of a channel. -/
def HthCh.rin (c : HthCh) (r : Nat) : HthRst := tget (fun _ => {}) c.rst r
/-- A reset input changed. -/
def HthCh.onRst (r : Nat) (f : HthRst → HthRst) (c : HthCh) : HthCh := { c with rst := tset (fun _ => ({} : HthRst)) c.rst r (f (c.rin r)) }
/-- A function of a channel. -/
def HthCh.fn (c : HthCh) (k : Nat) : HthFn := tget (fun _ => {}) c.fns k
/-- A function changed. -/
def HthCh.onFn (k : Nat) (f : HthFn → HthFn) (c : HthCh) : HthCh := { c with fns := tset (fun _ => ({} : HthFn)) c.fns k (f (c.fn k)) }

/-- PAIR of HTH.CFG: 0 SOLO, 1 single safety master, 2 paired (R534). -/
def hthPair (h : Heath) : Nat := h.f Reg.HTH_CFG 30 2
/-- The chip drives test pulses and checks their windows (R535, R536). -/
def hthPulses (p : Part) (h : Heath) : Bool := hthPair h == 0 || p.safeMaster
/-- The chip drives outputs (R535 to R537); none in a die shutdown (R315). -/
def hthDrives (p : Part) (h : Heath) (sd : Bool) : Bool :=
  !sd && (hthPair h == 0 || hthPair h == 2 || (hthPair h == 1 && p.safeMaster && !h.b Reg.HTH_STAT 28))
/-- Configuration mode. -/
def hthCfg (h : Heath) : Bool := h.b Reg.HTH_STAT 31

/-- T_F of an input in samples, T_D in samples of 50 µs (R512, R516). -/
def inTf (h : Heath) (j : Nat) : Nat := h.f (Reg.HTH_IN_TIME j) 0 11
def inTd (h : Heath) (j : Nat) : Nat := 20 * h.f (Reg.HTH_IN_TIME j) 16 11
/-- MODE of an input: 0 unused, 1 equivalent, 2 antivalent. -/
def inMode (h : Heath) (j : Nat) : Nat := h.f (Reg.HTH_IN_CFG j) 30 2
/-- A terminal level read by a leg: reads run or not (R511). -/
def legReads (mode : Nat) (legB : Bool) (level : Bool) : Bool :=
  if mode = 1 then level else if mode = 2 then (if legB then !level else level) else false
/-- The test-pulse source of a leg, if it has one (HTH.IN_CFG). -/
def legSource (h : Heath) (j : Nat) (legB : Bool) : Option Nat :=
  let c := h.rd (Reg.HTH_IN_CFG j)
  if legB then (if fbit c 24 then some (fget c 22 2) else none) else (if fbit c 27 then some (fget c 25 2) else none)
/-- Samples in a test window of a source: TP_W and 100 µs (R514). -/
def winLen (h : Heath) (n : Nat) : Nat := h.f (Reg.HTH_TP_CFG (8 + n)) 16 8 + 2

/-- A leg at one sample (R512, R514): `k` is the sample's number in the window now open for its source, of `len` samples. -/
def legSample (mode tf : Nat) (legB : Bool) (win : Option (Nat × Nat)) (raw : Bool) (l : HthLeg) : HthLeg :=
  let low : Nat := match win with
    | some _ => if raw then 0 else if 0 < l.low then l.low + 1 else if l.raw then 1 else 0
    | none => 0
  let high : Bool := match win with
    | some (k, _) => if k < 2 then true else l.high && raw
    | none => false
  let fail : Bool := match win with
    | some (k, len) => l.fail || (k + 1 == len && high)
    | none => l.fail
  let reads := legReads mode legB (raw || decide (0 < low))
  let diff : Nat := if win.isNone && decide (0 < l.low) && !raw then (if reads = l.run then 0 else l.low + 1)
    else if reads ≠ l.run then l.diff + 1
    else if 0 < l.diff ∧ tf ≤ l.diff then max l.diff (tf + 1)
    else 0
  { l with diff := diff, raw := raw, low := low, high := high, fail := fail }

/-- The legs of an input as it reads now: both demand where it is unused or fenced (R511, Table: Fenced cell behaviour). -/
def inLegs (h : Heath) (c : HthCh) (j : Nat) : Bool × Bool :=
  if h.fenced 0x50000000 j then (false, false) else ((c.inp j).a.run, (c.inp j).b.run)
/-- STATE of an input: 0 demand, 1 run, 2 disagree, 3 fault (R515). -/
def inState (h : Heath) (c : HthCh) (j : Nat) : Nat :=
  let l := inLegs h c j
  if (c.inp j).fault ≠ 0 then 3 else if l.1 && l.2 then 1 else if l.1 || l.2 then 2 else 0

/-- IN_STAT as channel A has it. -/
def inShow (j : Nat) (h : Heath) : Heath :=
  let c := h.st.a
  let x := c.inp j
  let l := inLegs h c j
  let bit (b : Bool) (i : Nat) : Nat := if b then 2 ^ i else 0
  let ms := if x.dis = 0 then h.f (Reg.HTH_IN_STAT j) 0 16 else min 65535 (x.dis / 20)
  h.wr (Reg.HTH_IN_STAT j) (word (bit x.a.raw 31 + bit x.b.raw 30 + bit l.1 29 + bit l.2 28 + inState h c j * 2 ^ 26
    + x.fault % 4 * 2 ^ 24 + bit x.clr 23 + ms))

/-- The two steps by which a latched fault clears (R517): both legs in demand, then both in run, at samples. -/
def inClear (l : Bool × Bool) (x : HthIn) : HthIn :=
  if x.fault = 0 then x
  else if x.clr && l.1 && l.2 then { x with fault := 0, clr := false }
  else if !l.1 && !l.2 then { x with clr := true }
  else x

/-- What the last sample left of an input once its filtered legs are known: the clearing of a fault (R517). -/
def inClose (h : Heath) (j : Nat) (c : HthCh) : HthCh := c.onIn j (inClear (inLegs h c j))

/-- The inputs of a function: remote or not, and the index (HTH.FNk_IN). -/
def fnInputs (h : Heath) (k : Nat) : List (Bool × Nat) :=
  (List.range (min 4 (h.f (Reg.HTH_FN_CFG k) 0 3))).map (fun n => (h.b (Reg.HTH_FN_IN k) (8 * n + 7), h.f (Reg.HTH_FN_IN k) (8 * n) 7))
/-- KIND of a function: 1 ESTOP, 2 GUARD, 3 TWOHAND, 4 CURTAIN; 0 unused. -/
def fnKind (h : Heath) (k : Nat) : Nat := h.f (Reg.HTH_FN_CFG k) 28 4
/-- An input of a function reads run. -/
def fnInRun (e : Env) (h : Heath) (c : HthCh) (x : Bool × Nat) : Bool :=
  if x.1 then pointOn h x.2 && (pointOf e h x.2).1 == 1 else inState h c x.2 == 1
/-- An input of a function reads demand; a remote point that does not read run carries demand on both legs (R559). -/
def fnInDemand (e : Env) (h : Heath) (c : HthCh) (x : Bool × Nat) : Bool :=
  if x.1 then !fnInRun e h c x else (let l := inLegs h c x.2; !l.1 && !l.2)
/-- The latched fault of an input of a function: 1 DISCREPANCY, 2 TEST; a remote point has none here. -/
def fnInFault (c : HthCh) (x : Bool × Nat) : Nat :=
  if x.1 then 0 else (let f := (c.inp x.2).fault; if f = 0 then 0 else if f = 1 then 1 else 2)

/-- T_D of a GUARD function's door input; a remote point has none stated (log entry 7). -/
def doorTd (h : Heath) (x : Bool × Nat) : Nat := if x.1 then 20 * Config.remoteDoorMs x.2 else inTd h x.2

/-- A GUARD function at a sample (R524): door in demand with the lock in run, counted; a LOCK fault's steps of clearing. -/
def lockClose (e : Env) (h : Heath) (k : Nat) (c : HthCh) : HthCh :=
  if fnKind h k ≠ 2 then c
  else
    let l := fnInputs h k
    let door := l.getD 0 (false, 0)
    let lock := l.getD 1 (false, 0)
    let open' := fnInDemand e h c door
    let locked := fnInRun e h c lock
    c.onFn k (fun f =>
      let f1 := { f with lockN := if open' && locked then f.lockN + 1 else 0 }
      if !f1.lock then f1
      else if f1.lockClr && fnInRun e h c door && locked then { f1 with lock := false, lockClr := false }
      else if open' && fnInDemand e h c lock then { f1 with lockClr := true }
      else f1)

/-- A reset input at one sample (R518): filtered for 5 ms, its pulse measured, its low measured. -/
def rstSample (raw : Bool) (r : HthRst) : HthRst :=
  if !r.seen then { r with seen := true, lvl := raw, diff := 0, high := 0, low := 0 }
  else
    let d := if raw ≠ r.lvl then r.diff + 1 else if 100 ≤ r.diff then 101 else 0
    if 101 ≤ d then
      let after := if raw = r.lvl then 1 else 0
      if r.lvl then { r with lvl := false, diff := after, low := 0, fell := if r.stuck then none else some (r.high + 1), high := r.high + 1 }
      else { r with lvl := true, diff := after, high := 0, low := 0 }
    else if r.lvl then { r with diff := d, high := r.high + 1 }
    else
      let low := r.low + 1
      { r with diff := d, low := low, stuck := r.stuck && decide (low < 1000) }

/-- RST_STAT as channel A has it. -/
def rstShow (r : Nat) (h : Heath) : Heath :=
  let x := h.st.a.rin r
  h.wr (Reg.HTH_RST_STAT (12 + r)) (word ((if x.lvl then 2 ^ 31 else 0) + (if x.stuck then 2 ^ 30 else 0) + min 65535 (x.high / 20)))

/-- Disagreement at a sample (R516): it has lasted one sample more, or is over. -/
def disAdvance (l : Bool × Bool) (x : HthIn) : HthIn :=
  if l.1 ≠ l.2 then { x with dis := x.dis + 1 } else { x with dis := 0, taken := false }

/-- A channel's samples of every input (R507, R512 to R518): legs and reset terminals as bits. -/
def chSample (e : Env) (i : Nat) (legs : BitVec 32) (rst : BitVec 2) (h : Heath) : Heath :=
  let wins : Nat → Option (Nat × Nat) := fun n => ((h.ch i).win.find? (fun x => x.1 == n)).map (fun x => (x.2, winLen h n))
  let winOf (j : Nat) (legB : Bool) : Option (Nat × Nat) := match legSource h j legB with | some n => wins n | none => none
  let c0 := eachBelow 16 (fun j c => (inClose h j c).onIn j (disAdvance (inLegs h c j))) (h.ch i)
  let c1 := eachBelow 16 (fun k c => lockClose e h k c) c0
  let c2 := eachBelow 16 (fun j c => c.onIn j (fun x =>
    { x with a := legSample (inMode h j) (inTf h j) false (winOf j false) (legs.getLsbD (2 * j)) x.a,
             b := legSample (inMode h j) (inTf h j) true (winOf j true) (legs.getLsbD (2 * j + 1)) x.b })) c1
  let c3 := eachBelow 2 (fun r c => c.onRst r (rstSample (rst.getLsbD r))) c2
  let c4 := { c3 with win := (c3.win.map (fun x => (x.1, x.2 + 1))).filter (fun x => decide (x.2 < winLen h x.1)) }
  let h1 := h.onCh i (fun _ => c4)
  if i = 0 then eachBelow 2 rstShow (eachBelow 16 inShow h1) else h1

/-- A latched fault of an input holds in both channels (R517), counted and logged once. -/
def inLatch (j fault : Nat) (x : HthLog) : HthLog :=
  let set (c : HthCh) : HthCh := c.onIn j (fun y => if y.fault = 0 then { y with fault := fault, clr := false } else y)
  let h1 := (x.1.onCh 0 set).onCh 1 set
  let h2 := (h1.sat (Reg.HTH_IN_CNT j) (if fault = 1 then 24 else 16) 8 1).setB Reg.HTH_EVT 2 true
  hthEntry 0x02 (fault * 2 ^ 30 + j) (inShow j h2, x.2)

/-- A function permits its outputs: in RUN, or in its category 1 delay (R527). -/
def fnPermits (f : HthFn) : Bool := f.st == 2 || f.dly.isSome

/-- The LOCK output that a GUARD function names (HTH.FNk_OUT). -/
def fnLock (h : Heath) (k : Nat) : Option Nat :=
  if fnKind h k = 2 ∧ h.b (Reg.HTH_FN_OUT k) 12 then some (h.f (Reg.HTH_FN_OUT k) 8 3) else none

/-- Functions whose FN_OUT names output `n`. -/
def fnsOf (h : Heath) (n : Nat) : List Nat := (List.range 16).filter (fun k => fnKind h k != 0 && h.b (Reg.HTH_FN_OUT k) n)

/-- The switch command of output `n` in a channel (R527). -/
def swClosed (p : Part) (h : Heath) (sd : Bool) (c : HthCh) (n : Nat) : Bool :=
  let held := (List.range 16).any (fun k => fnLock h k == some n && (c.fn k).unl)
  let l := fnsOf h n
  hthDrives p h sd && !hthCfg h && h.f (Reg.HTH_OUT_STAT n) 26 2 == 0 && !h.fenced 0x50001000 n
    && (held || (!l.isEmpty && l.all (fun k => fnPermits (c.fn k))))

/-- The eight switch commands of a channel. -/
def swOf (p : Part) (h : Heath) (sd : Bool) (c : HthCh) : Nat :=
  (List.range 8).foldl (fun x n => if swClosed p h sd c n then x + 2 ^ n else x) 0

/-- OUT_STAT and the OUTS of HTH.STAT as the switches stand. -/
def outShow (h : Heath) : Heath :=
  let a := h.st.a.sw
  let b := h.st.b.sw
  let h1 := eachBelow 8 (fun n h =>
    let on := a.testBit n && b.testBit n
    (((h.setB (Reg.HTH_OUT_STAT n) 31 on).setB (Reg.HTH_OUT_STAT n) 30 (a.testBit n)).setB (Reg.HTH_OUT_STAT n) 29 (b.testBit n)).setB
      (Reg.HTH_OUT_STAT n) 25 ((List.range 16).any (fun k => fnLock h k == some n))) h
  h1.setF Reg.HTH_STAT 0 8 (a &&& b)

/-- Both channels' switch commands set anew from what they hold. -/
def swAll (p : Part) (sd : Bool) (h : Heath) : Heath :=
  let f (c : HthCh) : HthCh := { c with sw := swOf p h sd c }
  outShow ((h.onCh 0 f).onCh 1 f)

/-- FNk_STAT as channel A has it; UNLOCKED while both channels hold the LOCK output closed. -/
def fnShow (k : Nat) (h : Heath) : Heath :=
  let f := h.st.a.fn k
  let bit (b : Bool) (i : Nat) : Nat := if b then 2 ^ i else 0
  h.wr (Reg.HTH_FN_STAT k) (word (f.st * 2 ^ 28 + f.fault * 2 ^ 24 + bit f.pwr 23 + bit f.dly.isSome 22
    + bit (f.unl && (h.st.b.fn k).unl) 21 + bit f.sync 20 + min 65535 (f.age / 4)))

/-- A function enters a state: its age starts anew; leaving RUN starts a category 1 delay, entering RUN ends it (R527, R528). -/
def fnEnter (h : Heath) (k st : Nat) (f : HthFn) : HthFn :=
  let d := h.f (Reg.HTH_FN_TIME k) 20 12
  if f.st = st then f
  else
    let dly := if st = 2 then none else if f.st = 2 then (if h.b (Reg.HTH_FN_CFG k) 25 && decide (0 < d) then some 0 else none) else f.dly
    { f with st := st, age := 0, dly := dly, hands := f.hands && f.st != 2 }

/-- TWOHAND in READY (R525): the first hand opens the window of 500 ms, the second inside it starts RUN; what is shown stays
until the next attempt succeeds. -/
def fnHands (h : Heath) (k : Nat) (anyRun allRun : Bool) (f : HthFn) : HthFn :=
  if f.st ≠ 1 ∨ f.block then f
  else
    let f1 := if f.win.isNone && anyRun then { f with win := some 0 } else f
    match f1.win with
    | some w => if allRun ∧ w < 2000 then fnEnter h k 2 { f1 with win := none, sync := false } else f1
    | none => f1

/-- The states that a function passes through in a cycle (R520 to R526, R542): faults, demands, clearing, then the reset edge.
Answers the function and each state it entered. -/
def fnStep (e : Env) (h : Heath) (c : HthCh) (unlock : Bool) (k : Nat) (f0 : HthFn) : HthFn × List (Nat × Nat) :=
  let l := fnInputs h k
  let kind := fnKind h k
  let all := l.all (fnInRun e h c)
  let any := l.any (fnInRun e h c)
  let none' := l.all (fnInDemand e h c)
  let inF := ((l.map (fnInFault c)).find? (· != 0)).getD 0
  let fault := if inF ≠ 0 then inF else if f0.lock then 3 else 0
  let edge := (c.rin (if h.b (Reg.HTH_FN_CFG k) 27 then 1 else 0)).edge
  let auto := h.b (Reg.HTH_FN_CFG k) 26
  let note (a b : HthFn) : List (Nat × Nat) := if a.st = b.st then [] else [(a.st, b.st)]
  let f := { f0 with age := f0.age + 1, dly := f0.dly.map (· + 1), win := f0.win.map (· + 1), fault := fault }
  let stop : Bool := if kind = 3 then f.st == 2 && !all else !all || (kind == 2 && unlock)
  let f1 := if fault ≠ 0 then fnEnter h k 3 f else if f.st = 3 then fnEnter h k 0 f else f
  let f2 := if (f1.st = 1 ∨ f1.st = 2) ∧ stop then fnEnter h k 0 f1 else f1
  let f3 := if f2.st ≠ 2 ∧ none' then { f2 with hands := true, block := false } else f2
  let f4 : HthFn := if kind = 3 then
      (let g := if edge && f3.st == 0 && f3.hands then { f3 with pwr := false } else f3
       if g.st = 0 ∧ g.hands ∧ !g.pwr then fnEnter h k 1 g else g)
    else if f3.st = 0 ∧ !stop then fnEnter h k 1 f3 else f3
  let f5 : HthFn := if kind = 3 then fnHands h k any all f4
    else if f4.st = 1 ∧ edge then fnEnter h k 2 { f4 with pwr := false }
    else if f4.st = 1 ∧ auto ∧ !f4.pwr then fnEnter h k 2 f4
    else f4
  let off := (List.range 8).all (fun n => !(h.b (Reg.HTH_FN_OUT k) n && c.sw.testBit n))
  let f6 : HthFn := if kind = 2 ∧ unlock ∧ (fnLock h k).isSome then
      { f5 with unlN := if !fnPermits f5 && off then (match f5.unlN with | some n => some (n + 1) | none => some 0) else none }
    else { f5 with unlN := none, unl := false }
  (f6, note f f1 ++ note f1 f2 ++ note f2 f4 ++ note f4 f6)

/-- STOP_BITS_PUBLISH (R533): outlet stop bits and RUN bits from both channels; channel A's cycles fix what the freeze and the
Heath telegram take. -/
def stopPublish (i : Nat) (h : Heath) : Heath :=
  let used := (List.range 16).filter (fun k => fnKind h k != 0)
  let runs (k : Nat) : Bool := (h.st.a.fn k).st == 2 && (h.st.b.fn k).st == 2
  let run := used.foldl (fun x k => if runs k then x + 2 ^ k else x) 0
  let halt := used.filter (fun k => !runs k)
  let lo := halt.foldl (fun x k => x ||| h.n (Reg.HTH_FN_OLET_LO k)) 0
  let hi := halt.foldl (fun x k => x ||| h.n (Reg.HTH_FN_OLET_HI k)) 0
  let h1 := ((h.wr Reg.HTH_FN_RUN (word run)).wr Reg.HTH_OSTOP_LO (word lo)).wr Reg.HTH_OSTOP_HI (word hi)
  if i = 0 then
    h1.onSt (fun t => { t with stops := hi * 2 ^ 32 + lo, run := run, states := statesOf t.a, swA := t.a.sw, swB := t.b.sw, sentAge := t.sentAge + 1 })
  else h1

/-- The state changes that a channel A cycle records (R544, class 0x01). -/
def fnNotes (k fault : Nat) (l : List (Nat × Nat)) (x : HthLog) : HthLog :=
  eachOf l (fun t x => hthEntry 0x01 (t.2 * 2 ^ 28 + t.1 * 2 ^ 24 + fault * 2 ^ 20 + k) (hthDo (fun h => h.setB Reg.HTH_EVT 0 true) x)) x

/-- The outputs as channel A measures them in a cycle: readbacks, currents, and how long each condition of R530 has held. -/
def outMeasure (rb : BitVec 8) (ma : List Nat) (h : Heath) : Heath :=
  let bump (b : Bool) (m : List (Nat × Nat)) (n : Nat) : List (Nat × Nat) :=
    tset (fun _ => 0) m n (if b then tget (fun _ => 0) m n + 1 else 0)
  eachBelow 8 (fun n h =>
    let h1 := (h.setB (Reg.HTH_OUT_STAT n) 28 (rb.getLsbD n)).setF (Reg.HTH_OUT_STAT n) 0 16 (min 65535 (ma.getD n 0))
    let open' := !h.st.a.sw.testBit n && !h.st.b.sw.testBit n
    h1.onSt (fun t => { t with rbLow := bump (!rb.getLsbD n) t.rbLow n, rbHigh := bump (rb.getLsbD n && open') t.rbHigh n,
                               amps := bump (decide (900 < ma.getD n 0)) t.amps n })) h

/-- HEATH_CYCLE of channel `i` (R509, R510, R533): inputs, edges, functions, switch commands, the heartbeat and what is shown. -/
def chCycle (i : Nat) (rb : BitVec 8) (ma : List Nat) (req : Nat) (sd stale : Bool) (e : Env) (h : Heath) : HthLog :=
  let h0 := h.onCh i (fun c => eachBelow 16 (fun j c => inClose h j c) c)
  let x0 : HthLog := if i = 0 then eachBelow 128 (pointCycle e) (outMeasure rb ma h0, []) else (h0, [])
  let h1 := x0.1
  let c := h1.ch i
  let res := (List.range 16).map (fun k =>
    if fnKind h1 k = 0 ∨ hthCfg h1 then (k, { c.fn k with age := (c.fn k).age + 1 }, []) else (k, fnStep e h1 c (req.testBit k) k (c.fn k)))
  let c1 := eachOf res (fun r c => c.onFn r.1 (fun _ => r.2.1)) c
  let c2 := eachBelow 2 (fun r c => c.onRst r (fun y => { y with edge := false })) c1
  let c3 := { c2 with sw := swOf e.part h1 sd c2, silent := 0 }
  let h2 := (h1.onCh i (fun _ => c3)).onCh (1 - i) (fun o => { o with silent := o.silent + 1 })
  let h3 := outShow (stopPublish i (if i = 0 then eachBelow 16 fnShow (eachBelow 16 inShow h2) else h2))
  let same := statesOf h3.st.a == statesOf h3.st.b && h3.st.a.sw == h3.st.b.sw
  let h4 := if i = 0 then
      (((h3.onSt (fun t => { t with differ := if same then 0 else t.differ + 1 })).setB Reg.HTH_STAT 26 stale).setB Reg.HTH_STAT 29 e.part.safeMaster).setB
        Reg.HTH_STAT 30 (hthPair h3 == 1 && !e.part.safeMaster)
    else h3
  if i = 0 then eachOf res (fun r x => fnNotes r.1 r.2.1.fault r.2.2 x) (h4, x0.2) else (h4, x0.2)

/-- A state in a die shutdown, and its oscillator corrections held. -/
def hthSd (s : State) : Bool := s.chip.hkp.dieSd

/-- HEATH_CYCLE: a channel's 250 µs cycle, with the readbacks and currents in mA that channel A measures (R510). The first one
of channel A on a new program shows its version (R716). -/
def execHeathCycle (i : Fin 2) (rb : BitVec 8) (ma : List Nat) (s : State) : Host.Outcome State Fault Refusal :=
  .next (if hthOn s then
      let s1 := onHeath (chCycle i rb ma (s.chip.n Reg.CHIP_HTH_REQ) (hthSd s) (s.chip.b Reg.HKP_DIE_STAT 24)) s
      match (if i = 0 then s.heath.st.newProg else none) with
      | some v =>
        let s2 := { s1 with heath := s1.heath.onSt (fun t => { t with newProg := none }) }
        onChip (fun e c => ((c.wr Reg.UPD_HTH_PROG v).setB Reg.UPD_EVT 3 true).log1 e 0x28 0 0x03 v.toNat) s2
      | none => s1
    else s)

/-- SAFETY_INPUT_SAMPLE: a channel samples every leg and reset input (R507, R512): bit 2j is leg A of input j, bit 2j + 1 leg B,
high or low. -/
def execSafetyInputSample (i : Fin 2) (legs : BitVec 32) (rst : BitVec 2) (s : State) : Host.Outcome State Fault Refusal :=
  .next (if hthOn s then onHeath (fun e h => (chSample e i legs rst h, [])) s else s)

/-- A leg of an input. -/
def HthIn.leg (x : HthIn) (legB : Bool) : HthLeg := if legB then x.b else x.a
/-- The same changed. -/
def HthIn.onLeg (legB : Bool) (f : HthLeg → HthLeg) (x : HthIn) : HthIn := if legB then { x with b := f x.b } else { x with a := f x.a }

/-- LEG_FILTER_CHANGE is due: the raw sample has differed for T_F (R512). -/
def legDue (h : Heath) (i j : Nat) (legB : Bool) : Bool := decide (inTf h j < (((h.ch i).inp j).leg legB).diff)

/-- LEG_FILTER_CHANGE: a leg's filtered state changes (R512). -/
def execLegFilterChange (i : Fin 2) (j : Fin 16) (legB : Bool) (s : State) : Host.Outcome State Fault Refusal :=
  .next (if hthOn s && legDue s.heath i j legB then
      onHeath (fun _ h =>
        let h1 := h.onCh i (HthCh.onIn j (HthIn.onLeg legB (fun l =>
          { l with run := !l.run, diff := if legReads (inMode h j) legB (l.raw || decide (0 < l.low)) = l.run then 1 else 0 })))
        (if i = 0 then inShow j h1 else h1, [])) s
    else s)

/-- DISCREPANCY is due: a disagreement has lasted T_D (R516). -/
def disDue (h : Heath) (i j : Nat) : Bool :=
  let x := (h.ch i).inp j
  !x.taken && decide (0 < x.dis) && decide (inTd h j ≤ x.dis)

/-- DISCREPANCY: the fault latches in both channels (R516, R517). -/
def execDiscrepancy (i : Fin 2) (j : Fin 16) (s : State) : Host.Outcome State Fault Refusal :=
  .next (if hthOn s && disDue s.heath i j then
      onHeath (fun _ h =>
        let h1 := h.onCh i (HthCh.onIn j (fun x => { x with taken := true }))
        if ((h.ch i).inp j).fault = 0 then inLatch j 1 (h1, []) else (h1, [])) s
    else s)

/-- LOCK_FAULT is due: door in demand while the lock reads run, for the door's T_D (R524). -/
def lockDue (h : Heath) (i k : Nat) : Bool :=
  let f := (h.ch i).fn k
  fnKind h k == 2 && !f.lock && decide (0 < f.lockN) && decide (doorTd h ((fnInputs h k).getD 0 (false, 0)) ≤ f.lockN)

/-- LOCK_FAULT: a guard open while reported locked latches in both channels (R524). -/
def execLockFault (i : Fin 2) (k : Fin 16) (s : State) : Host.Outcome State Fault Refusal :=
  .next (if hthOn s && lockDue s.heath i k then
      onHeath (fun _ h =>
        let set (c : HthCh) : HthCh := c.onFn k (fun f => { f with lock := true, lockClr := false })
        ((h.onCh 0 set).onCh 1 set, [])) s
    else s)

/-- The cycles of TP_PER (HTH.CFG). -/
def tpPeriod (h : Heath) : Nat := 200000 * max 1 (h.f Reg.HTH_CFG 0 16)
/-- The number of periods of TPn that have begun by a cycle: pulses start at n × TP_PER / 4 within the period (R513). -/
def tpTurn (h : Heath) (n up : Nat) : Nat :=
  let first := h.st.startAt + n * tpPeriod h / 4
  if up < first then 0 else (up - first) / tpPeriod h + 1
/-- TEST_PULSE is due: TPn is driven, and a period of it has begun since its last pulse (R513, R535, R536). -/
def pulseDue (e : Env) (h : Heath) (n : Nat) : Bool :=
  h.b (Reg.HTH_TP_CFG (8 + n)) 31 && hthPulses e.part h && !h.fenced 0x50001000 (8 + n)
    && decide ((match tget (fun _ => (none : Option Nat)) h.st.tpAt n with | some t => tpTurn h n t | none => 0) < tpTurn h n e.time.up)

/-- TEST_PULSE: output TPn drops low, and the test windows of the legs that it feeds open (R513, R514). -/
def execTestPulse (n : Fin 4) (s : State) : Host.Outcome State Fault Refusal :=
  .next (if hthOn s && pulseDue s.env s.heath n then
      onHeath (fun e h =>
        let set (c : HthCh) : HthCh := { c with win := (n.val, 0) :: c.win.filter (fun x => x.1 != n.val) }
        (((h.onCh 0 set).onCh 1 set).onSt (fun t => { t with tpAt := tset (fun _ => (none : Option Nat)) t.tpAt n (some e.time.up) }), [])) s
    else s)

/-- TEST_FAULT: a leg that read high through a whole test window has failed its test (R514). -/
def execTestFault (i : Fin 2) (j : Fin 16) (legB : Bool) (s : State) : Host.Outcome State Fault Refusal :=
  .next (if hthOn s && (((s.heath.ch i).inp j).leg legB).fail then
      onHeath (fun _ h =>
        let h1 := h.onCh i (HthCh.onIn j (HthIn.onLeg legB (fun l => { l with fail := false })))
        if ((h.ch i).inp j).fault = 0 then inLatch j (if legB then 3 else 2) (h1, []) else (h1, [])) s
    else s)

/-- Output faults that an accepted edge clears: readback below 5 V for the last 100 ms (R530). -/
def outClear (h : Heath) : Heath :=
  eachBelow 8 (fun n h => if 400 ≤ tget (fun _ => 0) h.st.rbLow n then h.setF (Reg.HTH_OUT_STAT n) 26 2 0 else h) h

/-- RESET_EDGE: a pulse that has ended is accepted at its falling edge, or counted SHORT (R518, R530). -/
def execResetEdge (i : Fin 2) (r : Fin 2) (s : State) : Host.Outcome State Fault Refusal :=
  match ((s.heath.ch i).rin r).fell with
  | some d =>
    .next (if hthOn s then
        onHeath (fun _ h =>
          let ok : Bool := decide (1000 ≤ d) && decide (d ≤ 60000)
          let h1 := h.onCh i (HthCh.onRst r (fun y => { y with fell := none, edge := y.edge || ok }))
          if i ≠ 0 then (h1, [])
          else if ok then (outClear (h1.sat (Reg.HTH_RST_CNT (12 + r)) 16 16 1), [])
          else if d < 1000 then hthEntry 0x04 r (h1.sat (Reg.HTH_RST_CNT (12 + r)) 8 8 1, [])
          else (h1, [])) s
      else s)
  | none => .next s

/-- RESET_STUCK is due: still high at the first sample after 3 s (R518). -/
def stuckDue (h : Heath) (i r : Nat) : Bool :=
  let y := (h.ch i).rin r
  y.lvl && !y.stuck && decide (60000 < y.high)

/-- RESET_STUCK: the level is stuck (R518). -/
def execResetStuck (i : Fin 2) (r : Fin 2) (s : State) : Host.Outcome State Fault Refusal :=
  .next (if hthOn s && stuckDue s.heath i r then
      onHeath (fun _ h =>
        let h1 := h.onCh i (HthCh.onRst r (fun y => { y with stuck := true }))
        if i ≠ 0 then (h1, [])
        else hthEntry 0x04 (2 ^ 31 + r) (rstShow r ((h1.sat (Reg.HTH_RST_CNT (12 + r)) 0 8 1).setB Reg.HTH_EVT 4 true), [])) s
    else s)

/-- A channel's function changed, and its switch commands with it. -/
def fnAct (i k : Nat) (f : HthFn → HthFn) (s : State) : State :=
  onHeath (fun e h =>
    let c := (h.ch i).onFn k f
    (outShow (fnShow k (h.onCh i (fun _ => { c with sw := swOf e.part h (hthSd s) c }))), [])) s

/-- STOP_DLY_EXPIRE is due (R528). -/
def dlyDue (h : Heath) (i k : Nat) : Bool :=
  match ((h.ch i).fn k).dly with
  | some n => decide (40 * h.f (Reg.HTH_FN_TIME k) 20 12 ≤ n)
  | none => false

/-- STOP_DLY_EXPIRE: a category 1 function withdraws its permission (R528). -/
def execStopDlyExpire (i : Fin 2) (k : Fin 16) (s : State) : Host.Outcome State Fault Refusal :=
  .next (if hthOn s && dlyDue s.heath i k then fnAct i k (fun f => { f with dly := none }) s else s)

/-- UNLOCK_DLY_EXPIRE is due (R523). -/
def unlDue (h : Heath) (i k : Nat) : Bool :=
  let f := (h.ch i).fn k
  match f.unlN with
  | some n => !f.unl && decide (40 * h.f (Reg.HTH_FN_TIME k) 8 12 ≤ n)
  | none => false

/-- UNLOCK_DLY_EXPIRE: a channel closes its switch of the LOCK output (R523). -/
def execUnlockDlyExpire (i : Fin 2) (k : Fin 16) (s : State) : Host.Outcome State Fault Refusal :=
  .next (if hthOn s && unlDue s.heath i k && s.chip.b Reg.CHIP_HTH_REQ k then fnAct i k (fun f => { f with unl := true }) s else s)

/-- SYNC_FAIL is due: the window has closed (R525). -/
def syncDue (h : Heath) (i k : Nat) : Bool :=
  match ((h.ch i).fn k).win with
  | some w => decide (2000 ≤ w)
  | none => false

/-- SYNC_FAIL: the two-hand window closes without the second hand (R525). -/
def execSyncFail (i : Fin 2) (k : Fin 16) (s : State) : Host.Outcome State Fault Refusal :=
  .next (if hthOn s && syncDue s.heath i k then
      onHeath (fun _ h =>
        let h1 := h.onCh i (HthCh.onFn k (fun f => { f with win := none, sync := true, block := true }))
        (fnShow k (if i = 0 then h1.setB Reg.HTH_EVT 1 true else h1), [])) s
    else s)

/-- An output latches a fault: both switches open (R530). -/
def outLatch (n fault : Nat) (s : State) : State :=
  onHeath (fun e h =>
    let h1 := (h.setF (Reg.HTH_OUT_STAT n) 26 2 fault).setB Reg.HTH_EVT 3 true
    hthEntry 0x03 (fault * 2 ^ 30 + n) (swAll e.part (hthSd s) h1, [])) s

/-- OUTPUT_TEST: channel `i` opens its switch of an output that is on; `fell` says that the readback fell in time (R529). -/
def execOutputTest (_i : Fin 2) (n : Fin 8) (fell : Bool) (s : State) : Host.Outcome State Fault Refusal :=
  .next (if hthOn s && s.heath.b (Reg.HTH_OUT_CFG n) 31 && s.heath.b (Reg.HTH_OUT_STAT n) 31 && !fell then outLatch n 3 s else s)

/-- OVERLOAD: current above 0.9 A for 1 ms, from the first of five cycles to the last (R77), or the switch protection trips (R530). -/
def execOverload (n : Fin 8) (trip : Bool) (s : State) : Host.Outcome State Fault Refusal :=
  .next (if hthOn s && s.heath.f (Reg.HTH_OUT_STAT n) 26 2 == 0 && (trip || decide (5 ≤ tget (fun _ => 0) s.heath.st.amps n)) then outLatch n 2 s else s)

/-- SHORT_24V is due: readback above 5 V for 10 ms, from the first of 41 cycles to the last (R77), with both switches open (R530). -/
def shortDue (h : Heath) (n : Nat) : Bool := h.f (Reg.HTH_OUT_STAT n) 26 2 == 0 && decide (41 ≤ tget (fun _ => 0) h.st.rbHigh n)

/-- SHORT_24V: the output latches (R530). -/
def execShort24v (n : Fin 8) (s : State) : Host.Outcome State Fault Refusal :=
  .next (if hthOn s && shortDue s.heath n then outLatch n 1 s else s)

/-- A word of a Heath page that a Heath restart clears: all but configuration and fence maps, CFG_CRC and the marks of the
pair's modes. -/
def hthLost (a : Nat) : Bool :=
  match pageAt a with
  | some g => !fenceKept a && a != Reg.HTH_CFG_CRC && (match regAt g a with | some (d, _) => d.acc != .rw && d.acc != .rws | none => true)
  | none => true

/-- Heath stops: its state is lost, its configuration stays in its MRAM partition, every switch opens (R532,
R539). Every function counts as not RUN until its next cycle (R533). -/
def hthStop (h : Heath) : Heath :=
  let h1 : Heath := { h with regs := h.regs.filter (fun x => !hthLost x.1), can := {}, sram := [], st := { slot0 := h.st.slot0, slot1 := h.st.slot1, slot := h.st.slot } }
  (stopPublish 0 h1).onSt (fun t => { t with sentAge := 0 })

/-- Heath down (R532): its channels stop, a request that runs is lost; 1 restarting, 2 held in reset. -/
def heathDown (st : Nat) (s : State) : State :=
  let s2 := { s with heath := hthStop s.heath }
  onChip (fun _ c => ((c.setRgn .heath st).setB Reg.CHIP_SCC_STAT 31 false).setB Reg.CHIP_SCC_STAT 30 false) s2

/-- A Heath fatal fault (R509): Heath restarts. On a new program's first cycle it returns to the previous slot (R716). -/
def hthFatal (cause : Nat) (s : State) : State :=
  let s1 := regionRestart .heath cause 0x40 0 s
  let h := s1.heath
  let h1 := if h.st.newProg.isSome then h.onSt (fun t => { t with slot := !t.slot }) else h
  heathDown 1 { s1 with heath := h1 }

/-- HEARTBEAT_LOST is due: no heartbeat of channel `i` for 1 ms (R509). -/
def beatDue (h : Heath) (i : Nat) : Bool := decide (4 ≤ (h.ch i).silent)

/-- HEARTBEAT_LOST: the other channel opens its switches, and Heath restarts (R509). -/
def execHeartbeatLost (i : Fin 2) (s : State) : Host.Outcome State Fault Refusal :=
  .next (if hthOn s && beatDue s.heath i then hthFatal 0xB s else s)

/-- CHANNEL_DISAGREEMENT: states or commands have differed for 2 ms, from the first of nine cycles to the last (R77, R509). -/
def execChannelDisagreement (s : State) : Host.Outcome State Fault Refusal :=
  .next (if hthOn s && decide (9 ≤ s.heath.st.differ) then hthFatal 0xA s else s)

/-- LOCKSTEP_MISMATCH: in channel A (R509). -/
def execLockstepMismatch (s : State) : Host.Outcome State Fault Refusal := .next (if hthOn s then hthFatal 0x8 s else s)

/-- OSC_OUT_OF_RANGE: channel B's oscillator outside ±10 % (R509). -/
def execOscOutOfRange (s : State) : Host.Outcome State Fault Refusal := .next (if hthOn s then hthFatal 0xA s else s)

/-- UNLOCK_REQUEST: CHIP.HTH_REQ is written; both channels read it in every cycle (R523). -/
def execUnlockRequest (p : Plane) (v : Word) (s : State) : Host.Outcome State Fault Refusal :=
  .next (onWrite p Reg.CHIP_HTH_REQ v (fun v s => s.wr Reg.CHIP_HTH_REQ v) s)

end Sys2Proof.Machine
end

