-- ==== Sys2Proof/Machine/MetBase.lean ====
section
/-! DEFINITION. Legal metrology, the ground (ch. 13 and 14): legal time and its stamps, the metrological log, the tamper
table, the record store, meters and their registers. -/
namespace Sys2Proof.Machine

/-- The region with the entries that an effect appends to the event log. -/
abbrev MetLog := Met × List LogReq

/-- A flag of a Metrology page's PG_ERR. -/
def metErr (page i : Nat) (x : MetLog) : MetLog := let r := x.1.perr page i; (r.1, x.2 ++ r.2)

/-- The registers and the rest of the region changed. -/
def metDo (f : Met → Met) (x : MetLog) : MetLog := (f x.1, x.2)
/-- An entry for the event log: type 0x30 MET, 0x31 TRF, 0x32 TMP (R460, R506). -/
def metEntry (type cls detail : Nat) (x : MetLog) : MetLog := (x.1, x.2 ++ [⟨type, 0, cls, detail⟩])
/-- What the region holds beside its registers, changed. -/
def Met.onSt (m : Met) (f : MetSt → MetSt) : Met := { m with st := f m.st }
/-- The pipeline changed. -/
def Met.onEng (m : Met) (f : MetEng → MetEng) : Met := m.onSt (fun t => { t with eng := f t.eng })
/-- The same under a log. -/
def metEng (f : MetEng → MetEng) (x : MetLog) : MetLog := metDo (fun m => m.onEng f) x
/-- An effect under a condition. -/
def metWhen (b : Bool) (f : MetLog → MetLog) (x : MetLog) : MetLog := if b then f x else x

/-- LC now (R461): 1 ms every 200,000 FCLK cycles with main supply; from VBAK it advances with BACKUP_SAMPLE. -/
def metLc (e : Env) (m : Met) : Nat :=
  m.st.time.lc + (if m.st.bakFrom.isSome then 0 else (e.time.up - m.st.time.up) / 200000)
/-- What a slew has added to UTC at an LC: 1 ms for each 1,000 ms, up to its delta (R467). -/
def slewAt (s : Option (Int × Nat)) (lc : Nat) : Int :=
  match s with
  | some (d, from') => let k : Int := ((lc - from') / 1000 : Nat); if d < 0 then max d (-k) else min d k
  | none => 0
/-- UTC now in ms (R461, R467). -/
def metUtc (e : Env) (m : Met) : Nat :=
  let t := m.st.time
  ((t.utc + (metLc e m - t.lcU) : Nat) + slewAt t.slew (metLc e m)).toNat
/-- UTC is valid (TRF.TIME_STAT.VALID, R464). -/
def metValid (m : Met) : Bool := m.b Reg.TRF_TIME_STAT 31

/-- The legal stamp of an LC and a UTC (Table: Legal stamp). -/
def legalStamp (lc utc : Nat) (valid : Bool) : List Word :=
  [word lc, word (lc / 2 ^ 32), word (utc / 1000),
   word ((if valid then 2 ^ 31 else 0) + utc % 1000 * 65536 + utc / 1000 / 2 ^ 32 % 256)]
/-- The legal stamp of this cycle (R462). -/
def metStamp (e : Env) (m : Met) : List Word := legalStamp (metLc e m) (metUtc e m) (metValid m)
/-- LC of a stamp. -/
def stampLc (st : List Word) : Nat := (st.getD 0 0).toNat + 2 ^ 32 * (st.getD 1 0).toNat
/-- UTC in ms of a stamp. -/
def stampUtc (st : List Word) : Nat :=
  ((st.getD 2 0).toNat + 2 ^ 32 * fget (st.getD 3 0) 0 8) * 1000 + fget (st.getD 3 0) 16 10
/-- A short stamp: words 2 and 3 (R462). -/
def shortStamp (st : List Word) : List Word := [st.getD 2 0, st.getD 3 0]

/-- An entry of the metrological log (R491): EVENT, ARG, the stamp and three data words. -/
def metNote (ev arg : Nat) (st : List Word) (d : List Word) (x : MetLog) : MetLog :=
  metDo (fun m =>
    let k := m.n Reg.TRF_LOG_NO
    let en := word (ev % 256 * 2 ^ 24 + arg % 256 * 2 ^ 16) :: st ++ [d.getD 0 0, d.getD 1 0, d.getD 2 0]
    (m.onSt (fun t => { t with mlog := tset (fun _ => ([] : List Word)) t.mlog (k % 2048) en })).wr Reg.TRF_LOG_NO (word (k + 1))) x

/-- FLAGS of every open session and of the open period's records take a bit: 3 step or slew, 5 cut, 6 setback, 7 seal opened,
8 sealed write, 9 a tamper count rose (Table: Signed record). -/
def spanFlag (i : Nat) (x : MetLog) : MetLog :=
  metEng (fun g => { g with
    sess := g.sess.map (fun s => if s.2.phase = 2 ∨ s.2.phase = 3 then (s.1, { s.2 with flags := s.2.flags ||| 2 ^ i }) else s),
    perFlags := (List.range 65).map (fun k => (k, tget (fun _ => 0) g.perFlags k ||| 2 ^ i)) }) x

/-- LEGAL_SEAL reads open to a request that starts now: one of the cycle in which the seal opens sees it closed (R445, R458). -/
def sealOpen (e : Env) (m : Met) : Bool := m.b Reg.MET_SEAL 31 && m.st.sealUp != some e.time.up

/-- A tamper kind recorded (R493): its count, stamps and AUX, TMP.ANY and TMP.TOTAL, and both logs. -/
def metTamper (kind : Nat) (aux : Word) (st : List Word) (x : MetLog) : MetLog :=
  let x1 := metDo (fun m =>
    let first := m.n (Reg.TMP_COUNT kind) = 0
    let m1 := if first then (m.wr (Reg.TMP_FIRST_S kind) (st.getD 2 0)).wr (Reg.TMP_FIRST_X kind) (st.getD 3 0) else m
    let m2 := ((m1.sat (Reg.TMP_COUNT kind) 0 32 1).wr (Reg.TMP_LAST_S kind) (st.getD 2 0)).wr (Reg.TMP_LAST_X kind) (st.getD 3 0)
    ((m2.wr (Reg.TMP_AUX kind) aux).setB Reg.TMP_ANY kind true).sat Reg.TMP_TOTAL 0 32 1) x
  let x2 := metNote 0x05 kind st [] x1
  spanFlag 9 (metEntry 0x32 0x01 (x2.1.f (Reg.TMP_COUNT kind) 0 24 * 256 + kind) x2)

/-- Tamper recordings of one cycle, in ascending order of kind (R504). -/
def metTampers (st : List Word) (l : List (Nat × Word)) (x : MetLog) : MetLog :=
  eachBelow 21 (fun k x => eachOf (l.filter (fun t => t.1 == k)) (fun t x => metTamper t.1 t.2 st x) x) x

/-- A signed number as a word, saturating at both ends. -/
def satWord (i : Int) : Word := word (satI 32 i)
/-- A number as a word, saturating. -/
def topWord (n : Nat) : Word := word (min n 0xFFFFFFFF)

/-- A flag of MET.EVT. -/
def metFlag (i : Nat) (x : MetLog) : MetLog := metDo (fun m => m.setB Reg.MET_EVT i true) x
/-- A flag of TRF.EVT. -/
def trfFlag (i : Nat) (x : MetLog) : MetLog := metDo (fun m => m.setB Reg.TRF_EVT i true) x

/-- A meter's state in the pipeline. -/
def Met.acc (m : Met) (k : Nat) : MetAcc := tget (fun _ => {}) m.st.eng.acc k
/-- The same written. -/
def Met.setAcc (m : Met) (k : Nat) (a : MetAcc) : Met :=
  m.onEng (fun g => { g with acc := tset (fun _ => ({} : MetAcc)) g.acc k a })
/-- µW × samples of 1 mWh (R431). -/
def uwPerMwh : Nat := 57600000000
/-- The latched accumulator A of a meter in mWh (R432). -/
def metA (m : Met) (k : Nat) : Nat := m.n64 (if k = 64 then Reg.MET_M64_ACC_LO else Reg.MET_ACC_LO k)
/-- The address of a meter's status word. -/
def mstatOf (k : Nat) : Nat := if k = 64 then Reg.MET_M64_MSTAT else Reg.MET_MSTAT k
/-- The address of a meter's gap word. -/
def gapsOf (k : Nat) : Nat := if k = 64 then Reg.MET_M64_GAPS else Reg.MET_GAPS k
/-- A tariff register of a meter in mWh (R475). -/
def metTreg (m : Met) (k r : Nat) : Nat := m.n64 (Reg.TRF_REG k r 0)
/-- The 16 tariff registers of a meter. -/
def metTregs (m : Met) (k : Nat) : List Nat := (List.range 16).map (metTreg m k)

/-- The outlet meters of a part (R417, R418). -/
def outMeters (p : Part) : List Nat := List.range p.outlets
/-- A meter is enabled: meter 64 always, an outlet meter by MCFG.EN. -/
def metEn (m : Met) (k : Nat) : Bool := k == 64 || m.b (Reg.MET_MCFG k) 31
/-- An outlet meter is fenced. -/
def metFenced (m : Met) (k : Nat) : Bool := decide (k < 64) && m.fenced (0x60001000 + 0x1000 * (k / 32)) (k % 32)
/-- Every meter of a part, in ascending order. -/
def allMeters (p : Part) : List Nat := outMeters p ++ [64]

/-- Milliseconds of a number of samples, rounded up (R427). -/
def samplesMs (n : Nat) : Nat := (n * 625 + 9999) / 10000

/-- A measurement gap of a duration (R427): the flags, MET.GAPS, class 0x02. Its tamper recording is the caller's. -/
def metGapMs (k ms : Nat) (est : Bool) (x : MetLog) : MetLog :=
  let x1 := metFlag 2 (metDo (fun m => (m.sat (gapsOf k) 16 16 1).setF (gapsOf k) 0 16 (min ms 65535)) x)
  metEntry 0x30 0x02 (min ms 65535 * 65536 + (if est then 2 ^ 15 else 0) + k) x1

/-- Flags of MSTAT joined to a meter's epoch: the settling or open one, or the one kept apart. -/
def accFlag (b : Nat) (apart : Bool) (a : MetAcc) : MetAcc :=
  if apart then { a with flApart := a.flApart ||| 2 ^ b } else { a with fl := a.fl ||| 2 ^ b }

/-- Missing samples counted in an epoch of a meter, which a gap touches (R427, R430). -/
def accGap (k n : Nat) (apart : Bool) (m : Met) : Met :=
  let a := accFlag 15 apart (m.acc k)
  m.setAcc k (if apart then { a with cntApart := a.cntApart + n } else { a with cnt := a.cnt + n })

/-- A gap of missing samples: recorded with its tamper kind (R427). -/
def metGap (k n : Nat) (st : List Word) (x : MetLog) : MetLog :=
  metTamper 0x08 (word (samplesMs n)) st (metGapMs k (samplesMs n) false x)

/-- Slots of the record store in use or spoken for (R495): unfetched records, records that wait for signature, and one for
each session. -/
def recUsed (m : Met) : Nat := (m.st.recs.filter (fun r => !r.2.1)).length + m.st.unsigned.length + m.st.eng.sess.length
/-- Free, unreserved slots. -/
def recFree (m : Met) : Nat := 512 - recUsed m
/-- TRF.REC_STAT and the open sessions as they stand (R497, R505). -/
def recShow (m : Met) : Met :=
  let open' (lo : Nat) : Word := word ((m.st.eng.sess.filter (fun s => decide (lo ≤ s.1) && decide (s.1 < lo + 32) && s.2.phase != 0)).map (fun s => 2 ^ (s.1 - lo))).sum
  let st := (if m.st.perPend.isEmpty then 0 else 2 ^ 31) + (if m.st.unsigned.isEmpty then 0 else 2 ^ 30) + recFree m
  ((m.wr Reg.TRF_REC_STAT (word st)).wr Reg.TRF_SESS_LO (open' 0)).wr Reg.TRF_SESS_HI (open' 32)

/-- A 64-bit value as two words, the low-order word first (R7). -/
def words64 (v : Nat) : List Word := [word v, word (v / 2 ^ 32)]

/-- What a record says (Table: Signed record); its number and its signature come later. -/
structure RecBody where
  kind : Nat
  meter : Nat
  stampB : List Word
  stampE : List Word
  epochB : Nat
  epochE : Nat
  readB : List Nat
  readE : List Nat
  flags : Nat
  ids : List Word
  maxDem : List Word

/-- The accumulator of a reading. -/
def readA (l : List Nat) : Nat := l.headD 0
/-- The tariff registers of a reading as words. -/
def readRegs (l : List Nat) : List Word := (List.range 16).flatMap (fun r => words64 (l.getD (r + 1) 0))
/-- A list padded with zero words to a length. -/
def padTo (n : Nat) (l : List Word) : List Word := (l ++ List.replicate n 0).take n

/-- The words of a record, unnumbered and unsigned (Table: Signed record). -/
def recWords (m : Met) (b : RecBody) (tail : Option (List Word)) : List Word :=
  [word (2 ^ 24 + b.kind * 65536 + b.meter), 0] ++ padTo 4 b.stampB ++ padTo 4 b.stampE ++ [word b.epochB, word b.epochE]
    ++ words64 (readA b.readB) ++ words64 (readA b.readE) ++ [word b.flags, m.rd Reg.TRF_CAL_CRC, m.rd Reg.TRF_COLO_CRC]
    ++ padTo 9 b.ids ++ [b.maxDem.getD 0 0, 0, b.maxDem.getD 1 0, b.maxDem.getD 2 0]
    ++ (match tail with
        | some t => padTo 32 t ++ List.replicate 32 0
        | none => readRegs b.readB ++ readRegs b.readE)
    ++ List.replicate 32 0

/-- A record with a number waits for its signature (R495, R498). -/
def recQueue (rno : Nat) (w : List Word) (m : Met) : Met :=
  recShow (m.onSt (fun t => { t with unsigned := t.unsigned ++ [(rno, w.set 1 (word rno))] }))
/-- A record takes the next number (R495). -/
def recNew (w : List Word) (m : Met) : Met :=
  let n := m.n Reg.TRF_RNO_NEXT
  recQueue n w (m.wr Reg.TRF_RNO_NEXT (word (n + 1)))

/-- Period records go to free slots in order, as many as fit (R495). -/
def perFlush : Nat → Met → Met
  | 0, m => recShow m
  | f + 1, m =>
    match m.st.perPend with
    | w :: t => if 0 < recFree m then perFlush f (recNew w (m.onSt (fun q => { q with perPend := t }))) else recShow m
    | [] => recShow m

end Sys2Proof.Machine
end

