-- ==== Sys2Proof/Machine/Tariff.lean ====
section
/-! DEFINITION. Tariffs (ch. 14): the calendar, demand intervals and their feed, billing periods, steps and slews of legal
time, and what each of them does at an epoch boundary (R487). -/
namespace Sys2Proof.Machine

/-- The local offset in minutes (TRF.CAL_CFG.OFFSET_MIN). -/
def calOffset (m : Met) : Int := signOf 12 (m.f Reg.TRF_CAL_CFG 16 12)
/-- Local legal time in ms of a UTC in ms (R472). -/
def localMs (m : Met) (utc : Nat) : Int := (utc : Int) + calOffset m * 60000

/-- A calendar entry matches a local second (R471, R472). -/
def calMatch (m : Met) (e : Nat) (sec : Int) : Bool :=
  let w (i : Nat) : Word := m.rd (Reg.TRF_CAL e i)
  let day := sec / 86400
  let mi := sec % 86400 / 60
  fbit (w 0) 31 && decide ((fget (w 2) 0 16 : Int) ≤ day) && (fget (w 2) 16 16 == 0xFFFF || decide (day < (fget (w 2) 16 16 : Int)))
    && fbit (w 1) ((day + 3) % 7).toNat && decide ((fget (w 0) 0 11 : Int) ≤ mi) && decide (mi < (fget (w 1) 16 11 : Int))
/-- The entry in force at a UTC in ms: the lowest that matches (R472). -/
def calEntry (m : Met) (utc : Nat) : Option Nat := (List.range 512).find? (fun e => calMatch m e (localMs m utc / 1000))

/-- TARIFF_CHANGE (R473, R477): the register and the cap of the next epoch; a change of register is flagged and logged. -/
def tariffPick (utc : Nat) (x : MetLog) : MetLog :=
  let m := x.1
  if metValid m then
    let old := m.f Reg.TRF_IN_FORCE 28 4
    let w := match calEntry m utc with
      | some e => word (m.f (Reg.TRF_CAL e 0) 20 4 * 2 ^ 28 + e)
      | none => word (m.f Reg.TRF_CAL_CFG 0 4 * 2 ^ 28 + 2 ^ 27)
    let cap := match calEntry m utc with
      | some e => m.rd (Reg.TRF_CAL e 3)
      | none => m.rd Reg.TRF_DEF_CAP
    let x1 := metDo (fun m => (m.wr Reg.TRF_IN_FORCE w).wr Reg.TRF_CAP cap) x
    metWhen (fget w 28 4 != old) (fun x => metEntry 0x31 0x01 (fget w 28 4 * 2 ^ 28 + old * 2 ^ 24) (trfFlag 0 x)) x1
  else x

/-- TRF.CAL_CRC formed over the 8,192 bytes of the calendar in force (R474). -/
def calCrc (m : Met) : Met :=
  m.wr Reg.TRF_CAL_CRC (crc32 ((List.range 2048).flatMap (fun i =>
    let v := m.rd (Reg.TRF_CAL (i / 4) (i % 4))
    [v.setWidth 8, (v >>> 8).setWidth 8, (v >>> 16).setWidth 8, (v >>> 24).setWidth 8])))

/-- The interval T in s (TRF.DEM_CFG.LEN, R478). -/
def demT (m : Met) : Nat :=
  match m.f Reg.TRF_DEM_CFG 0 3 with | 0 => 300 | 1 => 600 | 2 => 900 | 3 => 1800 | _ => 3600
/-- Demand is measured (TRF.DEM_CFG.EN). -/
def demOn (m : Met) : Bool := m.b Reg.TRF_DEM_CFG 31
/-- Sliding demand (TRF.DEM_CFG.SLIDING). -/
def demSliding (m : Met) : Bool := m.b Reg.TRF_DEM_CFG 30
/-- The length in ms of an interval, or of a sub-interval (R478). -/
def demSpan (m : Met) : Nat := demT m * 1000 / (if demSliding m then 15 else 1)

/-- An average in W over a duration in ms (R480). -/
def demAverage (e dur : Nat) : Nat := if dur = 0 then Config.demandOfNothing e else e * 3600 / dur

/-- The maximum of the open period takes a value: never INVALID, a SHORT one only from half of T, the earliest among equals
(R483). Flags: 4 SHORT, 2 PF, 1 INVALID. -/
def demMax (v dur fl : Nat) (st : List Word) (m : Met) : Met :=
  if fl % 2 = 1 ∨ (4 ≤ fl ∧ dur < demT m * 500) ∨ v ≤ m.n Reg.TRF_DEM_MAX then m
  else ((m.wr Reg.TRF_DEM_MAX (topWord v)).wr Reg.TRF_DEM_MAX_TS0 (st.getD 2 0)).wr Reg.TRF_DEM_MAX_TS1 (st.getD 3 0)

/-- INTERVAL_CLOSE (R479 to R483): the open interval or sub-interval closes at a boundary with its average and flags. -/
def demClose (st : List Word) (valid short : Bool) (d : MetDem) (x : MetLog) : MetLog :=
  let dur := stampLc st - d.lc
  let avg := demAverage d.e dur
  let fl := (if short then 4 else 0) + (if d.pf then 2 else 0) + (if d.bad || !valid then 1 else 0)
  let x1 := metDo (fun m => (((m.wr Reg.TRF_DEM_LAST (topWord avg)).wr Reg.TRF_DEM_FLAGS (word (fl * 2 ^ 29))).wr Reg.TRF_DEM_LAST_TS0 (st.getD 2 0)).wr Reg.TRF_DEM_LAST_TS1 (st.getD 3 0)) x
  let x2 := metEntry 0x31 0x02 (min avg 0xFFFFFFFF) (trfFlag 1 x1)
  metDo (fun m =>
    if demSliding m then
      let subs := ((d.e, dur, fl) :: m.st.eng.subs).take 15
      let all := (subs.map (fun s => s.2.1)).sum
      let v := demAverage ((subs.map (fun s => s.1)).sum) all
      let fls := subs.foldl (fun f s => f ||| s.2.2) 0
      demMax v all fls st (m.onEng (fun g => { g with subs := subs, slide := v, dem := none }))
    else demMax avg dur fl st (m.onEng (fun g => { g with dem := none }))) x2

/-- Action 3 of an epoch boundary: the import of the closed epoch joins the open interval, which closes when its end is
reached or a step is pending. -/
def demBoundary (st : List Word) (utc imp : Nat) (x : MetLog) : MetLog :=
  match x.1.st.eng.dem with
  | none => x
  | some d0 =>
    let d := { d0 with e := d0.e + imp }
    let step : Bool := match x.1.st.time.due with | some (_, s) => s | none => false
    let due : Bool := decide (d.till ≤ localMs x.1 utc)
    if due || step then demClose st (metValid x.1) step d x
    else metEng (fun g => { g with dem := some d }) x

/-- Action 8: an interval opens where none is open (R478, R479). A measurement that is off keeps nothing. -/
def demOpen (lc utc : Nat) (m : Met) : Met :=
  if demOn m then
    match m.st.eng.dem with
    | some _ => m
    | none =>
      let l := localMs m utc
      let t : Int := demSpan m
      m.onEng (fun g => { g with dem := some { lc := lc, till := (l / t + 1) * t, bad := !metValid m } })
  else m.onEng (fun g => { g with dem := none, subs := [], slide := 0 })

/-- FEED_PUBLISH (R482). -/
def feedPublish (lc : Nat) (m : Met) : Met :=
  let ms := match m.st.eng.dem with | some d => lc - d.lc | none => 0
  let e := match m.st.eng.dem with | some d => d.e | none => 0
  let sl := demSliding m
  let avg := if sl then m.st.eng.slide else if ms = 0 then 0 else e * 3600 / ms
  m.onSt (fun t => { t with feed := { avg := avg, elapsed := ms / 1000, len := demT m, sliding := sl, tcap := m.rd Reg.TRF_CAP,
                                      valid := demOn m && metValid m } })

/-- Year, month and day of month of a day counted from 1970-01-01, in the proleptic Gregorian calendar. -/
def civilOf (day : Int) : Int × Int × Int :=
  let z := day + 719468
  let era := z / 146097
  let doe := z - era * 146097
  let yoe := (doe - doe / 1460 + doe / 36524 - doe / 146096) / 365
  let doy := doe - (365 * yoe + yoe / 4 - yoe / 100)
  let mp := (5 * doy + 2) / 153
  let d := doy - (153 * mp + 2) / 5 + 1
  let mo := if mp < 10 then mp + 3 else mp - 9
  (yoe + era * 400 + (if mo ≤ 2 then 1 else 0), mo, d)

/-- The scheduled close instant of the open period in local ms: the first strictly after its opening (R484). -/
def periodEnd (m : Met) : Option Int :=
  let l := localMs m (stampUtc [0, 0, m.rd Reg.TRF_PERIOD_TS0, m.rd Reg.TRF_PERIOD_TS1])
  let d0 := l / 86400000
  let at' (d : Int) : Int := d * 86400000 + (m.f Reg.TRF_BILL_CFG 0 11 : Int) * 60000
  let days := (List.range 64).map (fun k => d0 + (k : Int))
  match m.f Reg.TRF_BILL_CFG 30 2 with
  | 1 => (days.find? (fun d => decide ((civilOf d).2.2 = (m.f Reg.TRF_BILL_CFG 24 5 : Int)) && decide (l < at' d))).map at'
  | 2 => (days.find? (fun d => decide (l < at' d))).map at'
  | _ => none

/-- Action 4 of an epoch boundary: PERIOD_CLOSE (R484, R485). The latch is taken when the epoch settles. -/
def periodBoundary (st : List Word) (utc : Nat) (x : MetLog) : MetLog :=
  let m := x.1
  let reach (u : Int) : Bool := match periodEnd m with
    | some t => metValid m && decide (t ≤ u + calOffset m * 60000)
    | none => false
  let ahead : Bool := match m.st.time.due with
    | some (d, true) => decide (0 < d) && reach ((utc : Int) + d)
    | _ => false
  if m.st.close || reach utc || ahead then
    let no := m.n Reg.TRF_PERIOD_NO
    let dm := [m.rd Reg.TRF_DEM_MAX, m.rd Reg.TRF_DEM_MAX_TS0, m.rd Reg.TRF_DEM_MAX_TS1]
    let x1 := metEng (fun g => { g with closed := g.closed.map (fun q => { q with per := some (st, dm) }) }) x
    let x2 := metDo (fun m => ((((m.wr Reg.TRF_PERIOD_NO (word (no + 1))).wr Reg.TRF_PERIOD_TS0 (st.getD 2 0)).wr Reg.TRF_PERIOD_TS1 (st.getD 3 0)).wr Reg.TRF_DEM_MAX 0).onSt (fun t => { t with close := false })) x1
    let x3 := metDo (fun m => (m.wr Reg.TRF_DEM_MAX_TS0 0).wr Reg.TRF_DEM_MAX_TS1 0) x2
    metNote 0x06 0 st [word no] (metEntry 0x31 0x03 no (trfFlag 2 x3))
  else x

/-- A session's meter is disabled by the sealed changes of a boundary: it ends there with FLAGS[0] set (R504). -/
def sessDisabled (st : List Word) (m : Met) : Met :=
  m.onEng (fun g => { g with sess := g.sess.map (fun s =>
    if metEn m s.1 ∨ s.2.ending = 3 ∨ s.2.phase < 2 then s else (s.1, { s.2 with ending := 3, stampE := st, flags := s.2.flags ||| 1 })) })

/-- A one written to a fence map through the sealed path unfences its cell (R99): its stream starts anew, and the legal registers stand
(DESIGN CHOICE, log entry 50). -/
def metUnfence (page j : Nat) (x : MetLog) : MetLog :=
  if !x.1.fenced page j then x
  else
    let m := x.1.fenceBit page j false
    let k := 32 * ((page - 0x60001000) / 0x1000) + j
    let m1 := if page = 0x60001000 ∨ page = 0x60002000 then m.setAcc k { m.acc k with last := none, owed := 0, fresh := true, diff := 0, taken := false }
      else m
    match pageAt page with
    | some g => (m1, x.2 ++ [⟨g.type, g.inst, 0xF2, j⟩])
    | none => (m1, x.2)

/-- The words of the pending sealed changes take their values. -/
def sealedWords (st : List Word) (m : Met) : Met :=
  let l := m.st.words.filter (fun w => !inFenceMap w.1)
  let keys := (List.range 64).filter (fun k => l.any (fun w => w.1 == Reg.MET_KEY0 k))
  let m1 := (l.foldl (fun m w => m.wr w.1 w.2) m).onSt (fun t => { t with words := [], keyed := (t.keyed ++ keys).eraseDups })
  let m2 := if l.any (fun w => decide (0x68000000 ≤ w.1) && decide (w.1 < 0x68002000)) then calCrc m1 else m1
  sessDisabled st m2

/-- The cells that a fence-map word's ones name. -/
def mapCells (a : Nat) (v : Word) : List (Nat × Nat) :=
  ((List.range 32).filter (fbit v)).map (fun i => (a / 0x1000 * 0x1000, (a % 0x1000 - 0x380) / 4 * 32 + i))

/-- Action 5: pending sealed changes take effect (R442, R474); a word of a fence map unfences (R99). -/
def sealedApply (st : List Word) (x : MetLog) : MetLog :=
  let maps := x.1.st.words.filter (fun w => inFenceMap w.1)
  eachOf (maps.flatMap (fun w => mapCells w.1 w.2)) (fun c x => metUnfence c.1 c.2 x) (metDo (sealedWords st) x)

/-- Action 6: a pending change of UTC is applied, or its slew begins (R466 to R469). Answers UTC after it. -/
def timeApply (st : List Word) (lc utc : Nat) (x : MetLog) : Nat × MetLog :=
  match x.1.st.time.due with
  | none => (utc, x)
  | some (d, step) =>
    let new := ((utc : Int) + d).toNat
    let data : List Word := [word (new / 1000), word (new % 1000 * 65536 + new / 1000 / 2 ^ 32 % 256), satWord d]
    let x1 := metDo (fun m => m.setB Reg.TRF_TIME_STAT 29 false) x
    if step then
      let x2 := metDo (fun m => ((m.setB Reg.TRF_TIME_STAT 31 true).sat Reg.TRF_TIME_STAT 0 16 1).onSt (fun t => { t with time := { t.time with utc := new, lcU := lc, slew := none, due := none } })) x1
      let x3 := metNote 0x02 0 st data (metEntry 0x31 0x04 ((if d < 0 then 2 ^ 31 else 0) + min d.natAbs (2 ^ 31 - 1)) (trfFlag 3 x2))
      let x4 := spanFlag 3 (metWhen (decide (d < 0)) (spanFlag 6) x3)
      (new, if d < 0 then metTamper 0x0A (satWord d) st x4 else if 0 < d then metTamper 0x0B (satWord d) st x4 else x4)
    else
      let x2 := metDo (fun m => (m.setB Reg.TRF_TIME_STAT 30 true).onSt (fun t => { t with time := { t.time with utc := utc, lcU := lc, slew := some (d, lc), due := none } })) x1
      (utc, spanFlag 3 (metNote 0x03 0 st data x2))

/-- Sessions at an epoch boundary (R497): accepted begins begin, accepted ends end. -/
def sessBoundary (st : List Word) (m : Met) : Met :=
  m.onEng (fun g => { g with sess := g.sess.map (fun s =>
    let a := if s.2.phase = 1 then { s.2 with phase := 2, stampB := st } else s.2
    (s.1, if a.ending = 2 then { a with ending := 3, stampE := st } else a)) })

/-- The bit of FLAGS that tells that UTC was not valid at begin or end (Table: Signed record). -/
def utcFlag (stampB stampE : List Word) : Nat := if fbit (stampB.getD 3 0) 31 && fbit (stampE.getD 3 0) 31 then 0 else 16

/-- A meter's reading: its accumulator and its tariff registers. -/
def metRead (m : Met) (k : Nat) : List Nat := metA m k :: metTregs m k

/-- One session at the settlement of an epoch (R497): its begin readings, and with its end its record. -/
def sessSettle (no : Nat) (s : Nat × MetSess) (m : Met) : Met :=
  let k := s.1
  let q := s.2
  let fl := q.flags ||| (m.f (mstatOf k) 15 1) ||| (m.f (mstatOf k) 14 1 * 2) ||| (m.f (mstatOf k) 13 1 * 4)
  let q1 := if q.phase = 2 then { q with phase := 3, epoch := no, read := metRead m k } else if q.phase = 3 then { q with flags := fl } else q
  if q1.ending = 3 ∧ q1.phase = 3 then
    let b : RecBody := { kind := 1, meter := k, stampB := q1.stampB, stampE := q1.stampE, epochB := q1.epoch, epochE := no, readB := q1.read,
                         readE := metRead m k, flags := q1.flags ||| utcFlag q1.stampB q1.stampE, ids := q1.ids, maxDem := [] }
    recQueue q1.rno (recWords m b none) (m.onEng (fun g => { g with sess := g.sess.filter (fun t => t.1 != k) }))
  else m.onEng (fun g => { g with sess := g.sess.map (fun t => if t.1 = k then (k, q1) else t) })

/-- The period latch at the settlement of the epoch whose boundary closed the period (R485): a PERIOD record for each enabled
meter in ascending order, as slots allow (R495). -/
def periodLatch (p : Part) (no : Nat) (stampE dm : List Word) (m : Met) : Met :=
  let g := m.st.eng
  let ks := (allMeters p).filter (metEn m)
  let mk (k : Nat) : List Word :=
    recWords m { kind := 2, meter := k, stampB := g.perStamp, stampE := stampE, epochB := g.perEpoch, epochE := no,
                 readB := tget (fun _ => ([] : List Nat)) g.perRead k, readE := metRead m k,
                 flags := (tget (fun _ => 0) g.perFlags k) ||| utcFlag g.perStamp stampE, ids := [], maxDem := if k = 64 then dm else [] } none
  let m1 := m.onEng (fun g => { g with perRead := (allMeters p).map (fun k => (k, metRead m k)), perEpoch := no, perStamp := stampE, perFlags := [] })
  perFlush 65 (m1.onSt (fun t => { t with perPend := t.perPend ++ ks.map mk }))

end Sys2Proof.Machine
end

