-- ==== Sys2Proof/Machine/Ocmf.lean ====
section
/-! DEFINITION. What a metrological record is signed over (14 R498, R499): the OCMF payload of a SESSION or PERIOD record, rebuilt from the
record's words, and the bytes of a TAMPER record. -/
namespace Sys2Proof.Machine

/-- Decimal digits of a number, at least `w`, the most significant first. -/
def decDigits : Nat → Nat → Nat → List Char
  | 0, _, _ => []
  | f + 1, w, n => if n < 10 ∧ w ≤ 1 then [Char.ofNat (48 + n)] else decDigits f (w - 1) (n / 10) ++ [Char.ofNat (48 + n % 10)]
/-- A number in decimal, padded with zeros to `w` digits. -/
def decPad (w n : Nat) : List Char := decDigits 24 w n
/-- An upper-case hex digit. -/
def hexDigit (n : Nat) : Char := Char.ofNat (if n < 10 then 48 + n else 55 + n)
/-- A byte as two upper-case hex digits. -/
def hexByte (b : Nat) : List Char := [hexDigit (b / 16 % 16), hexDigit (b % 16)]
/-- A number as `n` bytes in hex, the most significant first. -/
def hexBytes (n v : Nat) : List Char := (List.range n).flatMap (fun i => hexByte (v / 2 ^ (8 * (n - 1 - i)) % 256))

/-- A quotation mark. -/
def quote : Char := Char.ofNat 34
/-- A JSON string. -/
def jStr (v : List Char) : List Char := quote :: v ++ [quote]
/-- The opening brace, and the closing one. -/
def brace (closing : Bool) : Char := Char.ofNat (if closing then 125 else 123)
/-- Parts joined with commas. -/
def jJoin : List (List Char) → List Char
  | [] => []
  | [a] => a
  | a :: t => a ++ ',' :: jJoin t
/-- A JSON object of fields in order, with no white space. -/
def jObj (l : List (List Char × List Char)) : List Char := brace false :: jJoin (l.map (fun x => jStr x.1 ++ ':' :: x.2)) ++ [brace true]

/-- A byte of a record's words, low byte first (R7). -/
def recByte (w : List Word) (o : Nat) : Nat := fget (w.getD (o / 4) 0) (o % 4 * 8) 8
/-- A 64-bit field of a record at an offset. -/
def recLong (w : List Word) (o : Nat) : Nat := (w.getD (o / 4) 0).toNat + 2 ^ 32 * (w.getD (o / 4 + 1) 0).toNat
/-- A legal stamp of a record at an offset. -/
def recStamp (w : List Word) (o : Nat) : List Word := (w.drop (o / 4)).take 4

/-- TM of a stamp: its UTC, with U in place of S where it was not valid. -/
def ocmfTime (st : List Word) : List Char :=
  let u := stampUtc st
  let s := u / 1000
  let d := civilOf ((s / 86400 : Nat) : Int)
  let t := s % 86400
  decPad 4 d.1.toNat ++ '-' :: decPad 2 d.2.1.toNat ++ '-' :: decPad 2 d.2.2.toNat ++ 'T' :: decPad 2 (t / 3600) ++ ':' :: decPad 2 (t / 60 % 60)
    ++ ':' :: decPad 2 (t % 60) ++ ',' :: decPad 3 (u % 1000) ++ "+0000 ".toList ++ [if fbit (st.getD 3 0) 31 then 'S' else 'U']

/-- RV of an energy in mWh: whole Wh, in kWh with three decimals. -/
def ocmfEnergy (mwh : Nat) : List Char := decPad 1 (mwh / 1000000) ++ '.' :: decPad 3 (mwh / 1000 % 1000)

/-- EF of a record's FLAGS. -/
def ocmfError (fl : Nat) : List Char := (if fl % 4 ≠ 0 then ['E'] else []) ++ (if fl.testBit 6 || fl.testBit 4 then ['t'] else [])

/-- One reading. Its fields stand in the order of OCMF 1.0 (log entry 56). -/
def ocmfReading (w : List Word) (tx : Char) (st : List Word) (ri mwh : Nat) : List Char :=
  let ef := ocmfError (w.getD 16 0).toNat
  jObj [("TM".toList, jStr (ocmfTime st)), ("TX".toList, jStr [tx]), ("RV".toList, ocmfEnergy mwh),
        ("RI".toList, jStr ("1-0:1.8.".toList ++ decPad 1 ri)), ("RU".toList, jStr "kWh".toList),
        ("RT".toList, jStr (if fget (w.getD 0 0) 0 7 = 64 then "AC".toList else "DC".toList)), ("EF".toList, jStr ef),
        ("ST".toList, jStr [if ef = [] then 'G' else 'E'])]

/-- The readings at begin or at end: the total, then every tariff register whose value has changed over the record. -/
def ocmfReadings (w : List Word) (tx : Char) (stamp total regs : Nat) : List (List Char) :=
  let st := recStamp w stamp
  ocmfReading w tx st 0 (recLong w total) ::
    (((List.range 16).filter (fun r => recLong w (0x80 + 8 * r) != recLong w (0x100 + 8 * r))).map (fun r => ocmfReading w tx st (r + 1) (recLong w (regs + 8 * r))))

/-- IT of an ID_TYPE. -/
def ocmfIdType (t : Nat) : String := ["NONE", "ISO14443", "ISO15693", "EMAID", "EVCCID", "CENTRAL"].getD t "NONE"
/-- MM of a variant. -/
def ocmfModel (v : Variant) : String :=
  match v with
  | .v5120 => "OTZ-5120" | .v5120N => "OTZ-5120N" | .v5116 => "OTZ-5116" | .v5108 => "OTZ-5108"

/-- TRF.SERIAL in hex. -/
def ocmfSerial (m : Met) : List Char := hexBytes 8 (m.n64 Reg.TRF_SERIAL_LO)
/-- COLO_VER as major, minor and patch. -/
def ocmfVersion (m : Met) : List Char :=
  decPad 1 (m.f Reg.TRF_COLO_VER 24 8) ++ '.' :: decPad 1 (m.f Reg.TRF_COLO_VER 16 8) ++ '.' :: decPad 1 (m.f Reg.TRF_COLO_VER 0 16)
/-- The Colophon's displayed check value: digest bytes 0 to 3, the first first (R502). -/
def ocmfCheck (m : Met) : List Char := (List.range 4).flatMap (fun i => hexByte (m.f (Reg.TRF_COLO_DIG 0) (8 * i) 8))

/-- The OCMF payload of a SESSION or PERIOD record (R499, Table: OCMF rendering). -/
def ocmfPayload (p : Part) (m : Met) (w : List Word) : List Char :=
  let period := fget (w.getD 0 0) 16 8 == 2
  let ids := fget (w.getD 19 0) 0 8
  jObj [("FV".toList, jStr "1.0".toList), ("GI".toList, jStr "Erwael OTZ-5120".toList), ("GS".toList, jStr (ocmfSerial m)),
        ("GV".toList, jStr (ocmfVersion m)), ("PG".toList, jStr ((if period then 'F' else 'T') :: decPad 1 (w.getD 1 0).toNat)),
        ("MV".toList, jStr "Erwael Devices".toList), ("MM".toList, jStr (ocmfModel p.variant).toList),
        ("MS".toList, jStr (ocmfSerial m ++ '-' :: decPad 1 (fget (w.getD 0 0) 0 7))), ("MF".toList, jStr (ocmfCheck m)),
        ("IS".toList, if 0 < ids then "true".toList else "false".toList), ("IT".toList, jStr (ocmfIdType (fget (w.getD 19 0) 24 8)).toList),
        ("ID".toList, jStr ((List.range ids).flatMap (fun i => hexByte (recByte w (0x50 + i))))),
        ("RD".toList, '[' :: jJoin (ocmfReadings w 'B' 0x08 0x30 0x80 ++ ocmfReadings w 'E' 0x18 0x38 0x100) ++ [']'])]

/-- The bytes that a record is signed over: its OCMF payload, or of a TAMPER record bytes 0x000 to 0x17F (R498, R499). -/
def recSigned (p : Part) (m : Met) (w : List Word) : List Byte :=
  if fget (w.getD 0 0) 16 8 = 3 then (List.range 0x180).map (fun o => BitVec.ofNat 8 (recByte w o))
  else (ocmfPayload p m w).map (fun c => BitVec.ofNat 8 c.toNat)

/-- An integer of a signature in ASN.1 DER: its bytes, the most significant first, without leading zeros and never negative. -/
def derInt (v : Nat) : List Nat :=
  let b := ((List.range 32).map (fun i => v / 2 ^ (8 * (31 - i)) % 256)).dropWhile (· == 0)
  let c := if b.headD 128 < 128 then b else 0 :: b
  2 :: c.length :: c
/-- A signature's r or s of a record: 32 bytes, the most significant first. -/
def sigInt (w : List Word) (o : Nat) : Nat := (List.range 32).foldl (fun n i => n * 256 + recByte w (o + i)) 0

/-- The full OCMF text of a stored record, which any verifier rebuilds from it (R499). -/
def ocmfText (p : Part) (m : Met) (w : List Word) : List Char :=
  let d := derInt (sigInt w 0x180) ++ derInt (sigInt w 0x1A0)
  "OCMF|".toList ++ ocmfPayload p m w ++ '|' ::
    jObj [("SA".toList, jStr "ECDSA-secp256r1-SHA256".toList), ("SD".toList, jStr ((48 :: d.length :: d).flatMap hexByte))]

end Sys2Proof.Machine
end

