-- ==== Sys2Proof/Machine/Metrology.lean ====
section
/-! DEFINITION. Legal metrology (ch. 13): the intake chain, sealed sample streams, epochs and their settlement, the balance,
power failure and the backup domain, the seal, and the start of the core with its Colophon (ch. 14). -/
namespace Sys2Proof.Machine

/-- The region measures: restored and not past a cut (R447, R450). -/
def metCounts (m : Met) : Bool := m.st.on && !m.b Reg.MET_STAT 27

/-- A raw sample corrected: offset and gain (R420, R428). -/
def metCorrect (raw : Int) (ofs gain : Nat) : Int := (raw + signOf 24 (ofs % 2 ^ 24)) * (gain : Int) / 2 ^ 24
/-- A corrected intake sample at the primary, in mV or mA (R420); channel 7 only when enabled. -/
def intakeValue (m : Met) (raw : List Int) (j : Nat) : Int :=
  if m.b (Reg.MET_CCFG j) 31 then
    metCorrect (raw.getD j 0) (m.n (Reg.MET_COFS j)) (m.n (Reg.MET_CGAIN j)) * (m.f (Reg.MET_CRATIO j) 0 17 : Int) / 1000
  else 0

/-- A signed power of one sample added to a meter's sums (R421, R428). -/
def accPower (p : Int) (apart : Bool) (a : MetAcc) : MetAcc :=
  if apart then { a with apart := a.apart + p.toNat, revApart := a.revApart + (-p).toNat, cntApart := a.cntApart + 1 }
  else { a with sum := a.sum + p.toNat, rev := a.rev + (-p).toNat, cnt := a.cnt + 1 }

/-- ZERO_CROSSING (R422): the detector at one sample of U1, and whether a crossing is counted. -/
def zcStep (u : Int) (z : MetZc) : MetZc × Bool :=
  if u < 0 then ({ neg := z.neg + 1, armed := z.armed || decide (16 ≤ z.neg + 1), since := z.since + 1 }, false)
  else if z.armed then ({ neg := 0, armed := false, since := 0 }, true)
  else ({ neg := 0, armed := false, since := z.since + 1 }, false)

/-- A crossing counted; L1 that was lost is present again (R422, R435). -/
def zcCounted (x : MetLog) : MetLog :=
  let x1 := metDo (fun m => m.sat Reg.MET_STAT 0 8 1) x
  metWhen (x.1.b Reg.MET_STAT 30) (fun x => metEntry 0x30 0x06 0 (metFlag 5 (metDo (fun m => (m.setB Reg.MET_STAT 30 false).setB Reg.MET_STAT 29 false) x))) x1

/-- The 8 channels and the neutral residual of a sample, squared, added to the open epoch's sums (R423, MET.CRMS). -/
def addSquares (v : List Int) (l : List Nat) : List Nat := (List.range 9).map (fun j => l.getD j 0 + (v.getD j 0).natAbs ^ 2)

/-- The intake samples of one instant taken (R419 to R422). -/
def intakeSample (raw : List Int) (x : MetLog) : MetLog :=
  if metCounts x.1 then
    let m := x.1
    let v := (List.range 8).map (intakeValue m raw)
    let g (i : Nat) : Int := v.getD i 0
    let p := g 0 * g 3 + g 1 * g 4 + g 2 * g 5
    let z := zcStep (g 0) m.st.eng.zc
    let x1 := metDo (fun m => m.setAcc 64 (accPower p m.st.eng.closed.isSome (m.acc 64))) x
    let x2 := metEng (fun q => { q with zc := z.1, sq := addSquares (v ++ [g 3 + g 4 + g 5 + g 6]) q.sq, n := q.n + 1 }) x1
    if z.2 then zcCounted x2 else x2
  else x

/-- L1_LOST: no crossing for 50 ms, or 667 samples at 60 Hz (R422, R435); the L1 kind is recorded (R492). -/
def execL1Lost (s : State) : Host.Outcome State Fault Refusal :=
  .next (onMet (fun e m =>
    if metCounts m && !m.b Reg.MET_STAT 30 && decide ((if m.b Reg.MET_CFG 31 then 667 else 800) ≤ m.st.eng.zc.since) then
      let x := metEntry 0x30 0x06 1 (metFlag 5 (metDo (fun m => (m.setB Reg.MET_STAT 30 true).setB Reg.MET_STAT 29 true) (m, [])))
      metTamper 0x12 0 (metStamp e m) x
    else (m, [])) s)

/-- A 32-bit field of a stream block, low byte first (R424). -/
def blkWord (b : List Byte) (o : Nat) : Nat :=
  (b.getD o 0).toNat + 256 * (b.getD (o + 1) 0).toNat + 65536 * (b.getD (o + 2) 0).toNat + 16777216 * (b.getD (o + 3) 0).toNat
/-- COUNT of a stream block. -/
def blkCount (b : List Byte) : Nat := blkWord b 0 % 256
/-- Sample k of a stream block as a 64-bit word. -/
def blkSample (b : List Byte) (k : Nat) : Nat := blkWord b (16 + 8 * k) + 2 ^ 32 * blkWord b (20 + 8 * k)

/-- Check 1 of Table: Stream block checks. -/
def blkForm (b : List Byte) : Bool :=
  b.length == 296 && blkWord b 0 / 2 ^ 24 == 1 && decide (1 ≤ blkCount b) && decide (blkCount b ≤ 32) && blkWord b 0 / 256 % 256 == 0
    && decide (blkWord b 12 < 2) && blkWord b 0x114 == 0 && !(blkSample b 0).testBit 15
    && (List.range 32).all (fun k => if k < blkCount b then blkSample b k % 4096 == 0 else blkSample b k == 0)

/-- A block rejected (R426, R460): the flag, class 0x03 with its cause, and the tamper kind of the cause (R492). -/
def blkReject (k cause : Nat) (st : List Word) (x : MetLog) : MetLog :=
  metTamper (if cause = 2 then 0x05 else 0x13) (word k) st (metEntry 0x30 0x03 (cause * 2 ^ 28 + k) (metFlag 3 x))

/-- One sample of a stream taken (R428, R436, R439): late, in the epoch that settles or is open, or kept apart. -/
def streamSample (k : Nat) (w frame : Nat) (x : MetLog) : MetLog :=
  let m := x.1
  let g := m.st.eng
  let old : Bool := match g.closed with | some z => decide (frame < z.first) | none => decide (frame < g.first)
  let apart : Bool := match g.closed with | some z => decide (z.bnd ≤ frame) | none => false
  let a := m.acc k
  let d := if w.testBit 14 = w.testBit 13 then 0 else a.diff + 1
  let a1 := { a with last := some frame, diff := d, taken := a.taken && decide (0 < d) }
  if old then metFlag 4 (metDo (fun m => m.setAcc k { a1 with owed := a.owed - 1 }) x)
  else
    let v := metCorrect (signOf 24 (w / 2 ^ 40 % 2 ^ 24)) (m.n (Reg.MET_OFS_V k)) (m.n (Reg.MET_GAIN_V k))
    let i := metCorrect (signOf 24 (w / 2 ^ 16 % 2 ^ 24)) (m.n (Reg.MET_OFS_I k)) (m.n (Reg.MET_GAIN_I k))
    let a2 := accPower (v * i) apart { a1 with owed := 0, later := a.later || apart }
    let a3 := if v * i < 0 then accFlag 13 apart a2 else a2
    let a4 := if w.testBit 12 then accFlag 11 apart a3 else a3
    metWhen (w.testBit 12) (metFlag 1) (metDo (fun m => m.setAcc k a4) x)

/-- The samples of a block from one on, with the frames that NB reckons (R425). -/
def streamSamples (k : Nat) (b : List Byte) (f0 skip : Nat) (x : MetLog) : MetLog :=
  ((List.range (blkCount b)).foldl (fun (q : Nat × MetLog) i =>
    let w := blkSample b i
    let f := q.1 + (if w.testBit 15 then 1 else 0)
    (f, if skip ≤ i then streamSample k w f q.2 else q.2)) (f0, x)).2

/-- Missing samples before a block's first: what a settlement already recorded is not counted again; the rest belongs to the
settling epoch up to its length, and else to the open one (R427, R439). -/
def streamGap (k n f0 : Nat) (always : Bool) (st : List Word) (x : MetLog) : MetLog :=
  let a := x.1.acc k
  let owed := min a.owed n
  let miss := n - owed
  let x1 := metDo (fun m => m.setAcc k { m.acc k with owed := a.owed - owed }) x
  if miss = 0 ∧ !always then x1
  else
    let old := match x1.1.st.eng.closed with
      | some z => if a.later then 0 else if f0 < z.bnd then miss else min miss (z.len / 12500 - a.cnt)
      | none => miss
    let x2 := metDo (fun m => if 0 < old ∨ x1.1.st.eng.closed.isNone then accGap k old false m else m) x1
    let x3 := metDo (fun m => if old < miss then accGap k (miss - old) true m else m) x2
    metGap k miss st x3

/-- A stream block of a meter (R426 to R428): the checks in order, then SEQ order. `mac` tells that its MAC is right. -/
def streamBlock (e : Env) (len k : Nat) (b : List Byte) (mac : Bool) (x : MetLog) : MetLog :=
  let m := x.1
  let st := metStamp e m
  let now := e.time.frameNo.toNat
  let age := (now + 2 ^ 32 - blkWord b 8) % 2 ^ 32
  if !blkForm b then blkReject k 5 st x
  else if (crc32 (b.take 0x110)).toNat ≠ blkWord b 0x110 then blkReject k 1 st x
  else if blkWord b 0 / 65536 % 256 ≠ m.f (Reg.MET_MCFG k) 16 8 ∨ !m.st.keyed.contains k then blkReject k 3 st x
  else if !mac then blkReject k 2 st x
  else if 64 < age ∨ now < age then blkReject k 4 st x
  else if !metEn m k ∨ metFenced m k then x
  else
    let f0 := now - age
    let seq := blkWord b 4
    let next := m.n (Reg.MET_SEQ_NEXT k)
    let d := (seq + 2 ^ 32 - next) % 2 ^ 32
    let take (skip : Nat) (x : MetLog) : MetLog :=
      streamSamples k b f0 skip (metDo (fun m => (m.wr (Reg.MET_SEQ_NEXT k) (word (seq + blkCount b))).setAcc k { m.acc k with fresh := false }) x)
    if (m.acc k).fresh ∨ d = 0 ∧ blkWord b 12 = 0 then take 0 x
    else if blkWord b 12 = 1 then
      let n := match (m.acc k).last with | some l => (f0 - l) * len / 12500 | none => 0
      take 0 (streamGap k n f0 true st x)
    else if d < 2 ^ 31 then take 0 (streamGap k d f0 false st x)
    else if blkCount b ≤ 2 ^ 32 - d then x
    else take (2 ^ 32 - d) x

/-- The first block that waits for an outlet, and the queue without it. -/
def inboxTake (o : Nat) : List (Nat × List Byte) → Option (List Byte) × List (Nat × List Byte)
  | [] => (none, [])
  | h :: t => if h.1 = o then (some h.2, t) else let r := inboxTake o t; (r.1, h :: r.2)

/-- The nominal frame length of the period in force (R32). -/
def frameCycles (c : Chip) : Nat := c.cuts.nom

/-- CONTACTOR: ISO_CL and ISO_FB have differed in 800 samples (R429). -/
def execContactor (o : Fin 64) (s : State) : Host.Outcome State Fault Refusal :=
  .next (onMet (fun e m =>
    let a := m.acc o
    if m.st.on && decide (800 ≤ a.diff) && !a.taken then
      let x := metEntry 0x30 0x0C o (metFlag 16 (metDo (fun m => m.setAcc o { a with taken := true }) (m, [])))
      metTamper 0x06 (word o) (metStamp e m) x
    else (m, [])) s)

/-- The samples missing from a settling epoch become a gap (R437); what is then owed may still arrive late (R439). -/
def settleGap (z : MetClosed) (k : Nat) (q : MetLog × List (Nat × Word)) : MetLog × List (Nat × Word) :=
  let m := q.1.1
  let a := m.acc k
  let miss := z.len / 12500 - a.cnt
  if metEn m k && (metFenced m k || !a.later) && decide (0 < miss) then
    let m1 := accGap k miss false (m.setAcc k { a with owed := a.owed + miss })
    (metGapMs k (samplesMs miss) false (m1, q.1.2), q.2 ++ [(0x08, word (samplesMs miss))])
  else q

/-- RATE_ERR of a meter at settlement (R430). -/
def settleRate (z : MetClosed) (k : Nat) (q : MetLog × List (Nat × Word)) : MetLog × List (Nat × Word) :=
  let m := q.1.1
  let a := m.acc k
  let off := ((a.cnt : Int) * 12500 - z.len).natAbs
  if metEn m k && !metFenced m k && decide (125000000 + z.len < off * 5000) then
    (metEntry 0x30 0x0B k (metFlag 14 (metDo (fun m => m.setAcc k (accFlag 12 false a)) q.1)), q.2 ++ [(0x0F, word k)])
  else q

/-- A meter's latched words at settlement (R432, R438, R475): accumulator, BILL, WRAP, MSTAT, REV or export, and its tariff
register of the epoch. Answers the epoch's energy and reverse energy too. -/
def settleMeter (z : MetClosed) (k : Nat) (m : Met) : Met × Nat × Nat :=
  let a := m.acc k
  let new := a.sum / uwPerMwh
  let e := new - metA m k
  let rev := a.rev / uwPerMwh
  let base := if k = 64 then Reg.MET_M64_ACC_LO else Reg.MET_ACC_LO k
  let m1 := (m.wr64 base new).wr (base + 8) (word (new / 1000))
  let m2 := m1.wr (mstatOf k) (word (new / (1000 * 2 ^ 32) % 65536 * 65536 + a.fl % 65536))
  let was := if k = 64 then m.n64 Reg.MET_EXP_LO else m.n (Reg.MET_REV k)
  let m3 := if k = 64 then m2.wr64 Reg.MET_EXP_LO rev else m2.wr (Reg.MET_REV k) (word rev)
  (m3.wr64 (Reg.TRF_REG k z.reg 0) (metTreg m k z.reg + e), e, (if k = 64 then rev - was else 0))

/-- What was kept apart joins the meter's sums and becomes the open epoch's (R438). -/
def settleJoin (k : Nat) (m : Met) : Met :=
  let a := m.acc k
  m.setAcc k { a with sum := a.sum + a.apart, apart := 0, rev := a.rev + a.revApart, revApart := 0, cnt := a.cntApart, cntApart := 0,
                      fl := a.flApart, flApart := 0, later := false }

/-- The RMS of a channel over an epoch, rounded down (MET.CRMS). -/
def rmsOf (z : MetClosed) (j : Nat) : Nat := if z.n = 0 then 0 else natSqrt (z.sq.getD j 0 / z.n)

/-- MET.CRMS and the neutral check at settlement (R423). -/
def settleRms (z : MetClosed) (q : MetLog × List (Nat × Word)) : MetLog × List (Nat × Word) :=
  let x := metDo (fun m => eachBelow 8 (fun j m => m.wr (Reg.MET_CRMS j) (topWord (rmsOf z j))) m) q.1
  let r := rmsOf z 8
  let big := max (rmsOf z 3) (max (rmsOf z 4) (rmsOf z 5))
  let bad : Bool := decide (1000 < r) && decide (5 * big < 100 * r)
  let run := if bad then min 4 (x.1.st.eng.neutral + 1) else 0
  let x1 := metEng (fun g => { g with neutral := run }) x
  if run = 3 then (metEntry 0x30 0x0A 64 (metFlag 15 x1), q.2 ++ [(0x04, topWord r)]) else (x1, q.2)

/-- BALANCE_EVAL (R455 to R457) of one settled epoch. -/
def metBalance (st : List Word) (b : MetBal) (x : MetLog) : MetLog :=
  let m := x.1
  if b.skip then x
  else
    let loss : Int := (m.n Reg.MET_LOSS_FIX * b.len / 720000000 : Nat) + b.out * (m.f Reg.MET_BAL_CFG 8 8 : Int) / 1000
    let mis := b.inn + b.bat - b.out - b.aux - loss
    let band : Int := (m.n Reg.MET_BAL_ABS : Int) + (b.inn.natAbs : Int) * (m.f Reg.MET_BAL_CFG 16 8 : Int) / 1000
    let m1 := (m.wr Reg.MET_BAL_MIS (satWord mis)).wr Reg.MET_BAL_BAND (topWord band.toNat)
    let m2 := ((m1.wr Reg.MET_BAL_BATT (satWord b.bat)).wr Reg.MET_BAL_AUX (topWord b.aux.toNat)).wr Reg.MET_BAL_LOSS (topWord loss.toNat)
    let run := if band < (mis.natAbs : Int) then m.st.eng.balRun + 1 else 0
    let x1 : MetLog := ((m2.setF Reg.MET_STAT 16 8 (min 255 run)).onEng (fun g => { g with balRun := run }), x.2)
    if run = 0 then x1
    else
      let x2 := metEntry 0x30 0x09 (satWord mis).toNat (metFlag 9 x1)
      if run % m.f Reg.MET_BAL_CFG 24 8 = 0 then metTamper 0x03 (satWord mis) st (metFlag 10 x2) else x2

/-- The balance of the epochs that the core owes, in order. -/
def metBalances (st : List Word) (x : MetLog) : MetLog :=
  metDo (fun m => m.onSt (fun t => { t with bal := [] })) (eachOf x.1.st.bal (metBalance st) x)

/-- SETTLEMENT of the closed epoch (R437 to R439): missing samples, latched words, the tariff registers, sessions, the period
latch and the balance. `core` tells that the metrology core runs. -/
def metSettle (p : Part) (core : Bool) (st : List Word) (x : MetLog) : MetLog :=
  match x.1.st.eng.closed with
  | none => x
  | some z =>
    let no := x.1.n Reg.MET_EPOCH_NO + 1
    let q1 := eachOf (outMeters p) (settleGap z) (x, [])
    let q2 := eachOf (outMeters p) (settleRate z) q1
    let r := (allMeters p).foldl (fun (r : Met × List (Nat × Nat × Nat)) k => let s := settleMeter z k r.1; (s.1, r.2 ++ [(k, s.2)])) (q2.1.1, [])
    let m1 := (((r.1.wr Reg.MET_EPOCH_NO (word no)).wr Reg.MET_EPOCH_TS_LO (z.ts.setWidth 32)).wr Reg.MET_EPOCH_TS_HI ((z.ts >>> 32).setWidth 32)).wr Reg.MET_EPOCH_LEN (topWord z.len)
    let m2 := (m1.wr Reg.TRF_SETTLE_NO (word no)).setB Reg.MET_STAT 28 false
    let q3 := settleRms z (metEntry 0x30 0x01 no (metFlag 0 (m2, q2.1.2)), q2.2)
    let fl (b : Nat) (kind : Nat) : List (Nat × Word) := ((allMeters p).filter (fun k => (m2.acc k).fl.testBit b)).map (fun k => (kind, word k))
    let x4 := metTampers st (q3.2 ++ fl 13 0x07 ++ fl 11 0x10) q3.1
    let x5 := metEng (fun g => { g with perFlags := (allMeters p).foldl (fun l k =>
      let f := (m2.acc k).fl
      tset (fun _ => 0) l k (tget (fun _ => 0) l k ||| (f / 2 ^ 15 % 2) ||| (f / 2 ^ 14 % 2 * 2) ||| (f / 2 ^ 13 % 2 * 4))) g.perFlags }) x4
    let skip : Bool := z.skip || (allMeters p).any (fun k => metEn m2 k && ((m2.acc k).fl.testBit 15 || (m2.acc k).fl.testBit 10 || (m2.acc k).fl.testBit 12))
    let e64 : Nat × Nat := ((r.2.find? (fun t => t.1 == 64)).map (·.2)).getD (0, 0)
    let out := ((r.2.filter (fun t => t.1 != 64)).map (fun t => t.2.1)).sum
    let bal : MetBal := { inn := (e64.1 : Int) - e64.2, bat := Int.tdiv z.bat 720000000, out := out, aux := (z.aux / 720000000 : Nat), len := z.len, skip := skip }
    let x6 := metDo (fun m => eachOf (allMeters p) settleJoin (m.onEng (fun g => { g with closed := none }))) x5
    let x7 := metDo (fun m => eachOf m.st.eng.sess (sessSettle no) m) x6
    let x8 := match z.per with | some (a, dm) => metDo (periodLatch p no a dm) x7 | none => x7
    let x9 := metDo (fun m => if m.b Reg.MET_BAL_CFG 7 then m.onSt (fun t => { t with bal := t.bal ++ [bal] }) else m) x8
    if core then metBalances st x9 else x9

/-- A settlement that is due at the boundary now open. -/
def settleNow (s : State) : State :=
  onMet (fun e m =>
    if metCounts m && m.st.settleDue then
      metSettle e.part (s.chip.rgn .metrology == 0) (metStamp e m) (m.onSt (fun t => { t with settleDue := false }), [])
    else (m, [])) s

/-- SETTLEMENT: the closed epoch settles at the boundary now open (R437, R438). -/
def execSettlement (s : State) : Host.Outcome State Fault Refusal := .next (settleNow s)

/-- Registers that a save image and a checkpoint hold: the latched words, the epoch, and the tariff page's state (R440, R447). -/
def imgReg (a : Nat) : Bool :=
  (decide (0x68010000 ≤ a) && decide (a < 0x68012080)) || (decide (0x60000114 ≤ a) && decide (a < 0x60000128))
    || a == Reg.MET_EPOCH_NO || a == Reg.MET_EPOCH_TS_LO || a == Reg.MET_EPOCH_TS_HI || a == Reg.MET_EPOCH_LEN
    || a == Reg.MET_EXP_LO || a == Reg.MET_EXP_HI || (decide (Reg.TRF_IN_FORCE ≤ a) && decide (a ≤ Reg.TRF_SETTLE_NO))
    || (decide (0x60001400 ≤ a) && decide (a < 0x60003000) && decide (0x400 ≤ a % 0x1000) && ((decide (0x14 ≤ a % 0x40) && decide (a % 0x40 < 0x28)) || a % 0x40 == 0x2C))

/-- An image of the region as it stands in this cycle, with the next save sequence number (R440, R447). -/
def metImage (e : Env) (m : Met) : MetImage :=
  { seq := m.st.seq, eng := { m.st.eng with run := e.time.up - m.st.eng.start }, regs := m.regs.filter (fun r => imgReg r.1),
    lc := metLc e m, utc := metUtc e m }

/-- EPOCH_BOUNDARY (R487): the actions of Table: Actions at one epoch boundary, in their order. -/
def metEpoch (e : Env) (core : Bool) (x0 : MetLog) : MetLog :=
  let st := metStamp e x0.1
  let lc := metLc e x0.1
  let utc := metUtc e x0.1
  let x1 := metSettle e.part core st x0
  let m := x1.1
  let g := m.st.eng
  let imp := (m.acc 64).sum / uwPerMwh
  let z : MetClosed := { bndUp := e.time.up, len := e.time.up - g.start, first := g.first, bnd := e.time.frameNo.toNat, ts := e.time.stamp,
                         reg := m.f Reg.TRF_IN_FORCE 28 4, sq := g.sq, n := g.n, bat := g.bat, aux := g.aux, skip := g.skip }
  let x2 := metEng (fun g => { g with closed := some z, start := e.time.up, first := e.time.frameNo.toNat, imp := imp, sq := [], n := 0, bat := 0, aux := 0, skip := false, force := false }) x1
  let x3 := metDo (fun m => (m.setF Reg.MET_STAT 0 8 0).setB Reg.MET_STAT 28 true) x2
  let x4 := periodBoundary st utc (demBoundary st utc (imp - g.imp) x3)
  let x5 := sealedApply st (metDo (sessBoundary st) x4)
  let t := timeApply st lc utc x5
  let x6 := metDo (fun m => feedPublish lc (demOpen lc t.1 m)) (tariffPick t.1 t.2)
  metDo (fun m => (recShow m).onSt (fun q => { q with ckDue := some (metImage e m), seq := q.seq + 1, epochDue := false, settleDue := false })) x6

/-- A metrology offer ends with a result: 0 DONE, 1 SEALED, 2 IMAGE, 3 WITHDRAWN, 4 START_FAIL (23 R724, R725). -/
def offerEnd (e : Env) (res : Nat) (c : Chip) : Chip :=
  (((c.setF Reg.UPD_STAT 30 2 0).setF Reg.UPD_STAT 26 4 res).setB Reg.UPD_EVT (if res = 0 then 2 else 1) true).log1 e 0x28 0 0x02 (res * 2 ^ 28)

/-- What an epoch boundary does to an offer (23 R718): with the seal closed it ends; with the seal open, no request BUSY and the core
running, the image is loaded. -/
def offerBoundary (e : Env) (busy : Bool) (c : Chip) : Chip :=
  if c.f Reg.UPD_STAT 30 2 ≠ 1 then c
  else if !c.b Reg.CHIP_SEAL_STAT 30 then offerEnd e 1 c
  else if !busy && c.rgn .metrology == 0 then c.setF Reg.UPD_STAT 30 2 2
  else c

/-- An epoch boundary that is due in this cycle, with what it does to an offer (R434, R435, R487, 23 R718). -/
def epochNow (s : State) : State :=
  if metCounts s.met && s.met.st.epochDue then
    onChip (fun e c => offerBoundary e s.met.st.req.isSome c) (onMet (fun e m => metEpoch e (s.chip.rgn .metrology == 0) (m, [])) s)
  else s

/-- EPOCH_BOUNDARY: the boundary now open ends the epoch (R434, R435, R487); an offered image meets it (23 R718). -/
def execEpochBoundary (s : State) : Host.Outcome State Fault Refusal := .next (epochNow s)

/-- What a boundary makes due comes before whatever else its cycle brings (R436, R437, R458, 14 R504): a sample, a block or a completed
request of that cycle finds the epoch closed and settled. -/
def metAtOnce (s : State) : State := settleNow (epochNow s)

/-- INTAKE_SAMPLE: all intake channels sampled at one instant (R419). One of a boundary's cycle belongs to the frame that it opens. The raw samples are the
command's. -/
def execIntakeSample (raw : List Int) (s : State) : Host.Outcome State Fault Refusal :=
  .next (onMet (fun e m => if e.part.hasMet then intakeSample raw (m, []) else (m, [])) (metAtOnce s))

/-- STREAM_BLOCK: the oldest waiting block of an outlet is checked and taken (R426). One accepted in the cycle of a
settlement comes after it (R458). The verdict on its MAC is the command's. -/
def execStreamBlock (o : Fin 64) (mac : Bool) (s : State) : Host.Outcome State Fault Refusal :=
  .next (onMet (fun e m =>
    let q := inboxTake o m.st.inbox
    let m1 := m.onSt (fun t => { t with inbox := q.2 })
    match q.1 with
    | some b => if metCounts m then streamBlock e (frameCycles s.chip) o b mac (m1, []) else (m1, [])
    | none => (m, [])) (metAtOnce s))

/-- An image written over the older of two slots (R440, R448). -/
def imageWrite (lo : Nat) (g : MetImage) (m : Met) : Met :=
  let at0 := tget (fun _ => ({ seq := 0 } : MetImage)) m.st.images lo
  let at1 := tget (fun _ => ({ seq := 0 } : MetImage)) m.st.images (lo + 1)
  m.onSt (fun t => { t with images := tset (fun _ => ({ seq := 0 } : MetImage)) t.images (if at0.seq ≤ at1.seq then lo else lo + 1) g })

/-- CHECKPOINT_WRITTEN: the checkpoint of the last epoch boundary is in its slot (R440). -/
def execCheckpointWritten (s : State) : Host.Outcome State Fault Refusal :=
  .next (onMet (fun _ m => match m.st.ckDue with
    | some g => ((imageWrite 2 g m).onSt (fun t => { t with ckDue := none }), [])
    | none => (m, [])) s)

/-- What a frame boundary does for the region, before EPOCH_BOUNDARY and SETTLEMENT (R434, R435, R437, R449, R455): a
resumption takes effect, the ended frame joins the balance, and the conditions are judged. -/
def metBoundary (e : Env) (len : Nat) (bat : Int) (aux : Nat) (binMissed : Bool) (x0 : MetLog) : MetLog :=
  let x := if x0.1.st.resume && x0.1.st.on then
      let n := (e.time.up - x0.1.st.cutUp) / 12500
      let st := metStamp e x0.1
      let x1 := metDo (fun m => (m.setB Reg.MET_STAT 27 false).onSt (fun t => { t with resume := false, offAt := none, eng := { t.eng with force := true } })) x0
      eachOf ((allMeters e.part).filter (metEn x0.1)) (fun k x =>
        metGap k n st (metDo (fun m =>
          let m1 := accGap k n false m
          let a := accFlag 10 false (m1.acc k)
          m1.setAcc k (if k = 64 then a else { a with owed := a.owed + n })) x)) x1
    else x0
  let m := x.1
  if metCounts m then
    let cfg := m.rd Reg.MET_BAL_CFG
    let m1 := m.onEng (fun g => { g with bat := g.bat + (if fbit cfg 6 then bat * len else 0), aux := g.aux + (if fbit cfg 5 then aux * len else 0),
                                         skip := g.skip || (fbit cfg 6 && binMissed) })
    let g := m1.st.eng
    let n := m.f Reg.MET_CFG 16 8
    let due : Bool := g.force || (if m.b Reg.MET_STAT 29 then decide (g.start + n * (if m.b Reg.MET_CFG 31 then 3333333 else 4000000) ≤ e.time.up)
                            else decide (n ≤ m.f Reg.MET_STAT 0 8))
    let set : Bool := match g.closed with
      | some z => decide (z.bndUp + m.f Reg.MET_CFG 0 8 * 200000 ≤ e.time.up)
          || (outMeters e.part).all (fun k => !metEn m k || metFenced m k || (m.acc k).later)
      | none => false
    (m1.onSt (fun t => { t with epochDue := due, settleDue := set }), x.2)
  else x

/-- The Control region has started, with frames that count from 0 (R458): the epoch ends at the next boundary, and no frame
of the old series is known. -/
def metNewSeries (m : Met) : Met :=
  m.onEng (fun g => { g with force := g.force || m.st.on, first := 0, skip := true, closed := g.closed.map (fun z => { z with first := 0, bnd := 0 }),
                             acc := g.acc.map (fun a => (a.1, { a.2 with last := none })) })

/-- The feed as the Gather freeze latches it (R29, R36). -/
def feedFreeze (m : Met) (c : Chip) : Chip :=
  let f := m.st.feed
  let c1 := c.wr Reg.ALC_FEED_AVG (topWord f.avg)
  (c1.wr Reg.ALC_FEED_TIME (word ((if f.valid then 2 ^ 31 else 0) + (if f.sliding then 2 ^ 30 else 0) + f.len % 4096 * 65536 + f.elapsed % 4096))).wr Reg.ALC_FEED_TCAP f.tcap

/-- PFAIL_N's filtered level shown, flagged and logged (22 R699, R710). -/
def pfailShow (b : Bool) (s : State) : State :=
  onChip (fun e c =>
    if c.b Reg.PWR_STAT 31 = b then c
    else ((c.setB Reg.PWR_STAT 31 b).setB Reg.PWR_EVT (if b then 0 else 1) true).log1 e 0x27 0 0x03 (if b then 1 else 0)) s

/-- The cut abandons a metrology load and clears its offer (23 R723). -/
def metLoadCut (s : State) : State :=
  if s.chip.f Reg.UPD_STAT 30 2 = 2 then
    { onChip (fun _ c => c.setF Reg.UPD_STAT 30 2 0) s with met := s.met.onSt (fun t => { t with fwNew := none }) }
  else s

/-- CUT: PFAIL_N is asserted (R447, R488): what is due in this cycle first, then the save image; energy counting stops. -/
def execCut (s : State) : Host.Outcome State Fault Refusal :=
  .next (metLoadCut (pfailShow true (onMet (fun e m =>
    if metCounts m then
      let core := s.chip.rgn .metrology == 0
      let st := metStamp e m
      let x1 := if m.st.epochDue then metEpoch e core (m, []) else (m, [])
      let x2 := metSettle e.part core st x1
      let x3 := spanFlag 5 (metEng (fun g => { g with dem := g.dem.map (fun d => { d with pf := true }) }) x2)
      metDo (fun m => (m.setB Reg.MET_STAT 27 true).onSt (fun t => { t with saving := some (metImage e m), seq := t.seq + 1, cutLc := metLc e m, cutUp := e.time.up, offAt := none, resume := false, settleDue := false })) x3
    else if m.st.on then (m.onSt (fun t => { t with offAt := none, resume := false }), [])
    else (m, [])) s)))

/-- PF_SAVE: the save image is written (R448); `t` is the time taken in 10 µs. -/
def execPfSave (t : BitVec 16) (s : State) : Host.Outcome State Fault Refusal :=
  .next (onMet (fun _ m => match m.st.saving with
    | some g =>
      let m1 := (imageWrite 0 g m).onSt (fun q => { q with saving := none })
      metEntry 0x30 0x07 (2 ^ 30 + t.toNat) (metFlag 11 (((m1.setF Reg.MET_PF_STAT 0 16 t.toNat).sat Reg.MET_PF_CNT 0 32 1), []))
    | none => (m, [])) s)

/-- PFAIL_OFF: PFAIL_N has deasserted, filtered (R449). -/
def execPfailOff (s : State) : Host.Outcome State Fault Refusal :=
  .next (pfailShow false (onMet (fun e m => if m.st.on && m.b Reg.MET_STAT 27 && m.st.offAt.isNone then (m.onSt (fun t => { t with offAt := some e.time.up }), []) else (m, [])) s))

/-- PFAIL_RESUME: the save is complete and 10 ms have passed; counting resumes at the next boundary (R449). -/
def execPfailResume (s : State) : Host.Outcome State Fault Refusal :=
  .next (onMet (fun e m =>
    let quiet : Bool := match m.st.offAt with | some t => decide (t + 2000000 ≤ e.time.up) | none => false
    if m.st.on && m.b Reg.MET_STAT 27 && m.st.saving.isNone && quiet then (m.onSt (fun t => { t with resume := true }), []) else (m, [])) s)

/-- LEGAL_SEAL_CHANGE: LEGAL_SEAL has read its new level for 20 ms (R443). -/
def execLegalSealChange (opened : Bool) (s : State) : Host.Outcome State Fault Refusal :=
  let s1 := onMet (fun e m =>
    if e.part.hasMet && m.b Reg.MET_SEAL 31 != opened then
      let st := metStamp e m
      let m1 := (m.setB Reg.MET_SEAL 31 opened).setB Reg.MET_STAT 31 opened
      let m2 := if opened then (m1.sat Reg.MET_SEAL 0 16 1).onSt (fun t => { t with sealHeld := false, sealUp := some e.time.up }) else m1
      let x := metNote 0x04 (if opened then 1 else 0) st [] (metEntry 0x30 0x04 (if opened then 1 else 0) (metFlag 6 (m2, [])))
      if opened then metTamper 0x00 0 st (spanFlag 7 x) else x
    else (m, [])) s
  .next (onChip (fun e c => if e.part.hasMet then c.setB Reg.CHIP_SEAL_STAT 30 opened else c) s1)

/-- The Metrology domain goes over to VBAK (22 R698): nothing is measured, and the switch-over is stamped. -/
def metToBackup (e : Env) (m : Met) : Met :=
  if e.part.hasMet && m.st.bakFrom.isNone then
    let lc := metLc e m
    let utc := metUtc e m
    let m1 := (m.setB Reg.MET_BAK_STAT 31 false).setB Reg.MET_BAK_STAT 30 false
    m1.onSt (fun t => { t with on := false, bakFrom := some lc, time := { t.time with lc := lc, up := e.time.up, utc := utc, lcU := lc, slew := none },
                               inbox := [], ckDue := none, epochDue := false, settleDue := false, resume := false, offAt := none, cws := 0, cwsSum := 0, cwsTs := [], lost := false })
  else m

/-- MTR_VBAK_SWITCHOVER: VDDA lies below 2.90 V, and the Metrology domain runs from VBAK (22 R698). -/
def execMtrVbakSwitchover (s : State) : Host.Outcome State Fault Refusal :=
  .next (onMet (fun e m => (metToBackup e m, [])) s)

/-- BACKUP_SAMPLE: one second of the backup domain (R452 to R454, R461). `rms` holds the RMS of I1 to I3 and IN in mA. -/
def execBackupSample (rms : List Nat) (s : State) : Host.Outcome State Fault Refusal :=
  .next (onMet (fun e m =>
    if m.st.bakFrom.isSome && !m.st.lost then
      let m1 := m.onSt (fun t => { t with time := { t.time with lc := t.time.lc + 1000 } })
      let big := max (rms.getD 0 0) (max (rms.getD 1 0) (rms.getD 2 0))
      if m.b Reg.MET_BAK_CFG 31 && !m.b Reg.MET_BAK_STAT 31 && decide (m.f Reg.MET_BAK_CFG 0 16 * 100 ≤ big) then
        let ss := shortStamp (metStamp e m1)
        (m1.onSt (fun t => { t with cws := t.cws + 1, cwsSum := t.cwsSum + big, cwsTs := (if t.cws = 0 then ss else t.cwsTs.take 2) ++ ss }), [])
      else (m1, [])
    else (m, [])) s)

/-- VBAK_LOW: VBAK lies below 2.4 V; backup sampling stops (R454). -/
def execVbakLow (s : State) : Host.Outcome State Fault Refusal :=
  .next (onMet (fun _ m =>
    if m.st.bakFrom.isSome then ((m.setB Reg.MET_BAK_STAT 31 true).setB Reg.MET_BAK_STAT 30 true, []) else (m, [])) s)

/-- LEGAL_TIME_LOST: VBAK below 2.0 V without main supply, or every supply of MTR lost (R470). -/
def execLegalTimeLost (s : State) : Host.Outcome State Fault Refusal :=
  .next (onMet (fun _ m => if m.st.bakFrom.isSome then (m.onSt (fun t => { t with lost := true }), []) else (m, [])) s)

/-- The Colophon at a start of the core (R501, R503). -/
def metColophon (st : List Word) (x : MetLog) : MetLog :=
  let m := x.1
  let w := m.st.fw
  let m1 := eachBelow 8 (fun k m => m.wr (Reg.TRF_COLO_DIG k) (w.dig.getD k 0)) ((m.wr Reg.TRF_COLO_VER w.ver).wr Reg.TRF_COLO_CRC w.crc)
  let m2 := m1.onSt (fun t => { t with fwWas := w, sealHeld := !m.b Reg.MET_SEAL 31 })
  if w = m.st.fwWas then (m2, x.2)
  else
    let x1 := metNote 0x07 0 st [w.crc, w.ver] (metEntry 0x31 0x07 w.crc.toNat (trfFlag 5 (m2.wr Reg.TRF_COLO_SEQ (word (m.n Reg.TRF_COLO_SEQ + 1)), x.2)))
    if m.st.sealHeld then metTamper 0x0E w.crc st x1 else x1

/-- The core of the region goes down (Table: Pipeline and core duties): a running request ends with CORE_DOWN. -/
def metCoreDown (s : State) : State :=
  let busy := s.met.st.req.isSome
  let s1 : State := { s with met := (s.met.setB Reg.MET_STAT 26 true).onSt (fun t =>
    { t with req := none, eng := { t.eng with sess := (t.eng.sess.filter (fun q => q.2.phase != 0)).map (fun q => if q.2.ending = 1 then (q.1, { q.2 with ending := 0 }) else q) } }) }
  if busy then onChip (fun _ c => (c.setB Reg.CHIP_SEAL_STAT 31 false).setF Reg.CHIP_SEAL_STAT 24 4 5) s1 else s1

/-- The core is back: its restart is recorded, its Colophon formed, and what it owes done in order (R413, R492, R501). -/
def metCoreBack (s : State) : State :=
  onMet (fun e m =>
    let st := metStamp e m
    metBalances st (metColophon st (metTamper 0x11 0 st (m.setB Reg.MET_STAT 26 false, [])))) s

/-- Registers that a loss of supply resets: those with a reset value of their own that MRAM does not keep. -/
def metVolatile (a : Nat) : Bool :=
  a == Reg.MET_STAT || a == Reg.MET_EVT || (decide (Reg.MET_BAL_MIS ≤ a) && decide (a ≤ Reg.MET_BAL_LOSS)) || a == Reg.TRF_EVT || a == Reg.TRF_REC_INFO || a == Reg.TRF_REC_NUM
    || (decide (Reg.TRF_REC_W 0 ≤ a) && decide (a ≤ Reg.TRF_REC_W 127)) || a == 0x60000010 || a == 0x60001010 || a == 0x60002010 || a == 0x60003010 || a == 0x60004010

/-- A meter as a restore leaves it (R427, R450): its sums, PF_E, and nothing of the stream. -/
def accRestored (k : Nat) (a : MetAcc) (m : Met) : Met :=
  m.setAcc k { (accFlag 10 false { a with later := false, last := none, owed := 0, diff := 0, taken := false, fresh := true }) with fl := a.fl ||| (if metEn m k then 2 ^ 10 else 0) }

/-- The newest image (R450): a save, or a checkpoint. -/
def metNewest (m : Met) : Option (Nat × MetImage) :=
  m.st.images.foldl (fun b g => match b with | some h => if h.2.seq < g.2.seq then some g else b | none => some g) none

/-- An estimated gap of every enabled meter (R450). -/
def metEstGap (p : Part) (ms : Nat) (st : List Word) (x : MetLog) : MetLog :=
  eachOf ((allMeters p).filter (metEn x.1)) (fun k x =>
    metTamper 0x08 (word ms) st (metGapMs k ms true (metDo (fun m => m.setAcc k (accFlag 14 false (accFlag 15 false (m.acc k)))) x))) x

/-- CURRENT_WITHOUT_SUPPLY at the restore (R453): the episode with the legal times of its first and last current seconds. -/
def metCws (st : List Word) (x : MetLog) : MetLog :=
  let t := x.1.st
  let mah := t.cwsSum / 3600
  if t.cws = 0 then x
  else
    let first := x.1.n (Reg.TMP_COUNT 2) = 0
    let x1 := metDo (fun m => (m.wr Reg.MET_CWS_SECS (topWord t.cws)).wr Reg.MET_CWS_MAH (topWord mah)) x
    let x2 := metEntry 0x30 0x08 (min t.cws 0xFFFFFFFF) (metFlag 13 x1)
    let x3 := metTamper 0x02 (topWord (x.1.n (Reg.TMP_AUX 2) + mah)) st x2
    metDo (fun m =>
      let m1 := if first then (m.wr (Reg.TMP_FIRST_S 2) (t.cwsTs.getD 0 0)).wr (Reg.TMP_FIRST_X 2) (t.cwsTs.getD 1 0) else m
      (m1.wr (Reg.TMP_LAST_S 2) (t.cwsTs.getD 2 0)).wr (Reg.TMP_LAST_X 2) (t.cwsTs.getD 3 0)) x3

/-- A table with the registers of an image over its own (R450). -/
def imgOver (own img : RegTable) : RegTable := img.foldl (fun t x => rset t x.1 x.2) (own.filter (fun x => !imgReg x.1))

/-- METROLOGY_RESTORE (R450, R451, R453, R470, R501): before measuring, the region restores from its newest image. -/
def metRestore (e : Env) (core : Bool) (m0 : Met) : MetLog :=
  let sealed := m0.b Reg.MET_SEAL 31
  let m1 : Met := { m0 with regs := m0.regs.filter (fun r => !metVolatile r.1) }
  let m2 := (m1.setB Reg.MET_STAT 31 sealed).setB Reg.MET_STAT 26 (!core)
  let lc0 := metLc e m0
  match metNewest m2 with
  | none =>
    let m3 := m2.onSt (fun t => { t with on := true, bakFrom := none, time := { t.time with lc := lc0, up := e.time.up }, eng := { t.eng with start := e.time.up, first := e.time.frameNo.toNat } })
    metColophon (metStamp e m3) (recShow (calCrc m3), [])
  | some (slot, g) =>
    let lost := m0.st.lost
    let lc := if lost then g.lc + 1 else lc0
    let t0 := m0.st.time
    let tm : MetTime := if lost then { lc := lc, up := e.time.up, utc := g.utc, lcU := lc } else { t0 with lc := lc, up := e.time.up }
    let m3 : Met := { m2 with regs := imgOver m2.regs g.regs }
    let now := e.time.frameNo.toNat
    let done := g.eng.closed.map (fun z => { z with first := now, bnd := now })
    let dem := g.eng.dem.map (fun d => { d with pf := true })
    let eng : MetEng := { g.eng with start := e.time.up - g.eng.run, first := now, zc := {}, closed := done, dem := dem, skip := true }
    let m4 := m3.onSt (fun t => { t with on := true, bakFrom := none, lost := false, time := tm, saving := none, eng := eng })
    let m5 := eachOf (allMeters e.part) (fun k m => accRestored k (m.acc k) m) ((m4.setF Reg.MET_STAT 0 8 0).setB Reg.TRF_TIME_STAT 30 false)
    let m6 := if lost then (m5.setB Reg.TRF_TIME_STAT 31 false).setB Reg.TRF_TIME_STAT 29 false else m5
    let m7 := if lost then m6.onSt (fun t => { t with time := { t.time with due := none, slew := none } }) else m6
    let st := metStamp e m7
    let off := m0.st.bakFrom.getD lc0
    let gap := (lc0 - (if slot < 2 then m0.st.cutLc else off)) / 1000
    let x1 : MetLog := ((m7.setF Reg.MET_PF_STAT 30 2 (if slot < 2 then 1 else 2)).wr Reg.MET_PF_GAP (topWord gap), [])
    let est := off - g.lc
    let x2 := if slot < 2 then x1 else metTamper 0x09 (topWord est) st (metEstGap e.part est st (metFlag 12 x1))
    let x3 := metCws st (spanFlag 5 x2)
    let x4 := if lost then metNote 0x08 0 st [] (metTamper 0x0C 0 st (metEntry 0x31 0x05 0 (trfFlag 4 x3))) else x3
    let x5 := metColophon st (metTamper 0x14 (topWord gap) st x4)
    let x6 := metSettle e.part core st x5
    metDo (fun m => recShow (calCrc m)) x6
/-- METROLOGY_RESTORE: main supply is back, or comes for the first time (R450). -/
def execMetrologyRestore (s : State) : Host.Outcome State Fault Refusal :=
  .next (onMet (fun e m =>
    if e.part.hasMet && !m.st.on && !s.chip.pwr.rails.testBit 3 then metRestore e (s.chip.rgn .metrology == 0) m else (m, [])) s)

/-- SLEW_END: a slew has applied its whole delta (R467). -/
def execSlewEnd (s : State) : Host.Outcome State Fault Refusal :=
  .next (onMet (fun e m => match m.st.time.slew with
    | some (d, from') =>
      if d.natAbs * 1000 ≤ metLc e m - from' then
        let lc := metLc e m
        let utc := metUtc e m
        ((m.setB Reg.TRF_TIME_STAT 30 false).onSt (fun t => { t with time := { t.time with utc := utc, lcU := lc, slew := none } }), [])
      else (m, [])
    | none => (m, [])) s)

/-- RECORD_SIGNED: the core has signed the oldest record that waits over its OCMF payload, and stores it in a free slot (R495, R498, R499).
Nonces follow RFC 6979, so the signature is the key's of that payload, and the command carries nothing. -/
def execRecordSigned (_ : Unit) (s : State) : Host.Outcome State Fault Refusal :=
  .next (onMet (fun e m => match m.st.unsigned with
    | (no, w) :: t =>
      if m.st.on && s.chip.rgn .metrology == 0 then
        let sig := (List.range 16).map (Config.recordSignature (recSigned e.part m w))
        let body := w.take 96 ++ sig ++ List.replicate 15 0
        let full := body ++ [crc32 (body.flatMap wordBytes)]
        let keep := if m.st.recs.length < 512 then m.st.recs else m.st.recs.eraseP (fun r => r.2.1)
        metEntry 0x31 0x06 no (recShow (m.onSt (fun q => { q with unsigned := t, recs := keep ++ [(no, false, full)] })), [])
      else (m, [])
    | [] => (m, [])) s)

/-- PERIOD_PEND_WRITE: waiting period records go to slots that have become free (R495). -/
def execPeriodPendWrite (s : State) : Host.Outcome State Fault Refusal :=
  .next (onMet (fun _ m => if m.st.on && s.chip.rgn .metrology == 0 then (perFlush 65 m, []) else (m, [])) s)

/-- TRF_NOW_READ: a read of TRF.NOW0 latches the legal stamp for the reading plane and returns its first word (R463). -/
def execTrfNowRead (p : Plane) (s : State) : Host.Outcome State Fault Refusal :=
  if s.env.part.hasMet then
    let st := metStamp s.env s.met
    .next { s with rdata := st.getD 0 0, met := s.met.onSt (fun t => { t with now := tset (fun _ => ([] : List Word)) t.now (planeCode p) st }) }
  else .next (onChip (fun e c => c.dropRecord e p (Reg.TRF_NOW 0) false true) { s with rdata := 0 })

end Sys2Proof.Machine
end

