-- ==== Sys2Proof/Machine/Frame.lean ====
section
/-! DEFINITION. The frame clock (ch. 2): FSYNC edges, windows, pulls and lock, time anchors, a change of period or sync mode, and
the time words. -/
namespace Sys2Proof.Machine

/-- The frame engine's own state changed. -/
def Chip.onFrm (c : Chip) (f : FrameSt → FrameSt) : Chip := { c with frm := f c.frm }
/-- SYNC_MODE: 0 OFF, 1 TRACK, 2 SLEW (FRM.CFG). -/
def syncMode (c : Chip) : Nat := c.f Reg.FRM_CFG 4 2
/-- LOCKED (FRM.STAT). -/
def frmLocked (c : Chip) : Bool := c.b Reg.FRM_STAT 31
/-- FROZEN (FRM.STAT). -/
def frmFrozen (c : Chip) : Bool := c.b Reg.FRM_STAT 30
/-- LOCK_RUN (FRM.STAT). -/
def lockRun (c : Chip) : Nat := c.f Reg.FRM_STAT 8 5
/-- An FRM entry (R170). -/
def frmLog (e : Env) (cls detail : Nat) (c : Chip) : Chip := c.log1 e 0x02 0 cls detail

/-- TIME_ANCHOR (R74): three consecutive entries; PULL_SUM starts anew. The IEEE 1588 time is that captured at the boundary,
zero while precision time is off (R739). -/
def timeAnchor (e : Env) (c : Chip) : Chip :=
  let c1 := frmLog e 0x08 (c.cuts.nom * 65536 + (if frmLocked c then 2 ^ 15 else 0)) c
  let c2 := c1.putAt ⟨e.time.bndTime, srcWord 0x02 0 0x09, word c.frm.pullSum⟩
  let on := c.b Reg.ETH_PTP_CFG 31
  let s := if on then c.n Reg.ETH_BND_S_LO + 2 ^ 32 * (c.n Reg.ETH_BND_S_HI % 65536) else 0
  let c3 := c2.putAt ⟨BitVec.ofNat 64 s, srcWord 0x02 0 0x0A, if on then c.rd Reg.ETH_BND_NS else 0⟩
  c3.onFrm (fun f => { f with pullSum := 0, anchorDue := false })

/-- LOCKED changes: flagged, counted when it is lost, logged, and an anchor written (R63, R64, R74). -/
def lockSet (e : Env) (b : Bool) (c : Chip) : Chip :=
  if frmLocked c = b then c
  else
    let c1 := frmLog e 0x06 (if b then 1 else 0) (c.setB Reg.FRM_STAT 31 b)
    let c2 := if b then c1.setB Reg.FRM_EVT 8 true else (c1.setB Reg.FRM_EVT 7 true).wrap Reg.FRM_SYNC_CNT_B 0 16 1
    timeAnchor e c2

/-- LOCKED and LOCK_RUN cleared (R64, R65). -/
def lockDrop (e : Env) (c : Chip) : Chip := (lockSet e false (c.setF Reg.FRM_STAT 8 5 0)).onFrm (fun f => { f with missRun := 0 })

/-- FRM.LEN, the cuts and the budgets as they stand (FRM page, Note). -/
def frmShow (len : Nat) (c : Chip) : Chip :=
  let k := c.cuts
  let c1 := (c.wr Reg.FRM_LEN (word (len * 65536 + k.nom))).wr Reg.FRM_CUT_A (word (k.solve * 65536 + k.cut))
  (c1.wr Reg.FRM_CUT_B (word (k.mirror * 65536 + k.emit))).wr Reg.FRM_BUDGET (word (k.cen * 65536 + k.alc))

/-- A phase error clamped to a pull (R62). -/
def pullOf (e : Int) : Int := if 250 < e then 250 else if e < -250 then -250 else e

/-- The chip's own FSYNC edges pull (R68, R595): it is SOLO, or ACTIVE since an earlier frame. -/
def pullsOwn (e : Env) (c : Chip) : Bool :=
  c.role == 0 || (c.role == 1 && (match c.pair.ownedAt with | some f => decide (f < e.time.frameNo.toNat) | none => true))

/-- The length in force changed by a pull: FRM.LEN, PULL and PULL_SUM follow (R62, R74). -/
def pullFrame (p : Int) (s : State) : State :=
  let t := s.env.time
  let len := ((t.len : Int) + p).toNat
  let s1 := { s with env := { s.env with time := { t with len := len } } }
  onChip (fun _ c =>
    let pull := signOf 16 (c.f Reg.FRM_SYNC_PHASE 16 16) + p
    ((c.setF Reg.FRM_LEN 16 16 len).setF Reg.FRM_SYNC_PHASE 16 16 (pull % 65536).toNat).onFrm (fun f => { f with pullSum := f.pullSum + p.natAbs })) s1

/-- A window's evaluated edge (R61 to R63): ERR, LOCK_RUN but in OFF, where it reads 0 (R58), and the pull where the chip pulls and its
frames do not run free (R65). -/
def edgeTake (err : Int) (s : State) : State :=
  let s1 := onChip (fun _ c =>
    let c1 := (c.setF Reg.FRM_SYNC_PHASE 0 16 (err % 65536).toNat).onFrm (fun f => { f with winEdge := true, missRun := 0 })
    if syncMode c = 0 then c1 else c1.setF Reg.FRM_STAT 8 5 (min 16 (lockRun c + 1))) s
  if pullsOwn s.env s.chip && !s.chip.frm.freeRun then pullFrame (pullOf err) s1 else s1

/-- FSYNC_EXTRA (R61). -/
def edgeExtra (c : Chip) : Chip := (c.wrap Reg.FRM_SYNC_CNT_B 16 16 1).setB Reg.FRM_EVT 5 true

/-- A selected edge in no window (R65, R66). Past the pre-lock phase the frames then run free until lock is gained (log entry 16). -/
def edgeOutside (cyc : Nat) (s : State) : State :=
  let len := s.env.time.len
  let s1 := onChip (fun _ c => c.wrap Reg.FRM_SYNC_CNT_A 16 16 1) s
  if s.chip.frm.prelock then
    let s2 := onChip (fun _ c => c.setB Reg.FRM_STAT 28 true) s1
    if !pullsOwn s.env s.chip then s2
    else if 2 * cyc < len then pullFrame (pullOf cyc) s2
    else
      let p := pullOf ((cyc : Int) - len)
      onChip (fun _ c => c.onFrm (fun f => { f with slew := f.slew + p, slewAbs := f.slewAbs + p.natAbs })) s2
  else onChip (fun e c => (lockDrop e (c.setB Reg.FRM_EVT 4 true)).onFrm (fun f => { f with freeRun := true })) s1

/-- FSYNC_EDGE: a selected edge at cycle `cyc` of the frame (R58 to R66). -/
def execFsyncEdge (cyc : Nat) (s : State) : Host.Outcome State Fault Refusal :=
  let len := s.env.time.len
  let f := s.chip.frm
  .next (if !s.chip.ctl ∨ len ≤ cyc then s
    else if cyc < 2500 ∧ cyc + 2500 < len then
      (if f.wmode = 0 then s else if f.winEdge then onChip (fun _ c => edgeExtra c) s else edgeTake cyc s)
    else if syncMode s.chip = 0 then s
    else if len ≤ cyc + 2500 then
      (match f.earlyEdge with
       | some _ => onChip (fun _ c => edgeExtra c) s
       | none => onChip (fun _ c => c.onFrm (fun f => { f with earlyEdge := some ((cyc : Int) - len) })) s)
    else edgeOutside cyc s)

/-- FSYNC_MISS is due: the window has closed without an edge (R64). -/
def missDue (e : Env) (c : Chip) : Bool := c.ctl && c.frm.wmode != 0 && !c.frm.winClosed && !c.frm.winEdge && decide (2500 ≤ e.time.offset)

/-- Time passes to a cycle of the frame at which something is due, before the next cut of the frame comes (log entry 1). -/
def reachIn (phase n : Nat) (s : State) : State := if s.chip.ctl && s.chip.frm.phase == phase then s.reach n else s

/-- FSYNC_MISS: at the end of the window; no pull, the miss counted and flagged; LOCK_RUN set to zero while unlocked (R64). -/
def execFsyncMiss (s : State) : Host.Outcome State Fault Refusal :=
  let s := if s.chip.frm.wmode != 0 && !s.chip.frm.winClosed && !s.chip.frm.winEdge then reachIn 0 2500 s else s
  .next (onChip (fun e c =>
    if missDue e c then
      let c1 := ((c.wrap Reg.FRM_SYNC_CNT_A 0 16 1).setB Reg.FRM_EVT 6 true).setF Reg.FRM_SYNC_PHASE 0 16 0x8000
      let c2 := c1.onFrm (fun f => { f with winClosed := true, missRun := if frmLocked c then f.missRun + 1 else 0 })
      if frmLocked c then c2 else c2.setF Reg.FRM_STAT 8 5 0
    else c) s)

/-- LOCK_GAINED is due: LOCK_RUN has reached 16 (R63). -/
def gainDue (c : Chip) : Bool := c.ctl && !frmLocked c && lockRun c == 16
/-- LOCK_GAINED: LOCKED is set; SLEW's pre-lock phase is over (R63, R66). -/
def execLockGained (s : State) : Host.Outcome State Fault Refusal :=
  .next (onChip (fun e c =>
    if gainDue c then ((lockSet e true c).setB Reg.FRM_STAT 28 false).onFrm (fun f => { f with prelock := false, freeRun := false }) else c) s)

/-- LOCK_LOST is due: the fourth consecutive miss (R64). -/
def lossDue (c : Chip) : Bool := c.ctl && frmLocked c && decide (4 ≤ c.frm.missRun)
/-- LOCK_LOST: LOCKED and LOCK_RUN are cleared (R64). -/
def execLockLost (s : State) : Host.Outcome State Fault Refusal :=
  .next (onChip (fun e c => if lossDue c then lockDrop e c else c) s)

/-- FSYNC_OUT_FALL is due (R67). -/
def fallDue (e : Env) (c : Chip) : Bool := c.ctl && c.frm.fsyncOut && decide (100 * c.f Reg.FRM_CFG 16 8 ≤ e.time.offset)
/-- FSYNC_OUT_FALL: FSYNC_OUT goes low (R67). -/
def execFsyncOutFall (s : State) : Host.Outcome State Fault Refusal :=
  let w := 100 * s.chip.f Reg.FRM_CFG 16 8
  let s := if s.chip.frm.fsyncOut && decide (w < s.chip.cuts.cut) then reachIn 0 w s else s
  .next (onChip (fun e c => if fallDue e c then c.onFrm (fun f => { f with fsyncOut := false }) else c) s)

/-- TIME_ANCHOR: the anchor of every 4,096th boundary (R74). -/
def execTimeAnchor (s : State) : Host.Outcome State Fault Refusal :=
  .next (onChip (fun e c => if c.ctl && c.frm.anchorDue then timeAnchor e c else c) s)

/-- What an imposed FRM.CFG does, given the one in force before (R55, R770): PERIOD_CHANGE and SYNC_MODE_CHANGE. Where PERIOD changes and
SYNC_MODE does not, R55 clears LOCKED and LOCK_RUN and R770 leaves them: the model follows R55 (DESIGN CHOICE, log entry 49). -/
def frmCfgImposed (e : Env) (old : Word) (c : Chip) : Chip :=
  let p := fget old 0 2
  let c1 := if c.period = p then c
    else
      let d := (c.setF Reg.FRM_STAT 8 5 0).onFrm (fun f => { f with missRun := 0 })
      let d1 := if frmLocked c then frmLog e 0x06 0 (((d.setB Reg.FRM_STAT 31 false).setB Reg.FRM_EVT 7 true).wrap Reg.FRM_SYNC_CNT_B 0 16 1) else d
      timeAnchor e (frmLog e 0x05 (p * 4 + c.period) (d1.setB Reg.FRM_EVT 9 true))
  if syncMode c = fget old 4 2 then c1
  else
    let c2 := (lockDrop e c1).setB Reg.FRM_STAT 28 false
    c2.onFrm (fun f => { f with prelock := syncMode c == 2, freeRun := false, slew := 0, slewAbs := 0 })

/-- FROZEN_OUT (R53): an imposed RESUME ends frozen-grant mode; RESUME always reads 0. Grants go on from the held ones. -/
def resumeImposed (e : Env) (c : Chip) : Chip :=
  if !c.b Reg.FRM_CTRL 0 then c
  else
    let c1 := c.setB Reg.FRM_CTRL 0 false
    if !frmFrozen c then c1
    else
      let c2 := ((c1.setF Reg.FRM_STAT 29 2 0).setF Reg.FRM_STAT 16 7 0).setB Reg.FRM_EVT 2 true
      frmLog e 0x03 1 ((c2.onFrm (fun f => { f with frozenOvr := 0 })).onAlc (fun a => { a with prev := a.held, held := [] }))

/-- What the opening of a frame does to the frame clock, after the frame number has advanced: FSYNC_OUT, the window of this
boundary with an edge that came before it, the 4,096th anchor, and the frozen frames' age (R60 to R67, R74, R52). The boundary that
opens frame 0, after FRAME_NO has wrapped, writes no anchor of its own (DESIGN CHOICE, log entry 49). `mode` is
the mode in force before this boundary's Imposition (R770). -/
def frmOpen (mode : Nat) (s : State) : State :=
  let f := s.chip.frm
  let s1 := onChip (fun e c =>
    let c1 := frmShow e.time.len (c.wr Reg.FRM_SYNC_PHASE (word 0x8000))
    let c2 := c1.onFrm (fun g => { g with winEdge := false, winClosed := false, wmode := mode, earlyEdge := none, slew := 0, slewAbs := 0,
                                          fsyncOut := decide (0 < c.f Reg.FRM_CFG 16 8),
                                          anchorDue := e.time.frameNo.toNat % 4096 == 0 && e.time.frameNo != 0 })
    if frmFrozen c then c2.sat Reg.FRM_STAT 16 7 1 else c2) s
  let s2 := match (if mode = 0 then none else f.earlyEdge) with
    | some x => edgeTake x s1
    | none => s1
  if f.slewAbs = 0 ∨ mode = 0 ∨ !pullsOwn s.env s.chip then s2
  else onChip (fun _ c => c.onFrm (fun g => { g with pullSum := g.pullSum + (f.slewAbs - f.slew.natAbs) })) (pullFrame f.slew s2)

/-- NOW_LO_READ: the six time words are latched for the reading plane, which gets NOW_LO (R73). -/
def execNowLoRead (p : Plane) (s : State) : Host.Outcome State Fault Refusal :=
  let t := s.env.time
  let lo := word (t.frameNo.toNat % 65536 * 65536 + t.offset % 65536)
  let l : NowLatch := { nowLo := lo, nowHi := word (t.frameNo.toNat / 65536), siteLo := word t.site, siteHi := word (t.site / 2 ^ 32),
                        bndLo := t.bndTime.setWidth 32, bndHi := (t.bndTime >>> 32).setWidth 32 }
  .next (if s.chip.ctl then
      { onChip (fun _ c => { c with now := tset (fun _ => ({} : NowLatch)) c.now (planeCode p) l }) s with rdata := lo }
    else { s with rdata := 0 })

end Sys2Proof.Machine
end

