-- ==== Sys2Proof/Machine/Session.lean ====
section
/-! DEFINITION. Vehicle sessions (ch. 12): the evaluation of every outlet, its commands and forced transitions, prepayment
credit, the isolation contactor, timers, the tunnel rings, and the queues of the crypto offload. -/
namespace Sys2Proof.Machine

/-- What an outlet's session holds beside its registers. -/
def Chip.sesOf (c : Chip) (o : Nat) : SesOut := tget (fun _ => {}) c.ses o
/-- The same written. -/
def Chip.setSes (c : Chip) (o : Nat) (x : SesOut) : Chip := { c with ses := tset (fun _ => ({} : SesOut)) c.ses o x }

/-- A session's state (Table: Session states): 0 IDLE, 1 PLUGGED, 2 LINKED, 3 AUTHORISED, 4 PREPARING, 5 CHARGING,
6 STOPPING, 7 ENDED, 8 FAULTED. -/
def sesState (c : Chip) (o : Nat) : Nat := c.f (Reg.SES_STATE o) 28 4
/-- PREPARING or CHARGING. -/
def sesRuns (st : Nat) : Bool := st == 4 || st == 5
/-- A flag of SES.EVT. -/
def sesFlag (o i : Nat) (c : Chip) : Chip := c.setB (Reg.SES_EVT o) i true
/-- REMAIN in mWh. -/
def sesRemain (c : Chip) (o : Nat) : Nat := c.f (Reg.SES_CREDIT o) 0 30
/-- Prepayment is on (SES.CREDIT.EN). -/
def sesPrepaid (c : Chip) (o : Nat) : Bool := c.b (Reg.SES_CREDIT o) 31

/-- The taper starts or stops; REQ_I keeps its value (R400). -/
def sesTaper (o : Nat) (on : Bool) (c : Chip) : Chip :=
  (c.setB (Reg.SES_CREDIT o) 30 on).setSes o { c.sesOf o with bound := none }

/-- A change of state (R397, R398, R412): flagged and logged with the transition's cause, STATE_AGE zero, and what leaving
CHARGING or reaching PLUGGED, IDLE or STOPPING does (R399 to R401, SES.ENERGY). -/
def sesSet (e : Env) (o new : Nat) (cause : Option Nat) (c : Chip) : Chip :=
  let old := sesState c o
  let c1 := match cause with | some k => c.setF (Reg.SES_STATE o) 24 4 k | none => c
  if new = old then c1
  else
    let c2 := sesFlag o 0 (c1.setF (Reg.SES_STATE o) 28 4 new)
    let c3 := (c2.setF (Reg.SES_STATE o) 0 16 0).log1 e 0x20 (o / 32) 0x01 (new * 2 ^ 28 + old * 2 ^ 24 + cause.getD 0 * 2 ^ 20 + o)
    let c4 := if old = 5 then sesTaper o false c3 else c3
    if new = 0 then outInSet o 24 false (outInSet o 25 false c4)
    else if new = 1 then (c4.wr (Reg.SES_ENERGY o) 0).setSes o { c4.sesOf o with erem := 0 }
    else if new = 6 then c4.setSes o { c4.sesOf o with low := 0, iso := true }
    else c4

/-- Where a command leads from a state (Table: Session states), before its own refusal conditions. -/
def sesCmdTo (cmd st : Nat) : Option Nat :=
  match cmd, st with
  | 1, 1 => some 2
  | 2, 2 => some 3
  | 3, 3 => some 4
  | 4, 4 => some 5
  | 5, 2 | 5, 3 => some 7
  | 5, 4 | 5, 5 => some 6
  | 6, 8 => some 0
  | _, _ => none

/-- The refusal conditions of PREPARE, CHARGE and CLEAR (Table: Session states). -/
def sesRefused (c : Chip) (o cmd : Nat) : Bool :=
  if cmd = 3 then c.b (Reg.ALC_OUT_IN o) 31 || (sesPrepaid c o && sesRemain c o == 0)
  else if cmd = 4 then !(c.b (Reg.SES_STATE o) 20 && c.b (Reg.SES_STATE o) 22)
  else if cmd = 6 then c.b (Reg.SES_STATE o) 23 || c.b (Reg.SES_STATE o) 20
  else false

/-- The latched command applied (R397). A firmware STOP records CAUSE 1 (R398). -/
def sesCommand (e : Env) (o : Nat) (c : Chip) : Chip :=
  let cmd := (c.sesOf o).cmd
  let c1 := c.setSes o { c.sesOf o with cmd := 0 }
  if cmd = 0 then c1
  else match (if sesRefused c o cmd then none else sesCmdTo cmd (sesState c o)) with
    | some dst => sesSet e o dst (if cmd = 5 then some 1 else none) c1
    | none => sesFlag o 8 c1

/-- Feedback of a fresh frame shown in SES.STATE and SES.EVT, and the contactor compared with the ISO_CL emitted in the
previous frame (R402). -/
def sesFeedback (o : Nat) (c : Chip) : Chip :=
  let i := c.outIn o
  let r := Reg.SES_STATE o
  let c1 := if i.pp && !c.b r 23 then sesFlag o 3 c else c
  let c2 := if (c.b r 23 && !i.pp) || (c.b r 22 && !i.latch) then sesFlag o 4 c1 else c1
  let c3 := if c.f r 18 2 ≠ i.start then sesFlag o 1 c2 else c2
  let c4 := if c.f r 16 2 ≠ i.stop then sesFlag o 2 c3 else c3
  let c5 := (((c4.setB r 23 i.pp).setB r 22 i.latch).setB r 20 i.iso).setF r 16 4 (i.start * 4 + i.stop)
  let x := c5.sesOf o
  if i.iso = c.b r 21 then c5.setSes o { x with dis := 0, taken := false } else c5.setSes o { x with dis := x.dis + 1 }

/-- The contactor's disagreement has persisted and is not yet taken (R402). -/
def sesDisagrees (c : Chip) (o : Nat) : Bool :=
  decide (c.f (Reg.SES_PCFG (o / 32)) 0 16 ≤ (c.sesOf o).dis) && !(c.sesOf o).taken

/-- Units of 0.01 W × 1 cycle in 1 mWh (R400). -/
def sesUnit : Nat := 72000000000

/-- The energy estimate of a fresh frame in CHARGING, and the debit with prepayment on (R400). -/
def sesDebit (o : Nat) (c : Chip) : Chip :=
  let i := c.outIn o
  let u := i.iMeas.toNat * i.vOut * c.f Reg.FRM_LEN 16 16
  let x := c.sesOf o
  let c1 := (c.wrap (Reg.SES_ENERGY o) 0 32 ((x.erem + u) / sesUnit)).setSes o { x with erem := (x.erem + u) % sesUnit }
  if sesPrepaid c o then
    let c2 := c1.setF (Reg.SES_CREDIT o) 0 30 (sesRemain c o - (x.rem + u) / sesUnit)
    c2.setSes o { c2.sesOf o with rem := (x.rem + u) % sesUnit }
  else c1

/-- Taper and exhaustion judged in CHARGING (R400, R410). -/
def sesCredit (o : Nat) (c : Chip) : Chip :=
  if sesPrepaid c o then
    let c1 := if sesRemain c o ≤ c.f (Reg.SES_RESERVE (o / 32)) 0 30 ∧ !c.b (Reg.SES_CREDIT o) 30 then
        sesFlag o 6 (sesTaper o true c) else c
    if sesRemain c1 o = 0 then sesFlag o 7 (outInSet o 25 true c1) else c1
  else c

/-- The outlet is unplugged under load (R399). -/
def sesUnderLoad (c : Chip) (o : Nat) : Bool :=
  decide (0 < c.f (Reg.ALC_OUT_GRANT o) 0 16) || decide (c.f (Reg.SES_PCFG (o / 32)) 16 16 ≤ (c.outIn o).iMeas.natAbs)

/-- The hardware transitions of Table: Session states, on fresh feedback. -/
def sesHardware (e : Env) (o : Nat) (c : Chip) : Chip :=
  let st := sesState c o
  let r := Reg.SES_STATE o
  if st = 0 ∧ c.b r 23 then sesSet e o 1 none c
  else if (st = 1 ∨ st = 2 ∨ st = 3 ∨ st = 7) ∧ !c.b r 23 then sesSet e o 0 none c
  else if st = 6 ∧ !c.b r 20 ∧ !c.b r 21 then sesSet e o 7 none c
  else c

/-- The forced transitions of R398 by rank, after the command; `pressed` tells that STOP_CNT changed, `spent` that credit ran
out in this frame. A disagreement of the contactor outranks what follows it and is taken as ISO_FAULT. -/
def sesForced (e : Env) (n o : Nat) (pressed spent : Bool) (c : Chip) : Chip :=
  let st := sesState c o
  let fresh := (c.outIn o).fresh
  let lost : Bool := fresh && !(c.b (Reg.SES_STATE o) 23 && c.b (Reg.SES_STATE o) 22)
  let ul : Bool := lost && (sesRuns st || st == 6) && sesUnderLoad c o
  let again := c.b (Reg.ALC_OUT_IN o) 24
  let c1 := if ul then sesFlag o 5 (outInSet o 24 true c) else c
  let c2 := if lost && sesRuns st then sesFlag o 4 c1 else c1
  let late := (c2.sesOf o).expired
  let c3 := c2.setSes o { c2.sesOf o with expired := false }
  let down (k : Nat) : Chip := sesSet e o (if sesRuns st then 6 else 7) (some k) c3
  if outletFencedFrozen c o ∧ st ≠ 0 then (if st = 8 then c3 else sesSet e o 8 (some 8) c3)
  else if sesDisagrees c o then c3
  else if ul then
    let c4 := sesSet e o 6 (some 4) c3
    if st = 6 ∧ !again then c4.log1 e 0x20 (o / 32) 0x01 (6 * 2 ^ 28 + 6 * 2 ^ 24 + 4 * 2 ^ 20 + o) else c4
  else if lost && sesRuns st then sesSet e o 6 (some 3) c3
  else if sesRuns st && c.b (Reg.ALC_OUT_IN o) 27 then sesSet e o 6 (some 7) c3
  else if sesRuns st && c.b (Reg.ALC_OUT_IN o) 26 then sesSet e o 6 (some 6) c3
  else if sesRuns st && decide (4 ≤ missRun c n) then sesSet e o 6 (some 0xB) c3
  else if spent && st == 5 then sesSet e o 6 (some 5) c3
  else if pressed && (sesRuns st || st == 2 || st == 3) then down 2
  else if late && (sesRuns st || st == 2 || st == 3) then down 0xA
  else if fresh then sesHardware e o c3
  else c3

/-- ISO_CL as the state gives it (Table: Session states); in STOPPING it stays 1 until two fresh frames in a row lie below 2 A
(R401). -/
def sesIso (o : Nat) (c : Chip) : Chip :=
  let st := sesState c o
  let x := c.sesOf o
  if st = 6 then
    let low := if (c.outIn o).fresh then (if (c.outIn o).iMeas.natAbs < 20 then x.low + 1 else 0) else x.low
    c.setSes o { x with low := min 2 low, iso := x.iso && decide (low < 2) }
  else c.setSes o { x with iso := sesRuns st }

/-- VALID is cleared, live and latched, unless the state is CHARGING (R397). -/
def sesValid (o : Nat) (c : Chip) : Chip :=
  if sesState c o = 5 then c
  else
    let d := demI c o
    (c.setB (Reg.SES_DEM_I o) 31 false).onImg (fun i => { i with demI := tset (fun _ => (0 : Word)) i.demI o (fsetb d 31 false) })

/-- SES_EVALUATION of a mapped outlet (R395, R397). -/
def sesEval (e : Env) (o : Nat) (c : Chip) : Chip :=
  match outletPort e.part c o with
  | none => c
  | some n =>
    let fresh := (c.outIn o).fresh
    let was := sesState c o
    let pressed : Bool := fresh && c.f (Reg.SES_STATE o) 16 2 != (c.outIn o).stop
    let c1 := c.sat (Reg.SES_STATE o) 0 16 1
    let c2 := if fresh then sesFeedback o c1 else c1
    let c3 := if fresh && was == 5 then sesDebit o c2 else c2
    let c4 := if was = 5 then sesCredit o c3 else c3
    let spent : Bool := was == 5 && sesPrepaid c4 o && sesRemain c4 o == 0
    sesValid o (sesIso o (sesForced e n o pressed spent (sesCommand e o c4)))

/-- The SES evaluations of a frame (R395), in a running Service region. -/
def sesEvaluate (e : Env) (c : Chip) : Chip := if c.svc then eachBelow e.part.outlets (sesEval e) c else c

/-- ISO_CL as the Emit sends it (R401, R402). -/
def sesEmit (o : Nat) (c : Chip) : Chip := c.setB (Reg.SES_STATE o) 21 (c.sesOf o).iso

/-- The demand words and the command latched at the freeze; SES.CMD is cleared (R27, R396). -/
def sesFreeze (o : Nat) (c : Chip) : Chip :=
  let put (v : Word) (l : List (Nat × Word)) : List (Nat × Word) := tset (fun _ => (0 : Word)) l o v
  if c.svc then
    let c1 := c.onImg (fun i => { i with demI := put (c.rd (Reg.SES_DEM_I o)) i.demI, demV := put (c.rd (Reg.SES_DEM_V o)) i.demV })
    (c1.setSes o { c.sesOf o with cmd := c.f (Reg.SES_CMD o) 0 4 }).wr (Reg.SES_CMD o) 0
  else c.onImg (fun i => { i with demI := put 0 i.demI, demV := put 0 i.demV })

/-- What a boundary does before the freeze: TIMER counts down (R407), and a taper lowers REQ_I (R400). -/
def sesBoundary (o : Nat) (c : Chip) : Chip :=
  let c1 := if c.b (Reg.SES_TIMER o) 31 then c.setF (Reg.SES_TIMER o) 0 24 (c.f (Reg.SES_TIMER o) 0 24 - 1) else c
  if c1.b (Reg.SES_CREDIT o) 30 then
    let q := c1.f (Reg.SES_DEM_I o) 0 16 - c1.f (Reg.SES_SCFG (o / 32)) 0 16
    (c1.setF (Reg.SES_DEM_I o) 0 16 q).setSes o { c1.sesOf o with bound := some q }
  else c1

/-- A firmware write of DEM_I: above the tapered value, REQ_I is stored as that value (R400). -/
def sesDemWrite (o : Nat) (v : Word) (c : Chip) : Chip :=
  c.wr (Reg.SES_DEM_I o) (match (c.sesOf o).bound with
    | some q => fset v 0 16 (min q (fget v 0 16))
    | none => v)

/-- A write of SES.CMD with a command code. -/
def sesCmdWrite (p : Plane) (o : Nat) (code : Nat) (s : State) : State :=
  if s.chip.svc then onWrite p (Reg.SES_CMD o) (word code) (fun v => onChip (fun _ c => c.wr (Reg.SES_CMD o) v)) s else s

/-- LINK: the command of PLUGGED to LINKED written; the evaluation after the next freeze applies it (R396, R397). -/
def execLink (p : Plane) (o : Fin 64) (s : State) : Host.Outcome State Fault Refusal := .next (sesCmdWrite p o 1 s)
/-- AUTH: the command of LINKED to AUTHORISED (R396, R397). -/
def execAuth (p : Plane) (o : Fin 64) (s : State) : Host.Outcome State Fault Refusal := .next (sesCmdWrite p o 2 s)
/-- PREPARE: the command of AUTHORISED to PREPARING (R396, R397). -/
def execPrepare (p : Plane) (o : Fin 64) (s : State) : Host.Outcome State Fault Refusal := .next (sesCmdWrite p o 3 s)
/-- CHARGE: the command of PREPARING to CHARGING (R396, R397). -/
def execCharge (p : Plane) (o : Fin 64) (s : State) : Host.Outcome State Fault Refusal := .next (sesCmdWrite p o 4 s)
/-- STOP: the command that ends or stops the session (R396, R397). -/
def execStop (p : Plane) (o : Fin 64) (s : State) : Host.Outcome State Fault Refusal := .next (sesCmdWrite p o 5 s)
/-- CLEAR: the command of FAULTED to IDLE (R396, R397). -/
def execClear (p : Plane) (o : Fin 64) (s : State) : Host.Outcome State Fault Refusal := .next (sesCmdWrite p o 6 s)

/-- A CREDIT_SET write after its checks (R400): EN, and VALUE added or in place of REMAIN; a taper stops with REMAIN above
RESERVE or EN cleared. -/
def sesCreditSet (o : Nat) (v : Word) (c : Chip) : Chip :=
  let x := fget v 0 30
  let rem := if fbit v 30 then min (sesRemain c o + x) (2 ^ 30 - 1) else x
  let c1 := (c.setF (Reg.SES_CREDIT o) 0 30 rem).setB (Reg.SES_CREDIT o) 31 (fbit v 31)
  if !fbit v 31 ∨ c.f (Reg.SES_RESERVE (o / 32)) 0 30 < rem then sesTaper o false c1 else c1

/-- CREDIT_SET: a write of SES.CREDIT_SET (R400). -/
def execCreditSet (p : Plane) (o : Fin 64) (v : Word) (s : State) : Host.Outcome State Fault Refusal :=
  .next (if s.chip.svc then onWrite p (Reg.SES_CREDIT_SET o) v (fun v => onChip (fun _ => sesCreditSet o v)) s else s)

/-- ISO_FAULT: the difference of ISO_FB and ISO_CL has lasted ISO_TO fresh frames (R402, R398 rank 2, R412). -/
def execIsoFault (o : Fin 64) (s : State) : Host.Outcome State Fault Refusal :=
  .next (onChip (fun e c =>
    if c.svc && (outletPort e.part c o).isSome && sesDisagrees c o then
      let c1 := (sesFlag o 9 c).log1 e 0x20 (o / 32) 0x02 ((if c.b (Reg.SES_STATE o) 21 then 64 else 0) + o)
      let c2 := if sesState c o = 8 then c1 else sesSet e o 8 (some 9) c1
      sesValid o (c2.setSes o { c2.sesOf o with taken := true, iso := false })
    else c) s)

/-- OPEN_FORCED: OPEN_WAIT frames have passed in STOPPING with the contactor commanded closed (R401). -/
def execOpenForced (o : Fin 64) (s : State) : Host.Outcome State Fault Refusal :=
  .next (onChip (fun _ c =>
    if c.svc && sesState c o == 6 && (c.sesOf o).iso && decide (c.f (Reg.SES_SCFG (o / 32)) 24 8 ≤ c.f (Reg.SES_STATE o) 0 16) then
      sesFlag o 11 (c.setSes o { c.sesOf o with iso := false })
    else c) s)

/-- SES_TIMER: FRAMES has reached 0 with EN set (R407); with STOP the expiry is a forced transition of the next evaluation. -/
def execSesTimer (o : Fin 64) (s : State) : Host.Outcome State Fault Refusal :=
  .next (onChip (fun _ c =>
    if c.svc && c.b (Reg.SES_TIMER o) 31 && c.f (Reg.SES_TIMER o) 0 24 == 0 then
      let c1 := sesFlag o 10 (c.setB (Reg.SES_TIMER o) 31 false)
      if c.b (Reg.SES_TIMER o) 30 then c1.setSes o { c1.sesOf o with expired := true } else c1
    else c) s)

/-- Frames queued from index `i` on note the checkpoints written before them (R605). -/
def sesQueued (o i n : Nat) (c : Chip) : Chip :=
  let x := c.sesOf o
  c.setSes o { x with ckpt := eachBelow n (fun k t => tset (fun _ => 0) t ((i + k) % 64) c.pair.written) x.ckpt }

/-- A write of SES.TUN_SW after its checks (R394): each field is accepted under its own rule. -/
def sesTunWrite (o : Nat) (v : Word) (c : Chip) : Chip :=
  let t := Reg.SES_TUN o
  let w := Reg.SES_TUN_SW o
  let adv (x y : Nat) : Nat := (x + 64 - y) % 64
  let okR : Bool := decide (adv (fget v 26 6) (c.f w 26 6) ≤ adv (c.f t 26 6) (c.f w 26 6))
  let okT : Bool := decide (adv (fget v 20 6) (c.f w 20 6) ≤ 32 - adv (c.f w 20 6) (c.f t 20 6))
  let c1 := if okR then c.setF w 26 6 (fget v 26 6) else c
  let c2 := if okT then sesQueued o (c.f w 20 6) (adv (fget v 20 6) (c.f w 20 6)) (c1.setF w 20 6 (fget v 20 6)) else c1
  if okR && okT then c2 else sesFlag o 12 c2

/-- TUN_SW_WRITE: firmware advances RX_RD and TX_WR (R393, R394). -/
def execTunSwWrite (p : Plane) (o : Fin 64) (v : Word) (s : State) : Host.Outcome State Fault Refusal :=
  .next (if s.chip.svc then onWrite p (Reg.SES_TUN_SW o) v (fun v => onChip (fun _ => sesTunWrite o v)) s else s)

/-- The start of an outlet's receive ring (R392); the transmit ring lies 0x10000 above. -/
def sesRing (c : Chip) (o : Nat) : Nat :=
  c.n (Reg.SES_RING_LO (o / 32)) + 2 ^ 32 * c.n (Reg.SES_RING_HI (o / 32)) + 0x20000 * (o % 32)

/-- TUNNEL_FRAME_RECEIVED (R392 to R394): a whole vehicle frame goes to the receive ring, or is dropped and counted. -/
def sesReceive (e : Env) (o : Nat) (bytes : List Byte) (cm : ChipMem) : ChipMem :=
  let c := cm.1
  let wr := c.f (Reg.SES_TUN o) 26 6
  if !c.svc then cm
  else if (wr + 64 - c.f (Reg.SES_TUN_SW o) 26 6) % 64 = 32 ∨ 1522 < bytes.length then (c.sat (Reg.SES_TUN o) 8 8 1, cm.2)
  else
    let a := sesRing c o + 0x800 * (wr % 32)
    let m := memWrWords cm.2 a [word bytes.length, e.time.frameNo.setWidth 32, 0, 0]
    (c.wrap (Reg.SES_TUN o) 26 6 1, memPut m (a + 16) bytes)

/-- A transmit frame as queued at an index (R392): BYTES of its data. -/
def sesTxFrame (c : Chip) (m : List Host.Cell) (o i : Nat) : List Byte :=
  let a := sesRing c o + 0x10000 + 0x800 * (i % 32)
  memTake m (a + 16) (min 1522 (fget (memWord m a) 0 16))

/-- CRY_JOB: a job is queued on a core's ring (R408). What it computes belongs to the firmware's job formats. -/
def execCryJob (x : CryReq) (s : State) : Host.Outcome State Fault Refusal :=
  .next (onChip (fun _ c =>
    if c.svc then { c with cry := c.cry.setRing x.ring (c.cry.ring x.ring ++ [{ names := x.names, fills := x.fills }]) } else c) s)

/-- CRY_JOB_COMPLETE: a ring's oldest job completes (R408, R409). A key that it makes fills its slot, and goes to the partner's CRY block
from an active chip (R606). -/
def execCryJobComplete (k : Fin 4) (s : State) : Host.Outcome State Fault Refusal :=
  .next (onChip (fun _ c =>
    if c.svc then
      let c1 := { c with cry := c.cry.setRing k ((c.cry.ring k).drop 1) }
      match c.cry.ring k with
      | { fills := some n, .. } :: _ => cryCopy n { c1 with cry := c1.cry.fill n }
      | _ => c1
    else c) s)

end Sys2Proof.Machine
end

