-- ==== Sys2Proof/Machine/Pair.lean ====
section
/-! DEFINITION. How the pair changes hands (ch. 17): the Quoin's events, warm and cold takeover, planned swaps, the comparison of
outputs, the self-test and divergence. The items of the mirror link stand in Mirror.lean. -/
namespace Sys2Proof.Machine

/-! ### Planned swaps (R600 to R603) -/

/-- The present frame is the swap frame. -/
def swapHere (e : Env) (c : Chip) : Bool := swapPending c && c.rd Reg.QN_SWAP_AT == e.time.frameNo.setWidth 32

/-- An imposed QN.SWAP (R600): the swap frame is the frame that the boundary opens plus k. -/
def swapImposed (e : Env) (c : Chip) : Chip :=
  let k := c.f Reg.QN_SWAP 0 8
  if k = 0 then c.wr Reg.QN_SWAP_AT 0
  else (c.wr Reg.QN_SWAP_AT (word (e.time.frameNo.toNat + k))).onPair (fun p => { p with moves := 0 })

/-- SWAP_MOVED (R603): the swap frame leaves too few cycles after M + 2,000. -/
def swapMove (e : Env) (c : Chip) : Chip :=
  if swapHere e c && decide (e.time.len < c.cuts.mirror + 2300) then
    if 63 ≤ c.pair.moves then swapEnd e (some 5) c
    else (c.wr Reg.QN_SWAP_AT (word (c.n Reg.QN_SWAP_AT + 1))).onPair (fun p => { p with moves := p.moves + 1 })
  else c

/-- SWAP_RELEASE is due: M + 2,000 of an equal swap frame whose partner is still STANDBY (R601). -/
def swapDue (e : Env) (c : Chip) : Bool :=
  c.ctl && c.role == 1 && swapHere e c && c.pair.equal && c.f Reg.QN_PARTNER 29 3 == 2 && c.pair.low
    && decide (c.cuts.mirror + 2000 ≤ e.time.offset)

/-- SWAP_RELEASE: the active releases for the standby (R601); transactions without a marker end with the change of owner (R161, R609). -/
def execSwapRelease (s : State) : Host.Outcome State Fault Refusal :=
  let s := if swapHere s.env s.chip && s.chip.role == 1 then reachIn 5 (s.chip.cuts.mirror + 2000) s else s
  .next (onChip (fun e c => if swapDue e c then galTakeover e ((quoinRelease e c).onPair (fun p => { p with swapping := true })) else c) s)

/-! ### Takeover (R592 to R597) -/

/-- Sessions end as on a SOLO chip's Service restart (R592, R607; Table: Session states): with PP in STOPPING, else in IDLE. -/
def sesRestartAll (e : Env) (c : Chip) : Chip :=
  eachBelow e.part.outlets (fun o c => if (c.outIn o).pp then sesSet e o 6 (some 0xC) c else sesSet e o 0 none c) c

/-- A word of the move sequencer's mirrored state. -/
def isMoveWord (a : Nat) : Bool :=
  match pageAt a with | some g => (g.kind == .movS || g.kind == .movM) && isMirrored a | none => false

/-- What a change of owner does on either chip (R161, R602, R609): pending transactions, a self-test, a planned swap. -/
def takeoverCommon (e : Env) (c : Chip) : Chip :=
  let c1 := swapEnd e (some 3) (galTakeover e c)
  (c1.setF Reg.QN_STAT 8 8 0).onPair (fun p => { p with testing := false, tested := false })

/-- An owner that runs on releases its line, and the site changes hands (R161, R575, R609). -/
def ownerLost (e : Env) (c : Chip) : Chip := takeoverCommon e (quoinRelease e c)

/-- A warm takeover (R596, R242, R382, R607): the state of the anchor; the frame's results are discarded. -/
def takeWarm (e : Env) (c : Chip) : Chip :=
  let c1 := match c.pair.anchor with | some m => mirrorRestore m c | none => c
  let c2 := c1.onMov (fun m => { m with slots := m.slots.map (fun x => (x.1, { x.2 with conf := 0 })),
                                        stg := m.stg.map (fun x => (x.1, { x.2 with wrong := (x.2.wrong.1, 0), opened := 0, decRun := 0 })) })
  let c3 := (takeoverCommon e c2).onPair (fun p => { p with skip := true })
  if c3.b Reg.QN_STAT 23 then c3 else sesRestartAll e c3

/-- A cold claim's start (R592): grants zero, move slots empty, stages rejoin, loops from zero, sessions end. -/
def takeCold (e : Env) (c : Chip) : Chip :=
  let c1 : Chip := { c with regs := c.regs.filter (fun x => !isMoveWord x.1), alc := { sag := c.alc.sag, mag := c.alc.mag, seen := c.alc.seen, first := c.alc.first }, mov := {},
                            cen := { c.cen with slots := [] } }
  let c2 := eachBelow e.part.stages (movRejoin true) c1
  sesRestartAll e (takeoverCommon e c2)

/-- QUOIN_OWN is due: 64 cycles with the own line low and the partner line high (R571). -/
def ownDue (e : Env) (c : Chip) : Bool :=
  c.ctl && c.role != 0 && c.pair.low && !c.partnerLow && !c.gate &&
    (match c.pair.bothAt with | some t => decide (t + 64 ≤ e.time.up) | none => false)

/-- A standby takes the Quoin for the planned swap of this frame (R601). -/
def swapTake (e : Env) (c : Chip) : Bool :=
  c.role == 2 && swapHere e c && c.pair.equal && decide (c.cuts.mirror + 2000 ≤ e.time.offset)

/-- Ownership shown: the gate opens, TAKEOVER is flagged and counted (R573, R595). -/
def ownShow (e : Env) (c : Chip) : Chip :=
  let c1 := ((gateOpen e c).setB Reg.QN_EVT 1 true).sat Reg.QN_CNT 24 8 1
  (c1.setB Reg.QN_STAT 24 false).onPair (fun p => { p with bothAt := none, wait := none, claimAt := none, ownedAt := some e.time.frameNo.toNat })

/-- QUOIN_OWN: the chip owns the Quoin (R571, R595): warm as a STANDBY, cold otherwise; for a planned swap the role follows at
the boundary. -/
def execQuoinOwn (s : State) : Host.Outcome State Fault Refusal :=
  .next (if !ownDue s.env s.chip then s
    else if swapTake s.env s.chip then onChip (fun e c => galTakeover e ((ownShow e c).onPair (fun p => { p with swapIn := true }))) s
    else if s.chip.role = 2 then roleSet 1 s.chip.pair.cause (onChip (fun e c => ownShow e (takeWarm e c)) s)
    else roleSet 1 0xA (onChip (fun e c => ownShow e (takeCold e c)) s))

/-- The partner line falls (R571, R572): an owner that is not ROLE_PRI is preempted, a claim yields or stays blocked. -/
def lineFell (s : State) : State :=
  let c := s.chip
  if !c.pair.low then s
  else if c.pri then
    (if c.gate then s else onChip (fun _ c => (c.setB Reg.QN_STAT 24 true).onPair (fun p => { p with bothAt := none })) s)
  else if c.gate then
    roleSet 3 4 (onChip (fun e c => ownerLost e (c.setB Reg.QN_EVT 3 true)) s)
  else onChip (fun _ c => (c.setB Reg.QN_EVT 4 true).onPair (fun p => { p with low := false, bothAt := none })) s

/-- The partner line rises (R570, R594, R609): a claim goes on, a STANDBY claims at once. -/
def lineRose (s : State) : State :=
  onChip (fun e c =>
    let rel : Nat := if swapTake e c then 6 else 3
    if c.pair.low then
      let cause := if c.pair.claimAt = some e.time.frameNo.toNat then 3 else c.pair.cause
      (c.setB Reg.QN_STAT 24 false).onPair (fun p => { p with bothAt := some e.time.up, cause := cause })
    else if c.role = 2 ∧ c.svc then ((quoinClaim e rel c).setB Reg.QN_STAT 24 false).onPair (fun p => { p with wait := none })
    else c) s

/-- QUOIN_B_CHANGE: the partner line has a new level, stable for 8 cycles (R570). A chip that is SOLO does not heed it (R608). -/
def execQuoinBChange (low : Bool) (s : State) : Host.Outcome State Fault Refusal :=
  .next (if s.chip.pwr.quoinB = low then s
    else
      let s1 := onChip (fun e c =>
        let c1 : Chip := { c with pwr := { c.pwr with quoinB := low, lineAt := e.time.up } }
        if c.ctl then c1.setB Reg.QN_STAT 25 low else c1) s
      if !s.chip.ctl ∨ s.chip.role = 0 then s1 else if low then lineFell s1 else lineRose s1)

/-- CLAIM_DEADLINE: 64 frames without the partner line rising (R593). -/
def execClaimDeadline (s : State) : Host.Outcome State Fault Refusal :=
  .next (if s.chip.ctl && s.chip.role == 2 && s.chip.pair.wait == some 0 then
      roleSet 3 2 (onChip (fun _ c => (c.setB Reg.QN_STAT 24 false).onPair (fun p => { p with wait := none })) s)
    else s)

/-- COLD_CLAIM is due: a JOINING chip has read the partner line high without a break for COLD × 10 ms (R592). -/
def coldDue (e : Env) (c : Chip) : Bool :=
  c.ctl && c.role == 3 && !c.pair.low && !c.partnerLow && decide (c.pwr.lineAt + c.f Reg.QN_CFG 0 8 * 2000000 ≤ e.time.up)
/-- COLD_CLAIM: a free line is claimed cold (R592). -/
def execColdClaim (s : State) : Host.Outcome State Fault Refusal :=
  .next (onChip (fun e c => if coldDue e c then quoinClaim e 0xA c else c) s)

/-- A write of QN.CTRL after its checks: REJOIN restarts the Control region of a BARRED or JOINING chip (R590). -/
def qnCtrl (v : Word) (s : State) : State :=
  if fbit v 0 && (s.chip.role == 3 || s.chip.role == 4) then regionAgain 0xA .control s else s
/-- QN_REJOIN: a write of QN.CTRL (R590). -/
def execQnRejoin (p : Plane) (v : Word) (s : State) : Host.Outcome State Fault Refusal :=
  .next (if s.chip.ctl then onWrite p Reg.QN_CTRL v qnCtrl s else s)

/-! ### Heartbeats (R576, R593) -/

/-- QUOIN_WATCHDOG (R576, R597): neither this frame nor the previous one had a heartbeat of the chip's own. -/
def quoinWatch (s : State) : State :=
  if s.chip.role = 1 ∧ !s.chip.pair.hbOwn ∧ !s.chip.pair.hbPrev then roleSet 3 0xB (onChip ownerLost s) else s

/-- The partner's heartbeat at the Solve start (R593): counted where it is missed; the second in a row makes a STANDBY claim, at
once or when the line rises within 64 frames. -/
def partnerBeat (e : Env) (c : Chip) : Chip :=
  if c.role = 0 then c
  else if c.pair.hbGot then c.setF Reg.QN_STAT 16 7 0
  else
    let c1 := (c.sat Reg.QN_STAT 16 7 1).setB Reg.QN_EVT 5 true
    if c.role = 2 ∧ c.svc ∧ c1.f Reg.QN_STAT 16 7 = 2 ∧ !c.pair.low then
      (if c.partnerLow ∧ !c.pri then (c1.setB Reg.QN_STAT 24 true).onPair (fun p => { p with wait := some 64 })
       else (quoinClaim e 2 c1).onPair (fun p => { p with claimAt := some e.time.frameNo.toNat }))
    else c1

/-! ### Output comparison (R585 to R589) -/

/-- This chip's comparison set of the frame (R585). -/
def cmpSet (p : Part) (c : Chip) : CmpSet :=
  { ports := (List.range p.ports).map (fun n => (tget (fun _ => ({} : TpSt)) c.tp n).cmp),
    outputs := Config.outputCrc ((List.range 16).flatMap (fun j => [c.rd (Reg.PWM_SH_PERIOD j), c.rd (Reg.PWM_SH_CMP j)])) c.asw.latched, digest := Config.stateDigest (mirrorCopy c) }

/-- The frame takes part in the comparison: the chip is ACTIVE, or a shadow whose image and CLOSE arrived in time (R580, R586). -/
def cmpTakes (c : Chip) : Bool :=
  c.role == 1 || ((c.role == 2 || (c.role == 3 && decide (6 ≤ c.f Reg.QN_STAT 0 4))) && c.pair.shadowed && c.pair.closed)

/-- The ports whose CRCs differ, by bit. -/
def cmpPorts (a b : CmpSet) : Nat :=
  (List.range 32).foldl (fun x n => if a.ports.getD n 0 != b.ports.getD n 0 then x + 2 ^ n else x) 0

/-- A mismatch frame (R586); of a chip that joins it is a failure, which returns it to step 1 (R591). -/
def cmpMismatch (a b : CmpSet) (c : Chip) : Chip :=
  let c1 := ((c.setB Reg.QN_EVT 6 true).sat Reg.MIR_CNT 8 8 1).sat Reg.QN_STAT 8 8 1
  let c2 := (c1.wr Reg.MIR_CMP (word (cmpPorts a b))).wr Reg.MIR_CMP_X (word ((if a.digest ≠ b.digest then 2 else 0) + (if a.outputs ≠ b.outputs then 1 else 0)))
  let c3 := c2.setB Reg.MIR_STAT 24 false
  if c.role = 3 then (c3.setF Reg.QN_STAT 8 8 0).setF Reg.QN_STAT 0 4 1 else c3

/-- An equal frame (R586, R588): the mismatch run ends; the boundary will move the anchor. -/
def cmpEqual (c : Chip) : Chip :=
  let c1 := (((c.setF Reg.QN_STAT 8 8 0).wr Reg.MIR_CMP 0).wr Reg.MIR_CMP_X 0).setB Reg.MIR_STAT 24 true
  c1.onPair (fun p => { p with equal := true, tested := false })

/-- OUTPUT_COMPARISON is due: M + 1,000 of a frame with both sets. -/
def cmpDue (e : Env) (c : Chip) : Bool :=
  c.ctl && (c.role == 1 || c.role == 2 || c.role == 3) && c.pair.mine.isSome && c.pair.theirs.isSome && decide (c.cuts.mirror + 1000 ≤ e.time.offset)

/-- The cause that cancels a swap at M + 1,000 (R602): the frame is not equal, or the standby is not STANDBY. -/
def swapJudge (e : Env) (c : Chip) : Chip :=
  if !swapHere e c then c
  else if !c.pair.equal then swapEnd e (some 1) c
  else if (if c.role = 1 then c.f Reg.QN_PARTNER 29 3 else c.role) ≠ 2 then swapEnd e (some 2) c
  else c

/-- OUTPUT_COMPARISON: the two sets make the frame equal or a mismatch, or neither (R585, R586). -/
def execOutputComparison (s : State) : Host.Outcome State Fault Refusal :=
  .next (onChip (fun e c =>
    if cmpDue e c then
      match c.pair.mine, c.pair.theirs with
      | some a, some b =>
        let c1 := c.onPair (fun p => { p with theirs := none })
        let c2 := if !cmpTakes c then c1 else if a = b then cmpEqual c1 else cmpMismatch a b c1
        swapJudge e c2
      | _, _ => c
    else c) s)

/-- SELFTEST is due: the second mismatch frame in a row was the last one, in the Gather phase (R588). -/
def testDue (e : Env) (c : Chip) : Bool :=
  c.ctl && (c.role == 1 || c.role == 2) && decide (2 ≤ c.f Reg.QN_STAT 8 8) && !c.pair.tested && decide (e.time.offset < c.cuts.solve)

/-- SELFTEST: the quick self-test runs; `parts` are those that failed (R588). -/
def execSelftest (parts : BitVec 5) (s : State) : Host.Outcome State Fault Refusal :=
  .next (onChip (fun e c =>
    if testDue e c then
      let c1 := (c.setF Reg.QN_ST_RES 30 2 (if parts = 0 then 1 else 2)).setF Reg.QN_ST_RES 8 5 parts.toNat
      let c2 := ((c1.setF Reg.QN_ST_RES 28 2 0).setF Reg.QN_ST_RES 0 5 0).sat Reg.QN_CNT 8 8 1
      c2.onPair (fun p => { p with tested := true, testing := true })
    else c) s)

/-- SELFTEST_OUTCOME: at M + 2,000 the two results decide the roles (Table: Self-test outcomes). -/
def execSelftestOutcome (s : State) : Host.Outcome State Fault Refusal :=
  let c := s.chip
  let own := c.f Reg.QN_ST_RES 30 2
  let mate := c.f Reg.QN_ST_RES 28 2
  .next (if c.ctl && c.pair.testing && (c.role == 1 || c.role == 2) && decide (c.cuts.mirror + 2000 ≤ s.env.time.offset) then
      let s1 := onChip (fun e c =>
        let c1 := c.onPair (fun p => { p with testing := false })
        if mate = 0 then c1 else (c1.setB Reg.QN_EVT 7 true).log1 e 0x18 0 0x03 (c.n Reg.QN_ST_RES)) s
      if mate = 0 then s1
      else if c.role = 1 then
        (if own = 2 ∧ mate = 1 then roleSet 4 5 (onChip ownerLost s1) else s1)
      else if own = 2 then roleSet 4 5 (onChip quoinRelease s1)
      else s1
    else s)

/-- DIVERGENCE is due: 64 mismatch frames in a row (R589). -/
def divergeDue (c : Chip) : Bool := c.ctl && (c.role == 1 || c.role == 2) && decide (64 ≤ c.f Reg.QN_STAT 8 8)

/-- The start and the end of a resynchronisation logged (R611, MIR class 0x02). -/
def resyncLog (e : Env) (done : Bool) (step : Nat) (c : Chip) : Chip := c.log1 e 0x17 0 0x02 ((if done then 2 ^ 31 else 0) + step)

/-- DIVERGENCE: flagged and logged on both chips; the standby becomes JOINING from step 4, or BARRED on the second within 60 s
(R589). -/
def execDivergence (s : State) : Host.Outcome State Fault Refusal :=
  .next (if divergeDue s.chip then
      let again : Bool := match s.chip.pair.diverged with
        | some t => decide (s.env.time.up < t + 60 * cyclesPerSec)
        | none => false
      let s1 := onChip (fun e c =>
        let c1 := ((c.setB Reg.QN_EVT 8 true).sat Reg.QN_CNT 0 8 1).setF Reg.QN_STAT 8 8 0
        c1.onPair (fun p => { p with diverged := some e.time.up, tested := false, testing := false })) s
      if s.chip.role = 1 then onChip (fun e c => c.log1 e 0x18 0 0x01 (1 * 2 ^ 29 + 1 * 2 ^ 26 + 7)) s1
      else if again then roleSet 4 7 s1
      else onChip (fun e c => resyncLog e false 4 (c.setF Reg.QN_STAT 0 4 4)) (roleSet 3 7 s1)
    else s)

end Sys2Proof.Machine
end

