-- ==== Sys2Proof/Machine/Mirror.lean ====
section
/-! DEFINITION. The mirror link (ch. 17): its items as they arrive, alignment, the input cross-check, and the joining steps. An
item that fails its CRC is no item: it does not arrive (R578). -/
namespace Sys2Proof.Machine

/-- The link is up: UP4 or UP3 (MIR.STAT.LINK). -/
def mirUp (c : Chip) : Bool := c.linkUp
/-- The chip heeds an item: it runs, is no SOLO chip, and its link is up (R578, R608). -/
def mirHeeds (c : Chip) : Bool := c.ctl && c.role != 0 && mirUp c
/-- The chip follows the active: STANDBY, or JOINING. -/
def mirFollows (c : Chip) : Bool := mirHeeds c && (c.role == 2 || c.role == 3)
/-- The chip computes from the forwarded image: a STANDBY, or JOINING from step 6 on (R584, R591). -/
def mirShadows (c : Chip) : Bool := c.role == 2 || (c.role == 3 && decide (6 ≤ c.f Reg.QN_STAT 0 4))
/-- JOIN_STEP (QN.STAT). -/
def joinStep (c : Chip) : Nat := c.f Reg.QN_STAT 0 4
/-- The link's state set; a change is logged (R611). -/
def mirLink (e : Env) (st : Nat) (c : Chip) : Chip :=
  if c.f Reg.MIR_STAT 29 3 = st then c else (c.setF Reg.MIR_STAT 29 3 st).log1 e 0x17 0 0x01 (st * 2 ^ 29)

/-- The link goes down and trains again at once (R577, R591, R602). -/
def mirFall (e : Env) (c : Chip) : Chip :=
  let c1 := mirLink e 2 (((c.setB Reg.QN_EVT 14 true).sat Reg.MIR_CNT 0 8 1).setB Reg.MIR_STAT 28 false)
  let c2 := eachBelow 4 (fun k c => c.setB (Reg.MIR_LANE k) 31 false) c1
  let c3 := c2.onPair (fun p => { p with helloOk := false, inLine := 0, bnd := none, bndPull := none, next := none, acked := p.written, keyed := false })
  let c4 := if c.role = 3 then c3.setF Reg.QN_STAT 0 4 1 else c3
  if decide (e.time.offset < c.cuts.mirror + 2000) || !swapHere e c then swapEnd e (some 4) c4 else c4

/-- MIRROR_LINK_DOWN: fewer than three lanes (R577). -/
def execMirrorLinkDown (s : State) : Host.Outcome State Fault Refusal := .next (onChip (fun e c => if mirHeeds c then mirFall e c else c) s)

/-- A receive lane's word at the end of a training (MIR.LANE): in service with its eye, or out; no code error since (R577, R610). -/
def mirLaneShow (h : MirHello) (k : Nat) (c : Chip) : Chip :=
  let on := h.lanes.getLsbD k
  let eye := h.eyes.getD k (0, 0)
  let c1 := ((c.setB (Reg.MIR_LANE k) 31 on).setF (Reg.MIR_LANE k) 8 16 (eye.1.toNat * 256 + eye.2.toNat)).setF (Reg.MIR_LANE k) 0 8 0
  if on then c1.setF (Reg.MIR_LANE k) 29 2 0 else c1

/-- HELLO: the end of a training of the link, with the partner's values (R568, R577, R578); the CRY blocks agree a key, and an active chip's
key slots go to its partner (R606). -/
def execHello (h : MirHello) (s : State) : Host.Outcome State Fault Refusal :=
  let n := ((List.range 4).filter (fun k => h.lanes.getLsbD k)).length
  .next (onChip (fun e c =>
    if c.ctl && c.role != 0 && !mirUp c && decide (3 ≤ n) then
      let c1 := mirLink e (if n = 4 then 3 else 4) (eachBelow 4 (mirLaneShow h) ((c.setPhy 32 { d0 := { seekAt := e.time.up }, d1 := { seekAt := e.time.up } }).setPhy 33 { d0 := { seekAt := e.time.up }, d1 := { seekAt := e.time.up } }))
      let same : Bool := h.variant == variantWord e.part.variant && h.size == sizeWord e.part.variant && h.layout == 1
      let c2 := if same then c1 else c1.setB Reg.QN_EVT 12 true
      let c3 := if h.pri = c.pri then c2.setB Reg.QN_EVT 13 true else c2
      let c4 := if h.mode then c3 else c3.setB Reg.QN_EVT 11 true
      let c5 := (c4.wr Reg.QN_PCFG_CRC h.cfgCrc).onPair (fun p => { p with helloOk := same && h.pri != c.pri && h.mode, keyed := true })
      eachOf ((List.finRange 256).filter (fun n => c.cry.slots.any (fun x => x.1 == n.val))) cryCopy c5
    else c) s)

/-! ### Alignment (R582, R583) -/

/-- The error that a BOUNDARY item shows, and whether this chip's own boundary is still to come: `rtt` is the link's round-trip
delay in cycles (R582). -/
def bndError (t : TimeBase) (rtt : Nat) : Int × Bool :=
  let x : Int := (t.offset : Int) - (rtt / 2 : Nat)
  if 2 * x ≤ (t.len : Int) then (-x, false) else ((t.len : Int) - x, true)

/-- BOUNDARY_ITEM: the active's boundary, its FRAME_NO and SITE_TIME; the length of the frame that this chip's boundary opens is
pulled by −e (R582). -/
def execBoundaryItem (frame : BitVec 48) (site : BitVec 64) (rtt : Nat) (s : State) : Host.Outcome State Fault Refusal :=
  .next (if mirFollows s.chip then
      let q := bndError s.env.time rtt
      let s1 := onChip (fun _ c =>
        let c1 := c.setF Reg.MIR_STAT 0 16 (q.1 % 65536).toNat
        c1.onPair (fun p => { p with bnd := some (frame.toNat, site.toNat, q.1), inLine := if -4 ≤ q.1 ∧ q.1 ≤ 4 then p.inLine + 1 else 0,
                                     bndPull := if q.2 then some (pullOf (-q.1)) else p.bndPull })) s
      if q.2 then s1 else pullFrame (pullOf (-q.1)) s1
    else s)

/-- ALIGNED is due: 16 boundaries in a row within 4 cycles (R582). -/
def alignDue (c : Chip) : Bool := mirFollows c && !c.b Reg.MIR_STAT 28 && decide (16 ≤ c.pair.inLine)

/-- Accepted transactions keep their boundaries when FRAME_NO takes a new value (R145, R582). -/
def galShift (old new : Nat) (c : Chip) : Chip :=
  eachOf c.gal.accepted (fun k c =>
    let t := ((c.slot k).target.toNat + new - old) % 2 ^ 48
    (c.setSlot k { c.slot k with target := BitVec.ofNat 48 t }).wr (Reg.GAL_TARGET k) (word t)) c

/-- ALIGNED: FRAME_NO and SITE_TIME take the active's values, once, and a time anchor is written (R582). -/
def execAligned (s : State) : Host.Outcome State Fault Refusal :=
  .next (if alignDue s.chip then
      match s.chip.pair.bnd with
      | some b =>
        let t := s.env.time
        let ahead := s.chip.pair.bndPull.isSome
        let f := if ahead then (b.1 + 2 ^ 48 - 1) % 2 ^ 48 else b.1
        let site := if ahead then (b.2.1 + 2 ^ 64 - t.len) % 2 ^ 64 else b.2.1
        let s1 := { s with env := { s.env with time := { t with frameNo := BitVec.ofNat 48 f, bndTime := BitVec.ofNat 64 site } } }
        onChip (fun e c => timeAnchor e ((galShift t.frameNo.toNat f c).setB Reg.MIR_STAT 28 true)) s1
      | none => s
    else s)

/-! ### The stream of a frame -/

/-- A port's results compared (R584): the runs of differing and of agreeing shadowed frames. -/
def portCross (n : Nat) (theirs : Option Word) (c : Chip) : Chip :=
  let mine := if (c.tpOf n).done then (c.tpOf n).crc else none
  let p := c.pair
  let d := if mine = theirs then 0 else tget (fun _ => 0) p.differ n + 1
  let a := if mine = theirs then tget (fun _ => 0) p.agree n + 1 else 0
  c.onPair (fun p => { p with differ := tset (fun _ => 0) p.differ n d, agree := tset (fun _ => 0) p.agree n (min 16 a) })

/-- A port's result as the active has it: its acceptance and MISS_RUN stand for this chip's own (R584). -/
def portFollow (n : Nat) (x : MirImage) (c : Chip) : Chip :=
  let crc := x.crcs.getD n none
  (c.setTp n { c.tpOf n with done := crc.isSome, crc := crc }).setF (Reg.PRT_TP_STAT n) 8 8 (min 255 (x.runs.getD n 0))

/-- A word that IMAGE may carry: one that the hardware shows, of a page of the Control region, of housekeeping or of sessions. -/
def imageWord (a : Nat) : Bool :=
  match pageAt a with
  | some g =>
    (regionOf a == .control || g.kind == .ses || g.kind == .hkp) && decide (0x40 ≤ a - g.base) &&
      (match regAt g a with | some (d, _) => d.acc == .ro | none => false)
  | none => false

/-- IMAGE_ITEM: the active's input image is complete (R580, R584). A shadow computes from it; its own results are compared. -/
def execImageItem (x : MirImage) (s : State) : Host.Outcome State Fault Refusal :=
  .next (onChip (fun e c =>
    if mirFollows c && mirShadows c && decide (e.time.offset < c.cuts.solve) && !c.pair.imgGot then
      let ports := (List.range e.part.ports).filter (fun n => mapClass c n != 0)
      let c1 := eachOf ports (fun n c => portCross n (x.crcs.getD n none) c) c
      let c2 := eachOf ports (fun n c => portFollow n x c) c1
      let c3 : Chip := { c2 with img := x.img, regs := tableMix (fun a => imageWord a && x.regs.any (fun r => r.1 == a)) c2.regs x.regs }
      c3.onPair (fun p => { p with imgGot := true })
    else c) s)

/-- IN_DIFF is due for a port: 16 shadowed frames in which the results differ, or agree once its bit is set (R584). -/
def inDiffDue (c : Chip) (n : Nat) : Bool :=
  c.ctl && (if c.b Reg.MIR_IN_DIFF n then decide (16 ≤ tget (fun _ => 0) c.pair.agree n) else decide (16 ≤ tget (fun _ => 0) c.pair.differ n))
/-- IN_DIFF: the port's bit set or cleared, and logged (R584, R611). -/
def execInDiff (n : Fin 32) (s : State) : Host.Outcome State Fault Refusal :=
  .next (onChip (fun e c =>
    if inDiffDue c n then
      let up := !c.b Reg.MIR_IN_DIFF n
      (c.setB Reg.MIR_IN_DIFF n up).log1 e 0x17 0 0x03 ((if up then 2 ^ 31 else 0) + n)
    else c) s)

/-- HB_ITEM: the partner's heartbeat with its health word and the failed parts of its last self-test (R578, R588, R593). -/
def execHbItem (health : Word) (parts : BitVec 5) (s : State) : Host.Outcome State Fault Refusal :=
  .next (onChip (fun _ c =>
    if mirHeeds c then
      let c1 := ((c.wr Reg.QN_PARTNER (health &&& 0xFFFF00FF)).setB Reg.QN_PARTNER 15 true).onPair (fun p => { p with hbGot := true })
      if c.pair.testing then (c1.setF Reg.QN_ST_RES 28 2 (fget health 24 2)).setF Reg.QN_ST_RES 0 5 parts.toNat else c1
    else c) s)

/-- STATE_ITEM: the active's mirrored words as they stand, with the volume of the frame's stream in 64-byte units (R579, R591). -/
def execStateItem (m : CtlCopy) (units : Nat) (s : State) : Host.Outcome State Fault Refusal :=
  .next (onChip (fun _ c =>
    if mirFollows c then
      let u := min 1536 units
      let c1 := (c.setF Reg.MIR_LOAD 0 16 u).setF Reg.MIR_LOAD 16 16 (max u (c.f Reg.MIR_LOAD 16 16))
      c1.onPair (fun p => { p with next := some m })
    else c) s)

/-- FENCE_ITEM: changes of the partner's fences, marks and latched shutdowns, for the next boundary (R97, R221, R303). -/
def execFenceItem (fences : List (Nat × Nat × Bool)) (marks : List (Nat × Word)) (shuts : List (Nat × Bool)) (s : State) :
    Host.Outcome State Fault Refusal :=
  .next (onChip (fun _ c =>
    if mirHeeds c then
      c.onPair (fun p => { p with fences := p.fences ++ fences, marks := p.marks ++ marks, shuts := p.shuts ++ shuts })
    else c) s)

/-- A forwarded entry joins the list of its slot; one out of its place, a COMMIT with another number of entries, or a verdict on a slot
without its COMMIT shows that an item is missing (R158, R159). A forwarded slot has its opener's plane here too, whose open slot it counts as
(DESIGN CHOICE, log entry 51). -/
def galFollow (e : Env) (g : MirGal) (c : Chip) : Chip :=
  match g with
  | .opened k p tag =>
    let c1 := galDrop k c
    let c2 := (c1.wr (Reg.GAL_STATE k) (word (2 ^ 28 + tag.toNat))).wr (Reg.GAL_LIST k) 0
    (c2.wr (Reg.GAL_TARGET k) 0).wr (Reg.GAL_FAIL_INFO k) (word (planeCode p * 2 ^ 29))
  | .entry k place a v =>
    if (c.slot k).list.length = place then c.stage e k a v else c.onGal (fun g => { g with gap := true })
  | .commit k target n =>
    let c := if (c.slot k).list.length = n then c else c.onGal (fun g => { g with gap := true })
    let c1 := (c.setSlot k { c.slot k with target := target }).wr (Reg.GAL_TARGET k) (word target.toNat)
    if k = 3 then galPass e 3 2 c1
    else ((c1.setF (Reg.GAL_STATE k) 28 4 4).onGal (fun g => { g with accepted := g.accepted.filter (· != k.val) ++ [k.val] })).refreshGalleys (c1.slot k).list
  | .dropped k => if 1 ≤ c.slotState k ∧ c.slotState k ≤ 4 then galRollback e k c else c
  | .verdict k code =>
    if k = 3 then partnerSays e code c
    else if c.slotState k = 4 then c.setSlot k { c.slot k with verdict := some (code % 256), at' := (0, 0) }
    else c.onGal (fun g => { g with gap := true })

/-- GALLEY_ITEM: a forwarded staging entry, command or verdict of slot 0, slot 1 or the pair slot (R158 to R160). -/
def execGalleyItem (g : MirGal) (s : State) : Host.Outcome State Fault Refusal :=
  let k : Nat := match g with | .opened k .. | .entry k .. | .commit k .. | .dropped k | .verdict k _ => k.val
  .next (onChip (fun e c => if mirFollows c && k != 2 then galFollow e g c else c) s)

/-- SESSION_ITEM (R604 to R607, R712): a follower acknowledges an outlet's checkpoint and keeps it, unless its image has another format
level; `sync` tells that its session firmware now holds every open session. On an active chip a checkpoint that its own firmware writes
goes out, and an acknowledgement counts. A copy of a key slot fills the slot where it authenticates. -/
def execSessionItem (o : Fin 64) (x : SesItem) (sync : Bool) (s : State) : Host.Outcome State Fault Refusal :=
  .next (onChip (fun _ c =>
    match x with
    | .checkpoint bytes level =>
      if mirFollows c then
        let c1 := c.onPair (fun p => { p with sesOut := p.sesOut ++ [(o.val, .acked)] })
        if c.svc && level == ckptLevel c then
          (c1.setB Reg.QN_STAT 23 sync).onPair (fun p => { p with ckpts := (o.val, bytes) :: p.ckpts.filter (fun x => x.1 != o.val) })
        else c1
      else c
    | .written bytes =>
      if mirHeeds c && c.role == 1 && c.svc then
        c.onPair (fun p => { p with written := p.written + 1, sesOut := p.sesOut ++ [(o.val, .checkpoint bytes (ckptLevel c))] })
      else c
    | .acked => if mirHeeds c && c.role == 1 then c.onPair (fun p => { p with acked := min p.written (p.acked + 1) }) else c
    | .key n v ok => if mirHeeds c && c.pair.keyed && ok then { c with cry := c.cry.setSlot n v } else c) s)

/-- CLOSE_ITEM: the frame's stream is closed, if the item comes by the Mirror/Impose start of its frame (R580). -/
def execCloseItem (frame : BitVec 48) (s : State) : Host.Outcome State Fault Refusal :=
  .next (onChip (fun e c =>
    if mirFollows c && frame == e.time.frameNo && decide (e.time.offset ≤ c.cuts.mirror) then c.onPair (fun p => { p with closed := true }) else c) s)

/-- CMP_ITEM: the partner's comparison set of the frame (R585). -/
def execCmpItem (x : CmpSet) (s : State) : Host.Outcome State Fault Refusal :=
  .next (onChip (fun _ c => if mirHeeds c then c.onPair (fun p => { p with theirs := some x }) else c) s)

/-- SCRUB_ITEM: the partner supplies a word that a scrub of control state awaits (R90). -/
def execScrubItem (a : Nat) (v : Word) (s : State) : Host.Outcome State Fault Refusal :=
  .next (onChip (fun _ c =>
    let r := tget (fun _ => ({} : Replay)) c.flt.replays a
    if mirHeeds c && r.scrub then
      { c with flt := { c.flt with replays := tset (fun _ => ({} : Replay)) c.flt.replays a { r with supplied := some v } } }
    else c) s)

/-! ### Joining (R591) -/

/-- A change of a partner's fence is adopted (R97): a fence shows in every page of the unit with a record and a log entry of its own (R112),
as a functional fence (log entry 38), ends a stage's move (R234) and idles a port (R345). -/
def adoptFence (e : Env) (x : Nat × Nat × Bool) (c : Chip) : Chip :=
  if !x.2.2 then c.unfence e x.1 x.2.1
  else if c.fenced x.1 x.2.1 then c
  else
    let c1 := c.fenceCell e 9 x.1 x.2.1
    if x.1 = 0x40032000 then phyIdle e x.2.1 true c1 else c1

/-- Two tables of bits by key, joined. -/
def joinBits (own other : List (Nat × Nat)) : List (Nat × Nat) :=
  eachOf other (fun x l => tset (fun _ => 0) l x.1 (tget (fun _ => 0) l x.1 ||| x.2)) own

/-- The marks and latched shutdowns of a streamed copy of the mirrored state join this chip's own (R221, R303, R309). -/
def joinMarks (m : CtlCopy) (c : Chip) : Chip :=
  let c1 := eachOf (m.regs.filter (fun x => isMarkWord x.1 || isShutWord x.1)) (fun x c => c.wr x.1 (c.rd x.1 ||| x.2)) c
  let c2 := { c1 with thmKept := { c1.thmKept with marks := joinBits c1.thmKept.marks m.marks, reached := joinBits c1.thmKept.reached m.reached } }
  eachBelow 64 (fun o c => c.setF (Reg.THM_OSTAT o) 18 6 (thmMarks c o)) c2

/-- The fences of a streamed copy of the mirrored state that this chip lacks (R97, R591). -/
def joinFences (e : Env) (m : CtlCopy) (c : Chip) : Chip :=
  eachOf ((m.regs.filter (fun x => mirroredMap x.1)).flatMap (fun x =>
    match pageAt x.1 with
    | some g => ((List.range 32).filter (fbit x.2)).map (fun i => (g.base, 32 * ((x.1 - g.base - 0x380) / 4) + i, true))
    | none => [])) (adoptFence e) c

/-- A word of a Control- or Data-owned page or window that is written through the Galley (R591); the fence maps and marks are mirrored state (R97, R221). -/
def joinWord (a : Nat) : Bool :=
  !inFenceMap a && !isMarkWord a && match pageAt a with
  | some g => decide (g.owner ≤ 1) && (match regAt g a with | some (d, _) => isStaged d | none => false)
  | none => match windowAt a with | some w => w.write == 0 && w.page != 0x40000000 | none => false

/-- The next joining step begins (QN.STAT.JOIN_STEP). -/
def joinTo (k : Nat) (c : Chip) : Chip := c.setF Reg.QN_STAT 0 4 k

/-- The condition of the present joining step (Table: Joining steps). -/
def joinDone (c : Chip) (cfg : Option RegTable) : Bool :=
  match joinStep c with
  | 1 => mirUp c
  | 2 => mirUp c && c.pair.helloOk
  | 3 => mirUp c && c.b Reg.MIR_STAT 28
  | 4 => mirUp c && (c.rd Reg.QN_CFG_CRC == c.rd Reg.QN_PCFG_CRC || cfg.isSome)
  | 5 => mirUp c && c.pair.next.isSome
  | 6 => mirUp c && c.b Reg.MIR_STAT 27 && c.pair.anchor.isSome
  | 7 => true
  | _ => false

/-- JOIN_STEP_DONE: the present step is done and the next begins, ending in STANDBY (R591). `cfg` is the committed configuration as
the active streamed it, where the CRCs differ. -/
def execJoinStepDone (cfg : Option RegTable) (s : State) : Host.Outcome State Fault Refusal :=
  let c := s.chip
  .next (if c.ctl && c.role == 3 && joinDone c cfg then
      match joinStep c with
      | 3 => onChip (fun e c => resyncLog e false 4 (joinTo 4 c)) s
      | 4 => onChip (fun _ c =>
          if c.rd Reg.QN_CFG_CRC = c.rd Reg.QN_PCFG_CRC then joinTo 5 c
          else
            let l := (cfg.getD []).filter (fun x => joinWord x.1)
            let c1 : Chip := { c with image := tableMix joinWord c.image l, regs := tableMix joinWord c.regs l }
            joinTo 5 (c1.wr Reg.QN_CFG_CRC (Config.configCrc c1.image))) s
      | 5 => onChip (fun e c =>
          let c1 := match c.pair.next with | some m => joinFences e m (joinMarks m (mirrorRestore m c)) | none => c
          joinTo 6 ((c1.onPair (fun p => { p with anchor := none, equal := false })).setB Reg.MIR_STAT 27 false)) s
      | 7 => onChip (fun e c => resyncLog e true 7 c) (roleSet 2 8 s)
      | k => onChip (fun _ => joinTo (k + 1)) s
    else s)

end Sys2Proof.Machine
end

