-- ==== Sys2Proof/Machine/Faults.lean ====
section
/-! DEFINITION. The fault hierarchy (ch. 3): parity replay, scrubs, fabric writes, block and region restarts, the chip fault's
restart. Whether a repeated read is clean is the command's operand (log entry 8). -/
namespace Sys2Proof.Machine

/-- The place of a word without an address among them. -/
def hidKey : HidWord → Nat
  | .loop s i => 8 * s + i
  | .pointer => 0x2000
  | .grant o => 0x2040 + o
  | .release o => 0x2080 + o
  | .moveRef s => 0x2200 + s
  | .demand o volt => 0x2400 + 2 * o + (if volt then 1 else 0)
  | .stops high => if high then 0x2481 else 0x2480
  | .arbiter => 0x2482
  | .accum m => 0x2500 + m

/-- The key under which a word in replay is kept: its address, the number of a port, or a key of the word's region beyond the register map. -/
def parKey : ParWord → Nat
  | .word a => a
  | .bundle n => n.val
  | .hid (.accum m) => 0x6F000000 + m
  | .hid h => 2 ^ 40 + hidKey h

/-- The bits of a staged register that a write acts on at once, and a boundary leaves alone (R11, R138). -/
def atOnce (a : Nat) : Nat :=
  match pageAt a with
  | some g => (match regAt g a with | some (d, _) => if isStaged d then d.w1c else 0 | none => 0)
  | none => 0

/-- The scrub sources' word classes (Table: Scrub sources), with the chip page apart (R108). -/
inductive WordClass where
  | config | state | input | heath | met | chip
  deriving DecidableEq, Repr

/-- A word of the input image (R36, R366, R367): what a frame's bundles and the Gather freeze put into a page. -/
def isInput (a : Nat) : Bool :=
  match pageAt a with
  | some g =>
    (match g.kind with
     | .alcS => decide (0x400 ≤ a - g.base) && (a - g.base) % 0x20 == 0x08
     | .alcO => (decide (0x400 ≤ a - g.base) && (a - g.base) % 0x20 == 0x10) || (decide (Reg.ALC_FEED_AVG ≤ a) && decide (a ≤ Reg.ALC_FEED_TCAP))
     | .cen => (List.range 4).any (fun k => a == Reg.CEN_AIN_VAL k) || (List.range 8).any (fun k => a == Reg.CEN_PIN_VAL k)
     | .cenAx => decide (0x400 ≤ a - g.base) && (a - g.base) % 0x80 == 0x28
     | _ => false)
  | none => false

/-- The class of a word. -/
def classOf (w : ParWord) : WordClass :=
  match w with
  | .bundle _ => .input
  | .hid (.demand ..) | .hid (.stops _) => .input
  | .hid (.accum _) => .met
  | .hid .arbiter => .chip
  | .hid _ => .state
  | .word a =>
    if regionOf a = .heath then .heath
    else if regionOf a = .metrology then .met
    else if 0x40000000 ≤ a ∧ a < 0x40001000 then .chip
    else if isInput a then .input
    else if isMarkWord a then .state
    else match pageAt a with
      | some g => (match regAt g a with | some (d, _) => if isStaged d then .config else .state | none => .state)
      | none => .config

/-- The page whose PG_ERR and counters take what concerns a word. -/
def parPage (w : ParWord) : Nat :=
  match w with
  | .bundle _ => 0x40032000
  | .word a => (homePage a).getD 0x40000000
  | .hid (.loop s _) => 0x4001F000 + 0x1000 * (s / 64)
  | .hid (.moveRef s) => 0x40016000 + 0x1000 * (s / 64)
  | .hid (.accum m) => if m.val < 64 then 0x60001000 + 0x1000 * (m / 32) else 0x60000000
  | .hid .arbiter => 0x40000000
  | .hid _ => 0x4000C000

/-- The cell that a word belongs to, by page and number; none for a block's shared logic. -/
def cellOfWord (w : ParWord) : Option (Nat × Nat) :=
  match w with
  | .hid (.loop s _) => some (parPage w, s % 64)
  | .hid (.moveRef s) => some (parPage w, s % 64)
  | .hid (.grant o) | .hid (.release o) => some (parPage w, o.val)
  | .hid (.accum m) => some (parPage w, if m.val < 64 then m % 32 else m - 64)
  | .hid _ => none
  | .bundle n => some (0x40032000, n.val)
  | .word a =>
    match pageAt a with
    | some g =>
      let j := (a - g.base - 0x400) / g.stride
      if 0x400 ≤ a - g.base ∧ 0 < g.stride ∧ j < g.cells then some (g.base, j) else none
    | none => winCell a

/-- PG_ERR and PG_ERRCNT of a page in any region: flag `i`, and a count of `n` bits from `lo` advanced. -/
def pageCount (page i lo w : Nat) (s : State) : State :=
  let s1 := s.perr page i
  let r := Reg.PG_ERRCNT page
  s1.wr r (fset (s1.rd r) lo w (satAdd w (fget (s1.rd r) lo w) 1))

/-- The region of a page runs. -/
def pageRuns' (s : State) (page : Nat) : Bool := s.chip.rgn (regionOf page) == 0

/-- A cell of any region fenced with a cause, with what its block does at once (R94, R345). -/
def fenceAny (cause page j : Nat) (s : State) : State :=
  match regionOf page with
  | .heath =>
    let s1 := s.fence cause page j
    { s1 with heath := swAll s1.env.part (hthSd s1) s1.heath }
  | .metrology => s.fence cause page j
  | _ =>
    onChip (fun e c =>
      if c.fenced page j then c
      else
        let c1 := c.fenceCell e cause page j
        if page = 0x40032000 then phyIdle e j true c1 else c1) s

/-- A region's fault, whatever the region (R104): Heath by its fatal fault, Metrology's core alone. -/
def regionFault (r : Region) (cause type inst : Nat) (s : State) : State :=
  match r with
  | .heath => hthFatal cause s
  | .metrology => metCoreDown (regionRestart .metrology cause type inst s)
  | _ => regionRestart r cause type inst s

/-- Restarts of one page within 4,096 frames (R103). -/
def recentRestarts (s : State) (page : Nat) : List (Nat × Nat) :=
  s.chip.flt.blockLog.filter (fun x => x.1 == page && decide (s.env.time.frameNo.toNat < x.2 + 4096))

/-- BLOCK_RESTART begins (R100, R103): the block holds its requests; the third within 4,096 frames restarts the region. A restart
that software asks for leaves no fault record. -/
def blockRestart (cause : Option Nat) (page : Nat) (s : State) : State :=
  match pageAt page with
  | none => s
  | some g =>
    if s.chip.flt.held.contains page then s
    else
      let old := recentRestarts s page
      if 2 ≤ old.length then
        regionFault (regionOf page) 3 g.type g.inst s
      else
        let s1 := match cause with
          | some k =>
            let r := regionCode (regionOf page)
            (onChip (fun e c => c.faultRec e 1 r k g.type g.inst 0xFFFF) s).logPage g.type g.inst 0xF0 (faultDetail 1 r k 0xFFFF) page
          | none => s
        onChip (fun e c =>
          let c1 : Chip := { c with flt := { c.flt with held := page :: c.flt.held,
                                                        blockLog := (page, e.time.frameNo.toNat) :: c.flt.blockLog.filter (fun x => x.1 != page || old.contains x) } }
          if g.kind = .gal then galRestart e c1 else c1) s1

/-! ### Parity (R89 to R93) -/

/-- What is kept of a word in replay. -/
def replayOf (s : State) (w : ParWord) : Option Replay := (s.chip.flt.replays.find? (fun x => x.1 == (parKey w))).map (·.2)
/-- The same written, or dropped. -/
def setReplay (w : ParWord) (r : Option Replay) (s : State) : State :=
  onChip (fun _ c =>
    let l := c.flt.replays.filter (fun x => x.1 != (parKey w))
    { c with flt := { c.flt with replays := match r with | some x => l ++ [((parKey w), x)] | none => l } }) s

/-- SCRUB_FAIL (R91): counted, and the fault passes to the cell or the block. -/
def scrubFail (w : ParWord) (s : State) : State :=
  let s1 := pageCount (parPage w) 12 4 4 (setReplay w none s)
  match cellOfWord w with
  | some x => fenceAny 1 x.1 x.2 s1
  | none => blockRestart (some 1) (parPage w) s1

/-- A table's entries of some keys taken from another table. -/
def takeBack {α : Type} [DecidableEq α] (d : Nat → α) (mine : Nat → Bool) (was now : List (Nat × α)) : List (Nat × α) :=
  eachOf (was.filter (fun x => mine x.1)) (fun x l => tset d l x.1 x.2) (now.filter (fun x => !mine x.1))

/-- The records of a bundle that is discarded: the units of port `n` have the previous frame's values again (R37, R92). -/
def bundleBack (n : Nat) (c : Chip) : Chip :=
  let w := c.flt.imgWas
  let unit (cls k : Nat) : Bool := mapClass c n == cls && decide (mapFirst c n ≤ k) && decide (k < mapFirst c n + mapCount c n)
  c.onImg (fun m => { m with stg := takeBack (fun _ => ({} : StgIn)) (unit 1) w.stg m.stg, out := takeBack (fun _ => ({} : OutIn)) (unit 2) w.out m.out,
                             battNew := if mapClass c n = 3 then w.battNew else m.battNew,
                             chan := takeBack (fun _ => ({} : ChanIn)) (fun k => k / 256 == n) w.chan m.chan,
                             axes := takeBack (fun _ => ({} : AxIn)) (fun k => k / 256 == n) w.axes m.axes })

/-- INPUT_HELD and a missed bundle (R92): the item of a volatile-input word is discarded for the frame. A bundle that was accepted is
as if it had not been. -/
def inputHeld (w : ParWord) (s : State) : State :=
  match w with
  | .bundle n =>
    onChip (fun _ c =>
      if (c.tpOf n).done then
        let c1 := bundleBack n (c.setTp n { c.tpOf n with done := false, crc := none })
        let c2 := c1.setF (Reg.PRT_TP_STAT n) 8 8 (fget (rget c.bnd.regs (Reg.PRT_TP_STAT n)) 8 8)
        if c.frm.phase = 0 then c2 else tpCutOff n c2
      else c) s
  | .word a => (onChip (fun _ c => c.wr a (rget c.flt.inWas a)) s).perr (parPage w) 8
  | .hid (.demand o volt) =>
    (onChip (fun _ c => c.onImg (fun m =>
      if volt then { m with demV := tset (fun _ => 0) m.demV o (tget (fun _ => 0) c.flt.imgWas.demV o) }
      else { m with demI := tset (fun _ => 0) m.demI o (tget (fun _ => 0) c.flt.imgWas.demI o) })) s).perr (parPage w) 8
  | .hid (.stops high) =>
    (onChip (fun _ c => c.onImg (fun m =>
      { m with heath := if high then m.heath % 2 ^ 32 + c.flt.imgWas.heath / 2 ^ 32 * 2 ^ 32 else m.heath / 2 ^ 32 * 2 ^ 32 + c.flt.imgWas.heath % 2 ^ 32 })) s).perr
      (parPage w) 8
  | .hid _ => s

/-- A persistent error (R90 to R92, R108): its class decides. -/
def persistent (w : ParWord) (s : State) : State :=
  match classOf w with
  | .input => inputHeld w (setReplay w none s)
  | .chip => chipFault 0 6 1 0 (setReplay w none s)
  | .state =>
    if s.chip.role = 0 ∨ !mirUp s.chip then scrubFail w s
    else setReplay w (some { tries := 2, scrub := true, supplied := none }) s
  | .config | .heath | .met => setReplay w (some { tries := 2, scrub := true, supplied := none }) s

/-- PARITY_ERROR: a read finds a parity error; it is repeated up to twice, 8 cycles apart (R89). -/
def execParityError (w : ParWord) (s : State) : Host.Outcome State Fault Refusal :=
  .next (if pageRuns' s (parPage w) ∧ replayOf s w = none then setReplay w (some {}) s else s)

/-- PARITY_REPLAY: a repeated read completes; clean is a transient, the second failure persistent (R89, R90). -/
def execParityReplay (w : ParWord) (clean : Bool) (s : State) : Host.Outcome State Fault Refusal :=
  .next (match replayOf s w with
    | some r =>
      if r.scrub then s
      else if clean then pageCount (parPage w) 10 16 16 (setReplay w none s)
      else if 1 ≤ r.tries then persistent w s
      else setReplay w (some { r with tries := 1 }) s
    | none => s)

/-- The value that a scrub writes back (Table: Scrub sources), when it completes: the committed image, with the bits that act at once as they
stand, or the fence map's copy in the fault record; what the partner supplied; of Heath and Metrology their own second copy, which reads as
the word did. -/
def scrubValue (w : ParWord) (r : Replay) (s : State) : Option Word :=
  let a := parKey w
  match classOf w with
  | .config =>
    let m := word (atOnce a)
    some (if inFenceMap a then s.rd a else (rget s.chip.image a &&& ~~~ m) ||| (s.rd a &&& m))
  | .state => r.supplied
  | .heath | .met => some (s.rd a)
  | _ => none

/-- A scrubbed word takes its value. -/
def scrubWrite (w : ParWord) (v : Word) (s : State) : State :=
  match w with
  | .word a => s.wr a v
  | .bundle _ => s
  | .hid h =>
    onChip (fun _ c =>
      match h with
      | .loop n i =>
        let x := c.cenSlot n
        c.setCenSlot n { x with st := (List.range 8).map (fun k => if k = i.val then v else x.st.getD k 0) }
      | .pointer => c.onAlc (fun q => { q with ptr := v.toNat })
      | .grant o => c.onAlc (fun q => { q with prev := tset (fun _ => 0) q.prev o v.toNat })
      | .release o => c.onAlc (fun q => { q with rel := tset (fun _ => 0) q.rel o v.toNat })
      | .moveRef n => c.setStgMov n { c.stgMov n with ref := v.toNat }
      | _ => c) s

/-- SCRUB_COMPLETE: the scrubbed value is written back and read again; `clean` tells how that read went (R90, R91). -/
def execScrubComplete (w : ParWord) (clean : Bool) (s : State) : Host.Outcome State Fault Refusal :=
  .next (match replayOf s w with
    | some r =>
      if !r.scrub then s
      else match (if clean then scrubValue w r s else none) with
        | some v => pageCount (parPage w) 11 8 8 (scrubWrite w v (setReplay w none s))
        | none => scrubFail w s
    | none => s)

/-- FABRIC_WRITE_REPLAY: a write with a parity error at its receiver is replayed from the writer; `ok` tells how. After the second
failure it is dropped, and both pages show WR_LOST (R93). -/
def execFabricWriteReplay (a writer : Nat) (ok : Bool) (s : State) : Host.Outcome State Fault Refusal :=
  let l := s.chip.flt.wreplays
  let n := tget (fun _ => 0) l a
  let put (x : Nat) (s : State) : State := onChip (fun _ c => { c with flt := { c.flt with wreplays := tset (fun _ => 0) c.flt.wreplays a x } }) s
  .next (if ok then put 0 s
    else if n = 0 then put 1 s
    else
      let s1 := (put 0 s).perr ((homePage a).getD 0x40000000) 9
      s1.perr ((homePage writer).getD 0x40000000) 9)

/-! ### Blocks -/

/-- SELF_CHECKER_FAULT: a block's self-checker reports a state that its logic cannot hold (R100). -/
def execSelfCheckerFault (page : Nat) (s : State) : Host.Outcome State Fault Refusal :=
  .next (if (pageAt page).isSome && pageRuns' s page then blockRestart (some 0xA) page s else s)

/-- A write of PG_CTRL after its checks: its two fields, and a restart of the block with RESTART (R100, R103). -/
def pgCtrl (page : Nat) (v : Word) (s : State) : State :=
  let s1 := s.wr (Reg.PG_CTRL page) (v &&& 0x1FFFF)
  if fbit v 31 then blockRestart none page s1 else s1
/-- PG_CTRL_RESTART: a write of a page's PG_CTRL (R100, R103). -/
def execPgCtrlRestart (p : Plane) (page : Nat) (v : Word) (s : State) : Host.Outcome State Fault Refusal :=
  .next (match pageAt page with
    | some g => onWrite p (Reg.PG_CTRL g.base) v (pgCtrl g.base) s
    | none => s)

/-- A word of a page that a block restart reloads: neither a header word nor a fence map. -/
def reloads (page a : Nat) : Bool :=
  match homePage a with
  | some g => g == page && (pageAt a == none || (decide (0x40 ≤ a - page) && !(decide (0x380 ≤ a - page) && decide (a - page < 0x400))))
  | none => false

/-- A word that the Galley writes. -/
def imageWords (a : Nat) : Bool :=
  match pageAt a with
  | some g => (match regAt g a with | some (d, _) => isStaged d | none => false)
  | none => true

/-- Words that MRAM or a ring keeps as they stand, which no restart puts back: marks, latched shutdowns, and the shutdown records (R221,
R303, R317). -/
def reloadKept (a : Nat) : Bool :=
  isMarkWord a || isShutWord a || isRecordWord a

/-- A page's words after its reload (R101): configuration from an image, but for the bits that act at once, and state from the copy of the
last boundary. -/
def reloadRegs (page : Nat) (image was now : RegTable) : RegTable :=
  let mine (a : Nat) : Bool := reloads page a && !reloadKept a
  let own := now.filter (fun x => !mine x.1)
  let cfg := (image.filter (fun x => mine x.1 && imageWords x.1)).foldl (fun t x => rset t x.1 x.2) own
  (was.filter (fun x => mine x.1)).foldl (fun t x =>
    if !imageWords x.1 then rset t x.1 x.2
    else
      let m := word (atOnce x.1)
      if m = 0 then t else rset t x.1 ((rget t x.1 &&& ~~~ m) ||| (x.2 &&& m))) cfg

/-- The reload of a Control or Service block (R101). The chip page's words are the fault record's and counts of their own, which stay; the
GAL block's slots are settled as the restart begins (05 R156); the frame engine keeps its place in the frame; flash and a die shutdown stay
(log entry 50). -/
def blockReload (e : Env) (page : Nat) (c : Chip) : Chip :=
  let c1 : Chip := { c with regs := reloadRegs page c.image c.bnd.regs c.regs }
  match (pageAt page).map Page.kind with
  | some PageKind.chip | some PageKind.gal | none => c
  | some .alcS | some .alcO => ({ c1 with alc := { c.bnd.alc with run := none, res := none } }).onFrm (fun f => { f with alcDone := f.alcDone && !f.solving, cenDone := f.cenDone && !f.solving })
  | some .xpt | some .movS | some .movM => { c1 with mov := c.bnd.mov }
  | some .cen | some .cenAx => ({ c1 with cen := { c.bnd.cen with res := none } }).onFrm (fun f => { f with cenDone := f.cenDone && !f.solving })
  | some .thm => { c1 with thm := c.bnd.thm }
  | some .ses => { c1 with ses := c.bnd.ses }
  | some .cry => { c1 with cry := { c.cry with rings := c.own.cry.rings } }
  | some .pwm => pwmHoldAll { c1 with pwm := c.bnd.pwm }
  | some .asw => aswFollowAll e { c1 with asw := c.bnd.asw }
  | some .prt => { c1 with tp := c.own.tp, phy := c.own.phy }
  | some .snp => { c1 with snaps := c.own.snaps }
  | some .qn | some .mir => aswFollowAll e (pwmHoldAll { c1 with pair := c.own.pair })
  | some .can => { c1 with can := c.own.can }
  | some .hdg => { c1 with hdg := c.own.hdg }
  | some .hkp => { c1 with hkp := { c.own.hkp with dieSd := c.hkp.dieSd, start := c.hkp.start, done := c.hkp.done } }
  | some .upd | some .eth | some .ddr | some .osp => { c1 with hif := { c.own.hif with flash := c.hif.flash, torn := c.hif.torn } }
  | some _ => c1

/-- The reload of a Heath block (R101): its configuration is that of Heath's partition, which its words hold. -/
def heathReload (p : Part) (sd : Bool) (page : Nat) (h : Heath) : Heath :=
  let h1 := { h with regs := reloadRegs page h.regs h.bnd.regs h.regs }
  let b := h.bnd.st
  let ch (f : HthCh → HthCh → HthCh) (t : HthSt) : HthSt := { t with a := f t.a b.a, b := f t.b b.b }
  swAll p sd (match (pageAt page).map Page.kind with
    | some PageKind.hthIn => h1.onSt (ch (fun x w => { x with ins := w.ins, rst := w.rst, win := w.win }))
    | some .hthOut => h1.onSt (fun t => { t with rbLow := b.rbLow, rbHigh := b.rbHigh, amps := b.amps })
    | some .hthRp => h1.onSt (fun t => { t with netA := b.netA, netB := b.netB, partner := b.partner, shadow := b.shadow, seqA := b.seqA, sentRun := b.sentRun,
                                                sentAge := b.sentAge })
    | some .sfn => h1.onSt (ch (fun x w => { x with fns := w.fns }))
    | some .can => { h1 with can := h.bnd.can }
    | _ => h1)

/-- The reload of a Metrology block (R101); the pipeline keeps measuring (Table: Region restart). -/
def metReload (page : Nat) (m : Met) : Met := { m with regs := reloadRegs page m.regs m.bnd m.regs }

/-- The reload of a block of any region. -/
def blockReloadAny (page : Nat) (s : State) : State :=
  match regionOf page with
  | .heath => { s with heath := heathReload s.env.part (hthSd s) page s.heath }
  | .metrology => { s with met := metReload page s.met }
  | _ => onChip (fun e => blockReload e page) s

/-- BLOCK_RESTART_FAILED is due: the last cycle of the frame in which a block restarts (R102). -/
def blockFailDue (s : State) (page : Nat) : Bool := s.chip.flt.held.contains page && decide (s.env.time.len ≤ s.env.time.offset + 1)
/-- BLOCK_RESTART_FAILED: the block's region restarts (R102, R104). -/
def execBlockRestartFailed (page : Nat) (s : State) : Host.Outcome State Fault Refusal :=
  let s := if s.chip.flt.held.contains page then reachIn 5 (s.env.time.len - 1) s else s
  .next (match (if blockFailDue s page then pageAt page else none) with
    | some g => regionFault (regionOf page) 2 g.type g.inst (onChip (fun _ c => { c with flt := { c.flt with held := c.flt.held.filter (· != page) } }) s)
    | none => s)

/-! ### Regions and the chip -/

/-- The type of a region's chip-page record where no block is at fault. -/
def regionWatch (r : Region) (s : State) : State := regionFault r 4 1 0 s

/-- REGION_WATCHDOG_EXPIRE: a region's watchdog expires (R104). -/
def execRegionWatchdogExpire (r : Region) (s : State) : Host.Outcome State Fault Refusal :=
  .next (if s.chip.rgn r = 0 then regionWatch r s else s)

/-- The time in which a restarting region must return, in cycles (Table: Region restart). -/
def returnTime : Region → Nat
  | .control => 8000000 | .service => 400000000 | .metrology => 2000000 | .heath => 1000000

/-- REGION_RESTART_TIMEOUT is due: a region that restarts has not returned within its time (R106). -/
def timeoutDue (s : State) (r : Region) : Bool :=
  s.chip.rgn r == 1 && (match s.chip.flt.rgnAt.find? (fun x => x.1 == regionCode r) with
    | some x => decide (x.2 + returnTime r ≤ s.env.time.up)
    | none => false)
/-- REGION_RESTART_TIMEOUT: a chip fault (R106, R108). -/
def execRegionRestartTimeout (r : Region) (s : State) : Host.Outcome State Fault Refusal :=
  .next (if timeoutDue s r then
      chipFault (regionCode r) 2 1 0 (onChip (fun _ c => { c with flt := { c.flt with rgnAt := c.flt.rgnAt.filter (fun x => x.1 != regionCode r) } }) s)
    else s)

/-- CHIP_FAULT_RESTART is due: 100 ms after a chip fault that does not hold the chip (R109). -/
def chipRestartDue (s : State) : Bool :=
  s.chip.rgn .control == 2 && s.chip.rgn .service == 2 && !s.chip.pwr.held && s.chip.pwr.rails == 0 && !s.chip.b Reg.CHIP_ESC 5 && !s.chip.hkp.dieSd &&
    (match s.chip.flt.chipFaultAt with | some t => decide (t + 20000000 ≤ s.env.time.up) | none => false)
/-- CHIP_FAULT_RESTART: Control and Service restart once, as for a region restart (R109). -/
def execChipFaultRestart (s : State) : Host.Outcome State Fault Refusal :=
  .next (onChip (fun e c =>
    if chipRestartDue s then
      let c1 := rgnMark e .service (rgnMark e .control (rgnDown e .service 1 (rgnDown e .control 1 c)))
      { c1 with pwr := { c1.pwr with causes := 8 :: c1.pwr.causes } }
    else c) s)

end Sys2Proof.Machine
end

