-- ==== Sys2Proof/Machine/HeathCfg.lean ====
section
/-! DEFINITION. Heath's safety configuration channel (ch. 15, R539 to R541, R563, R631, ch. 23 R715, R716): requests, staging, the
checks of COMMIT, and configuration mode. -/
namespace Sys2Proof.Machine

/-- The words of the Heath pages that are configuration, ascending (R539): RW words and fence maps. -/
def hthCfgWords : List Nat :=
  ([0x50000000, 0x50001000, 0x50002000, 0x50003000, 0x50004000, 0x50005000] : List Nat).flatMap (fun g =>
    ((List.range 1024).map (fun i => g + 4 * i)).filter (fun a =>
      match pageAt a with
      | some pg => (match regAt pg a with | some (d, _) => d.acc == .rw || d.acc == .rws | none => false)
      | none => false))

/-- The description of a configuration word. -/
def hthCfgReg (a : Nat) : Option RegDesc :=
  match pageAt a with
  | some pg => (match regAt pg a with | some (d, _) => if (d.acc == .rw || d.acc == .rws) && regionOf a == .heath then some d else none | none => none)
  | none => none

/-- A configuration word as it would stand after COMMIT: a staged one in a fence map unfences (R99, R540). -/
def cfgAfter (h : Heath) (a : Nat) : Word :=
  match h.st.staged.find? (fun x => x.1 == a) with
  | some (_, v) => if inFenceMap a then h.rd a &&& ~~~ v else v
  | none => h.rd a

/-- The CRC-32 over every configuration word as it would stand (R540, R351). -/
def cfgCrc (h : Heath) : Word := crc32 (wordsBytes (hthCfgWords.map (cfgAfter h)))

/-- Bit timing of a CAN controller within R631 (Table: CAN checks, less the ring and IN_USE). -/
def canTimingOk (ctl nbt dbt : Word) : Bool :=
  let nt1 := fget nbt 19 8 + 1
  let nt2 := fget nbt 12 7 + 1
  let dt1 := fget dbt 22 5 + 1
  let dt2 := fget dbt 18 4 + 1
  let nb := (fget nbt 27 5 + 1) * (1 + nt1 + nt2)
  let db := (fget dbt 27 5 + 1) * (1 + dt1 + dt2)
  decide (2 ≤ nt1) && decide (2 ≤ nt2) && decide (fget nbt 5 7 + 1 ≤ nt2) && decide (fget dbt 14 4 + 1 ≤ dt2) && decide (80 ≤ nb)
    && decide (10 ≤ db) && decide (db ≤ nb) && (!fbit ctl 27 || decide (fget dbt 27 5 ≤ 1)) && decide (fget ctl 0 16 ≤ 10000)

/-- CANCLK cycles of a nominal and of a data bit, and t_fr in µs, of a B_RATE (Table: Network B rates). -/
def netBRate (r : Nat) : Nat × Nat × Nat :=
  if r = 0 then (80, 16, 105) else if r = 1 then (80, 40, 215) else if r = 2 then (160, 16, 140) else (160, 40, 245)

/-- The configuration words that fail a check (Table: Heath configuration checks, R563, R631), given the words as they would
stand. -/
def cfgFails (p : Part) (r : Nat → Word) : List Nat :=
  let f (a lo w : Nat) : Nat := fget (r a) lo w
  let b (a i : Nat) : Bool := fbit (r a) i
  let when (bad : Bool) (a : Nat) : List Nat := if bad then [a] else []
  let fns := (List.range 16).filter (fun k => f (Reg.HTH_FN_CFG k) 28 4 != 0)
  let kind (k : Nat) : Nat := f (Reg.HTH_FN_CFG k) 28 4
  let ins (k : Nat) : List (Bool × Nat) :=
    (List.range (min 4 (f (Reg.HTH_FN_CFG k) 0 3))).map (fun n => (b (Reg.HTH_FN_IN k) (8 * n + 7), f (Reg.HTH_FN_IN k) (8 * n) 7))
  let locals (k : Nat) : List Nat := ((ins k).filter (fun x => !x.1)).map (·.2)
  let curtain (j : Nat) : Bool := fns.any (fun k => kind k == 4 && (locals k).contains j)
  let tpw (n : Nat) : Nat := f (Reg.HTH_TP_CFG (8 + n)) 16 8
  let inputs := (List.range 16).flatMap (fun j =>
    let c := Reg.HTH_IN_CFG j
    let t := Reg.HTH_IN_TIME j
    let tf := f t 0 11
    when (f c 30 2 == 3 || (b c 27 && b c 24 && f c 25 2 == f c 22 2) || (curtain j && (f c 30 2 != 1 || b c 27 || b c 24))) c
      ++ when (decide (2000 < tf) || decide (f t 16 11 < 10) || decide (2000 < f t 16 11) || (b c 27 && decide (tf < tpw (f c 25 2) + 2))
        || (b c 24 && decide (tf < tpw (f c 22 2) + 2)) || (curtain j && decide (tf < 30))) t)
  let funcs := (List.range 16).flatMap (fun k =>
    let c := Reg.HTH_FN_CFG k
    let nin := f c 0 3
    let kd := kind k
    let nOk : Bool := kd == 0 || (kd == 1 && decide (1 ≤ nin) && decide (nin ≤ 4)) || (kd == 2 && nin == 2) || (kd == 3 && nin == 2)
      || (kd == 4 && decide (1 ≤ nin) && decide (nin ≤ 4))
    let aOk : Bool := if kd = 1 ∨ kd = 2 then !b c 26 else if kd = 3 then b c 26 && !b c 25 else true
    let used : Bool := kd != 0
    let inBad : Bool := used && ((ins k).any (fun x => if x.1 then !b (Reg.HTH_RP_CFG x.2) 31 else decide (16 ≤ x.2))
      || (locals k).any (fun j => fns.any (fun m => decide (m < k) && (locals m).contains j)))
    let o := Reg.HTH_FN_OUT k
    let lk := f o 8 3
    let lockBad : Bool := kd == 2 && b o 12 && (fns.any (fun m => b (Reg.HTH_FN_OUT m) lk)
      || fns.any (fun m => m != k && kind m == 2 && b (Reg.HTH_FN_OUT m) 12 && f (Reg.HTH_FN_OUT m) 8 3 == lk) || b (Reg.HTH_OUT_CFG lk) 31)
    let olet (a base : Nat) : Bool := (List.range 32).any (fun i => b a i && decide (p.outlets ≤ base + i))
    let t := Reg.HTH_FN_TIME k
    let d := f t 20 12
    let tBad : Bool := (if b c 25 then decide (d < 1) || decide (3000 < d) else d != 0) || decide (3000 < f t 8 12)
    when (decide (4 < kd) || !nOk || !aOk) c ++ when inBad (Reg.HTH_FN_IN k) ++ when lockBad o
      ++ when (olet (Reg.HTH_FN_OLET_LO k) 0) (Reg.HTH_FN_OLET_LO k) ++ when (olet (Reg.HTH_FN_OLET_HI k) 32) (Reg.HTH_FN_OLET_HI k) ++ when tBad t)
  let per := f Reg.HTH_CFG 0 16
  let blockW := when (decide (per < 10) || decide (1000 < per) || f Reg.HTH_CFG 30 2 == 3) Reg.HTH_CFG
    ++ (List.range 4).flatMap (fun n => when (decide (tpw n < 2) || decide (10 < tpw n)) (Reg.HTH_TP_CFG (8 + n)))
    ++ (List.range 8).flatMap (fun n =>
      let x := f (Reg.HTH_OUT_CFG n) 0 16
      when (decide (x < 10) || decide (6000 < x)) (Reg.HTH_OUT_CFG n))
  let srcs := (List.range 32).filter (fun i => b (Reg.SFN_SRC i) 31)
  let port (i : Nat) : Nat := f (Reg.SFN_SRC i) 24 5
  let sid (i : Nat) : Nat := f (Reg.SFN_SRC i) 0 16
  let srcW := srcs.flatMap (fun i =>
    when (decide (p.ports ≤ port i) || srcs.any (fun m => decide (m < i) && (port m == port i || sid m == sid i))) (Reg.SFN_SRC i))
  let ptW := (List.range 128).flatMap (fun q => when (b (Reg.HTH_RP_CFG q) 31 && !b (Reg.SFN_SRC (f (Reg.HTH_RP_CFG q) 8 5)) 31) (Reg.HTH_RP_CFG q))
  let bper := f Reg.SFN_CFG 8 4
  let rate := netBRate (f Reg.SFN_CFG 0 2)
  let chips := if f Reg.HTH_CFG 30 2 = 0 then 1 else 2
  let cfgW := when (decide (f Reg.SFN_CFG 12 4 < bper + 2) || decide (5000 * bper < srcs.length * rate.2.2 * 10 + chips * rate.2.2 * bper)) Reg.SFN_CFG
  let nbt := r (Reg.CAN_NBT 7)
  let dbt := r (Reg.CAN_DBT 7)
  let nb := (fget nbt 27 5 + 1) * (3 + fget nbt 19 8 + fget nbt 12 7)
  let db := (fget dbt 27 5 + 1) * (3 + fget dbt 22 5 + fget dbt 18 4)
  let canW := when (!canTimingOk (r (Reg.CAN_CTL 7)) nbt dbt) (Reg.CAN_CTL 7) ++ when (nb != rate.1) (Reg.CAN_NBT 7) ++ when (db != rate.2.1) (Reg.CAN_DBT 7)
  inputs ++ funcs ++ blockW ++ srcW ++ ptW ++ cfgW ++ canW

/-- IN_USE for controller 7 (R631): timing changed while EN stays 1. -/
def canInUse (h : Heath) (r : Nat → Word) : List Nat :=
  if h.b (Reg.CAN_CTL 7) 31 && fbit (r (Reg.CAN_CTL 7)) 31 then
    ([Reg.CAN_NBT 7, Reg.CAN_DBT 7] : List Nat).filter (fun a => h.rd a != r a)
  else []

/-- Every function goes to STOP, its delay and LOCK output dropped, in both channels (R539); `pwr` sets PWR_RST (R520). -/
def fnStopAll (pwr : Bool) (x : HthLog) : HthLog :=
  let l := (List.range 16).filter (fun k => fnKind x.1 k != 0 && (x.1.st.a.fn k).st != 0)
  let x1 := eachOf l (fun k x => fnNotes k 0 [((x.1.st.a.fn k).st, 0)] x) x
  let set (c : HthCh) : HthCh := eachBelow 16 (fun k c => c.onFn k (fun f =>
    { pwr := f.pwr || pwr, lock := f.lock, lockClr := f.lockClr, lockN := f.lockN, fault := 0, age := if f.st = 0 then f.age else 0 })) c
  hthDo (fun h => eachBelow 16 fnShow ((h.onCh 0 set).onCh 1 set)) x1

/-- Configuration mode ends (R520, R541): what is staged is discarded; every function needs a reset edge. -/
def cfgEnd (byKey : Bool) (x : HthLog) : HthLog :=
  let h1 := (x.1.onSt (fun t => { t with staged := [], prog := [], ending := false })).setB Reg.HTH_STAT 31 false
  hthEntry 0x05 (3 * 2 ^ 30 + (if byKey then 1 else 0)) (fnStopAll true (h1.setB Reg.HTH_EVT 5 true, x.2))

/-- A staged fence-map one unfences its cell, which starts with its state at zero (R99, R540). -/
def cfgUnfence (page j : Nat) (x : HthLog) : HthLog :=
  if !x.1.fenced page j then x
  else
    let h := x.1.fenceBit page j false
    let zero (c : HthCh) : HthCh := c.onIn j (fun _ => {})
    let h1 := if page = 0x50000000 then (h.onCh 0 zero).onCh 1 zero
      else if page = 0x50001000 ∧ j < 8 then h.setF (Reg.HTH_OUT_STAT j) 26 2 0
      else if page = 0x50005000 then { h with can := {} }
      else h
    match pageAt page with
    | some g => (h1, x.2 ++ [⟨g.type, g.inst, 0xF2, j⟩])
    | none => (h1, x.2)

/-- COMMIT's effect (R540, R716): the words in force, both copies, the fences, CFG_CRC, and a staged program in its slot. -/
def cfgApply (crc : Word) (ver : Option Word) (x : HthLog) : HthLog :=
  let h := x.1
  let words := h.st.staged.filter (fun w => !inFenceMap w.1)
  let maps := h.st.staged.filter (fun w => inFenceMap w.1)
  let h1 := eachOf words (fun w h => h.wr w.1 w.2) h
  let cells := maps.flatMap (fun w => ((List.range 32).filter (fun i => w.2.getLsbD i)).map (fun i => (w.1 / 0x1000 * 0x1000, (w.1 % 0x1000 - 0x380) * 8 + i)))
  let x1 := eachOf cells (fun c x => cfgUnfence c.1 c.2 x) (h1, x.2)
  let put (t : HthSt) : HthSt := match ver with
    | some v => if t.prog.isEmpty then t
        else if t.slot then { t with slot0 := t.prog, slot := false, newProg := some v, a := {} }
        else { t with slot1 := t.prog, slot := true, newProg := some v, a := {} }
    | none => t
  let x2 := hthDo (fun h => ((h.onSt (fun t => { put t with staged := [], prog := [] })).wr Reg.HTH_CFG_CRC crc).setB Reg.HTH_EVT 5 true) x1
  hthEntry 0x05 (2 * 2 ^ 30) x2

/-- The outcome of a safety configuration request: its code and what it does (Table: Safety configuration requests, Table: Safety
configuration results). `en` says that HTH_CFG_EN has read high for 20 ms; `img` is the version of a staged image that
passes its check (R715). -/
def sccRun (s : State) (op count : Nat) (en : Bool) (img : Option Word) (x : HthLog) : Nat × HthLog :=
  let h := x.1
  let addr := s.chip.n Reg.CHIP_SCC_ADDR
  let d (i : Nat) : Word := s.chip.rd (Reg.CHIP_SCC_DATA i)
  let crcOk : Bool := d 0 == h.rd Reg.HTH_CFG_CRC
  if op = 1 then
    if !en then (2, x)
    else if !crcOk then (3, x)
    else (0, hthEntry 0x05 (2 ^ 30) (hthDo (fun h => swAll s.env.part (hthSd s) ((h.setB Reg.HTH_STAT 31 true).setB Reg.HTH_EVT 5 true)) (fnStopAll false x)))
  else if 6 < op then (6, x)
  else if !hthCfg h then (1, x)
  else if op = 2 then
    let l := (List.range (count + 1)).map (fun i => (addr + 4 * i, d i))
    if addr % 4 ≠ 0 ∨ l.any (fun w => (hthCfgReg w.1).isNone) then (6, x)
    else if l.any (fun w => match hthCfgReg w.1 with
        | some r => w.2 &&& word r.rsv != 0 || (w.1 == Reg.SFN_CFG && (fget w.2 8 4 == 0 || decide (5 < fget w.2 8 4) || fget w.2 12 4 == 0))
        | none => true) then (4, x)
    else (0, hthDo (fun h => h.onSt (fun t =>
      { t with staged := eachOf l (fun w m => (w.1, w.2 &&& (match hthCfgReg w.1 with | some r => word r.rw | none => 0)) :: m.filter (fun y => y.1 != w.1)) t.staged })) x)
  else if op = 3 then
    let crc := cfgCrc h
    if d 0 ≠ crc then (3, x)
    else if !h.st.prog.isEmpty && img.isNone then (8, x)
    else match (cfgFails s.env.part (cfgAfter h) ++ canInUse h (cfgAfter h)).foldl (fun (m : Option Nat) a => match m with
        | some b => some (min a b)
        | none => some a) none with
      | some a => (7, hthDo (fun h => h.wr Reg.HTH_CFG_FAIL (word a)) x)
      | none => (0, cfgApply crc img x)
  else if op = 4 then (if crcOk then (0, cfgEnd false x) else (3, x))
  else if op = 5 then (0, hthDo (fun h => h.onSt (fun t => { t with staged := [], prog := [] })) x)
  else
    if 65536 < addr + count + 1 then (4, x)
    else (0, hthDo (fun h => h.onSt (fun t =>
      { t with prog := eachBelow (count + 1) (fun i m => (addr + i, d i) :: m.filter (fun y => y.1 != addr + i)) t.prog })) x)

/-- CFG_MODE of SCC_STAT follows HTH.STAT (R539). -/
def sccShow (s : State) : State := onChip (fun _ c => c.setB Reg.CHIP_SCC_STAT 30 (hthCfg s.heath)) s

/-- A write of CHIP.SCC_CMD after its checks (R539): with OP other than 0 it starts a request, or is refused with BUSY. -/
def sccStart (en : Bool) (img : Option Word) (v : Word) (s : State) : State :=
  let s1 := s.wr Reg.CHIP_SCC_CMD v
  let op := fget v 28 4
  let tag := fget v 0 16
  if op = 0 ∨ !hthOn s then s1
  else if s.chip.b Reg.CHIP_SCC_STAT 31 then onChip (fun _ c => (c.setF Reg.CHIP_SCC_STAT 24 4 5).setF Reg.CHIP_SCC_STAT 0 16 tag) s1
  else
    let r := sccRun s1 op (fget v 24 4) en img (s1.heath, [])
    let s2 := onHeath (fun _ _ => (r.2.1.onSt (fun t => { t with req := some (op, tag, r.1) }), r.2.2)) s1
    sccShow (onChip (fun _ c => c.setB Reg.CHIP_SCC_STAT 31 true) s2)

/-- A plane writes CHIP.SCC_CMD. -/
def sccCmd (p : Plane) (op count : Nat) (tag : BitVec 16) (en : Bool) (img : Option Word) (s : State) : State :=
  onWrite p Reg.CHIP_SCC_CMD (word (op * 2 ^ 28 + count * 2 ^ 24 + tag.toNat)) (sccStart en img) s

/-- SCC_ENTER: configuration mode starts; `en` says that HTH_CFG_EN has read high for 20 ms, which SCC_STAT.CFG_EN shows (R539). -/
def execSccEnter (p : Plane) (tag : BitVec 16) (en : Bool) (s : State) : Host.Outcome State Fault Refusal :=
  .next (sccCmd p 1 0 tag en none (if en then onChip (fun _ c => c.setB Reg.CHIP_SCC_STAT 29 true) s else s))
/-- SCC_WRITE: `n` + 1 words are staged (R539). -/
def execSccWrite (p : Plane) (n : Fin 16) (tag : BitVec 16) (s : State) : Host.Outcome State Fault Refusal := .next (sccCmd p 2 n tag false none s)
/-- SCC_COMMIT: the staged configuration takes effect; `img` is the version of a staged image that passes its check (R540,
R715). -/
def execSccCommit (p : Plane) (tag : BitVec 16) (img : Option Word) (s : State) : Host.Outcome State Fault Refusal := .next (sccCmd p 3 0 tag false img s)
/-- SCC_EXIT: configuration mode ends (R539). -/
def execSccExit (p : Plane) (tag : BitVec 16) (s : State) : Host.Outcome State Fault Refusal := .next (sccCmd p 4 0 tag false none s)
/-- SCC_ABORT: what is staged is discarded (R539, R715). -/
def execSccAbort (p : Plane) (tag : BitVec 16) (s : State) : Host.Outcome State Fault Refusal := .next (sccCmd p 5 0 tag false none s)
/-- SCC_PROG: `n` + 1 words of a program image are staged (R715). -/
def execSccProg (p : Plane) (n : Fin 16) (tag : BitVec 16) (s : State) : Host.Outcome State Fault Refusal := .next (sccCmd p 6 n tag false none s)

/-- SCC_REQUEST_COMPLETE: a request completes with its result; a mode that was to end during a COMMIT ends now (R539, R541). -/
def execSccRequestComplete (s : State) : Host.Outcome State Fault Refusal :=
  match s.heath.st.req with
  | some (_, tag, code) =>
    let s1 := onHeath (fun _ h =>
      let h1 := h.onSt (fun t => { t with req := none })
      if h.st.ending then cfgEnd true (h1, []) else (h1, [])) s
    .next (sccShow (onChip (fun _ c => ((c.setB Reg.CHIP_SCC_STAT 31 false).setF Reg.CHIP_SCC_STAT 24 4 code).setF Reg.CHIP_SCC_STAT 0 16 tag) s1))
  | none => .next s

/-- CFG_EN_LOW: HTH_CFG_EN has read low for 20 ms; a COMMIT already running completes first (R541). -/
def execCfgEnLow (s : State) : Host.Outcome State Fault Refusal :=
  let s1 := onChip (fun _ c => c.setB Reg.CHIP_SCC_STAT 29 false) s
  .next (if hthOn s && hthCfg s.heath then
      (match s.heath.st.req with
       | some (3, _, _) => { s1 with heath := s1.heath.onSt (fun t => { t with ending := true }) }
       | _ => sccShow (onHeath (fun _ h => cfgEnd true (h, [])) s1))
    else s1)

end Sys2Proof.Machine
end

