-- ==== Sys2Proof/Machine/Hkp.lean ====
section
/-! DEFINITION. Housekeeping: conversions, die temperatures and levels, oscillator corrections (ch. 9, R312 to R316). The die
shutdown's effect on the regions stands with the command in Supply.lean. -/
namespace Sys2Proof.Machine

/-- The last value of a housekeeping channel. -/
def hkpVal (c : Chip) (ch : Nat) : Int := signOf 24 (c.f (Reg.HKP_CH_VAL ch) 0 24)
/-- A die sensor is broken (R313). -/
def hkpBroken (c : Chip) (ch : Nat) : Bool := decide (hkpVal c ch < -500) || decide (2000 < hkpVal c ch)
/-- The sensor that gives a die's temperature (0 Core, 1 Field): the higher of the unbroken ones, A on a tie (R313). -/
def hkpSensor (c : Chip) (die : Nat) : Option Nat :=
  let a := 2 * die
  if hkpBroken c a then (if hkpBroken c (a + 1) then none else some (a + 1))
  else if hkpBroken c (a + 1) then some a
  else if hkpVal c a < hkpVal c (a + 1) then some (a + 1) else some a

/-- BAK_LOW of PWR.STAT ends when VBAK reads 2.5 V again (22 R701). -/
def bakShow (v : Int) (c : Chip) : Chip := if 2500 ≤ v then c.setB Reg.PWR_STAT 29 false else c
/-- CHARGING (22 R702): BAK_CHG imposed, VDDA good, and VBAK below 3.3 V. -/
def chargeShow (c : Chip) : Chip :=
  c.setB Reg.PWR_STAT 28 (c.b Reg.PWR_CFG 31 && !c.pwr.rails.testBit 3 && decide (c.f Reg.PWR_STAT 0 16 < 3300))

/-- A conversion's result, its range and its stamp (R312). -/
def hkpStore (e : Env) (ch : Nat) (v : Int) (c : Chip) : Chip :=
  let lim := c.rd (Reg.HKP_CH_LIM ch)
  let out : Bool := decide (v < signOf 16 (fget lim 0 16)) || decide (signOf 16 (fget lim 16 16) < v)
  let was := c.b (Reg.HKP_CH_VAL ch) 30
  let c1 := c.wr (Reg.HKP_CH_VAL ch) (word (2 ^ 31 + (if out then 2 ^ 30 else 0) + satI 24 v))
  let c2 := (c1.wr (Reg.HKP_CH_TS_LO ch) (e.time.stamp.setWidth 32)).wr (Reg.HKP_CH_TS_HI ch) ((e.time.stamp >>> 32).setWidth 32)
  let c3 := if ch = 9 then chargeShow (bakShow v (c2.setF Reg.PWR_STAT 0 16 (satI 16 v)))
    else if ch = 8 then c2.setB Reg.PWR_STAT 30 (decide (1600 ≤ v) && decide (v ≤ 3200)) else c2
  let c4 := { c3 with hkp := { c3.hkp with tempAt := tset (fun _ => 0) c3.hkp.tempAt ch e.time.up } }
  if out && !was then (c4.setB Reg.HKP_EVT 0 true).log1 e 0x26 0 0x02 ch else c4

/-- A die's level after a round (R299, R313, R314): NORMAL, WARNING or THROTTLE, with 10 K of hysteresis. -/
def dieLevel (c : Chip) (die old : Nat) : Nat :=
  match hkpSensor c die with
  | none => 2
  | some s =>
    let v := hkpVal c s
    let thr (l : Nat) : Int := (10 * c.f Reg.HKP_DIE_CFG (if l = 1 then 24 else 16) 8 : Nat)
    let reach := if thr 2 ≤ v then 2 else if thr 1 ≤ v then 1 else 0
    if old ≤ reach then reach
    else
      let l2 := if old = 2 ∧ v < thr 2 - 100 then 1 else old
      if l2 = 1 ∧ reach < 1 ∧ v < thr 1 - 100 then 0 else l2

/-- A die's level after a round, flagged and logged where it changes (R314, R321). -/
def dieLevelSet (e : Env) (die old : Nat) (c : Chip) : Chip :=
  let new := dieLevel c die old
  let c1 := c.setF Reg.HKP_DIE_STAT (30 - 2 * die) 2 new
  if new = old then c1
  else
    let c2 := if old < new then c1.setB Reg.HKP_EVT new true else c1
    c2.log1 e 0x26 0 0x01 (new * 2 ^ 30 + old * 2 ^ 28 + die)

/-- TC1 × (T − T0) + TC2 × (T − T0)² in ppm of an oscillator at a temperature in 0.1 °C, the fraction of a ppm rounded down or up (R316, log
entry 3). -/
def oscPpm (die : Nat) (t : Int) : Int :=
  let d := t - Config.oscT0 die
  let n := Config.oscTC1 die * d + Config.oscTC2 die * d * d
  let m : Int := (Config.oscDen die + 1 : Nat)
  if n % m ≠ 0 ∧ Config.ppmUp n m then n / m + 1 else n / m

/-- One oscillator's correction (R316): none where its temperature is more than 32 ms old or its die is held at THROTTLE. -/
def oscCorrection (e : Env) (c : Chip) (die : Nat) : Option Nat :=
  match hkpSensor c die with
  | none => none
  | some s =>
    if tget (fun _ => 0) c.hkp.tempAt s + 6400000 < e.time.up then none else some (satI 16 (oscPpm die (hkpVal c s)))

/-- OSC_CORRECTION (R316): both corrections at the end of a round's channels 0 to 3. -/
def oscCorrect (e : Env) (c : Chip) : Chip :=
  let a := oscCorrection e c 0
  let b := oscCorrection e c 1
  let c1 := match a with | some x => c.setF Reg.HKP_COMP 16 16 x | none => c
  let c2 := match b with | some x => c1.setF Reg.HKP_COMP 0 16 x | none => c1
  let stale : Bool := a.isNone || b.isNone
  let c3 := c2.setB Reg.HKP_DIE_STAT 24 stale
  if stale then c3.setB Reg.HKP_EVT 5 true else c3

/-- What the end of a round's channels 0 to 3 does (R313, R314, R316): broken and disagreeing sensors, levels, the hotter die
and the clocks of the Service region. -/
def dieRound (e : Env) (c : Chip) : Chip :=
  let bad : Bool := ([0, 1, 2, 3] : List Nat).any (hkpBroken c)
  let dis (d : Nat) : Bool := !hkpBroken c (2 * d) && !hkpBroken c (2 * d + 1) && decide (80 < (hkpVal c (2 * d) - hkpVal c (2 * d + 1)).natAbs)
  let dif : Bool := dis 0 || dis 1
  let c1 := (c.setB Reg.HKP_DIE_STAT 25 bad).setB Reg.HKP_DIE_STAT 26 dif
  let c2 := if bad then c1.setB Reg.HKP_EVT 4 true else c1
  let c3 := if dif then c2.setB Reg.HKP_EVT 3 true else c2
  let c4 := dieLevelSet e 1 (c.f Reg.HKP_DIE_STAT 28 2) (dieLevelSet e 0 (c.f Reg.HKP_DIE_STAT 30 2) c3)
  let temps := ([0, 1] : List Nat).filterMap (fun d => (hkpSensor c d).map (hkpVal c))
  let c5 := match temps with
    | [] => c4
    | x :: t => c4.setF Reg.HKP_DIE_STAT 0 16 (satI 16 (t.foldl max x))
  let slow : Bool := c5.f Reg.HKP_DIE_STAT 30 2 == 2 || c5.f Reg.HKP_DIE_STAT 28 2 == 2
  oscCorrect e (c5.setB Reg.HKP_DIE_STAT 27 slow)

/-- The dies at 135 °C or more (R315): 0 Core, 1 Field. -/
def diesHot (c : Chip) : List Nat :=
  ([0, 1] : List Nat).filter (fun d => match hkpSensor c d with | some s => decide (1350 ≤ hkpVal c s) | none => false)

/-- The records of a die shutdown, Core die first (R315, R317, R318). -/
def dieRecords (e : Env) (c : Chip) : Chip :=
  eachOf (diesHot c) (fun d c =>
    match hkpSensor c d with
    | some s =>
      let seq := c.n Reg.THM_SDR_CNT
      (sdrWrite e (3 + d) false (s - 2 * d) 0 (hkpVal c s) 1350 c).log1 e 0x15 0 0x03 seq
    | none => c) c

/-- The 250 µs slots since Heath began evaluating (R312). -/
def hkpSlot (e : Env) (c : Chip) : Nat := (e.time.up - c.hkp.start) / 50000
/-- A channel's conversion may complete now: it is the channel of the present slot, which has had none (R312). -/
def hkpTurn (e : Env) (ch : Nat) (c : Chip) : Bool := hkpSlot e c % 32 == ch && decide (c.hkp.done ≤ hkpSlot e c)

/-- One conversion (R312): stored; after channel 3 the dies are judged, after channel 31 the round counts. One
out of its turn is none. Answers whether a
die shutdown begins. -/
def hkpConvert (e : Env) (ch : Nat) (v : Int) (c : Chip) : Chip × Bool :=
  if c.b (Reg.HKP_CH_CFG ch) 31 && hkpTurn e ch c then
    let c1 := hkpStore e ch v { c with hkp := { c.hkp with done := hkpSlot e c + 1 } }
    if ch = 3 then
      let c2 := dieRound e c1
      if !c.hkp.dieSd && !(diesHot c2).isEmpty then
        let c3 := dieRecords e c2
        ({ c3 with hkp := { c3.hkp with dieSd := true } }, true)
      else (c2, false)
    else if ch = 31 then (c1.wr Reg.HKP_ROUND (word (c.n Reg.HKP_ROUND + 1)), false)
    else (c1, false)
  else (c, false)

end Sys2Proof.Machine
end

