-- ==== Sys2Proof/Machine/Upward.lean ====
section
/-! DEFINITION. An upward bundle and where its deliveries go (ch. 11): Heath's mailbox, the outlets' receive rings, the metering
streams. -/
namespace Sys2Proof.Machine

/-- The 32-bit words of 64-bit words, low half first. -/
def halves (l : List (BitVec 64)) : List Word := l.flatMap (fun v => [BitVec.setWidth 32 v, BitVec.setWidth 32 (v >>> 32)])

/-- A delivery of port `n` handed on (R364, R393, R417, R551): a safety telegram to Heath, a vehicle frame to its outlet's ring,
a stream block to metrology where the part has it. -/
def deliver (n : Nat) (d : Delivery) (s : State) : State :=
  match d with
  | .safety w => if hthOn s then onHeath (fun e h => netATake n (halves w) e (h, [])) s else s
  | .vehicle o b => onChipMem (fun e q => sesReceive e o b q) s
  | .stream o b => if s.env.part.hasMet then { s with met := s.met.onSt (fun t => { t with inbox := t.inbox ++ [(o, b)] }) } else s

/-- UPWARD_BUNDLE: an upward bundle ends on a port and is accepted or rejected (R357). A fenced or absent port takes none
(Table: Fenced cell behaviour), nor does a port one that began before it came up (R336); one during which the port went down is discarded
with PHY_ABORT (R341). -/
def execUpwardBundle (n : Fin 32) (b : UpBundle) (s : State) : Host.Outcome State Fault Refusal :=
  .next (if s.chip.ctl && decide (n.val < s.env.part.ports) && prtUp s.chip n && !s.chip.portFenced n && bundleStarted s.chip n b then
      let r := tpUpward s.env n b s.chip
      eachOf r.2 (deliver n) { s with chip := r.1 }
    else if s.chip.ctl && decide (n.val < s.env.part.ports) && bundleAborted s.chip n b then onChip (fun _ c => phyAbort n true c) s
    else s)

end Sys2Proof.Machine
end

