-- ==== Sys2Proof/Machine/Downward.lean ====
section
/-! DEFINITION. Downward bundles (ch. 11): the header, the records of every class in their order, acknowledged records as far as
they fit, and what a bundle leaves in the port's registers. -/
namespace Sys2Proof.Machine

/-- A stage in pre-charge: a move in steps 5 to 7 (Table: Move steps). -/
def prechargeStep (c : Chip) (s : Nat) : Bool := movBusy c s && decide (5 ≤ movStep c s) && decide (movStep c s ≤ 7)

/-- STAGE_CMD of local stage `i`, stage slot `s` (Table: STAGE_CMD and STAGE_FB). -/
def stageCmd (p : Part) (c : Chip) (i s : Nat) : List (BitVec 64) :=
  let pre := prechargeStep c s
  let iref := lastRef c s
  [recWord 0x01 i 1 [(38, bitOf pre), (37, bitOf (xptCmd c s).isSome), (32, (xptCmd c s).getD 0), (16, iref), (0, twos 16 (stageTrim p c s iref).1)],
   if pre then dword [(48, c.f (Reg.MOV_SLOT_B (movOf c s)) 0 16), (32, c.f Reg.MOV_TO_B 16 16)] else 0]

/-- OUTLET_CMD of local outlet `i`, outlet `o` (Table: OUTLET_CMD and OUTLET_FB). -/
def outletCmd (c : Chip) (i o : Nat) : BitVec 64 :=
  recWord 0x02 i 0 [(39, bitOf (c.b (Reg.SES_STATE o) 21)), (38, bitOf (zeroForced c o)), (16, c.f (Reg.ALC_OUT_GRANT o) 0 16),
                    (0, (destValue c 3 o 0 65535).1.toNat)]

/-- BATT_CMD (Table: Battery, axis, channel and hold records). -/
def battCmd (c : Chip) : BitVec 64 := recWord 0x03 0 0 [(0, twos 32 (destValue c 4 0 (-2147483648) 2147483647).1)]

/-- The axes that a port's node drives, in ascending channel. -/
def axesOf (p : Part) (c : Chip) (n : Nat) : List Nat :=
  if !p.hasAxes then []
  else
    let l := (List.range 8).filter (fun a => c.b (Reg.CEN_AX_CFG a) 31 && c.f (Reg.CEN_AX_CFG a) 25 5 == n)
    sortBy (fun a b => decide (c.f (Reg.CEN_AX_CFG a) 17 8 < c.f (Reg.CEN_AX_CFG b) 17 8)) l
/-- AXIS_CMD of an axis. -/
def axisCmd (c : Chip) (a : Nat) : BitVec 64 :=
  let st := axState c a
  recWord 0x04 (c.f (Reg.CEN_AX_CFG a) 17 8) 0 [(39, bitOf (decide (1 ≤ st) && decide (st ≤ 3))), (0, twos 16 (destValue c 5 a (-32768) 32767).1)]

/-- The slots that send to a General Node's channels, in ascending channel, at most 256 (Table: Destinations, R372). -/
def genSlots (c : Chip) (n : Nat) : List Nat :=
  let l := (List.range 1024).filter (fun s => cenUsed c s && c.f (Reg.CEN_SLOT_DST s) 28 4 == 7 && c.f (Reg.CEN_SLOT_DST s) 0 10 == n)
  (sortBy (fun a b => decide (c.f (Reg.CEN_SLOT_DST a) 16 8 < c.f (Reg.CEN_SLOT_DST b) 16 8)) l).take 256
/-- GEN_OUT of a slot. -/
def genOut (c : Chip) (s : Nat) : BitVec 64 :=
  recWord 0x05 (c.f (Reg.CEN_SLOT_DST s) 16 8) 0 [(0, twos 32 (toField (c.cenSlot s).out (-2147483648) 2147483647).1)]

/-- The records of types 0x01 to 0x06 of a port, in bundle order (R366 to R369, R372). -/
def dnRecords (p : Part) (c : Chip) (n : Nat) : List (BitVec 64) :=
  let cls := mapClass c n
  let units := List.range (mapCount c n)
  (if cls = 1 ∧ c.img.sag then [recWord 0x06 0 0 [(32, c.f Reg.ALC_SAG_CFG 8 8)]] else [])
    ++ (if cls = 1 then units.flatMap (fun i => stageCmd p c i (mapFirst c n + i)) else [])
    ++ (if cls = 2 then units.map (fun i => outletCmd c i (mapFirst c n + i)) else [])
    ++ (if cls = 3 then [battCmd c] else [])
    ++ (axesOf p c n).map (axisCmd c)
    ++ (if cls = 4 then (genSlots c n).map (genOut c) else [])

/-- A port gets a control bundle: the gate is open, the role gives control, the node is admitted to a class (R361, R573, R595). -/
def dnControl (e : Env) (c : Chip) (n : Nat) : Bool := c.gate && pullsOwn e c && prtAdmit c n == 1 && mapClass c n != 0

/-- The SAFETY record that carries Heath's telegram (R371, R552). -/
def safetyRec : Option (List Word) → List (BitVec 64)
  | none => []
  | some w => recWord 0x07 0 4 [] :: (List.range 4).map (fun i => dword [(0, (w.getD (2 * i) 0).toNat), (32, (w.getD (2 * i + 1) 0).toNat)])

/-- A bundle of `len` data blocks ends before the Mirror/Impose start (R350, R353): an ALIGN slot, then one block a slot, or two
in dual-lane mode. A slot lasts 26.4 ns. -/
def dnFits (c : Chip) (n len : Nat) : Bool :=
  let slots := if latchedSingle c n then 1 + (len + 2) else 1 + (len + 3) / 2
  decide (slots * 264 < (c.cuts.mirror - c.cuts.emit) * 50)

/-- Words of bytes, eight a word, the last one filled with zeros. -/
def packBytes : Nat → List Byte → List (BitVec 64)
  | 0, _ => []
  | _, [] => []
  | f + 1, l => dword ((l.take 8).zipIdx.map (fun x => (8 * x.2, x.1.toNat))) :: packBytes f (l.drop 8)

/-- A TUNNEL record of a whole vehicle frame (Table: Acknowledged record fields). -/
def tunnelWords (i tseq : Nat) (b : List Byte) : List (BitVec 64) :=
  let d := packBytes 256 b
  recWord 0x08 i d.length [(24, tseq), (11, b.length)] :: d

/-- The outlets of a DIN port whose transmit rings it empties, with their local numbers. -/
def tunOutlets (c : Chip) (n : Nat) : List (Nat × Nat) :=
  if mapClass c n = 2 then (List.range (min 4 (mapCount c n))).map (fun i => (i, mapFirst c n + i)) else []

/-- The first queued frame of a port that has no record yet: its outlet's local number, the outlet and the ring index (R393). A
frame waits until the standby has acknowledged every checkpoint written before it was queued (R605). -/
def tunNext (c : Chip) (n : Nat) : Option (Nat × Nat × Nat) :=
  (tunOutlets c n).findSome? (fun x =>
    let sent := ((c.tpOf n).tx.filter (fun r => r.outlet == x.2)).length
    let i := (c.f (Reg.SES_TUN x.2) 20 6 + sent) % 64
    if i = c.f (Reg.SES_TUN_SW x.2) 20 6 ∨ c.pair.acked < tget (fun _ => 0) (c.sesOf x.2).ckpt i then none else some (x.1, x.2, i))

/-- Records to be sent again join the bundle in TSEQ order while they fit (R372, R380); answers the words so far, and whether
one was held back. -/
def dnResend (e : Env) (c : Chip) (n : Nat) : List TpRec → List (BitVec 64) → Bool → List TpRec × List (BitVec 64) × Bool × Nat
  | [], w, full => ([], w, full, 0)
  | r :: t, w, full =>
    if !r.due then
      let q := dnResend e c n t w full
      (r :: q.1, q.2)
    else if !full && dnFits c n (w.length + r.words.length) then
      let q := dnResend e c n t (w ++ r.words) false
      ({ r with due := false, times := r.times + 1, sentAt := e.time.frameNo.toNat } :: q.1, q.2.1, q.2.2.1, q.2.2.2 + 1)
    else
      let q := dnResend e c n t w true
      (r :: q.1, q.2)

/-- New acknowledged records join the bundle while the window of 64 and the space allow (R372, R380). -/
def dnNew (e : Env) (m : List Host.Cell) (n : Nat) : Nat → Chip → List (BitVec 64) → Chip × List (BitVec 64) × Bool
  | 0, c, w => (c, w, false)
  | f + 1, c, w =>
    let x := c.tpOf n
    match (if x.tx.length < 64 then tunNext c n else none) with
    | none => (c, w, false)
    | some q =>
      let tseq := c.f (Reg.PRT_TUN_STAT n) 16 16
      let r := tunnelWords q.1 tseq (sesTxFrame c m q.2.1 q.2.2)
      if dnFits c n (w.length + r.length) then
        let rec' : TpRec := { tseq := tseq, outlet := q.2.1, words := r, sentAt := e.time.frameNo.toNat, times := 1, due := false }
        dnNew e m n f ((c.setTp n { x with tx := x.tx ++ [rec'] }).setF (Reg.PRT_TUN_STAT n) 16 16 (tseq + 1)) (w ++ r)
      else (c, w, true)

/-- The slots in which a port sends its downward bundle, in the latched mode (R326, R342, R350). -/
def dnSlots (c : Chip) (n : Nat) : List (List (BitVec 2 × BitVec 64)) :=
  let w := (c.tpOf n).down
  bundleSlots (!latchedSingle c n) (dword [(48, w.length)]) (dword [(32, (blocksCrc w).toNat)]) w

/-- The downward bundle of one port in an Emit (R352, R361, R362, R372): a control or a health bundle, or nothing where the port
is not up, was not as the freeze latched it (R342), or is fenced. The comparison CRC covers the records that an owner sends (R585). -/
def dnPort (e : Env) (m : List Host.Cell) (tele : Option (List Word)) (n : Nat) (c : Chip) : Chip :=
  let recs := dnRecords e.part c n
  let cmp := if mapClass c n = 0 then 0 else blocksCrc recs
  if !(prtUp c n && latchedUp c n) || c.portFenced n then c.setTp n { c.tpOf n with down := [], cmp := cmp }
  else
    let control := dnControl e c n
    let head := dnHeader e c n control ++ safetyRec tele
    let put (w : List (BitVec 64)) (c : Chip) : Chip :=
      (c.setTp n { c.tpOf n with down := w, cmp := cmp, seq := (c.tpOf n).seq + 1, trst := false }).setF (Reg.PRT_TP_SIZE n) 0 16 (w.length + 2)
    if control then
      let x := c.tpOf n
      let a := dnResend e c n x.tx (head ++ recs) false
      let c1 := (c.setTp n { x with tx := a.1 }).sat (Reg.PRT_TUN_CNT n) 24 8 a.2.2.2
      let b := if a.2.2.1 then (c1, a.2.1, true) else dnNew e m n 64 c1 a.2.1
      put b.2.1 (if b.2.2 then prtFlag n 18 b.1 else b.1)
    else put head c

/-- A slot's output was clamped to its destination's field (R264). -/
def slotClamped (c : Chip) (s : Nat) : Bool :=
  let o := (c.cenSlot s).out
  match c.f (Reg.CEN_SLOT_DST s) 28 4 with
  | 1 | 2 | 5 => (toField o (-32768) 32767).2
  | 3 => (toField o 0 65535).2
  | 4 | 7 => (toField o (-2147483648) 2147483647).2
  | 6 => fLt o 0 || fLt (fOfInt 1) o
  | _ => false

/-- CLAMPED: an emitted value was clamped (R264, R265). -/
def dnClamped (p : Part) (c : Chip) : Bool :=
  (List.range 1024).any (fun s => cenUsed c s && slotClamped c s) || (List.range p.stages).any (fun s => (stageTrim p c s (lastRef c s)).2)

/-- The downward bundles of an Emit on every port, with one Heath telegram (R353, R552). -/
def emitBundles (s : State) : State :=
  let q := if hthOn s then teleDown s.env s.heath else (none, s.heath)
  let s1 := { s with heath := q.2 }
  onChip (fun e c =>
    let c1 := if dnClamped e.part c then c.setB Reg.CEN_EVT 2 true else c
    eachBelow e.part.ports (dnPort e s.mem q.1) c1) s1

end Sys2Proof.Machine
end

