-- ==== Sys2Proof/Machine/Solve.lean ====
section
/-! DEFINITION. The Solve and the Emit (ch. 2, 6 and 8): the engines' results, overruns, frozen-grant mode, the worst-case cycle
counts, and what an Emit sends and commits. -/
namespace Sys2Proof.Machine

/-! ### Worst-case counts (R42, R268, R269) -/

/-- Cycles of an instruction (Table: Instruction set). -/
def opCycles (op : Nat) : Nat := if op = 0x0A then 4 else if op = 0x0B ∨ op = 0x0D then 3 else if op = 0x0C then 2 else 1
/-- The full cost of a slot: 3 plus its instructions (R269). -/
def slotCycles (c : Chip) (s : Nat) : Nat :=
  3 + ((List.range (cenNins c s)).map (fun i => opCycles (fget (c.rd (Reg.CEN_PROG s i)) 27 5))).sum
/-- The lowest-numbered lane among those that become free earliest takes a slot (R268). -/
def laneTake (lanes : List Nat) (cost : Nat) : List Nat :=
  let m := lanes.foldl min (lanes.headD 0)
  match lanes.findIdx? (· == m) with
  | some i => lanes.set i (m + cost)
  | none => lanes
/-- The length of a tier on eight lanes (R268). -/
def tierCycles (c : Chip) (t : Nat) (used : List Nat) : Nat :=
  ((used.filter (fun s => cenTier c s == t)).foldl (fun l s => laneTake l (slotCycles c s)) (List.replicate 8 0)).foldl max 0
/-- CEN_WCET (R269). -/
def cenWcet (c : Chip) : Nat :=
  let used := (List.range 1024).filter (cenUsed c)
  16 + ((List.range 4).map (fun t => if used.any (fun s => cenTier c s == t) then tierCycles c t used + 8 else 0)).sum
/-- ALC_WCET (R42): a formula that Erwael does not publish, of three numbers and MAX_NEW. -/
def alcWcet (p : Part) (c : Chip) : Nat :=
  Config.alcWcet ((List.range p.stages).filter (fun s => (stagePort p c s).isSome)).length
    ((List.range p.outlets).filter (fun o => (outletPort p c o).isSome)).length
    ((List.range 1024).filter (fun n => nodeKind c n != 0)).length (c.f Reg.ALC_MOVE_CFG 24 8)
/-- FRM.WCET for the imposed configuration (R42). -/
def wcetShow (p : Part) (c : Chip) : Chip := c.wr Reg.FRM_WCET (word (min 65535 (cenWcet c) * 65536 + min 65535 (alcWcet p c)))

/-! ### The Solve -/

/-- A frozen frame's held grants before its Emit (R52): from the 65th frozen frame each falls by its ramp rate toward its
contracted minimum. -/
def heldFall (p : Part) (c : Chip) : Chip :=
  if 64 ≤ c.f Reg.FRM_STAT 16 7 then
    c.onAlc (fun a => { a with held := (List.range p.outlets).foldl (fun l o =>
      let h := tget (fun _ => 0) l o
      let m := c.f (Reg.ALC_OUT_LIMIT o) 0 16
      tset (fun _ => 0) l o (if m < h then max m (h - c.f (Reg.ALC_OUT_RAMP o) 0 16) else h)) a.held })
  else c

/-- The Solve of a frame starts (R41, R51): the Allocator, or in frozen-grant mode the Control Engine at once. -/
def solveBegin (e : Env) (c : Chip) : Chip :=
  let c1 := c.onFrm (fun f => { f with solving := true, alcDone := frmFrozen c, cenDone := false })
  let c2 := (c1.onAlc (fun a => { a with run := if frmFrozen c then none else some (allocate e.part c1), res := none })).onCen (fun z => { z with res := none })
  if frmFrozen c then
    let c3 := heldFall e.part (c2.wr Reg.FRM_USED (word 0xFFFF0000))
    let c4 := c3.onAlc (fun a => { a with res := some (frozenGrants e.part c3) })
    c4.onCen (fun z => { z with res := some (cenRun e.part c4) })
  else c2.wr Reg.FRM_USED (word 0xFFFFFFFF)

/-- ALLOCATOR_COMPLETE: targets, grants, references and the move plan of the run that the Solve start began stand (R172); the Control Engine starts (R41, R44, R45, R268). -/
def execAllocatorComplete (used : BitVec 16) (s : State) : Host.Outcome State Fault Refusal :=
  .next (onChip (fun e c =>
    if c.ctl && c.frm.solving && !c.frm.alcDone then
      let r := c.alc.run.getD (allocate e.part c)
      let c1 := ((c.onAlc (fun a => { a with res := some r })).onFrm (fun f => { f with alcDone := true })).setF Reg.FRM_USED 0 16 used.toNat
      let c2 := if c.cuts.alc < used.toNat then c1.setB Reg.FRM_EVT 10 true else c1
      c2.onCen (fun z => { z with res := some (cenRun e.part c2) })
    else c) s)

/-- A completed Solve's move requests reach the sequencer in order (R226). -/
def acceptMoves (e : Env) (c : Chip) : Chip :=
  match c.alc.res with
  | some r => if r.frozen then c else movShow (eachOf r.reqs (fun q c => movAccept e q c) c)
  | none => c

/-- CONTROL_ENGINE_COMPLETE: the Solve is complete (R49, R226, R267). In the frame of a warm takeover its results are discarded
(R596). -/
def execControlEngineComplete (used : BitVec 16) (s : State) : Host.Outcome State Fault Refusal :=
  .next (onChip (fun e c =>
    if c.ctl && c.frm.solving && c.frm.alcDone && !c.frm.cenDone then
      let c1 := (c.onFrm (fun f => { f with cenDone := true, frozenOvr := 0 })).setF Reg.FRM_USED 16 16 used.toNat
      let c2 := c1.setF Reg.FRM_STAT 0 8 0
      if c.pair.skip then c2.onCen (fun z => { z with res := none }) else acceptMoves e (cenCommit e c2)
    else c) s)

/-! ### The Emit -/

/-- An overrun (R46, R47, R50, R54): the Solve's results are discarded, counted, flagged and logged; the third in a row makes
frozen-grant mode due. RESUME leaves OVR_RUN, so an overrun right after it, with three or more in a row, makes that mode due again
(DESIGN CHOICE, log entry 49). -/
def overrun (e : Env) (c : Chip) : Chip :=
  let run := satAdd 8 (c.f Reg.FRM_STAT 0 8) 1
  let c1 := (((c.setF Reg.FRM_STAT 0 8 run).wr Reg.FRM_OVR_CNT (word (c.n Reg.FRM_OVR_CNT + 1))).setB Reg.FRM_EVT 0 true).onAlc (fun a => { a with res := none })
  let c2 := frmLog e 0x01 run (c1.onCen (fun z => { z with res := none }))
  c2.onFrm (fun f => { f with freezeDue := f.freezeDue || (decide (3 ≤ run) && !frmFrozen c), frozenOvr := if frmFrozen c then f.frozenOvr + 1 else 0 })

/-- What an Emit puts out of a run (R48, R193 to R195, R218, R224): commands, grants and references under the overlay;
DEM_BAD is the present frame's (R176). -/
def emitOut (p : Part) (r0 : AlcRes) (c : Chip) : Chip :=
  let r := { r0 with bad := (List.range p.outlets).map (demBad p c) }
  let c1 := eachBelow p.stages movEmit c
  let c2 := eachBelow p.outlets sesEmit c1
  let c3 := eachBelow p.outlets (publishOutlet r) c2
  eachBelow p.stages (publishStage r) c3

/-- The frame's results reach the outputs: those of a completed Solve are published and committed, else the last completed ones
are sent again (R46 to R48, R173). A BARRED chip computes no frame, so none of its frames overruns (R567, R590; log entry 36). -/
def emitResults (e : Env) (c : Chip) : Chip :=
  let done := c.frm.alcDone && c.frm.cenDone
  let off (c : Chip) : Chip := c.onFrm (fun f => { f with solving := false })
  if done && !c.pair.skip then
    match c.alc.res with
    | some r => off (alcCommit e.part r (publishSolve r (emitOut e.part r c)))
    | none => off (emitOut e.part (c.alc.last.getD {}) c)
  else
    let c1 := if done || c.role == 4 then c.onAlc (fun a => { a with res := none }) else overrun e c
    off (emitOut e.part (c1.alc.last.getD {}) c1)

/-- EMIT_START: engines stop, the outputs of the frame go out (R46 to R48, R353, R372). -/
def execEmitStart (s : State) : Host.Outcome State Fault Refusal :=
  .next (if s.chip.ctl && s.chip.frm.phase == 2 then
      emitBundles (onChip emitResults (onChip (fun _ c => c.onFrm (fun f => { f with phase := 3 })) (s.reach s.chip.cuts.emit)))
    else s)

/-! ### Frozen-grant mode -/

/-- FROZEN_IN: from the boundary that ends the third overrun in a row (R50, R51). -/
def execFrozenIn (s : State) : Host.Outcome State Fault Refusal :=
  .next (onChip (fun e c =>
    if c.ctl && c.frm.freezeDue && !frmFrozen c && decide (e.time.offset < c.cuts.solve) then
      let c1 := (c.setB Reg.FRM_STAT 30 true).setF Reg.FRM_STAT 16 7 0
      let c2 := (c1.setB Reg.FRM_EVT 1 true).onFrm (fun f => { f with freezeDue := false, frozenOvr := 0 })
      let g := (c.alc.last.getD {}).grants
      frmLog e 0x02 0 (c2.onAlc (fun a => { a with held := (List.range e.part.outlets).foldl (fun l o => tset (fun _ => 0) l o (g.getD o 0)) [] }))
    else c) s)

/-- RAMPING is due: the 65th frozen frame (R52). -/
def rampDue (c : Chip) : Bool := c.ctl && frmFrozen c && !c.b Reg.FRM_STAT 29 && decide (64 ≤ c.f Reg.FRM_STAT 16 7)
/-- RAMPING: from the 65th frozen frame the held grants fall (R52). -/
def execRamping (s : State) : Host.Outcome State Fault Refusal :=
  .next (onChip (fun _ c => if rampDue c then c.setB Reg.FRM_STAT 29 true else c) s)

/-- ESCALATE is due: sixteen overruns in a row in frozen-grant mode (R54). -/
def escalateDue (c : Chip) : Bool := c.ctl && frmFrozen c && decide (16 ≤ c.frm.frozenOvr)
/-- ESCALATE: a Control-region fault (R54). -/
def execEscalate (s : State) : Host.Outcome State Fault Refusal :=
  .next (if escalateDue s.chip then regionRestart .control 5 2 0 (onChip (fun e c => frmLog e 0x04 0 (c.setB Reg.FRM_EVT 3 true)) s) else s)

end Sys2Proof.Machine
end

