-- ==== Sys2Proof/Machine/ProofChecks.lean ====
section
/-! DEFINITION. The checks of Proof (ch. 5 R151 with the tables of the blocks' chapters): each answers the reason code that it
stands for and the addresses of the words that fail it, over the configuration as it would stand after Imposition. -/
namespace Sys2Proof.Machine

/-- What a check finds: a reason code and the words that fail it; no word where it is met. -/
abbrev Finding := Nat × List Nat

/-- A finding made of a word that fails where `bad` holds. -/
def failAt (bad : Bool) (a : Nat) : List Nat := if bad then [a] else []
/-- A list of entries touches a page of one of the kinds. -/
def touches (l : List (Nat × Word)) (ks : List PageKind) : Bool :=
  l.any (fun x => match pageAt x.1 with | some g => ks.contains g.kind | none => false)
/-- A list of entries touches a range of addresses. -/
def touchesIn (l : List (Nat × Word)) (lo hi : Nat) : Bool := l.any (fun x => decide (lo ≤ x.1) && decide (x.1 < hi))
/-- The addresses of a list's entries in a range. -/
def entriesIn (l : List (Nat × Word)) (lo hi : Nat) : List Nat := (l.map (·.1)).filter (fun a => decide (lo ≤ a) && decide (a < hi))
/-- A ring's base lies in LPDDR4X on a 4 MiB boundary (24 R729, R730). -/
def ringOk (p : Part) (lo hi : Word) : Bool :=
  let a := lo.toNat + 2 ^ 32 * hi.toNat
  decide (a % 2 ^ 22 = 0) && decide (0x800000000 ≤ a) && decide (a < 0x800000000 + p.ddrMib * 7 / 8 * 2 ^ 20)
/-- A finite number above 0, binary32. -/
def fPos (w : Word) : Bool := fFin w && !fSign w && !fZero w

/-! ### Site structure (R16, R20, R23) -/

/-- A map word outside its limits. -/
def mapBad (c : Chip) (n : Nat) : Bool :=
  let k := mapClass c n
  let f := mapFirst c n
  let m := mapCount c n
  if k = 1 then decide (m = 0 ∨ 32 < m ∨ 512 < f + m)
  else if k = 2 then decide (m = 0 ∨ 4 < m ∨ 63 < f ∨ 64 < f + m)
  else decide (4 < k ∨ f ≠ 0 ∨ m ≠ 0)
/-- Two map words claim one unit, or are both the BIN's. -/
def mapClash (c : Chip) (i j : Nat) : Bool :=
  let k := mapClass c i
  i != j && k == mapClass c j &&
    (k == 3 || ((k == 1 || k == 2) && decide (mapFirst c i < mapFirst c j + mapCount c j) && decide (mapFirst c j < mapFirst c i + mapCount c i)))
/-- A map word exceeds the part. -/
def mapAbsent (p : Part) (c : Chip) (n : Nat) : Bool :=
  let k := mapClass c n
  k != 0 && (decide (p.ports ≤ n) ||
    (!mapBad c n && ((k == 1 && decide (p.stages < mapFirst c n + mapCount c n)) || (k == 2 && decide (p.outlets < mapFirst c n + mapCount c n)))))
/-- The crosspoint words that hold anything. -/
def xptWords (c : Chip) : List Nat := tkeys c.regs 0x48000000 0x48008000
/-- The stage and the position of a crosspoint word. -/
def xptOf (a : Nat) : Nat × Nat := ((a - 0x48000000) / 64, (a - 0x48000000) / 4 % 16)
/-- A crosspoint entry without its stage or outlet, or the second one of its stage for its outlet. -/
def xptOrphan (p : Part) (c : Chip) (a : Nat) : Bool :=
  let q := xptOf a
  match xptOutlet c q.1 q.2 with
  | some o => (stagePort p c q.1).isNone || (outletPort p c o).isNone || (List.range 16).any (fun k => k != q.2 && xptOutlet c q.1 k == some o)
  | none => false
/-- A used node breaks R23. -/
def nodeBad (p : Part) (c : Chip) (n : Nat) : Bool :=
  let k := nodeKind c n
  let up := nodeParent c n
  if n = 0 then k != 1 || up != 0
  else
    k == 1 || nodeKind c up == 0 || decide (n ≤ up) || decide (7 < (nodePathFrom c 9 n).length)
      || (nodeKind c up == 2 || nodeKind c up == 3)
      || ((k == 2 || k == 3) && up != 0)
      || (nodeDelivery c n && up != 0 && !nodeDelivery c up)
      || (nodeSupply c n && up != 0 && !nodeSupply c up)
      || (k == 3 && (binPort p c).isNone)
      || ((k == 2 || k == 3) && (List.range n).any (fun m => nodeKind c m == k))
/-- The tree is well formed (R23): the words that break it. -/
def treeForm (p : Part) (c : Chip) : List Nat :=
  let used := (List.range 1024).filter (fun n => nodeKind c n != 0)
  (if used = [] then [] else if nodeKind c 0 = 0 then [Reg.CXT_NODE 0 0] else (used.filter (nodeBad p c)).map (Reg.CXT_NODE · 0))
    ++ ((List.range p.stages).filter (fun s => (stagePort p c s).isSome && !nodeSupply c (c.f (Reg.ALC_STG_CFG s) 16 10))).map Reg.ALC_STG_CFG
    ++ ((List.range p.outlets).filter (fun o =>
          let n := c.f (Reg.ALC_OUT_CFG o) 16 10
          (outletPort p c o).isSome && !(if n = 0 then nodeKind c 0 == 1 else nodeDelivery c n))).map Reg.ALC_OUT_CFG
/-- Table: Site-structure checks, less IN_USE. -/
def siteFindings (p : Part) (c : Chip) (l : List (Nat × Word)) : List Finding :=
  if touchesIn l 0x48000000 0x48014000 || touches l [.prt, .alcS, .alcO, .xpt, .movS, .movM] then
    let maps := List.range 32
    [(0x11, (maps.filter (mapBad c)).map Reg.PRT_MAP),
     (0x12, (maps.filter (fun n => maps.any (mapClash c n))).map Reg.PRT_MAP),
     (0x13, (maps.filter (mapAbsent p c)).map Reg.PRT_MAP),
     (0x15, (xptWords c).filter (xptOrphan p c)),
     (0x16, treeForm p c)]
  else []

/-! ### Allocation (R211) and crosspoints and moves (R245) -/

/-- Table: Allocation checks, less TREE_FORM. -/
def alcFindings (p : Part) (c : Chip) (l : List (Nat × Word)) : List Finding :=
  if !(touchesIn l 0x48010000 0x48014000 || touches l [.alcS, .alcO]) then []
  else
    let outs := (List.range p.outlets).flatMap (fun o =>
      failAt (c.f (Reg.ALC_OUT_CFG o) 8 8 == 0 || c.f (Reg.ALC_OUT_CFG o) 6 2 == 3) (Reg.ALC_OUT_CFG o)
        ++ failAt (decide (30000 < c.f (Reg.ALC_OUT_LIMIT o) 16 16) || decide (c.f (Reg.ALC_OUT_LIMIT o) 16 16 < c.f (Reg.ALC_OUT_LIMIT o) 0 16)) (Reg.ALC_OUT_LIMIT o)
        ++ failAt (decide (3750000 < c.f (Reg.ALC_OUT_RATE_P o) 0 22)) (Reg.ALC_OUT_RATE_P o)
        ++ failAt (let r := c.f (Reg.ALC_OUT_RAMP o) 0 16; r == 0 || decide (30000 < r)) (Reg.ALC_OUT_RAMP o))
    let stages := ((List.range p.stages).filter (fun s => (stagePort p c s).isSome)).flatMap (fun s =>
      let r := c.f (Reg.ALC_STG_RATE_P s) 0 18
      failAt (c.f (Reg.ALC_STG_CFG s) 0 16 == 0) (Reg.ALC_STG_CFG s) ++ failAt (r == 0 || decide (250000 < r)) (Reg.ALC_STG_RATE_P s))
    let vmin := c.f Reg.ALC_SITE_CFG 0 16
    let new := c.f Reg.ALC_MOVE_CFG 24 8
    let lim := c.f Reg.ALC_SAG_CFG 8 8
    let site := failAt (vmin == 0 || decide (12500 < vmin) || decide (1 < c.f Reg.ALC_SITE_CFG 30 2) || decide (1 < c.f Reg.ALC_SITE_CFG 28 2)) Reg.ALC_SITE_CFG
      ++ failAt (new == 0 || decide (16 < new) || c.f Reg.ALC_MOVE_CFG 0 16 == 0) Reg.ALC_MOVE_CFG
      ++ failAt (c.f Reg.ALC_AUX_SRC 29 2 == 3) Reg.ALC_AUX_SRC
      ++ failAt (decide (100 ≤ c.f Reg.ALC_SAG_CFG 24 8) || decide (c.f Reg.ALC_SAG_CFG 16 8 ≤ 100) || lim == 0 || decide (100 < lim)
          || c.f Reg.ALC_SAG_CFG 0 8 == 0) Reg.ALC_SAG_CFG
    let nodes := (List.range 1024).flatMap (fun n =>
      let w3 := c.rd (Reg.CXT_NODE n 3)
      failAt (decide (9 < nodeKind c n) || (c.b (Reg.CXT_NODE n 0) 27 && nodeKind c n != 7) || (nodeAmps c n && !nodeDelivery c n)) (Reg.CXT_NODE n 0)
        ++ failAt (fget w3 29 2 == 3 || (fbit w3 31 && fget w3 29 2 == 0 && decide (p.ports ≤ fget w3 24 5))) (Reg.CXT_NODE n 3))
    let named := (xptWords c).filterMap (fun a =>
      if (stagePort p c (xptOf a).1).isSome then xptOutlet c (xptOf a).1 (xptOf a).2 else none)
    let unmapped (w : Word) : Bool := fbit w 31 && fget w 29 2 == 0 && mapClass c (fget w 24 5) == 0
    [(0x10, outs ++ stages ++ site ++ nodes),
     (0x17, ((List.range p.outlets).filter (fun o => (outletPort p c o).isSome && c.f (Reg.ALC_OUT_LIMIT o) 16 16 != 0 && !named.contains o)).map Reg.ALC_OUT_LIMIT
        ++ ((List.range 1024).filter (fun n => unmapped (c.rd (Reg.CXT_NODE n 3)))).map (Reg.CXT_NODE · 3)
        ++ failAt (unmapped (c.rd Reg.ALC_AUX_SRC)) Reg.ALC_AUX_SRC)]

/-- Table: Crosspoint and move checks, less IN_USE. -/
def xptFindings (c : Chip) (l : List (Nat × Word)) : List Finding :=
  if !(touchesIn l 0x48000000 0x48008000 || touches l [.xpt, .movS, .movM]) then []
  else
    let conf := c.f Reg.MOV_CFG 16 4
    let rd := c.f Reg.MOV_CFG 0 16
    let pi := c.f Reg.MOV_TO_B 16 16
    let short (a lo : Nat) : Bool := decide (c.f a lo 16 ≤ conf)
    [(0x10, (xptWords c).filter (fun a => !c.b a 31 && c.rd a != 0)
        ++ failAt (conf == 0 || rd == 0 || decide (30000 < rd)) Reg.MOV_CFG
        ++ failAt (short Reg.MOV_TO_A 0 || short Reg.MOV_TO_A 16) Reg.MOV_TO_A
        ++ failAt (short Reg.MOV_TO_B 0 || pi == 0 || decide (1000 < pi)) Reg.MOV_TO_B
        ++ ((List.range 4).filter (fun k => short (Reg.MOV_CT k) 0 || short (Reg.MOV_CT k) 16)).map Reg.MOV_CT)]

/-! ### The Control Engine (R254, R255, R273, R285) -/

/-- What an opcode uses of its word: the register fields, the constants, the state words, the table fields. -/
def opUses (op : Nat) : Option (Word × Nat × Nat) :=
  let d : Word := 0x07000000
  let a : Word := 0x00E00000
  let b : Word := 0x001C0000
  match op with
  | 0x01 => some (d ||| a, 0, 0)
  | 0x02 => some (d, 1, 0)
  | 0x03 | 0x04 | 0x05 | 0x07 | 0x08 => some (d ||| a ||| b, 0, 0)
  | 0x06 => some (d ||| a, 1, 0)
  | 0x09 => some (d ||| a, 2, 0)
  | 0x0A => some (d ||| a, 5, 2)
  | 0x0B => some (d ||| a, 3, 2)
  | 0x0C => some (d ||| a, 2, 1)
  | 0x0D => some (d ||| a ||| 0x000003E0, 2, 0)
  | 0x0E => some (d, 0, 1)
  | 0x0F => some (a, 0, 1)
  | 0x10 => some (d ||| a, 0, 1)
  | 0x11 => some (a, 0, 0)
  | _ => none

/-- An instruction word of a slot breaks its form, or a constant in use is not finite. -/
def insBad (c : Chip) (s nins i : Nat) : Bool :=
  let w := c.rd (Reg.CEN_PROG s i)
  match opUses (fget w 27 5) with
  | none => true
  | some (m, nk, ns) =>
    let m1 := m ||| 0xF8000000 ||| (if nk = 0 then 0 else 0x0003E000) ||| (if ns = 0 then 0 else 0x00001C00)
    let k := fget w 13 5
    w &&& ~~~ m1 != 0 || (fget w 27 5 == 0x11) != (i + 1 == nins) || (nk != 0 && (decide (k < nins) || decide (31 < k + nk - 1)))
      || (ns != 0 && decide (7 < fget w 10 3 + ns - 1)) || (List.range nk).any (fun j => !fFin (c.rd (Reg.CEN_PROG s ((k + j) % 32))))

/-- A binding with a KIND, SEL or quantity that is not defined. -/
def bindBad (b : Nat) : Bool :=
  let pay := b % 8192
  match b / 8192 with
  | 0 | 1 => pay != 0
  | 6 => decide (6 < pay / 1024) || (pay / 1024 == 1 && decide (5 < pay % 1024))
  | 7 => decide (4 < pay % 8)
  | _ => false
/-- A binding names a unit that the part lacks. -/
def bindAbsent (p : Part) (b : Nat) : Bool :=
  let pay := b % 8192
  match b / 8192 with
  | 4 => decide (p.ports ≤ pay / 256)
  | 6 =>
    let sel := pay / 1024
    ((sel == 2 || sel == 3 || sel == 6) && decide (p.outlets ≤ pay % 1024)) || ((sel == 4 || sel == 5) && decide (p.stages ≤ pay % 1024))
  | 7 => !p.hasAxes
  | _ => false
/-- A binding's source is not in use. -/
def bindXref (c : Chip) (b : Nat) : Bool :=
  let pay := b % 8192
  (b / 8192 == 4 && mapClass c (pay / 256) == 0) || (b / 8192 == 5 && !cenUsed c (pay % 1024))
/-- The words of a slot's bindings that a test finds. -/
def bindWords (c : Chip) (s : Nat) (t : Nat → Bool) : List Nat :=
  let l := cenBindings c s
  failAt (t (l.getD 0 0) || t (l.getD 1 0)) (Reg.CEN_SLOT_IN01 s) ++ failAt (t (l.getD 2 0) || t (l.getD 3 0)) (Reg.CEN_SLOT_IN23 s)

/-- KIND of a slot's destination. -/
def dstKind (c : Chip) (s : Nat) : Nat := c.f (Reg.CEN_SLOT_DST s) 28 4
/-- INDEX of a slot's destination. -/
def dstIndex (c : Chip) (s : Nat) : Nat := c.f (Reg.CEN_SLOT_DST s) 0 10
/-- What a destination names: its kind, index and channel as far as the kind takes them. -/
def dstKey (c : Chip) (s : Nat) : Nat × Nat × Nat :=
  let k := dstKind c s
  (k, if k = 4 then 0 else dstIndex c s, if k = 7 then c.f (Reg.CEN_SLOT_DST s) 16 8 else 0)
/-- A destination names a unit that the part lacks. -/
def dstAbsent (p : Part) (c : Chip) (s : Nat) : Bool :=
  let i := dstIndex c s
  match dstKind c s with
  | 1 => decide (p.stages ≤ i)
  | 2 | 3 => decide (p.outlets ≤ i)
  | 5 => !p.hasAxes || decide (8 ≤ i)
  | 6 => decide (16 ≤ i)
  | 7 => decide (p.ports ≤ i)
  | _ => false
/-- A destination needs a port or an axis that does not stand. -/
def dstXref (p : Part) (c : Chip) (s : Nat) : Bool :=
  let i := dstIndex c s
  match dstKind c s with
  | 4 => (binPort p c).isNone
  | 5 => !(c.b (Reg.CEN_AX_CFG i) 31 && c.f (Reg.CEN_AX_CFG i) 0 10 == s) || c.b (Reg.CEN_SLOT_CTL s) 31
  | 7 => mapClass c i != 4
  | _ => false
/-- The slot of an axis in use does not send the axis's torque, or has CLOSE set (R280). -/
def axisXref (c : Chip) (a : Nat) : Bool :=
  let s := c.f (Reg.CEN_AX_CFG a) 0 10
  !(cenUsed c s && dstKind c s == 5 && dstIndex c s == a && !c.b (Reg.CEN_SLOT_CTL s) 31)
/-- An axis in use outside its ranges (Table: Engine checks): the words. -/
def axisBad (c : Chip) (a : Nat) : List Nat :=
  let lo := sgn (c.rd (Reg.CEN_AX_LIM_LO a))
  let hi := sgn (c.rd (Reg.CEN_AX_LIM_HI a))
  failAt (decide (lo < -16777215) || decide (hi ≤ lo)) (Reg.CEN_AX_LIM_LO a) ++ failAt (decide (16777215 < hi)) (Reg.CEN_AX_LIM_HI a)
    ++ failAt (!fPos (c.rd (Reg.CEN_AX_VMAX a))) (Reg.CEN_AX_VMAX a) ++ failAt (!fPos (c.rd (Reg.CEN_AX_AMAX a))) (Reg.CEN_AX_AMAX a)
    ++ failAt (!fPos (c.rd (Reg.CEN_AX_DSTOP a))) (Reg.CEN_AX_DSTOP a) ++ failAt (c.f (Reg.CEN_AX_FE a) 0 8 == 0) (Reg.CEN_AX_FE a)

/-- Table: Engine checks, less LOOP_CLOSED. -/
def cenFindings (p : Part) (c : Chip) (l : List (Nat × Word)) : List Finding :=
  if !(touchesIn l 0x48020000 0x48140000 || touches l [.cen, .cenAx]) then []
  else
    let slots := List.range 1024
    let used := slots.filter (cenUsed c)
    let axes := (List.range 8).filter (fun a => c.b (Reg.CEN_AX_CFG a) 31)
    let form := slots.flatMap (fun s =>
      failAt (decide (32 < cenNins c s) || (cenNins c s == 0 && c.b (Reg.CEN_SLOT_CTL s) 31)) (Reg.CEN_SLOT_CTL s)
        ++ failAt (decide (7 < dstKind c s) || (cenNins c s == 0 && dstKind c s != 0)) (Reg.CEN_SLOT_DST s)
        ++ failAt (!fFin (c.rd (Reg.CEN_SLOT_SAFE s))) (Reg.CEN_SLOT_SAFE s))
    let progs := used.flatMap (fun s =>
      ((List.range (min 32 (cenNins c s))).filter (insBad c s (cenNins c s))).map (Reg.CEN_PROG s) ++ bindWords c s bindBad)
    let points := (tkeys c.regs 0x48040000 0x48140000).filter (fun a => !fFin (c.rd a))
    let pins := ((List.range 4).filter (fun n => c.f (Reg.CEN_PIN_CFG n) 29 2 == 3 || decide (10 < c.f (Reg.CEN_PIN_CFG n) 20 4))).map Reg.CEN_PIN_CFG
    let absent := used.flatMap (fun s => bindWords c s (bindAbsent p) ++ failAt (dstAbsent p c s) (Reg.CEN_SLOT_DST s))
      ++ axes.flatMap (fun a => failAt (decide (p.ports ≤ c.f (Reg.CEN_AX_CFG a) 25 5) || decide (p.outlets ≤ c.f (Reg.CEN_AX_CFG a) 10 6)) (Reg.CEN_AX_CFG a))
    let xref := used.flatMap (fun s => bindWords c s (bindXref c)
      ++ failAt (dstXref p c s || (dstKind c s != 0 && used.any (fun t => t != s && dstKey c t == dstKey c s))) (Reg.CEN_SLOT_DST s)) ++ axes.flatMap (fun a => failAt (axisXref c a) (Reg.CEN_AX_CFG a))
    [(0x10, form ++ progs ++ points ++ pins ++ axes.flatMap (axisBad c)), (0x13, absent), (0x17, xref)]

/-- The slots that a coefficient entry concerns, given the configuration at its place (R273). -/
def coefSlots (c : Chip) (a : Nat) (v : Word) : List Nat :=
  if 0x48020000 ≤ a ∧ a < 0x48040000 then [(a - 0x48020000) / 128]
  else if 0x48040000 ≤ a ∧ a < 0x48140000 then
    (List.range 1024).filter (fun s => (List.range (min 32 (cenNins c s))).any (fun i =>
      let w := c.rd (Reg.CEN_PROG s i)
      fget w 27 5 == 0x0D && fget w 6 4 == (a - 0x48040000) / 0x10000))
  else match pageAt a with
    | some g =>
      if g.kind = .cen ∧ 0x400 ≤ a - g.base then
        let s := 64 * g.inst + (a - g.base - 0x400) / 0x20
        let off := (a - g.base - 0x400) % 0x20
        if off = 0 then (if (v ^^^ c.rd a) &&& 0x3FFFFFFF = 0 then [] else [s])
        else if off ≤ 0x10 then [s] else []
      else []
    | none => []
/-- LOOP_CLOSED at each entry's place (R147, R273): the list places that fail, over a configuration that takes the entries one by
one. `ax` gives the axes' states. -/
def loopClosed (ax : Nat → Nat) : List (Nat × Word) → Chip → List Nat
  | [], _ => []
  | (a, v) :: t, c =>
    failAt ((coefSlots c a v).any (fun s => cenUsed c s && cenAsked c ax s)) a ++ loopClosed ax t (c.wr a v)

/-- BUDGET (R43): no word of its own. -/
def budgetBad (p : Part) (c : Chip) (l : List (Nat × Word)) : Bool :=
  (touchesIn l 0x48010000 0x48040000 || touches l [.frm, .prt, .alcS, .alcO, .cen, .cenAx]) &&
    (decide (c.cuts.alc < alcWcet p c) || decide (c.cuts.cen < cenWcet c))

/-! ### The other blocks -/

/-- Table: Thermal checks, less IN_USE. -/
def thmFindings (p : Part) (c : Chip) (l : List (Nat × Word)) : List Finding :=
  let hyst (x thr : Nat) : Bool := x == 0 || decide (thr < x)
  let unit (w : Word) (top : Word) : Bool := fPos w && fLe w top
  let out (o : Nat) : List Nat :=
    let f (a lo w : Nat) := c.f a lo w
    let cf := Reg.THM_OCFG o
    let pt := Reg.THM_PTHR o
    let ct := Reg.THM_CTHR o
    let hy := Reg.THM_HYS o
    failAt (!(decide (f pt 24 8 < f pt 16 8) && decide (f pt 16 8 < f pt 8 8) && decide (f pt 8 8 ≤ 150))) pt
      ++ failAt (!(decide (f ct 24 8 < f ct 16 8) && decide (f ct 16 8 < f ct 8 8) && decide (f ct 8 8 ≤ 120))) ct
      ++ failAt (hyst (f hy 28 4) (f pt 24 8) || hyst (f hy 24 4) (f pt 16 8) || hyst (f hy 20 4) (f pt 8 8)
          || hyst (f hy 16 4) (f ct 24 8) || hyst (f hy 12 4) (f ct 16 8) || hyst (f hy 8 4) (f ct 8 8)) hy
      ++ (if !c.b cf 31 then [] else
          failAt (f cf 27 4 == 0 || decide (f (Reg.THM_OVD o) 16 16 < f cf 0 16)) cf
            ++ failAt (decide (30000 < f (Reg.THM_OVD o) 16 16)) (Reg.THM_OVD o)
            ++ failAt ((List.range 4).any (fun k => c.b cf (27 + k) && (let x := f (Reg.THM_SHARE o) (24 - 8 * k) 8; x == 0 || decide (128 < x)))) (Reg.THM_SHARE o)
            ++ failAt (!fPos (c.rd (Reg.THM_A_P o))) (Reg.THM_A_P o) ++ failAt (!unit (c.rd (Reg.THM_B_P o)) 0x3F000000) (Reg.THM_B_P o)
            ++ failAt (!unit (c.rd (Reg.THM_B_B o)) 0x3F000000) (Reg.THM_B_B o) ++ failAt (!unit (c.rd (Reg.THM_C_B o)) 0x3F000000) (Reg.THM_C_B o)
            ++ failAt (!unit (c.rd (Reg.THM_HOR_F o)) 0x3F800000) (Reg.THM_HOR_F o))
  let page (i : Nat) : List Nat :=
    let k := c.rd (Reg.THM_KOBS i)
    failAt (!(fFin k && (fZero k || !fSign k) && fLe k 0x3F800000)) (Reg.THM_KOBS i)
      ++ failAt (c.f (Reg.THM_GCFG i) 24 8 == 0 || decide (100 < c.f (Reg.THM_GCFG i) 16 8) || decide (120 < c.f (Reg.THM_GCFG i) 8 8)) (Reg.THM_GCFG i)
  let hkp : List Nat :=
    let w := c.f Reg.HKP_DIE_CFG 24 8
    let t := c.f Reg.HKP_DIE_CFG 16 8
    failAt (!(decide (80 ≤ w) && decide (w ≤ 110) && decide (90 ≤ t) && decide (t ≤ 120) && decide (w < t))) Reg.HKP_DIE_CFG
      ++ ((List.range 32).filter (fun k => c.f (Reg.HKP_CH_CFG k) 29 2 == 3 || (!c.b (Reg.HKP_CH_CFG k) 31 && !(decide (14 ≤ k) && decide (k ≤ 29))))).map Reg.HKP_CH_CFG
  (if touches l [.thm] then [(0x10, (List.range p.outlets).flatMap out ++ page 0 ++ (if 32 < p.outlets then page 1 else []))] else [])
    ++ (if touches l [.hkp] then [(0x10, hkp)] else [])

/-- The range checks of the frame, the ports, sessions, the Quoin and Ethernet (R347, R385; register texts of ch. 2, 12, 17, 24). -/
def rangeFindings (p : Part) (c : Chip) (l : List (Nat × Word)) : List Finding :=
  let prt (n : Nat) : List Nat :=
    let a := Reg.PRT_PHY_CFG n
    failAt (c.f a 0 8 == 0 || c.f a 16 8 == 0 || decide (100 < c.f a 16 8) || c.f a 8 8 == 0 || decide (48 < c.f a 8 8)) a
  let g := Reg.PRT_TP_GCFG
  let tp := failAt (decide (c.f g 28 4 < 4) || c.f g 20 8 == 0 || decide (c.f g 16 4 < 2) || c.f g 12 4 == 0) g
  let ses (i : Nat) : List Nat :=
    failAt (c.f (Reg.SES_PCFG i) 0 16 == 0) (Reg.SES_PCFG i) ++ failAt (c.f (Reg.SES_SCFG i) 24 8 == 0 || c.f (Reg.SES_SCFG i) 0 16 == 0) (Reg.SES_SCFG i)
      ++ (if touchesIn l (Reg.SES_RING_LO i) (Reg.SES_RING_HI i + 4) then failAt (!ringOk p (c.rd (Reg.SES_RING_LO i)) (c.rd (Reg.SES_RING_HI i))) (Reg.SES_RING_LO i) else [])
  let frm := failAt (decide (40 < c.f Reg.FRM_CFG 16 8) || c.f Reg.FRM_CFG 4 2 == 3) Reg.FRM_CFG
  let cold := c.f Reg.QN_CFG 0 8
  (if touches l [.prt] then [(0x10, (List.range p.ports).flatMap prt ++ tp)] else [])
    ++ (if touches l [.ses] then [(0x10, ses 0 ++ ses 1)] else [])
    ++ (if touches l [.frm] then [(0x10, frm)] else [])
    ++ (if touches l [.qn] then [(0x10, failAt (decide (cold < 2) || decide (200 < cold)) Reg.QN_CFG)] else [])
    ++ (if touches l [.eth] then [(0x10, ([0, 1] : List Nat).flatMap (fun i => failAt (c.f (Reg.ETH_CFG i) 0 2 == 3) (Reg.ETH_CFG i)))] else [])

/-- Service-region CAN controllers on a part (00 R2). -/
def canCount (p : Part) : Nat := if p.variant = .v5108 then 3 else 7
/-- Tables of CAN, Hedgerow, PWM and the aux switches, less IN_USE (R631, R656, R674, R692). `mem` and `old` serve the check for
duplicate EUIs, made where EN is being set to 1. -/
def ioFindings (p : Part) (mem : List Host.Cell) (old c : Chip) (l : List (Nat × Word)) : List Finding :=
  let can := ((List.range (canCount p)).filter (fun k =>
      !canTimingOk (c.rd (Reg.CAN_CTL k)) (c.rd (Reg.CAN_NBT k)) (c.rd (Reg.CAN_DBT k)))).map Reg.CAN_CTL
    ++ failAt (!ringOk p (c.rd Reg.CAN_RING_LO) (c.rd Reg.CAN_RING_HI)) Reg.CAN_RING_LO
  let ilv := c.f Reg.HDG_CFG 16 7
  let hops := c.f Reg.HDG_ROUTE 20 4
  let bs := c.f Reg.HDG_ROUTE 0 16
  let hdg := failAt (c.f Reg.HDG_CFG 29 2 == 3 || ilv == 0 || decide (111 < ilv) || decide (7 < c.f Reg.HDG_CFG 0 4)) Reg.HDG_CFG
    ++ failAt (hops == 0 || decide (8 < hops) || decide (bs < 5) || decide (600 < bs)) Reg.HDG_ROUTE
    ++ ((List.range 4).filter (fun k => c.b (Reg.HDG_NOTCH k) 31 && decide (c.f (Reg.HDG_NOTCH k) 16 10 < c.f (Reg.HDG_NOTCH k) 0 10))).map Reg.HDG_NOTCH
    ++ failAt (!ringOk p (c.rd Reg.HDG_RING_LO) (c.rd Reg.HDG_RING_HI)) Reg.HDG_RING_LO
  let dup : Bool := c.b Reg.HDG_CFG 31 && !old.b Reg.HDG_CFG 31 && hdgAddrs.any (hdgDup (c, mem))
  let ch := List.range 16
  let pwm := ch.flatMap (fun j =>
    let a := Reg.PWM_CH_CFG j
    let m := c.f a 24 4
    failAt ((decide (12 ≤ j) && (c.b a 22 || c.b a 20)) || (c.b a 28 && (m == j || c.b (Reg.PWM_CH_CFG m) 28))) a
      ++ failAt (decide (12 ≤ j) && c.rd (Reg.PWM_CH_DT j) != 0) (Reg.PWM_CH_DT j))
  let named := ((List.range 1024).filter (fun s => cenUsed c s && dstKind c s == 6)).map (dstIndex c)
  let pwmX := ((List.range 6).filter (fun t =>
      let b := Reg.PWM_CH_CFG (c.f (Reg.PWM_TRIP_CFG t) 24 4)
      c.b (Reg.PWM_TRIP_CFG t) 29 && (!c.b b 31 || c.b b (8 + t)))).map Reg.PWM_TRIP_CFG
    ++ (ch.filter (fun j => (c.b (Reg.PWM_CH_CFG j) 29 && !named.contains j) ||
          (named.contains j && !(c.b (Reg.PWM_CH_CFG j) 31 && c.b (Reg.PWM_CH_CFG j) 29)))).map Reg.PWM_CH_CFG
  let asw := ch.flatMap (fun j =>
    let a := Reg.ASW_CH_CFG j
    let i := c.f a 8 8
    let r := c.f (Reg.ASW_CH_LIM j) 0 10
    if !c.b a 31 then []
    else failAt (decide (i < 10) || decide (250 < i) || decide (20 < c.f a 16 5)) a
      ++ failAt (c.f (Reg.ASW_CH_I2T j) 0 16 == 0 || decide (1000 < c.f (Reg.ASW_CH_I2T j) 16 16)) (Reg.ASW_CH_I2T j)
      ++ failAt (r != 0 && (decide (r < i) || decide (3 * i < r))) (Reg.ASW_CH_LIM j))
  (if l.any (fun x => decide (0x70003000 ≤ x.1) && decide (x.1 < 0x70004000)) then [(0x10, can)] else [])
    ++ (if touches l [.hdg] then [(0x10, hdg), (0x17, failAt dup Reg.HDG_CFG)] else [])
    ++ (if touches l [.pwm] then [(0x10, pwm), (0x17, pwmX)] else [])
    ++ (if touches l [.asw] then [(0x10, asw)] else [])

/-! ### IN_USE, against live state (R20, R245, R319, R631, R656, R674, R692) -/

/-- A stage slot in use: a closed crosspoint, a move in flight or a current reference (R20). -/
def stageInUse (c : Chip) (s : Nat) : Bool := (xptCmd c s).isSome || xptFb c s != 0 || movBusy c s || lastRef c s != 0
/-- An outlet in use: a grant, or a session in any state but IDLE (R20). -/
def outletInUse (c : Chip) (o : Nat) : Bool := c.f (Reg.ALC_OUT_GRANT o) 0 16 != 0 || c.f (Reg.SES_STATE o) 28 4 != 0

/-- A unit in use that the change unmaps or moves, by live state: the address that FAIL_ADDR names and the ports before and after
(R150). -/
def mapInUse (p : Part) (c old new : Chip) : Option (Nat × Nat × Option Nat) :=
  let look (n : Nat) (use : Nat → Bool) (before after : Nat → Option Nat) (adr : Nat → Nat) : Option (Nat × Nat × Option Nat) :=
    (List.range n).findSome? (fun u => match before u with
      | some q => if before u != after u && use u then some (adr u, q, after u) else none
      | none => none)
  match look p.stages (stageInUse c) (stagePort p old) (stagePort p new) Reg.ALC_STG_CFG with
  | some x => some x
  | none => look p.outlets (outletInUse c) (outletPort p old) (outletPort p new) Reg.ALC_OUT_CFG

/-- A crosspoint position in use (R245). -/
def posInUse (c : Chip) (s k : Nat) : Bool :=
  let m := movOf c s
  let is (o : Option Nat) : Bool := match o with | some o => xptOutlet c s k == some o | none => false
  xptCmd c s == some k || (xptFb c s).testBit k || (movBusy c s && (is (movFrom c m) || is (movTo c m)))

/-- The words of a transaction that meet live state in use. -/
def inUseWords (p : Part) (old new : Chip) (l : List (Nat × Word)) : List Nat :=
  let diff (a : Nat) (m : Word) : Bool := (old.rd a ^^^ new.rd a) &&& m != 0
  let both (a : Nat) : Bool := old.b a 31 && new.b a 31
  let xpt := (entriesIn l 0x48000000 0x48008000).filter (fun a => old.rd a != new.rd a && posInUse old (xptOf a).1 (xptOf a).2)
  let thm := if touches l [.thm] then ((List.range p.outlets).filter (fun o =>
      old.b (Reg.THM_SHUT (o / 32)) (o % 32) && (old.rd (Reg.THM_OCFG o) &&& ~~~ new.rd (Reg.THM_OCFG o)) &&& 0xFE000000 != 0)).map Reg.THM_OCFG else []
  let can := (List.range (canCount p)).flatMap (fun k =>
    failAt (both (Reg.CAN_CTL k) && diff (Reg.CAN_NBT k) 0xFFFFFFFF) (Reg.CAN_NBT k) ++ failAt (both (Reg.CAN_CTL k) && diff (Reg.CAN_DBT k) 0xFFFFFFFF) (Reg.CAN_DBT k))
  let hdg := if both Reg.HDG_CFG then failAt (diff Reg.HDG_CFG 0x607F0000) Reg.HDG_CFG ++ failAt (diff Reg.HDG_RING_LO 0xFFFFFFFF) Reg.HDG_RING_LO
    ++ failAt (diff Reg.HDG_RING_HI 0xFFFFFFFF) Reg.HDG_RING_HI else []
  let pwm := (List.range 16).flatMap (fun j =>
      failAt (both (Reg.PWM_CH_CFG j) && diff (Reg.PWM_CH_CFG j) 0x7FFFFFFF) (Reg.PWM_CH_CFG j)
        ++ failAt (both (Reg.PWM_CH_CFG j) && diff (Reg.PWM_CH_DT j) 0xFFFFFFFF) (Reg.PWM_CH_DT j))
    ++ ((List.range 6).filter (fun t => both (Reg.PWM_TRIP_CFG t) && diff (Reg.PWM_TRIP_CFG t) 0x7FFFFFFF)).map Reg.PWM_TRIP_CFG
  let asw := ((List.range 16).filter (aswOn old)).flatMap (fun j =>
    failAt (diff (Reg.ASW_CH_CFG j) 0x0000FF00) (Reg.ASW_CH_CFG j) ++ failAt (diff (Reg.ASW_CH_I2T j) 0x0000FFFF) (Reg.ASW_CH_I2T j)
      ++ failAt (diff (Reg.ASW_CH_LIM j) 0x000003FF) (Reg.ASW_CH_LIM j))
  let own := l.map (·.1)
  xpt ++ thm ++ (can ++ hdg ++ pwm ++ asw).filter (own.contains ·)

end Sys2Proof.Machine
end

