-- ==== Sys2Proof/Machine/Proof.lean ====
section
/-! DEFINITION. The two passes of Proof (ch. 5, R146 to R154): the structural pass against the committed image with every accepted
transaction, and the boundary pass against live state. -/
namespace Sys2Proof.Machine

/-- A chip whose registers are a configuration image, for the checks to read. -/
def candOf (c : Chip) (m : RegTable) : Chip := { c with regs := m }
/-- The committed image with the accepted transactions before one (R147). -/
def basisOf (c : Chip) (k : Nat) : RegTable :=
  (c.gal.accepted.takeWhile (· != k)).foldl (fun m j => imagePut (c.slot j).list m) c.image

/-- PAIR_REQUIRED (R56, R385, R600, R610). -/
def pairRequired (c : Chip) (k : Nat) (old new : Chip) (l : List (Nat × Word)) : List Nat :=
  if c.role = 0 ∨ k = 3 then []
  else failAt (new.period != old.period) Reg.FRM_CFG ++ failAt (old.rd Reg.PRT_TP_GCFG != new.rd Reg.PRT_TP_GCFG) Reg.PRT_TP_GCFG
    ++ failAt (l.any (fun x => x.1 == Reg.QN_SWAP)) Reg.QN_SWAP
/-- PAIR_ABSENT of a structural pass (R151, R600): no word for the link, QN.SWAP for a planned swap. -/
def pairAbsent (c : Chip) (k : Nat) (l : List (Nat × Word)) : Bool × List Nat :=
  let swap := l.any (fun x => x.1 == Reg.QN_SWAP && fget x.2 0 8 != 0)
  let stands : Bool := if c.role = 1 then c.f Reg.QN_PARTNER 29 3 == 2 else c.role == 2
  (c.role != 0 && k == 3 && !c.b Reg.MIR_STAT 27, failAt (swap && !stands) Reg.QN_SWAP)

/-- The list place of a failing entry (R150): the first entry for a failing word, else the first on its page, else the first map
word, else the first entry. -/
def failPlace (l : List (Nat × Word)) (bad : List Nat) : Nat :=
  match l.findIdx? (fun x => bad.contains x.1) with
  | some i => i
  | none =>
    match l.findIdx? (fun x => bad.any (fun a => homePage a == homePage x.1)) with
    | some i => i
    | none => (l.findIdx? (fun x => (List.range 32).any (fun n => Reg.PRT_MAP n == x.1))).getD 0

/-- What a pass answers: a reason code, FAIL_ADDR and ENTRY; none where it passes. -/
abbrev PassEnd := Option (Nat × Nat × Nat)

/-- A failure tied to an entry. -/
def failEntry (code : Nat) (l : List (Nat × Word)) (bad : List Nat) : PassEnd :=
  let i := failPlace l bad
  some (code, (l[i]?.map (·.1)).getD 0, i)

/-- The first failing code of a list of findings among the codes given, in ascending order (R150). -/
def firstFail (l : List (Nat × Word)) (fs : List Finding) (codes : List Nat) : PassEnd :=
  codes.findSome? (fun k =>
    let bad := (fs.filter (fun f => f.1 == k)).flatMap (·.2)
    if bad = [] then none else failEntry k l bad)

/-- The structural pass of a slot (R147, R150, R151), for a target boundary. -/
def structuralPass (e : Env) (mem : List Host.Cell) (k : Nat) (target : BitVec 48) (c : Chip) : PassEnd :=
  let p := e.part
  let l := (c.slot k).list
  let base := basisOf c k
  let old := candOf c base
  let new := candOf c (imagePut l base)
  let fs := siteFindings p new l ++ alcFindings p new l ++ xptFindings new l ++ cenFindings p new l ++ thmFindings p new l
    ++ rangeFindings p new l ++ ioFindings p mem old new l
  let gone := (l.map (·.1)).filter (fun a => match placeOf p a with | .absent _ => true | _ => false)
  let clash := (l.map (·.1)).filter (fun a =>
    c.gal.accepted.any (fun j => j != k && (c.slot j).target == target && (c.slot j).list.any (fun x => x.1 == a)))
  let pa := pairAbsent c k l
  match firstFail l ((0x13, gone) :: fs) [0x10, 0x11, 0x12, 0x13] with
  | some x => some x
  | none =>
    if c.b (Reg.GAL_LIST k) 31 then some (0x14, 0, 0)
    else match firstFail l fs [0x15, 0x16, 0x17] with
      | some x => some x
      | none =>
        match firstFail l [(0x18, loopClosed (fun a => fget (rget c.bnd.regs (Reg.CEN_AX_STAT a)) 28 4) l old)] [0x18] with
        | some x => some x
        | none =>
          if budgetBad p new l then some (0x19, 0, 0)
          else match firstFail l [(0x1A, pairRequired c k old new l), (0x1B, clash)] [0x1A, 0x1B] with
            | some x => some x
            | none => if pa.1 then some (0x1C, 0, 0) else firstFail l [(0x1C, pa.2)] [0x1C]

/-- The boundary that a COMMIT accepted now would target, by the frame that it opens (R40, R145). -/
def commitTarget (e : Env) (c : Chip) : BitVec 48 :=
  BitVec.ofNat 48 (e.time.frameNo.toNat + (if c.frm.phase < 4 then 1 else 2))

/-- A passing COMMIT is accepted (R145), and its slot is open no longer (R136, R139); a standby keeps the pair slot's boundary that the active fixed (R160). -/
def galAccept (k : Nat) (target : BitVec 48) (c : Chip) : Chip :=
  let x := c.slot k
  let t := if k = 3 ∧ c.role = 2 ∧ x.target ≠ 0 then x.target else target
  let c1 := c.setSlot k { x with pass := 0, target := t, verdict := none, partner := none, marker := false }
  ((((c1.wr (Reg.GAL_TARGET k) (word t.toNat)).setF (Reg.GAL_STATE k) 28 4 4).onGal (fun g => { g with accepted := g.accepted ++ [k] })).refreshGalleys x.list).lead k
    (.commit (Fin.ofNat 4 k) t x.list.length)

/-- STRUCTURAL_PASS_COMPLETE: the pass that runs, the first of the checker's queue, ends (R144, R145, R148). -/
def execStructuralPassComplete (s : State) : Host.Outcome State Fault Refusal :=
  .next (onChip (fun e c =>
    match c.gal.queue with
    | [] => c
    | k :: t =>
      if !c.ctl then c
      else
        let c1 := c.onGal (fun g => { g with queue := t })
        let target := commitTarget e c
        match structuralPass e s.mem k target c with
        | some f => galFail e k f.1 f.2.1 f.2.2 c1
        | none =>
          let c2 := c1.setF (Reg.GAL_STATE k) 16 8 0
          if (c.slot k).pass = 2 then galAccept k target c2
          else (c2.setSlot k { c2.slot k with pass := 0 }).setF (Reg.GAL_STATE k) 28 4 3) s)

/-! ### The boundary pass (R153, R154) -/

/-- The boundary pass of one transaction (R151): IN_USE and LOOP_CLOSED against live state. `before` is the configuration with the
earlier transactions of the boundary's set that passed. -/
def boundaryPass (p : Part) (before : RegTable) (k : Nat) (c : Chip) : PassEnd :=
  let l := (c.slot k).list
  let old := candOf c before
  let new := candOf c (imagePut l before)
  match firstFail l [(0x18, loopClosed (fun a => c.img.axSt.getD a 0) l old)] [0x18] with
  | some x => some x
  | none =>
    let unit : PassEnd := if touches l [.prt] then
        (match mapInUse p c old new with
         | some (a, q, r) =>
           let last (n : Nat) : Option Nat := ((l.zipIdx.filter (fun x => x.1.1 == Reg.PRT_MAP n)).map (·.2)).getLast?
           some (0x1D, a, ((last q).orElse (fun _ => r.bind last)).getD 0)
         | none => none)
      else none
    match unit with
    | some x => some x
    | none => firstFail l [(0x1D, inUseWords p c (candOf c (imagePut l c.regs)) l)] [0x1D]

/-- A follower takes the active's verdict on slots 0 and 1, and makes no pass of its own (R159). -/
def galFollows (c : Chip) (k : Nat) : Bool := (c.role == 2 || c.role == 3) && (k == 0 || k == 1)

/-- One transaction of the boundary's set at its boundary pass; the configuration so far is carried along. What follows one that failed
has lost its basis (R154). The slot itself ends at the boundary (R153). -/
def boundaryOne (e : Env) (k : Nat) (q : Chip × RegTable) : Chip × RegTable :=
  let verdict (f : Nat × Nat × Nat) : Chip := q.1.setSlot k { q.1.slot k with verdict := some f.1, at' := f.2 }
  if q.1.slotState k ≠ 4 ∨ galFollows q.1 k then q
  else if (q.1.gal.cut.takeWhile (· != k)).any (fun j => (q.1.slot j).verdict.any (· != 0)) then (verdict (0x1F, 0, 0), q.2)
  else match boundaryPass e.part q.2 k q.1 with
    | some f => (verdict f, q.2)
    | none => (verdict (0, 0, 0), imagePut (q.1.slot k).list q.2)

/-- The commit cut of a frame and its boundary pass (Table: Imposition sequence): the set is fixed, and each transaction is judged in
acceptance order. -/
def commitCut (e : Env) (c : Chip) : Chip :=
  let set := c.gal.accepted.filter (fun k => decide ((c.slot k).target.toNat ≤ e.time.frameNo.toNat + 1))
  let c1 := c.onGal (fun g => { g with past := true, cut := set })
  (set.foldl (fun q k => boundaryOne e k q) (c1, c1.image)).1

/-- The chip's own verdicts go to the partner (R153): of the ACTIVE on each forwarded transaction of the set, of a standby on the pair
slot's. -/
def verdictsOut (c : Chip) : Chip :=
  eachOf (c.gal.cut.filter (fun k => c.roleIs 1 || (c.roleIs 2 && k == 3))) (fun k c =>
    match (c.slot k).verdict with
    | some v => c.forward k (.verdict (Fin.ofNat 4 k) v)
    | none => c) c

end Sys2Proof.Machine
end

