-- ==== Sys2Proof/Machine/Phases.lean ====
section
/-! DEFINITION. The cuts of a frame (ch. 2, R35): the boundary with Imposition, snapshot and Gather freeze, the bundle cut-off, the
Solve start, the Mirror/Impose start and the fixing of the verdicts. Each cut moves time to its cycle, and acts only after the one
before it (log entry 1). -/
namespace Sys2Proof.Machine

/-- The next cut of the frame has come: time passes to its cycle, and the count of cuts moves on. -/
def cutAt (phase n : Nat) (f : State → State) (s : State) : State :=
  if s.chip.ctl && s.chip.frm.phase == phase then
    f (onChip (fun _ c => c.onFrm (fun x => { x with phase := phase + 1 })) (s.reach n))
  else s

/-! ### Measured values of the tree (R185, R186) -/

/-- MEAS of a node with MEAS_EN: from a node record at the bundle cut-off, from an analogue input or a slot at the Gather freeze. -/
def measLatch (frozen : Bool) (c : Chip) : Chip :=
  eachOf ((tkeys c.regs 0x48010000 0x48014000).filter (fun a => a % 16 == 12 && c.b a 31)) (fun a c =>
    let w := c.rd a
    if (fget w 29 2 != 0) = frozen then c.wr (a - 4) (wordI (sourceValue c (fget w 29 2) (fget w 24 5) (fget w 16 8) (fget w 0 10))) else c) c

/-! ### The Gather freeze (R36) -/

/-- Heath's outlet stops: bit o for outlet o (15 R533). -/
def heathStops (h : Heath) : Nat := h.n Reg.HTH_OSTOP_LO + 2 ^ 32 * h.n Reg.HTH_OSTOP_HI

/-- What the freeze latches for an outlet beside its session: Heath's stop and the fence (R36, R96). -/
def outletFreeze (stops o : Nat) (c : Chip) : Chip := outInSet o 23 (c.outletFenced o) (outInSet o 27 (stops.testBit o) c)

/-- The fence maps of the loop slots' pages (R96, R111). -/
def slotFences (c : Chip) : List Word := (List.range 32).map (fun k => c.rd (Reg.PG_FENCEMAP (0x4001F000 + 0x1000 * (k / 2)) (k % 2)))

/-- GATHER_FREEZE (R36): the input image of the frame that opens. -/
def gatherFreeze (s : State) : State :=
  let stops := heathStops s.heath
  let run := s.heath.st.run
  onChip (fun e c =>
    let c1 := c.onImg (fun i => { i with heath := stops, gridSet := c.rd Reg.ALC_GRID_SET, hostDem := c.rd Reg.ALC_HOST_DEM_CAP,
                                         hostTrf := c.rd Reg.ALC_HOST_TRF_CAP, battSet := c.rd Reg.ALC_BATT_SET,
                                         batt := i.battNew, short := (List.range e.part.outlets).filter (outletShort e.part c),
                                         hkp := (List.range 32).map (fun k => (k, c.rd (Reg.HKP_CH_VAL k))), slotFmap := slotFences c })
    let c2 := eachBelow e.part.outlets (fun o c => outletFreeze stops o (sesFreeze o c)) c1
    let c3 := if e.part.hasMet then feedFreeze s.met c2 else c2
    let c4 := sagFreeze ((thmFreeze e c3).onImg (fun i => { i with ports := phyImage e c3 }))
    let c5 := measLatch true (cenFreeze e (fun k => run.testBit k) c4)
    let c6 := aswCmdLatch e c5
    { c6 with flt := { c6.flt with fresh := [] } }) s

/-- What a boundary commits (R101, R579): the words and the state from which a block of Control or Service restarts. -/
def boundaryCopy (c : Chip) : Chip :=
  { c with bnd := { regs := c.regs, alc := c.alc, mov := c.mov, cen := c.cen, thm := c.thm, tx := c.tp.map (fun x => (x.1, x.2.tx)), ses := c.ses, pwm := c.pwm, asw := c.asw },
           own := { snaps := c.snaps, phy := c.phy, tp := c.tp, cry := c.cry, pair := c.pair, can := c.can, hdg := c.hdg, hkp := c.hkp, hif := c.hif } }
/-- What it commits of Heath. -/
def Heath.commit (h : Heath) : Heath := { h with bnd := { regs := h.regs, st := h.st, can := h.can } }
/-- What it commits of Metrology. -/
def Met.commit (m : Met) : Met := { m with bnd := m.regs }
/-- The commit of every region (R101). -/
def State.commit (s : State) : State := { s with chip := boundaryCopy s.chip, heath := s.heath.commit, met := s.met.commit }

/-! ### Imposition (R99, R155, R221) -/

/-- The last value of each word of a list of entries, in order of the words' last entries. -/
def lastWords (l : List (Nat × Word)) : List (Nat × Word) := l.foldl (fun t x => t.filter (fun y => y.1 != x.1) ++ [x]) []

/-- A word takes its final value; marks with a staged 1 are cleared, and a fence map's word acts on its cells instead. -/
def imposeWord (x : Nat × Word) (c : Chip) : Chip :=
  if inFenceMap x.1 then c
  else if isMarkWord x.1 then c.wr x.1 (c.rd x.1 &&& ~~~ x.2)
  else c.wr x.1 ((c.rd x.1 &&& word (atOnce x.1)) ||| x.2)

/-- The cells that a fence-map word unfences. -/
def unfenced (x : Nat × Word) : List (Nat × Nat) :=
  match pageAt x.1 with
  | some g => if inFenceMap x.1 then ((List.range 32).filter (fbit x.2)).map (fun i => (g.base, (x.1 - g.base - 0x380) / 4 * 32 + i)) else []
  | none => []

/-- A cell's words that are not configuration read their reset values (R99). -/
def cellReset (page j : Nat) (c : Chip) : Chip :=
  match pageAt page with
  | some g =>
    let lo := page + 0x400 + g.stride * j
    { c with regs := c.regs.filter (fun x => !(decide (lo ≤ x.1) && decide (x.1 < lo + g.stride)) || imageWords x.1) }
  | none => c

/-- A cell starts again from its committed configuration with its state zero (R99, R241, R278, R345, R629). -/
def cellRestart (page j : Nat) (s : State) : State :=
  match pageAt page with
  | none => s
  | some g =>
    match g.kind with
    | .alcS => onChip (fun _ => cellReset page j) s
    | .alcO => onChip (fun _ c => (cellReset page j c).onAlc (fun a => { a with prev := tset (fun _ => 0) a.prev j 0, rel := tset (fun _ => 0) a.rel j 0 })) s
    | .movS => onChip (fun _ c => movRejoin false (64 * g.inst + j) (cellReset page j c)) s
    | .movM => onChip (fun _ c => movShow ((cellReset page j c).setMovSlot j {})) s
    | .cen => onChip (fun _ c => cenUnfence (64 * g.inst + j) (cellReset page j c)) s
    | .cenAx => onChip (fun _ c => (cellReset page j c).setAxis j {}) s
    | .thm => onChip (fun _ c => (cellReset page j c).setThmOut (32 * g.inst + j) {}) s
    | .ses => onChip (fun _ c => (cellReset page j c).setSes (32 * g.inst + j) {}) s
    | .prt => onChip (fun _ c => ((cellReset page j c).setTp j {}).setPhy j { due := true, latched := (c.phyOf j).latched, fell := (c.phyOf j).fell }) s
    | .pwm => onChip (fun e c => pwmDrive ((cellReset page j c).setPwmCh j { await := true, at' := e.time.up }) j false false) s
    | .asw => onChip (fun e c => aswFollow e j ((cellReset page j c).setAswCh j {})) s
    | .can => onCan j (canUnfence j) s
    | _ => s

/-- UNFENCE at an Imposition (R99, R774): a staged 1 for a cell that is not fenced has no effect. -/
def imposeUnfence (x : Nat × Nat) (s : State) : State :=
  if s.chip.fenced x.1 x.2 then
    eachOf (unitCells x.1 x.2) (fun y s => cellRestart y.1 y.2 s) (onChip (fun e c => c.unfence e x.1 x.2) s)
  else s

/-- A PWM channel's new configuration (R659, R660, R667): enabled, its counter starts, or it waits for the next reload of the counter that
it uses; disabled, it holds its safe state. -/
def pwmImposed (e : Env) (j : Nat) (old : Word) (c : Chip) : Chip :=
  if pwmEn c j && !fbit old 31 then
    let c1 := c.setPwmCh j { at' := e.time.up, await := c.b (Reg.PWM_CH_CFG j) 28 }
    pwmHoldUpdate j (if pwmSafe c1 j then pwmDrive c1 j false false else pwmBegin j e.time.up c1)
  else if !pwmEn c j then pwmDrive (c.setPwmCh j {}) j false false
  else c

/-- A word of the constraint tree's window (R185). -/
def isTreeWord (a : Nat) : Bool := decide (0x48010000 ≤ a) && decide (a < 0x48014000)

/-- What a word that an Imposition has written does beside its value, given the words before it and every entry of the set. -/
def imposedHook (old : RegTable) (all : List (Nat × Word)) (a : Nat) (s : State) : State :=
  match pageAt a with
  | none => if isTreeWord a then onChip (fun _ c => if a % 16 = 12 ∧ !c.b a 31 then c.wr (a - 4) 0 else c) s else s
  | some g =>
    let off := a - g.base - 0x400
    let cell := decide (0x400 ≤ a - g.base)
    let j := off / g.stride
    let r := off % g.stride
    let was := rget old a
    match g.kind with
    | .frm => if a = Reg.FRM_CFG then onChip (fun e c => frmCfgImposed e was c) s else if a = Reg.FRM_CTRL then onChip (fun e c => resumeImposed e c) s else s
    | .thm => if cell && r == 0 then onChip (fun e c => thmImposed e (32 * g.inst + j) was c) s else s
    | .prt =>
      if cell && r == 0 then onChip (fun e c => prtMapImposed e j c) s
      else if cell && r == 4 then onChip (fun e c => phyImposed e j was c) s else s
    | .cen =>
      if cell && r == 0 then onChip (fun _ c => cenImposed all (64 * g.inst + j) c) s
      else if cell && (r == 4 || r == 8) then onChip (fun _ c => bindImposed (64 * g.inst + j) (r / 2 - 2) was (c.rd a) c) s
      else s
    | .qn => if a = Reg.QN_SWAP then onChip (fun e c => swapImposed e c) s else s
    | .can => if cell && r == 0 then onCan j (canImpose j was) s else s
    | .pwm => if cell && r == 0 then onChip (fun e c => pwmShowBlank (pwmImposed e j was c)) s else onChip (fun _ c => pwmShowBlank c) s
    | .hdg => onChip (fun e c => hdgShowDrv e c) s
    | .pwr => onChip (fun _ c => chargeShow c) s
    | _ => s

/-- The code with which a transaction of the set fails at its boundary (R153, R154, R160): its own verdict's, else PAIR_VERDICT, else
PAIR_ABSENT. -/
def galCode (c : Chip) (k : Nat) : Nat :=
  match (c.slot k).verdict with
  | some 0 => if (c.slot k).partner.isSome then 0x1E else 0x1C
  | some v => v
  | none => 0x1C

/-- One transaction of the boundary's set that does not pass: it fails with its code, and the pair slot shows the partner's; what was accepted
after it has lost its basis (R154). A follower that lacks the active's verdict drops it with FOLLOW_GAP (R159). -/
def galJudgeOne (e : Env) (k : Nat) (c : Chip) : Chip :=
  if c.slotState k ≠ 4 ∨ galPassing c k then c
  else if galFollows c k ∧ (c.slot k).verdict = none then ((galDrop k c).setF (Reg.GAL_STATE k) 28 4 0).perr e 0x40002000 19
  else
    let x := c.slot k
    let after := galAfter c k
    let c1 := galFail e k (galCode c k) x.at'.1 x.at'.2 c
    galBasisLost e after (if k = 3 then c1.setF (Reg.GAL_FAIL_INFO 3) 16 8 (x.partner.getD 0) else c1)

/-- The set of a boundary judged (R153 to R160). On a standby a pair-slot transaction whose own pass came too late for its boundary fails with
PAIR_ABSENT. -/
def galJudge (e : Env) (c : Chip) : Chip :=
  let c1 := eachOf c.gal.cut (galJudgeOne e) c
  let x := c1.slot 3
  if c1.role = 2 ∧ !c1.gal.cut.contains 3 ∧ (c1.slotState 3 = 2 ∨ c1.slotState 3 = 4) ∧ x.target ≠ 0 ∧ x.target.toNat ≤ e.time.frameNo.toNat then
    galFail e 3 0x1C 0 0 c1
  else c1

/-- IMPOSITION (R155 to R157): the words of the passing transactions, their outcomes, what the words do, the unfences, and the
counts that follow from the configuration (R42, R591). `s` stands at cycle 0 of the frame that opens. -/
def imposition (s : State) : State :=
  let s1 := onChip (fun e c => galJudge e c) s
  let set := s1.chip.gal.cut.filter (fun k => s1.chip.slotState k == 4)
  let s2 := onChip (fun _ c => eachOf set (fun k c => if (c.slot k).marker then c else galMark k c) c) s1
  let all := set.flatMap (fun k => (s2.chip.slot k).list)
  let old := s2.chip.regs
  let words := lastWords all
  let s3 := onChip (fun e c =>
    let c1 := eachOf set (fun k c => galImposed e k c) (eachOf words imposeWord c)
    c1.onGal (fun g => { g with past := false, cut := [] })) s2
  if all = [] then s3
  else
    let s4 := { s3 with env := { s3.env with time := { s3.env.time with len := s3.chip.cuts.nom } } }
    let s5 := eachOf words (fun x s => imposedHook old all x.1 s) s4
    let s6 := eachOf (words.flatMap unfenced) imposeUnfence s5
    onChip (fun e c => (wcetShow e.part c).wr Reg.QN_CFG_CRC (Config.configCrc c.image)) s6

/-! ### The pair at a boundary (R97, R580, R587, R593, R601) -/

/-- The anchor moves to this boundary (R587). -/
def anchorSet (e : Env) (c : Chip) : Chip :=
  ((c.wr Reg.MIR_ANCHOR (e.time.frameNo.setWidth 32)).setB Reg.MIR_STAT 27 true).onPair (fun p => { p with anchor := some (mirrorCopy c) })

/-- The counts and flags of the frame that ended (R580, R593): heartbeat, shadowing, closing, equality. -/
def pairShow (c : Chip) : Chip :=
  let p := c.pair
  let c1 := if p.hbGot then c else c.setB Reg.QN_PARTNER 15 false
  let c2 := if mirShadows c && !p.shadowed then c1.sat Reg.MIR_CNT 16 8 1 else c1
  let c3 := if mirShadows c && !p.closed then c2.sat Reg.MIR_CNT 24 8 1 else c2
  ((c3.setB Reg.MIR_STAT 26 p.shadowed).setB Reg.MIR_STAT 25 p.closed).setB Reg.MIR_STAT 24 p.equal

/-- What the ended frame leaves to the next one. -/
def pairClear (c : Chip) : Chip :=
  c.onPair (fun p => { p with hbPrev := p.hbOwn, hbOwn := false, hbGot := false, mirror := if p.next.isSome then p.next else p.mirror,
                              wait := p.wait.map (· - 1), imgGot := false, closed := false, shadowed := false, mine := none, theirs := none,
                              equal := false, handover := false, skip := false, evalDue := false, fences := [], marks := [], shuts := [], bndPull := none, sesOut := [] })

/-- The swap frame has ended without a comparison that found it equal (R602). -/
def swapOver (e : Env) (c : Chip) : Bool :=
  swapPending c && !c.pair.equal && c.rd Reg.QN_SWAP_AT + 1 == e.time.frameNo.setWidth 32

/-- The pair's part of a boundary: adoptions, the anchor, the end of a planned swap, a release for a Service restart. -/
def pairBoundary (s : State) : State :=
  if s.chip.role = 0 then s
  else
    let s1 := onChip (fun e c =>
      let c1 := eachOf c.pair.fences (adoptFence e) (pairShow c)
      let c2 := eachOf c.pair.shuts (fun x c => c.setB (Reg.THM_SHUT (x.1 / 32)) (x.1 % 32) x.2) c1
      if c.pair.equal then anchorSet e c2 else c2) s
    let p := s1.chip.pair
    let s2 := if p.swapping then roleSet 2 6 (onChip (fun e c => swapEnd e none c) s1)
      else if p.swapIn then roleSet 1 6 (onChip (fun e c => swapEnd e none c) s1)
      else if p.handover then
        roleSet 3 0xB (onChip ownerLost s1)
      else if swapOver s1.env s1.chip then onChip (fun e c => swapEnd e (some 1) c) s1
      else s1
    onChip (fun _ c => { pairClear c with sent := [] }) s2

/-! ### The boundary -/

/-- The precision-time clock captured (R739): zero while it is off. -/
def ptpCapture (c : Chip) : Chip :=
  let on : Bool := c.svc && c.b Reg.ETH_PTP_CFG 31
  let h := c.hif
  ((c.wr Reg.ETH_BND_NS (if on then word (ptpNs h) else 0)).wr Reg.ETH_BND_S_LO (if on then word (ptpSec h) else 0)).wr Reg.ETH_BND_S_HI
    (if on then word (ptpSec h / 2 ^ 32) else 0)

/-- The frame number advances, and SITE_TIME by the ended frame's length (R69, R70). -/
def nextFrame (s : State) : State :=
  let t := s.env.time
  { s with env := { s.env with time := { t with frameNo := t.frameNo + 1, offset := 0, bndTime := t.bndTime + BitVec.ofNat 64 t.len, len := s.chip.cuts.nom } } }

/-- The partner's marks hold on this chip from the boundary that ends their frame, beside its own (R221). -/
def adoptMarks (c : Chip) : Chip := eachOf c.pair.marks (fun x c => c.wr x.1 (c.rd x.1 ||| x.2)) c

/-- The input image of the frame that ended is kept (R92). -/
def imageKeep (c : Chip) : Chip := { c with flt := { c.flt with inWas := c.regs.filter (fun x => isInput x.1), imgWas := c.img } }

/-- A frame opens at the boundary: snapshot, frame clock, sessions, the Gather freeze, and what the boundary commits (R35). `mode`
is the sync mode in force before the boundary; `pull` comes from a BOUNDARY item that came before it (R582). -/
def openFrame (mode : Nat) (pull : Option Int) (s : State) : State :=
  let s1 := frmOpen mode (snapCapture (onChip (fun _ => cenShowFences) s))
  let s2 := match pull with | some x => pullFrame x s1 | none => s1
  let s3 := onChip (fun e c => eachBelow 16 (cenDuty e) (tpBoundary (eachBelow e.part.outlets sesBoundary c))) s2
  onChip (fun _ c => c.onFrm (fun f => { f with phase := 0 })) (gatherFreeze (onChip (fun _ => imageKeep) s3)).commit

/-- FRAME_BOUNDARY: the frame's length has run (R35). Blocks that have not restarted by its last cycle hold it back until their region
restarts (R102). -/
def execFrameBoundary (s : State) : Host.Outcome State Fault Refusal :=
  .next (if s.chip.ctl && s.chip.frm.phase == 5 && s.chip.flt.held.isEmpty then
      let s0 := onChip (fun e c => phyLatch e (alcShow c)) (s.reach s.env.time.len)
      let c := s0.chip
      let len := s0.env.time.len
      let miss := match binPort s0.env.part c with | some n => decide (0 < missRun c n) | none => true
      let s1 := imposition (onChip (fun _ c => adoptMarks (ptpCapture c)) (nextFrame s0))
      let s2 := pairBoundary (onMet (fun e m => metBoundary e len c.img.battNew.pMeas (c.n Reg.ALC_LIM_AUX) miss (m, [])) s1)
      openFrame (syncMode c) c.pair.bndPull s2
    else s)

/-! ### The cuts within a frame -/

/-- What the bundle cut-off evaluates (R37, R223, R288, R395): feedback, sessions, cable cooling, then the move sequencer. -/
def evaluations (e : Env) (c : Chip) : Chip :=
  let c1 := eachBelow e.part.stages (movFeedback e.part) c
  let c2 := if e.part.hasAxes then eachBelow 8 axFeedback c1 else c1
  movEvaluate e (thmEvaluate e (sesEvaluate e (measLatch false c2)))

/-- BUNDLE_CUT_OFF (R37): ports without a bundle are missed, the chip's heartbeat goes out, and the evaluations run; a shadow waits
for the forwarded image, and a BARRED chip computes nothing (R584, R590). -/
def execBundleCutOff (s : State) : Host.Outcome State Fault Refusal :=
  .next (cutAt 0 s.chip.cuts.cut (onChip (fun e c =>
    let c1 := eachBelow e.part.outlets (outCutOff e.part) (chanCutOff (eachBelow e.part.ports tpCutOff c))
    let c2 := c1.onPair (fun p => { p with hbOwn := true })
    if c.role = 4 ∨ c.pair.skip then c2
    else if c.role ≠ 0 ∧ mirShadows c then c2.onPair (fun p => { p with evalDue := true })
    else evaluations e c2)) s)

/-- SOLVE_START (R41): the Quoin watchdog and the partner's heartbeat are checked, evaluations that waited are made, and the Solve
begins (R576, R580, R593). -/
def execSolveStart (s : State) : Host.Outcome State Fault Refusal :=
  .next (cutAt 1 s.chip.cuts.solve (fun s =>
    let s1 := onChip (fun e c => partnerBeat e c) (quoinWatch s)
    onChip (fun e c =>
      let c1 := (movFinish e c).onPair (fun p => { p with shadowed := p.imgGot, evalDue := false })
      let c2 := if c.pair.evalDue then movFinish e (evaluations e c1) else c1
      if c.role = 4 then c2 else solveBegin e c2) s1) s)

/-- MIRROR_IMPOSE_START (R153, R585, R603): the commit cut with the boundary pass, the comparison set, and a swap frame that is too
short. -/
def execMirrorImposeStart (s : State) : Host.Outcome State Fault Refusal :=
  .next (cutAt 3 s.chip.cuts.mirror (onChip (fun e c =>
    let c1 := swapMove e (commitCut e c)
    if c.role = 0 ∨ c.role = 4 then c1 else c1.onPair (fun p => { p with mine := some (cmpSet e.part c) }))) s)

/-- A follower without a forwarded entry imposes nothing of this boundary's set, and joins again from step 4 (R159, R589). -/
def followGap (s : State) : State :=
  if (s.chip.role = 2 ∨ s.chip.role = 3) ∧ s.chip.gal.gap then
    let s1 := onChip (fun e c =>
      let c1 := eachOf (c.gal.cut.filter (· != 2)) (fun k c => if k = 3 then galFail e 3 0x1C 0 0 c else (galDrop k c).setF (Reg.GAL_STATE k) 28 4 0) c
      (c1.perr e 0x40002000 19).onGal (fun g => { g with gap := false })) s
    onChip (fun e c => resyncLog e false 4 (joinTo 4 c)) (roleSet 3 7 s1)
  else s

/-- GALLEY_VERDICTS_FIXED (R153): at M + 1,000 the chip's own verdicts stand and go to the partner. -/
def execGalleyVerdictsFixed (s : State) : Host.Outcome State Fault Refusal :=
  .next (cutAt 4 (s.chip.cuts.mirror + 1000) (fun s => followGap (onChip (fun _ c => verdictsOut c) s)) s)

/-- MRAM_MARKER_WRITTEN: from M + 1,400 the marker of the next passing transaction of this boundary's set completes, in acceptance order
(R153, R156). On a standby that lacks forwarded entries none is written (R159). -/
def execMramMarkerWritten (s : State) : Host.Outcome State Fault Refusal :=
  let s := if !s.chip.gal.gap && (markNext s.chip).isSome then reachIn 5 (s.chip.cuts.mirror + 1400) s else s
  .next (onChip (fun e c =>
    if c.ctl && !c.gal.gap && decide (c.cuts.mirror + 1400 ≤ e.time.offset) then
      match markNext c with
      | some k => galMark k c
      | none => c
    else c) s)

end Sys2Proof.Machine
end

