-- ==== Sys2Proof/Machine/Power.lean ====
section
/-! DEFINITION. Supplies, resets and start-up (ch. 22): rails, RESET_N, the reset command, the starts of the Control region and of
Heath, domain supplies, and housekeeping with the die shutdown (09 R312 to R315). -/
namespace Sys2Proof.Machine

/-- Supplies and resets changed. -/
def Chip.onPwr (c : Chip) (f : PowerSt → PowerSt) : Chip := { c with pwr := f c.pwr }

/-! ### Debug session (24 R741) -/

/-- A debug session that is unlocked ends: halted cores resume, the end is counted and logged (24 R741, R745). -/
def dbgEnd (e : Env) (c : Chip) : Chip :=
  if c.f Reg.OSP_DBG 30 2 = 0 then c
  else (((c.setF Reg.OSP_DBG 30 2 0).sat Reg.OSP_DBG 0 16 1).onHif (fun h => { h with halted := 0 })).log1 e 0x2B 0 0x02 0

/-! ### Start of the Control region (R69, R156, R169, R592, R704, R707) -/

/-- Bits of a staged word that act at an Imposition and read 0 after it (R53, R302, R309, R330, R600). -/
def actingBits (a : Nat) : Word :=
  match pageAt a with
  | some g =>
    let off := a - g.base
    if a = Reg.FRM_CTRL then 1
    else if a = Reg.QN_SWAP then 0xFFFFFFFF
    else if off < 0x400 then 0
    else if g.kind = .prt ∧ (off - 0x400) % 0x40 = 4 then fmask 29 1
    else if g.kind = .thm ∧ (off - 0x400) % 0x40 = 0 then fmask 18 7
    else 0
  | none => 0

/-- The words of the committed image that a region's start loads (R101, R707): fence maps and marks come from the fault record. -/
def loadImage (mine : Nat → Bool) (c : Chip) : Chip :=
  eachOf (c.image.filter (fun x => mine x.1 && imageWords x.1 && !inFenceMap x.1 && !isMarkWord x.1))
    (fun x c => c.wr x.1 (x.2 &&& ~~~ actingBits x.1)) c

/-- The code that PWR.RST_CAUSE takes: the lowest of those that brought the region down (R704). -/
def startCause (c : Chip) : Nat := c.pwr.causes.foldl min 15

/-- The region runs again from its image (R704, R707); `valid` says that a copy of the image is valid. -/
def controlLoad (valid : Bool) (c : Chip) : Chip :=
  let c1 : Chip := if valid then c else { c with image := [] }
  let c2 := (loadImage inControl c1).setRgn .control 0
  let cause := startCause c
  let c3 := (c2.setF Reg.PWR_RST_CAUSE 28 4 cause).sat Reg.PWR_RST_CAUSE 0 16 1
  let c4 := c3.setB Reg.PWR_STAT 27 (!valid)
  if valid then c4 else c4.setB Reg.PWR_EVT 4 true

/-- What the start logs (R156, R704, R707, R710): the start, a lost image, a low VBAK, and the transactions that it ended. -/
def startLog (e : Env) (c : Chip) : Chip :=
  let c1 := c.log1 e 0x27 0 0x01 (c.f Reg.PWR_RST_CAUSE 28 4 * 2 ^ 28)
  let c2 := if c.b Reg.PWR_STAT 27 then c1.log1 e 0x27 0 0x02 0 else c1
  let c3 := if c.pwr.bakDue then c2.log1 e 0x27 0 0x04 (c.f Reg.PWR_STAT 0 16) else c2
  let c4 := eachOf c.gal.ended (fun x c =>
    if x.2.1 then (c.wr Reg.GAL_SEQ (word (c.n Reg.GAL_SEQ + 1))).log1 e 0x03 0 0x01 x.2.2 else c.log1 e 0x03 0 0x02 x.2.2) c3
  (c4.onPwr (fun p => { p with bakDue := false, causes := [] })).onGal (fun g => { g with ended := [] })

/-- The entries that Heath and Metrology kept are appended with their own stamps (R169): after the start's own, all of Heath's and then all of
Metrology's, not by stamp (DESIGN CHOICE, log entry 51). -/
def keptAppend (s : State) : State :=
  let c := eachOf (s.heath.kept ++ s.met.kept) (fun x c => c.put x) s.chip
  { s with chip := c, heath := { s.heath with kept := [] }, met := { s.met with kept := [] } }

/-- The pair at the start (R567, R592, R608): a SOLO chip owns at once; in PAIR mode the chip joins, or claims a free line where
ROLE_PRI is strapped. `rejoin` says that REJOIN brought the start about. -/
def pairStart (rejoin : Bool) (s : State) : State :=
  let pair := s.chip.b Reg.QN_CFG 31
  let s1 := onChip (fun e c =>
    let c1 := ((c.setB Reg.QN_STAT 27 e.part.rolePri).setB Reg.QN_STAT 26 pair).setB Reg.QN_STAT 25 c.pwr.quoinB
    c1.onPair (fun p => { p with hbPrev := true })) s
  if pair then
    let s2 := roleSet 3 (if rejoin then 9 else 1) (onChip (fun e c => mirLink e 2 c) s1)
    onChip (fun e c => if c.pri && !c.partnerLow then quoinClaim e 0xA c else c) s2
  else onChip (fun e c => hdgShowDrv e (gateOpen e (c.onPair (fun p => { p with low := true })))) s1

/-- What the blocks do at a start of the Control region (R241, R302, R330): ports train, stages derive their state. -/
def blocksStart (e : Env) (c : Chip) : Chip :=
  let c1 := eachBelow e.part.ports (fun n c => phyImposed e n 0 c) c
  let c2 := eachBelow e.part.stages (movRejoin true) c1
  let c3 := (wcetShow e.part (sdrShow c2)).wr Reg.QN_CFG_CRC (Config.configCrc c.image)
  c3.onFrm (fun f => { f with prelock := syncMode c3 == 2 })

/-- CONTROL_REGION_START (R69, R707): the region starts at the boundary of frame 0. -/
def controlStart (valid : Bool) (s : State) : State :=
  let rejoin := startCause s.chip == 0xA
  let s1 := onChip (fun _ c => { controlLoad valid c with tp := [] }) s
  let s2 := { s1 with env := { s1.env with time := { up := s.env.time.up, len := s1.chip.cuts.nom } } }
  let s3 := keptAppend (onChip startLog (onMet (fun _ m => (metNewSeries m, [])) s2))
  let s4 := onChip (fun e c => dbgEnd e (blocksStart e (ptpCapture c))) (pairStart rejoin s3)
  openFrame (syncMode s4.chip) none s4

/-- CONTROL_REGION_START: the region comes up from the committed image; `valid` says that one of the image's copies is valid. -/
def execControlRegionStart (valid : Bool) (s : State) : Host.Outcome State Fault Refusal :=
  .next (if s.chip.rgn .control = 1 then controlStart valid s else s)

/-! ### Start of Heath (15 R520, R534, R554) -/

/-- Heath evaluates from its committed configuration, every function in STOP with PWR_RST set; the housekeeping round starts (R312). -/
def heathStart (s : State) : State :=
  let s1 := onHeath (fun e h =>
    let h1 := (h.setB Reg.HTH_STAT 25 e.part.rolePri).setB Reg.HTH_STAT 29 e.part.safeMaster
    let h2 := h1.setB Reg.HTH_STAT 30 (hthPair h == 1 && !e.part.safeMaster)
    (swAll e.part (hthSd s) (rstShow 1 (rstShow 0 (eachBelow 16 fnShow (eachBelow 16 inShow (h2.onSt (fun t => { t with startAt := e.time.up, tpAt := [] })))))), [])) s
  onChip (fun e c => ({ c with hkp := { c.hkp with start := e.time.up, done := 0 } }.wr Reg.HKP_ROUND 0).setRgn .heath 0) s1

/-- VDDA is good: Heath and housekeeping have their supply. -/
def vddaGood (c : Chip) : Bool := !c.pwr.rails.testBit 3

/-- HEATH_START: Heath starts (R706). -/
def execHeathStart (s : State) : Host.Outcome State Fault Refusal :=
  .next (if s.chip.rgn .heath = 1 && vddaGood s.chip then heathStart s else s)

/-! ### Rails (R695 to R698) -/

/-- Nothing holds Control and Service in reset: rails, RESET_N, a die shutdown, CHIP_HELD. -/
def startFree (c : Chip) : Bool := c.pwr.rails == 0 && !c.pwr.rstLow && !c.hkp.dieSd && !c.b Reg.CHIP_ESC 5

/-- Control and Service begin to start. -/
def startBegin (e : Env) (c : Chip) : Chip := (rgnDown e .service 1 (rgnDown e .control 1 c)).onPwr (fun p => { p with held := false })

/-- Housekeeping without its supply: its words read their reset values; a die shutdown stands (R315), and the
corrections hold (R316). -/
def hkpClear (c : Chip) : Chip :=
  { c with regs := c.regs.filter (fun x => !(decide (0x70007000 ≤ x.1) && decide (x.1 < 0x70008000)) || fenceKept x.1 || x.1 == Reg.HKP_COMP), hkp := { dieSd := c.hkp.dieSd } }

/-- A VDDA fault (R698): Heath loses its supply, Metrology goes over to VBAK. -/
def vddaFault (s : State) : State :=
  let s1 := onMet (fun e m => (metToBackup e m, [])) (heathDown 2 s)
  onChip (fun e c => chargeShow (hkpClear (rgnDown e .heath 2 c))) s1

/-- RAIL_FAULT: rail `r` (0 VDD_CORE, 1 and 2 the VDDIO banks, 3 VDDA) stops being good (R695, R698). -/
def execRailFault (r : Fin 4) (s : State) : Host.Outcome State Fault Refusal :=
  .next (if s.chip.pwr.rails.testBit r.val then s
    else
      let s1 := onChip (fun _ c => latchesReset true c) <| chipHold (onChip (fun _ c =>
        let c1 := (c.sat Reg.PWR_RAIL_FLT (8 * r.val) 8 1).setB Reg.PWR_EVT 2 true
        let cause := if r.val = 0 then 4 else if r.val = 3 then 6 else 5
        (c1.setB Reg.CHIP_ESC 5 false).onPwr (fun p => { p with rails := p.rails ||| 2 ^ r.val, held := true, causes := cause :: p.causes })) s)
      if r.val = 3 then vddaFault s1 else s1)

/-- RAIL_GOOD: the rail has been in range for 1 ms (R695); with VDDA Heath may start. -/
def execRailGood (r : Fin 4) (s : State) : Host.Outcome State Fault Refusal :=
  .next (onChip (fun e c =>
    if c.pwr.rails.testBit r.val then
      let c1 := c.onPwr (fun p => { p with rails := p.rails ^^^ 2 ^ r.val })
      if r.val = 3 then chargeShow (if c.rgn .heath = 2 then rgnDown e .heath 1 c1 else c1) else c1
    else c) s)

/-- The first supplies valid since power-on (R704): Control, Service and Heath start, with cause 1; a part without Metrology shows
that region absent. -/
def powerOn (s : State) : State :=
  let s1 := heathDown 1 (controlDown 1 (serviceDown 1 s))
  onChip (fun e c =>
    let c1 := (rgnDown e .heath 1 c).onPwr (fun p => { p with on := true, held := false, causes := 1 :: p.causes })
    if e.part.hasMet then c1 else c1.setRgn .metrology 3) s1

/-- SUPPLIES_VALID: every main rail is good while RESET_N reads high (R696). -/
def execSuppliesValid (s : State) : Host.Outcome State Fault Refusal :=
  .next (if s.chip.pwr.rails ≠ 0 ∨ s.chip.pwr.rstLow then s
    else if !s.chip.pwr.on then powerOn s
    else if s.chip.pwr.held && startFree s.chip then onChip startBegin s
    else s)

/-- BAK_LOW: VBAK has lain below 2.5 V for 1 s; logged at the next start (R701). -/
def execBakLow (s : State) : Host.Outcome State Fault Refusal :=
  .next (onChip (fun _ c => ((c.setB Reg.PWR_STAT 29 true).setB Reg.PWR_EVT 3 true).onPwr (fun p => { p with bakDue := true })) s)

/-! ### RESET_N (R703 to R705) -/

/-- Both dies read below 125 °C (R315). -/
def diesCool (c : Chip) : Bool :=
  ([0, 1] : List Nat).all (fun d => match hkpSensor c d with | some s => decide (hkpVal c s < 1250) | none => false)

/-- The end of a die shutdown (R315): the safety outputs need a reset edge. -/
def dieEnd (s : State) : State :=
  let s1 := onChip (fun _ c =>
    let c1 : Chip := { c with hkp := { c.hkp with dieSd := false } }
    (c1.setB Reg.HKP_EVT 6 true).onPwr (fun p => { p with causes := 9 :: p.causes.filter (· != 2) })) s
  if hthOn s1 then onHeath (fun e h => let x := fnStopAll true (h, []); (swAll e.part false x.1, x.2)) s1 else s1

/-- RESET_N_ASSERT: a low of 50 ns is recognised (R703): Control and Service are held in reset; CHIP_HELD and, with both dies cool, a
die shutdown end (R109, R315). -/
def execResetNAssert (s : State) : Host.Outcome State Fault Refusal :=
  .next (if s.chip.pwr.rstLow then s
    else
      let s1 := onChip (fun _ c => latchesReset false c) (chipHold s)
      let s2 := onChip (fun _ c => (c.setB Reg.CHIP_ESC 5 false).onPwr (fun p => { p with rstLow := true, held := true, causes := 2 :: p.causes })) s1
      if s.chip.hkp.dieSd && diesCool s.chip then dieEnd s2 else s2)

/-- RESET_N_RELEASE: RESET_N has been high for 100 µs; Control and Service start unless something else holds them (R703). -/
def execResetNRelease (s : State) : Host.Outcome State Fault Refusal :=
  .next (onChip (fun e c =>
    if c.pwr.rstLow then
      let c1 := c.onPwr (fun p => { p with rstLow := false })
      if c.pwr.on && startFree c1 then startBegin e c1 else c1
    else c) s)

/-- A write of PWR.RST_CMD after its checks (R705): as a 1 µs low on RESET_N, or KEY_ERR. -/
def rstWrite (v : Word) (s : State) : State :=
  if fget v 8 8 = 0xA5 ∧ fbit v 0 then
    onChip (fun e c => startBegin e ((latchesReset false c).onPwr (fun p => { p with causes := 3 :: p.causes }))) (chipHold s)
  else onChip (fun _ c => c.setB Reg.PWR_EVT 5 true) s

/-- RST_CMD: a write of PWR.RST_CMD (R705). -/
def execRstCmd (p : Plane) (v : Word) (s : State) : Host.Outcome State Fault Refusal :=
  .next (if s.chip.svc then onWrite p Reg.PWR_RST_CMD v rstWrite s else s)

/-! ### Domains and housekeeping -/

/-- DOMAIN_SUPPLY_FAULT: a fault in a region's own switch, regulator or monitor resets that region alone (03 R110). -/
def execDomainSupplyFault (r : Region) (s : State) : Host.Outcome State Fault Refusal :=
  .next (if s.chip.rgn r = 0 then regionFault r 7 1 0 s else s)

/-- HKP_CONVERSION: channel `ch` converts to `v` (09 R312); a die that reaches 135 °C shuts down: Control and Service are held, every
safety output is off (09 R315). -/
def execHkpConversion (ch : Fin 32) (v : Int) (s : State) : Host.Outcome State Fault Refusal :=
  .next (if vddaGood s.chip then
      let q := hkpConvert s.env ch.val v s.chip
      let s1 := { s with chip := q.1 }
      if q.2 then onHeath (fun e h => (swAll e.part true h, [])) (chipHold s1) else s1
    else s)

end Sys2Proof.Machine
end

