-- ==== Sys2Proof/Machine/Update.lean ====
section
/-! DEFINITION. Updating in service (ch. 23): the commands of UPD.CMD, and the load of an offered metrology image up to the start of
the core on it. -/
namespace Sys2Proof.Machine

/-- SVC_RESTART (R711): logged, the Service region restarts, and its flag stands after the region's reset. -/
def svcRestart (s : State) : State :=
  onChip (fun _ c => c.setB Reg.UPD_EVT 0 true) (regionAgain 0 .service (onChip (fun e c => c.log1 e 0x28 0 0x01 0) s))

/-- MET_OFFER (R718, R724): a later offer replaces an earlier one; one whose address or length breaks its rule ends with IMAGE. While an
image loads, an offer has no effect (DESIGN CHOICE, log entry 31). -/
def metOffer (e : Env) (c : Chip) : Chip :=
  if c.f Reg.UPD_STAT 30 2 = 2 then c
  else if c.n Reg.UPD_MET_ADDR_LO % 4096 = 0 ∧ 1 ≤ c.n Reg.UPD_MET_LEN ∧ c.n Reg.UPD_MET_LEN ≤ 98304 then c.setF Reg.UPD_STAT 30 2 1
  else offerEnd e 2 c

/-- MET_WITHDRAW (R720): ends an offer that is not loading yet. -/
def metWithdraw (e : Env) (c : Chip) : Chip := if c.f Reg.UPD_STAT 30 2 = 1 then offerEnd e 3 c else c

/-- A write of UPD.CMD after its checks (R711, R724). -/
def updWrite (v : Word) (s : State) : State :=
  let op := fget v 0 4
  if fget v 8 8 = 0x5A ∧ op = 1 then svcRestart s
  else if fget v 8 8 = 0x5A ∧ op = 2 then onChip metOffer s
  else if fget v 8 8 = 0x5A ∧ op = 3 then onChip metWithdraw s
  else onChip (fun _ c => c.setB Reg.UPD_EVT 4 true) s

/-- A plane writes UPD.CMD with a key and a code. -/
def updCmd (p : Plane) (key : BitVec 8) (op : Nat) (s : State) : State :=
  if s.chip.svc then onWrite p Reg.UPD_CMD (word (key.toNat * 256 + op)) updWrite s else s

/-- SVC_RESTART: the writer's Service region restarts (R711). -/
def execSvcRestart (p : Plane) (key : BitVec 8) (s : State) : Host.Outcome State Fault Refusal := .next (updCmd p key 1 s)
/-- MET_OFFER: a metrology image is offered (R718). -/
def execMetOffer (p : Plane) (key : BitVec 8) (s : State) : Host.Outcome State Fault Refusal := .next (updCmd p key 2 s)
/-- MET_WITHDRAW: an offer is withdrawn (R720). -/
def execMetWithdraw (p : Plane) (key : BitVec 8) (s : State) : Host.Outcome State Fault Refusal := .next (updCmd p key 3 s)

/-- The core of Metrology restarts for a load: down, without a fault's record (R719, R720). -/
def coreAgain (s : State) : State := metCoreDown (regionAgain 0 .metrology s)

/-- MET_IMAGE_LOAD: the core has read and checked the offered image (R719). `img` is its identity where its length, CRC and signature
verify, with whether it passes its own start check: it is in the inactive slot, and the core restarts into it. -/
def execMetImageLoad (img : Option (MetFw × Bool)) (s : State) : Host.Outcome State Fault Refusal :=
  .next (if s.chip.f Reg.UPD_STAT 30 2 = 2 && s.chip.rgn .metrology = 0 && s.met.st.fwNew.isNone then
      (match img with
       | none => onChip (fun e c => offerEnd e 2 c) s
       | some w => coreAgain { s with met := s.met.onSt (fun t => { t with fwNew := some w }) })
    else s)

/-- The core starts (R501, R719, R720): on the new image where one was loaded; if that fails its own start check, it records its restart
and restarts from the previous slot. -/
def coreStart (s : State) : State :=
  match s.met.st.fwNew with
  | none => metCoreBack (onChip (fun _ c => c.setRgn .metrology 0) s)
  | some (w, true) =>
    let s1 := { s with met := s.met.onSt (fun t => { t with fw := w, fwNew := none }) }
    onChip (fun e c => offerEnd e 0 c) (metCoreBack (onChip (fun _ c => c.setRgn .metrology 0) s1))
  | some (_, false) =>
    let s1 := { s with met := s.met.onSt (fun t => { t with fwNew := none }) }
    let s2 := onMet (fun e m => metTamper 0x11 0 (metStamp e m) (m, [])) s1
    coreAgain (onChip (fun e c => offerEnd e 4 c) s2)

end Sys2Proof.Machine
end

