-- ==== Sys2Proof/Machine/HostIf.lean ====
section
/-! DEFINITION. Host, memory and debug interfaces (ch. 24): image slots and the start of the Service region, LPDDR4X errors, flash
operations, Ethernet with the precision-time clock, GPIO and the debug port; and the intake supervisor's samples (06 R206). Also the
return of any region that restarts (03 R104). -/
namespace Sys2Proof.Machine

/-! ### Image slots (R732 to R734) -/

/-- The plane codes of the four cores in an image's header (R727). -/
def imageCores (h : HostSt) (slot : Nat) : List Nat := (List.range 4).map (fun k => flashWord h slot 0xC / 8 ^ k % 8)

/-- The checks of an image, in the order of R733: MAGIC, LEN, CRC, signature, CORE_PLANE; a slot with an abandoned ERASE fails
(R743). `sig` says that its signature verifies. -/
def bootOk (h : HostSt) (slot : Nat) (sig : Bool) : Bool :=
  let len := flashWord h slot 8
  flashWord h slot 0 == 0x4F545A49 && decide (len ≤ 33554176) && crc32 (flashTake h slot 0x100 len) == word (flashWord h slot 0x10) && sig
    && (imageCores h slot).all (fun p => decide (p ≤ 2)) && (imageCores h slot).contains 2 && !h.torn.any (fun x => x / 512 == slot)

/-- The slot that a start of the Service region runs, and whether it is the other one (R733, R734). -/
def bootSlot (sigA sigB : Bool) (c : Chip) : Option (Nat × Bool) :=
  let first := if c.hif.fallback then confSlot c else c.f Reg.OSP_BOOT 31 1
  let ok (x : Nat) : Bool := bootOk c.hif x (if x = 0 then sigA else sigB)
  if ok first then some (first, false) else if ok (1 - first) then some (1 - first, true) else none

/-- OSP.BOOT, OSP.CORE and the log of a start (R727, R733, R734, R745): on trial unless it is a fallback; else confirmed at once. -/
def bootStart (e : Env) (slot : Nat) (alt : Bool) (c : Chip) : Chip :=
  let fall := c.hif.fallback
  let trial := c.b Reg.OSP_BOOT 30 && !fall
  let c1 := (((c.setF Reg.OSP_BOOT 28 1 slot).setB Reg.OSP_BOOT 26 alt).setB Reg.OSP_BOOT 25 fall).wr Reg.OSP_CORE (word (flashWord c.hif slot 0xC % 2 ^ 12))
  let c2 := if trial then c1 else c1.setF Reg.OSP_BOOT 27 1 slot
  let c3 := c2.onHif (fun h => { h with fallback := false, trialAt := if trial then some e.time.up else none })
  let bit (b : Bool) (i : Nat) : Nat := if b then 2 ^ i else 0
  c3.log1 e 0x2B 0 0x01 (slot * 2 ^ 31 + bit trial 30 + bit alt 29 + bit fall 28)

/-- The sessions at a start of the Service region (Table: Region restart, R607): a chip that follows takes them from its mirror; any other
ends them. -/
def sessionsStart (e : Env) (c : Chip) : Chip :=
  if c.role = 2 ∨ c.role = 3 then
    match c.pair.mirror with
    | some m => { c with ses := m.ses, regs := tableMix (fun a => isMirrored a && decide (0x70000000 ≤ a) && decide (a < 0x70002000)) c.regs m.regs }
    | none => c
  else sesRestartAll e c

/-- SERVICE_START (R729, R733): LPDDR4X trained, the blocks' words from the committed image, the firmware started; PWM channels wait for
their next reload (20 R671), CAN controllers act on their configuration (18 R616), and a STANDBY chip may claim a free line again
(23 Table: Service-life contention). -/
def serviceStart (sigA sigB : Bool) (s : State) : State :=
  match bootSlot sigA sigB s.chip with
  | none => s
  | some (slot, alt) =>
    let s1 := onChip (fun e c =>
      let c1 := (loadImage inService c).setRgn .service 0
      let c2 := bootStart e slot alt (c1.wr Reg.DDR_STAT (word (2 ^ 31 + e.part.ddrMib * 7 / 8)))
      let c3 := pwmShowBlank (pwmHoldAll (eachBelow 16 (fun j c => c.setPwmCh j { await := true, at' := e.time.up }) (dbgEnd e c2)))
      { c3 with asw := { c3.asw with rep := siteMs e } }) s
    let s2 := eachBelow 7 (fun n s => onCan n (canImpose n 0) s) s1
    onChip (fun e c =>
      let c1 := hdgShowDrv e (sessionsStart e c)
      if c1.role = 2 ∧ c1.ctl ∧ !c1.partnerLow ∧ !c1.pair.low then quoinClaim e 3 c1 else c1) s2

/-- SERVICE_START: the Service region starts; the operands say whether the signatures of slots A and B verify. With both slots failing
it does not return (R733). -/
def execServiceStart (sigA sigB : Bool) (s : State) : Host.Outcome State Fault Refusal :=
  .next (if s.chip.rgn .service = 1 then serviceStart sigA sigB s else s)

/-- REGION_RESTART_COMPLETE: a region that restarts returns (03 R104). `valid` says that a copy of the committed image is valid, `sigA`
and `sigB` that the slots' signatures verify. -/
def execRegionRestartComplete (r : Region) (valid sigA sigB : Bool) (s : State) : Host.Outcome State Fault Refusal :=
  .next (if s.chip.rgn r = 1 then
      (match r with
       | .control => controlStart valid s
       | .service => serviceStart sigA sigB s
       | .heath => if vddaGood s.chip then heathStart s else s
       | .metrology => coreStart s)
    else s)

/-- A write of OSP.BOOT after its checks (R734, R735): dropped with NOT_VERIFIED where NEXT names the other slot without its VERIFY;
CONFIRM makes the running slot CONF_SLOT and clears TRIAL. A BOOT_TO below 10 is not taken (DESIGN CHOICE, log entry 32). -/
def bootWrite (v : Word) (c : Chip) : Chip :=
  let next := fget v 31 1
  if next ≠ runSlot c ∧ !c.hif.verified.testBit next then c.setB Reg.OSP_BOOT 24 true
  else
    let c1 := if fbit v 24 then c.setB Reg.OSP_BOOT 24 false else c
    let c2 := (c1.setF Reg.OSP_BOOT 31 1 next).setB Reg.OSP_BOOT 30 (fbit v 30)
    let c3 := if 10 ≤ fget v 0 8 then c2.setF Reg.OSP_BOOT 0 8 (fget v 0 8) else c2
    if fbit v 29 then
      ((c3.setF Reg.OSP_BOOT 27 1 (runSlot c)).setB Reg.OSP_BOOT 30 false).onHif (fun h => { h with trialAt := none })
    else c3

/-- A plane writes OSP.BOOT. -/
def bootCmd (p : Plane) (v : Word) (s : State) : State :=
  if s.chip.svc then onWrite p Reg.OSP_BOOT v (fun v => onChip (fun _ => bootWrite v)) s else s

/-- BOOT_CONFIRM: a write of OSP.BOOT with CONFIRM = 1 (R734); `v` gives its other bits. -/
def execBootConfirm (p : Plane) (v : Word) (s : State) : Host.Outcome State Fault Refusal := .next (bootCmd p (fsetb v 29 true) s)
/-- BOOT_NEXT_WRITE: a write of OSP.BOOT without CONFIRM, which names a slot for the next start (R735). -/
def execBootNextWrite (p : Plane) (v : Word) (s : State) : Host.Outcome State Fault Refusal := .next (bootCmd p (fsetb v 29 false) s)

/-- BOOT_TIMEOUT is due: a slot on trial has not been confirmed within BOOT_TO seconds, the cycle in which they end included (R734, R743). -/
def bootDue (e : Env) (c : Chip) : Bool :=
  c.svc && (match c.hif.trialAt with | some t => decide (t + c.f Reg.OSP_BOOT 0 8 * cyclesPerSec < e.time.up) | none => false)
/-- BOOT_TIMEOUT: the Service region restarts into CONF_SLOT (R734). -/
def execBootTimeout (s : State) : Host.Outcome State Fault Refusal :=
  .next (if bootDue s.env s.chip then regionAgain 0 .service (onChip (fun _ c => c.onHif (fun h => { h with trialAt := none, fallback := true })) s) else s)

/-! ### Flash operations (R735) -/

/-- A write of OSP.FL_CMD after its checks (R735): refused for the running slot; a slot that ERASE or PROGRAM touches must be verified
again. A command while another runs, or of another code, has no effect (DESIGN CHOICE, log entry 33). -/
def flWrite (v : Word) (c : Chip) : Chip :=
  let op := fget v 28 4
  let slot := fget v 27 1
  if op = 0 ∨ 3 < op ∨ c.hif.op.isSome then c
  else if slot = runSlot c then c.setB Reg.OSP_FL_STAT 30 true
  else
    let c1 := c.wr Reg.OSP_FL_STAT 0x80000000
    let o : FlashOp := { op := op, slot := slot, addr := c.n Reg.OSP_FL_ADDR, len := fget v 0 12 + 1, src := c.n Reg.OSP_FL_SRC_LO + 2 ^ 32 * c.n Reg.OSP_FL_SRC_HI }
    c1.onHif (fun h => { h with op := some o, verified := if op = 3 then h.verified else h.verified &&& (2 ^ (1 - slot)) })

/-- A plane writes OSP.FL_CMD. -/
def flCmd (p : Plane) (v : Word) (s : State) : State :=
  if s.chip.svc then onWrite p Reg.OSP_FL_CMD v (fun v => onChip (fun _ => flWrite v)) s else s

/-- FL_ERASE: the sector at FL_ADDR of a slot is to be erased (R735). -/
def execFlErase (p : Plane) (slot : Fin 2) (s : State) : Host.Outcome State Fault Refusal := .next (flCmd p (word (2 ^ 28 + slot * 2 ^ 27)) s)
/-- FL_PROGRAM: `len` + 1 bytes at FL_SRC are to be written at FL_ADDR (R735). -/
def execFlProgram (p : Plane) (slot : Fin 2) (len : BitVec 12) (s : State) : Host.Outcome State Fault Refusal :=
  .next (flCmd p (word (2 * 2 ^ 28 + slot * 2 ^ 27 + len.toNat)) s)
/-- FL_VERIFY: the slot is to be checked (R735). -/
def execFlVerify (p : Plane) (slot : Fin 2) (s : State) : Host.Outcome State Fault Refusal := .next (flCmd p (word (3 * 2 ^ 28 + slot * 2 ^ 27)) s)

/-- Bytes written into a slot. -/
def flashPut (slot a : Nat) (l : List Byte) (m : List (Nat × Byte)) : List (Nat × Byte) :=
  eachOf l.zipIdx (fun x m => tset flashBlank m (2 ^ 25 * slot + a + x.2) x.1) m

/-- A flash operation ends well: the sector erased, the bytes written, or the slot checked (R735). -/
def flDone (m : List Host.Cell) (o : FlashOp) (sig : Bool) (c : Chip) : Chip :=
  let sector := o.addr / 0x10000
  let lo := 2 ^ 25 * o.slot + 0x10000 * sector
  if o.op = 1 then
    c.onHif (fun h => { h with flash := h.flash.filter (fun x => !(decide (lo ≤ x.1) && decide (x.1 < lo + 0x10000))), torn := h.torn.filter (· != 512 * o.slot + sector) })
  else if o.op = 2 then c.onHif (fun h => { h with flash := flashPut o.slot o.addr (memTake m o.src o.len) h.flash })
  else
    let pass := bootOk c.hif o.slot sig
    (c.setB Reg.OSP_FL_STAT 29 pass).onHif (fun h => { h with verified := if pass then h.verified ||| 2 ^ o.slot else h.verified &&& (2 ^ (1 - o.slot)) })

/-- The bytes that an operation names lie in the slot. -/
def flFits (o : FlashOp) : Bool := o.op == 3 || decide (o.addr + (if o.op = 2 then o.len else 1) ≤ 2 ^ 25)

/-- FLASH_OP_COMPLETE: the operation completes; `ok` is the device's outcome, `sig` says that the slot's signature verifies (R735). An
operation beyond the slot ends with ERROR too (DESIGN CHOICE, log entry 33). -/
def execFlashOpComplete (ok sig : Bool) (s : State) : Host.Outcome State Fault Refusal :=
  let m := s.mem
  .next (onChip (fun _ c => match c.hif.op with
    | some o =>
      let c1 := (c.setB Reg.OSP_FL_STAT 31 false).onHif (fun h => { h with op := none })
      if ok && flFits o then flDone m o sig c1 else c1.setB Reg.OSP_FL_STAT 28 true
    | none => c) s)

/-! ### LPDDR4X (R730, R731) -/

/-- DDR_ECC_CE: a corrected error is counted (R731); the value, corrected and written back, is the one that memory holds. -/
def execDdrEccCe (s : State) : Host.Outcome State Fault Refusal :=
  .next (onChip (fun _ c => if c.svc then c.sat Reg.DDR_ECC 16 16 1 else c) s)

/-- PATROL_SCRUB: a pass over the usable memory completes; the single-bit errors that it corrected are counted (R730, R731). -/
def execPatrolScrub (ce : Nat) (s : State) : Host.Outcome State Fault Refusal :=
  .next (onChip (fun _ c => if c.svc then c.sat Reg.DDR_ECC 16 16 ce else c) s)

/-- A tunnel frame that cannot be read (R731): TX_LOST counts, and TX_RD passes it. -/
def tunnelDrop (o : Nat) (c : Chip) : Chip :=
  let n := (List.range 32).find? (fun n => mapClass c n == 2 && decide (mapFirst c n ≤ o) && decide (o < mapFirst c n + mapCount c n))
  let waiting := (c.f (Reg.SES_TUN_SW o) 20 6 + 64 - c.f (Reg.SES_TUN o) 20 6) % 64
  let given := match n with | some n => ((c.tpOf n).tx.filter (fun r => r.outlet == o)).length | none => 0
  if given < waiting then (c.wrap (Reg.SES_TUN o) 20 6 1).sat (Reg.SES_TUN o) 0 8 1 else c

/-- What an uncorrectable word does to the item being read (R731); a core's own fault lies outside the block. -/
def ddrItem (x : DdrReader) (s : State) : State :=
  match x with
  | .can n => onCan n (fun v => if canTxRd n v = canTxWr n v then v else canPass n (canFail n 1 v)) s
  | .tunnel o => onChip (fun _ => tunnelDrop o) s
  | .cry k => onChip (fun _ c => { c with cry := c.cry.setRing k ((c.cry.ring k).drop 1) }) s
  | .hdg => onChipMem (fun e q => if hdgOn e q.1 && hdgTxRd q.1 != hdgTxWr q.1 then hdgComplete 1 (hdgFail q.1, q.2) else q) s
  | .core | .eth _ | .upd => s

/-- DDR_ECC_UE: an uncorrectable error at an address, met by a reader (R731). -/
def execDdrEccUe (a : Nat) (x : DdrReader) (s : State) : Host.Outcome State Fault Refusal :=
  .next (if s.chip.svc then
      ddrItem x (onChip (fun e c =>
        let c1 := ((c.sat Reg.DDR_ECC 0 16 1).wr Reg.DDR_UE_ADDR_LO (word a)).wr Reg.DDR_UE_ADDR_HI (word (a / 2 ^ 32))
        (c1.setB Reg.DDR_STAT 30 true).log1 e 0x2A 0 0x01 (a % 2 ^ 32)) s)
    else s)

/-! ### Precision time and Ethernet (R736 to R739) -/

/-- A write of ETH.PTP_STEP_NS after its checks (R737): the signed step of PTP_STEP_S and PTP_STEP_NS is added at once. -/
def ptpStep (v : Word) (c : Chip) : Chip :=
  let c1 := c.wr Reg.ETH_PTP_STEP_NS v
  c1.onHif (fun h => { h with ptp := ptpWrap ((h.ptp : Int) + ((c1.rd Reg.ETH_PTP_STEP_S).toInt * 1000000000 + v.toInt) * 2 ^ 32) })
/-- A write of ETH.PTP_ADJ after its checks (R737): held at ±10,737,418, with ADJ_CLAMP. -/
def ptpAdj (v : Word) (c : Chip) : Chip :=
  let x := v.toInt
  if 10737418 < x then (c.wr Reg.ETH_PTP_ADJ (wordI 10737418)).setB Reg.ETH_PTP_CFG 29 true
  else if x < -10737418 then (c.wr Reg.ETH_PTP_ADJ (wordI (-10737418))).setB Reg.ETH_PTP_CFG 29 true
  else c.wr Reg.ETH_PTP_ADJ v

/-- PTP_STEP: a write of ETH.PTP_STEP_NS (R737). -/
def execPtpStep (p : Plane) (v : Word) (s : State) : Host.Outcome State Fault Refusal :=
  .next (if s.chip.svc then onWrite p Reg.ETH_PTP_STEP_NS v (fun v => onChip (fun _ => ptpStep v)) s else s)

/-- PTP_NOW_READ: a read of ETH.PTP_NOW_NS returns the nanoseconds and latches the seconds for the reading plane (R744). -/
def execPtpNowRead (p : Plane) (s : State) : Host.Outcome State Fault Refusal :=
  .next (if s.chip.svc then
      { onChip (fun _ c => c.onHif (fun h => { h with ptpNow := tset (fun _ => 0) h.ptpNow (planeCode p) (ptpSec h) })) s with rdata := word (ptpNs s.chip.hif) }
    else { s with rdata := 0 })

/-- An Ethernet frame with the clock's time at its start (R738). -/
def ethFrame (c : Chip) (i : Nat) (bytes : List Byte) : EthFrame := { port := i, bytes := bytes, sec := ptpSec c.hif, ns := ptpNs c.hif }
/-- The port is on and its link is up, and the frame is of a legal length (R736). -/
def ethPasses (c : Chip) (i : Nat) (bytes : List Byte) : Bool :=
  c.svc && c.b (Reg.ETH_CFG i) 31 && c.b (Reg.ETH_STAT i) 31 && decide (bytes.length ≤ 9018)

/-- ETH_FRAME_RECEIVED: a frame goes to the port's receive ring with its stamp (R736, R738). -/
def execEthFrameReceived (i : Fin 2) (bytes : List Byte) (s : State) : Host.Outcome State Fault Refusal :=
  .next (onChip (fun _ c => if ethPasses c i bytes then c.onHif (fun h => { h with rx := ethFrame c i bytes :: h.rx }) else c) s)
/-- ETH_FRAME_SENT: a frame taken from the port's transmit ring is sent and stamped (R736, R738). -/
def execEthFrameSent (i : Fin 2) (bytes : List Byte) (s : State) : Host.Outcome State Fault Refusal :=
  .next (onChip (fun _ c => if ethPasses c i bytes then c.onHif (fun h => { h with tx := ethFrame c i bytes :: h.tx }) else c) s)

/-- ETH_LINK_CHANGE: the link of a port that is on comes up or goes down, as its PCS finds (R736, R744, R745). -/
def execEthLinkChange (i : Fin 2) (up anDone rfault : Bool) (speed : BitVec 2) (s : State) : Host.Outcome State Fault Refusal :=
  .next (onChip (fun e c =>
    if c.svc && (c.b (Reg.ETH_CFG i) 31 || !up) then
      let w := (if up then 2 ^ 31 else 0) + (if anDone then 2 ^ 30 else 0) + (if rfault then 2 ^ 29 else 0) + speed.toNat
      let c1 := c.wr (Reg.ETH_STAT i) (word w)
      if c.b (Reg.ETH_STAT i) 31 = up then c1 else c1.log1 e 0x29 i 0x01 ((if up then 2 ^ 31 else 0) + i.val)
    else c) s)

/-! ### GPIO (R740) -/

/-- GPIO_EDGE: an input's synchronised level changes (R740). -/
def execGpioEdge (n : Fin 32) (level : Bool) (s : State) : Host.Outcome State Fault Refusal :=
  .next (onChip (fun _ c =>
    if c.svc && !c.b Reg.OSP_GPIO_DIR n && c.b Reg.OSP_GPIO_IN n != level then
      (c.setB Reg.OSP_GPIO_IN n level).setB Reg.OSP_GPIO_EVT n true
    else c) s)

/-- PPS: a whole second has come with PPS_EN = 1; GPIO00 is high for 10 ms from now (R740). -/
def execPps (s : State) : Host.Outcome State Fault Refusal :=
  .next (onChip (fun e c => if c.hif.ppsDue then c.onHif (fun h => { h with ppsDue := false, ppsAt := some e.time.up }) else c) s)

/-! ### Debug port (R741, R742) -/

/-- DEBUG_UNLOCK: an answer to the challenge; `sig` says that its signature verifies (R741). -/
def execDebugUnlock (sig : Bool) (s : State) : Host.Outcome State Fault Refusal :=
  .next (onChip (fun e c =>
    if sig && c.f Reg.OSP_DBG 30 2 == 0 then ((c.setF Reg.OSP_DBG 30 2 1).sat Reg.OSP_DBG 0 16 1).log1 e 0x2B 0 0x02 1 else c) s)
/-- DEBUG_END: 1 s without debug clock ends the session (R741). -/
def execDebugEnd (s : State) : Host.Outcome State Fault Refusal := .next (onChip dbgEnd s)
/-- DEBUG_HALT: an unlocked session halts a Service core; refused on an ACTIVE chip (R742). -/
def execDebugHalt (k : Fin 4) (s : State) : Host.Outcome State Fault Refusal :=
  .next (onChip (fun _ c =>
    if c.f Reg.OSP_DBG 30 2 = 0 then c
    else if c.role = 1 then c.setB Reg.OSP_DBG 29 true
    else c.onHif (fun h => { h with halted := h.halted ||| 2 ^ k.val })) s)

/-! ### The intake supervisor (06 R206, 19 R650) -/

/-- The space-vector magnitude of three phase voltages, as phase RMS in their unit, rounded down (R206; PRESUMED, log entry 34): the
square is 2/9 of a² + b² + c² − ab − bc − ca. -/
def svMagnitude (a b c : Int) : Nat := natSqrt ((2 * (a * a + b * b + c * c - a * b - b * c - c * a)).toNat / 9)

/-- SUPERVISOR_SAMPLE: the intake voltages of one microsecond, in 0.1 V (R206, R207, R650). -/
def execSupervisorSample (u1 u2 u3 : Int) (s : State) : Host.Outcome State Fault Refusal :=
  .next (onChip (fun e c =>
    let c1 := if c.ctl then sagSample (svMagnitude u1 u2 u3) c else c
    hdgCrossing e u1 c1) s)

end Sys2Proof.Machine
end

