-- ==== Sys2Proof/Machine/MirrorLanes.lean ====
section
/-! DEFINITION. The lane monitors of the ports and of the mirror link (10 R337 to R346, 17 R577): links 0 to 31 are the ports; 32 is lanes D0 and D1
of the mirror link, and 33 its lanes D2 and D3, whose hidden state stands beside the ports'. -/
namespace Sys2Proof.Machine

/-- The receiver of the mirror link works: the chip runs and is no SOLO chip (R577, R608). -/
def mirRuns (c : Chip) : Bool := c.ctl && c.role != 0
/-- The mirror lane that a link's lane is. -/
def mirLaneNo (n k : Nat) : Nat := 2 * (n - 32) + k
/-- The receive lanes in service (MIR.LANE.IN). -/
def mirIn (c : Chip) : Nat := ((List.range 4).filter (fun j => c.b (Reg.MIR_LANE j) 31)).length

/-- The mirror link after a lane was lost: UP3 with exactly three, down with fewer (R577). -/
def mirJudge (e : Env) (c : Chip) : Chip := if 3 ≤ mirIn c then mirLink e 4 c else mirFall e c

/-- A rejoin of another lane in the cycle of an exclusion is not carried out (R346). -/
def mirUnrejoin (e : Env) (j : Nat) (c : Chip) : Chip :=
  match (c.phyOf 32).rejoin with
  | some (t, i, _) => if t = e.time.up ∧ i ≠ j then c.setB (Reg.MIR_LANE i) 31 false else c
  | none => c

/-- A lane of the mirror link in service is excluded (R337, R343, R577). -/
def mirExclude (e : Env) (n k : Nat) (c : Chip) : Chip :=
  let c1 := mirUnrejoin e (mirLaneNo n k) c
  let x := c1.phyOf n
  let l := x.lane k
  let outs := e.time.up :: l.outs.filter (fun t => decide (e.time.up < t + 200000000))
  let l1 := { l with outs := outs, flap := l.flap || decide (4 ≤ outs.length), exAt := some e.time.up, goodAt := e.time.up }
  mirJudge e ((c1.setPhy n (x.setLane k l1)).setB (Reg.MIR_LANE (mirLaneNo n k)) 31 false)

/-- A data lane's monitor on the mirror link (R337, R338, R577). -/
def mirData (e : Env) (n k : Nat) (los : Bool) (m : LineMon) (c : Chip) : Chip :=
  let a := Reg.MIR_LANE (mirLaneNo n k)
  let bit := if los then 30 else 29
  let x := c.phyOf n
  let at' := (if los then 17 else 16) + 2 * k
  if !mirRuns c then c
  else if m.back then
    if c.b a bit && (if los then decide (tget (fun _ => 0) x.monAt at' + 2000 ≤ e.time.up) else lockHeld e (x.lane k)) then
      (c.setB a bit false).setPhy n (x.setLane k { x.lane k with goodAt := e.time.up })
    else c
  else if !los && (c.b a bit || !lockGone e (x.lane k)) then c
  else
    let l := { x.lane k with goodAt := e.time.up, seekAt := e.time.up }
    let c1 := (c.setB a bit true).setPhy n ({ x with monAt := tset (fun _ => 0) x.monAt at' e.time.up }.setLane k l)
    if mirUp c && c.b a 31 then mirExclude e n k c1 else c1

/-- An excluded lane of the mirror link has held lock for 65,536 slots; the link has no registers for a least eye (R343, R577). -/
def mirRejoinDue (e : Env) (c : Chip) (n : Nat) (x : LaneEye) : Bool :=
  let a := Reg.MIR_LANE (mirLaneNo n x.lane)
  mirRuns c && mirUp c && !c.b a 31 && !c.b a 30 && !c.b a 29 && !((c.phyOf n).lane x.lane).flap
    && decide (((c.phyOf n).lane x.lane).goodAt + slotTime 65536 ≤ e.time.up)
    && ([(32, 0), (32, 1), (33, 0), (33, 1)] : List (Nat × Nat)).all (fun q => ((c.phyOf q.1).lane q.2).exAt != some e.time.up)
/-- It rejoins: the link is UP4 once every lane is in service (R343, R577). -/
def mirRejoin (e : Env) (n : Nat) (x : LaneEye) (c : Chip) : Chip :=
  if mirRejoinDue e c n x then
    let j := mirLaneNo n x.lane
    let c1 := (c.setB (Reg.MIR_LANE j) 31 true).setF (Reg.MIR_LANE j) 8 16 (x.h.toNat * 256 + x.w.toNat)
    let c2 := c1.setPhy 32 { c1.phyOf 32 with rejoin := some (e.time.up, j, false) }
    if mirIn c2 = 4 then mirLink e 3 c2 else c2
  else c

/-- A clock monitor's assertion (R337): a port by itself; the mirror link goes down (R577). -/
def linkClock (e : Env) (n : Nat) (los : Bool) (m : LineMon) (c : Chip) : Chip :=
  if n < 32 then phyClock e n los m c
  else if mirRuns c && !m.back && mirUp c then mirFall e c else c

/-- CLOCK_LOS (R337, R577). -/
def execClockLos (n : Fin 34) (m : LineMon) (s : State) : Host.Outcome State Fault Refusal :=
  .next (onChip (fun e c => linkClock e n true m c) s)
/-- CLOCK_LOL (R337, R577). -/
def execClockLol (n : Fin 34) (m : LineMon) (s : State) : Host.Outcome State Fault Refusal :=
  .next (onChip (fun e c => linkClock e n false m c) s)

/-- A data lane's monitor (R337, R338). -/
def linkData (e : Env) (n k : Nat) (los : Bool) (m : LineMon) (c : Chip) : Chip :=
  if n < 32 then phyData e n k los m c else mirData e n k los m c

/-- DATA_LOS (R337, R577): a data lane loses its signal. -/
def execDataLos (n : Fin 34) (lane : Fin 2) (m : LineMon) (s : State) : Host.Outcome State Fault Refusal :=
  .next (onChip (fun e c => linkData e n lane true m c) s)
/-- DATA_LOL (R338, R577). -/
def execDataLol (n : Fin 34) (lane : Fin 2) (m : LineMon) (s : State) : Host.Outcome State Fault Refusal :=
  .next (onChip (fun e c => linkData e n lane false m c) s)

/-- CODE_ERR (R325, R338, R577): a block with an invalid header or an undefined control type, counted for its port or its mirror lane. -/
def execCodeErr (b : BadBlock) (s : State) : Host.Outcome State Fault Refusal :=
  .next (onChip (fun e c =>
    if b.blk.kind != .bad then c
    else if b.port.val < 32 then (if prtLive e c b.port then phyBadBlock e b.port b.lane b.blk c else c)
    else if mirRuns c then laneBad e b.port b.lane b.blk (c.sat (Reg.MIR_LANE (mirLaneNo b.port b.lane)) 0 8 1) else c) s)

/-- LANE_REJOIN (R343, R577): an excluded lane that has met its conditions rejoins. -/
def execLaneRejoin (n : Fin 34) (x : LaneEye) (s : State) : Host.Outcome State Fault Refusal :=
  .next (onChip (fun e c => if n.val < 32 then phyRejoin e n x c else mirRejoin e n x c) s)

end Sys2Proof.Machine
end

