-- ==== Sys2Proof/Machine/Sealed.lean ====
section
/-! DEFINITION. The sealed path (13 R443 to R446, 14 R489, R490): requests written to CHIP.SEAL_CMD, what the metrology core
answers, and their completion. -/
namespace Sys2Proof.Machine

/-- A word of a WRITE request: its address, its value and its place on the part. -/
structure SealWord where
  a : Nat
  v : Word
  place : Place

/-- The words of a WRITE: consecutive addresses from SEAL_ADDR (R445). -/
def sealWords (s : State) (count : Nat) : List SealWord :=
  (List.range (count + 1)).map (fun i =>
    let a := s.chip.n Reg.CHIP_SEAL_ADDR + 4 * i
    ⟨a, s.chip.rd (Reg.CHIP_SEAL_DATA i), if a % 4 = 0 then placeOf s.env.part a else .unmapped⟩)

/-- A word in a W1C register of the region (R445). -/
def sealW1c (w : SealWord) : Bool := match w.place with | .reg g d _ => g.owner == 4 && d.w1c != 0 | _ => false
/-- A word in an absent page or cell. -/
def sealAbsent (w : SealWord) : Bool := match w.place with | .absent _ => true | _ => false
/-- A word outside the region, or in an RO or RC word (R445). -/
def sealDenied (w : SealWord) : Bool :=
  match w.place with
  | .reg g d _ => !(g.owner == 4 && (d.w1c != 0 || d.rw != 0 || d.wo != 0))
  | .win q inside => !(inside && q.write == 2)
  | .absent _ => false
  | _ => true

/-- A word of the calendar. -/
def calWord (a : Nat) : Bool := decide (0x68000000 ≤ a) && decide (a < 0x68002000)
/-- The value of a word with the pending sealed changes. -/
def pendingRd (m : Met) (a : Nat) : Word := m.st.words.foldl (fun v w => if w.1 = a then w.2 else v) (m.rd a)
/-- The value of a word with the pending changes and those of a request. -/
def sealRd (m : Met) (l : List SealWord) (a : Nat) : Word := l.foldl (fun v w => if w.a = a then w.v else v) (pendingRd m a)

/-- The legal contents of a calendar entry (R471). -/
def calLegal (w0 w1 w2 w3 : Word) : Bool :=
  if fbit w0 31 then
    decide (fget w0 0 11 < fget w1 16 11) && decide (fget w1 16 11 ≤ 1440) && decide (fget w2 0 16 < fget w2 16 16)
  else w0 == 0 && w1 == 0 && w2 == 0 && w3 == 0

/-- The range checks of one word (Table: Sealed-path range checks, R471, R505). -/
def sealInRange (m : Met) (l : List SealWord) (w : SealWord) : Bool :=
  let v := w.v
  let f := fget v
  if calWord w.a then
    let b := w.a / 16 * 16
    calLegal (sealRd m l b) (sealRd m l (b + 4)) (sealRd m l (b + 8)) (sealRd m l (b + 12))
  else if w.a = Reg.MET_CFG then
    let n := f 16 8
    let t := f 0 8
    decide (1 ≤ n) && decide (n ≤ 250) && decide (10 ≤ t) && decide (t ≤ 250) && decide (t * (if fbit v 31 then 60 else 50) < n * 1000)
  else if w.a = Reg.MET_BAL_CFG then decide (1 ≤ f 24 8) && decide (f 16 8 ≤ 200) && decide (f 8 8 ≤ 200)
  else if w.a = Reg.MET_BAK_CFG then decide (1 ≤ f 0 16) && decide (f 0 16 ≤ 10000)
  else if w.a = Reg.TRF_CAL_CFG then decide ((signOf 12 (f 16 12)).natAbs ≤ 840)
  else if w.a = Reg.TRF_DEM_CFG then decide (f 0 3 ≤ 4)
  else if w.a = Reg.TRF_BILL_CFG then decide (f 30 2 ≠ 3) && decide (1 ≤ f 24 5) && decide (f 24 5 ≤ 28) && decide (f 0 11 ≤ 1439)
  else if w.a = Reg.TRF_TIME_CFG then decide (f 0 16 ≤ 10000)
  else match w.place with
    | .reg g _ j =>
      let o := (w.a - g.base - 0x400) % 0x40
      if w.a < g.base + 0x400 then true
      else if g.kind = .met0 then
        (if o = 0 then fbit v 31 || j == 7 else if o = 4 then v != 0 else if o = 8 then f 24 8 == 0 else if o = 12 then decide (1 ≤ v.toNat) && decide (v.toNat ≤ 100000) else true)
      else if g.kind = .metO then
        (if o = 4 ∨ o = 12 then decide (0x00800000 ≤ v.toNat) && decide (v.toNat ≤ 0x02000000) else if o = 8 ∨ o = 16 then f 24 8 == 0
         else if 0x30 ≤ o then (List.range 4).all (fun i => l.any (fun q => q.a == w.a - o + 0x30 + 4 * i)) else true)
      else true
    | _ => true

/-- The code of a WRITE: the first of Table: Sealed-path results whose condition holds (R445). -/
def sealWriteCode (s : State) (l : List SealWord) : Nat :=
  if !sealOpen s.env s.met && l.any (fun w => !sealW1c w) then 1
  else if l.any (fun w => !sealAbsent w && !sealDenied w && !sealInRange s.met l w) then 2
  else if l.any sealAbsent then 3
  else if l.any sealDenied then 6
  else 0

/-- The bits of a calendar word that hold a field (Table: Calendar entry). -/
def calMask (a : Nat) : Word :=
  match a / 4 % 4 with
  | 0 => 0x80F007FF | 1 => 0x07FF007F | _ => 0xFFFFFFFF

/-- The reserved bits of a word of a request, and the page that records them (R8). -/
def sealRsv (w : SealWord) : Word × Nat :=
  match w.place with
  | .reg g d _ => (w.v &&& word d.rsv, g.base)
  | .win q _ => (w.v &&& ~~~ calMask w.a, q.page)
  | _ => (0, 0x60000000)

/-- The value that a word takes, under its access codes: reserved bits read zero (R8), a RESTART in PG_CTRL is ignored (R121), and a word of a
fence map keeps the ones that unfence (R99). -/
def sealValue (m : Met) (w : SealWord) : Word :=
  let v := w.v &&& ~~~ (sealRsv w).1
  match w.place with
  | .reg _ d _ => if d.acc == .wo || inFenceMap w.a then v else applyCodes d (pendingRd m w.a) v
  | _ => v
/-- A key word, whose value is never recorded (R446). -/
def sealKey (w : SealWord) : Bool := match w.place with | .reg g _ _ => g.kind == .metO && decide (0x430 ≤ (w.a - g.base) % 0x40 + 0x400) | _ => false
/-- A word whose change takes effect at once: a W1C register or a page's own control word. -/
def sealNow (w : SealWord) : Bool := sealW1c w || (match w.place with | .reg g _ _ => decide (w.a - g.base < 0x40) | _ => false)

/-- A refusal of a sealed request (R445, R491, R492). -/
def sealRefused (code : Nat) (st : List Word) (x : MetLog) : MetLog :=
  let x1 := metNote 0x09 code st [] (metFlag 7 x)
  if code = 1 ∨ code = 0x10 then metTamper 0x0D (word code) st x1 else x1

/-- An applied WRITE (R446, R8): words that take effect at once, the count, the flag, the logs and the tamper kind. -/
def sealApply (l : List SealWord) (st : List Word) (x : MetLog) : MetLog :=
  let m := x.1
  let notes := l.map (fun w => (sealKey w, word w.a, pendingRd m w.a, sealValue m w))
  let first := (l.headD ⟨0x60000000, 0, .unmapped⟩).a
  let final := (l.getLastD ⟨0, 0, .unmapped⟩).a
  let m1 := (l.filter sealNow).foldl (fun m w => m.wr w.a (sealValue m w)) m
  let m2 := m1.wr Reg.MET_CAL_SEQ (word (m.n Reg.MET_CAL_SEQ + 1))
  let x0 := eachOf (l.filter (fun w => (sealRsv w).1 != 0)) (fun w x => metErr (sealRsv w).2 0 x) (m2, x.2)
  let x1 := metEntry 0x30 0x05 ((l.length - 1) * 2 ^ 28 + (first - 0x60000000) % 2 ^ 28) (metFlag 8 x0)
  let x2 := eachOf notes (fun n x => metNote 0x01 (if n.1 then 1 else 0) st [n.2.1, if n.1 then 0 else n.2.2.1, if n.1 then 0 else n.2.2.2] x) x1
  metTamper 0x01 (word final) st (spanFlag 8 x2)

/-- A request in the core's hands: its code, and what its completion makes pending. -/
def sealTake (q : MetReq) (st : List Word) (x : MetLog) : MetLog :=
  let x1 := metDo (fun m => m.onSt (fun t => { t with req := some q })) x
  if q.code = 0 then x1 else sealRefused q.code st x1

/-- The code and the change of a TIME_SET (R465, R490). -/
def timeSetCode (e : Env) (m : Met) (d0 d1 : Word) : Nat × Int × Bool :=
  let want : Nat := (d0.toNat + 2 ^ 32 * fget d1 0 8) * 1000 + fget d1 16 10
  let delta := (want : Int) - metUtc e m
  let step : Bool := !metValid m || decide (m.f Reg.TRF_TIME_CFG 0 16 < delta.natAbs)
  let code := if d1 &&& 0xFC00FF00 ≠ 0 then 2 else if 999 < fget d1 16 10 then 0x11
    else if step && metValid m && !sealOpen e m && decide (m.f Reg.TRF_TIME_CFG 16 16 * 1000 < delta.natAbs) then 0x10 else 0
  (code, delta, step)

/-- A meter that a session may name (METER of Table: Request codes). -/
def sessMeter (p : Part) (m : Met) (k : Nat) : Bool := decide (k < p.outlets) && metEn m k

/-- The identification words of a session, zero beyond ID_LEN (R489, R496). -/
def sessIds (d : Nat → Word) : List Word :=
  let len := fget (d 0) 16 8
  word (fget (d 0) 24 8 * 2 ^ 24 + len) :: (List.range 8).map (fun i =>
    word (((List.range 4).map (fun b => if 4 * i + b < len then fget (d (i + 1)) (8 * b) 8 * 2 ^ (8 * b) else 0)).sum))

/-- SESSION_BEGIN's code (R490, R495, R499). -/
def beginCode (p : Part) (m : Met) (d0 : Word) : Nat :=
  let k := fget d0 0 7
  if d0 &&& 0x0000FF80 ≠ 0 ∨ 32 < fget d0 16 8 ∨ 5 < fget d0 24 8 then 2
  else if !sessMeter p m k then 0x12
  else if m.st.eng.sess.any (fun s => s.1 == k) then 0x13
  else if recFree m < 66 then 0x15 else 0

/-- SESSION_END's code (R490). -/
def endCode (p : Part) (m : Met) (d0 : Word) : Nat :=
  let k := fget d0 0 7
  if d0 &&& 0xFFFFFF80 ≠ 0 then 2
  else if !sessMeter p m k then 0x12
  else if m.st.eng.sess.any (fun s => s.1 == k && s.2.ending == 0) then 0 else 0x14

/-- What SELECT finds (R500). -/
def selectFind (m : Met) (kind no : Nat) : Option (List Word) :=
  if kind = 1 then (m.st.recs.find? (fun r => r.1 == no)).map (fun r => r.2.2)
  else if no < m.n Reg.TRF_LOG_NO ∧ m.n Reg.TRF_LOG_NO ≤ no + 2048 then some (tget (fun _ => ([] : List Word)) m.st.mlog (no % 2048)) else none

/-- SELECT (R495, R500): the item goes to TRF.REC_Wk, a record is marked fetched. -/
def selectDo (kind no : Nat) (w : List Word) (m : Met) : Met :=
  let m1 := (eachOf ((List.range w.length).zip w) (fun t m => m.wr (Reg.TRF_REC_W t.1) t.2) m).wr Reg.TRF_REC_INFO (word (kind * 2 ^ 28))
  let m2 := m1.wr Reg.TRF_REC_NUM (word no)
  if kind = 1 then recShow (m2.onSt (fun t => { t with recs := t.recs.map (fun r => if r.1 = no then (r.1, true, r.2.2) else r) })) else m2

/-- The SEAL_DATA words that a request names (Table: Sealed-path requests). -/
def dataWords (op : Nat) : Nat := match op with | 2 => 2 | 4 => 9 | 5 => 1 | 6 => 2 | _ => 0
/-- Every SEAL_DATA word that a request other than WRITE does not name is zero (R490). -/
def dataClear (op : Nat) (d : Nat → Word) : Bool := (List.range 16).all (fun k => decide (k < dataWords op) || d k == 0)

/-- A sealed request that the core takes up (R444, R445, R489, R490). -/
def sealRun (s : State) (op count tag : Nat) (e : Env) (m : Met) : MetLog :=
  let st := metStamp e m
  let d (i : Nat) : Word := s.chip.rd (Reg.CHIP_SEAL_DATA i)
  let q : MetReq := { op := op, tag := tag }
  if op = 1 then
    let l := sealWords s count
    let code := sealWriteCode s l
    if code = 0 then
      sealTake { q with words := (l.filter (fun w => !sealNow w)).map (fun w => (w.a, sealValue m w)) } st (sealApply l st (m, []))
    else sealTake { q with code := code } st (m, [])
  else if 7 < op then sealTake { q with code := 6 } st (m, [])
  else if !dataClear op d then sealTake { q with code := 2 } st (m, [])
  else if op = 2 then
    let r := timeSetCode e m (d 0) (d 1)
    sealTake { q with code := r.1, set := if r.1 = 0 then some r.2 else none } st (m, [])
  else if op = 3 then sealTake q st (m, [])
  else if op = 4 then
    let k := fget (d 0) 0 7
    let code := beginCode e.part m (d 0)
    if code = 0 then
      let no := m.n Reg.TRF_RNO_NEXT
      let m1 := (m.wr Reg.TRF_RNO_NEXT (word (no + 1))).onEng (fun g => { g with sess := g.sess ++ [(k, { rno := no, ids := sessIds d })] })
      sealTake { q with meter := k } st (metNote 0x0A k st [word no] (recShow m1, []))
    else sealTake { q with code := code } st (m, [])
  else if op = 5 then
    let k := fget (d 0) 0 7
    let code := endCode e.part m (d 0)
    if code = 0 then
      let no := ((m.st.eng.sess.find? (fun t => t.1 == k)).map (fun t => t.2.rno)).getD 0
      let m1 := m.onEng (fun g => { g with sess := g.sess.map (fun t => if t.1 = k then (k, { t.2 with ending := 1 }) else t) })
      sealTake { q with meter := k } st (metNote 0x0B k st [word no] (m1, []))
    else sealTake { q with code := code } st (m, [])
  else if op = 6 then
    let kind := fget (d 0) 28 4
    if d 0 &&& 0x0FFFFFFF ≠ 0 ∨ (kind ≠ 1 ∧ kind ≠ 2) then sealTake { q with code := 2 } st (m, [])
    else match selectFind m kind (d 1).toNat with
      | some w => sealTake q st (selectDo kind (d 1).toNat w m, [])
      | none => sealTake { q with code := 0x16 } st (m, [])
  else
    if recFree m < 66 then sealTake { q with code := 0x15 } st (m, [])
    else
      let b : RecBody := { kind := 3, meter := 0, stampB := [], stampE := st, epochB := 0, epochE := 0, readB := [], readE := [], flags := 0, ids := [], maxDem := [] }
      sealTake q st (recNew (recWords m b (some ((List.range 32).map (fun k => m.rd (Reg.TMP_COUNT k))))) m, [])

/-- SEAL_STAT.RESULT of a code: the field has 4 bits. -/
def sealShown (code : Nat) : Nat := if code < 16 then code else Config.resultOf code

/-- The result of a request that is turned away at once: ABSENT, BUSY or CORE_DOWN (R445). -/
def sealTurned (code tag : Nat) (s : State) : State :=
  let s1 := onMet (fun e m => if e.part.hasMet then sealRefused code (metStamp e m) (m, []) else (m, [])) s
  onChip (fun _ c => (c.setF Reg.CHIP_SEAL_STAT 24 4 code).setF Reg.CHIP_SEAL_STAT 0 16 tag) s1

/-- A write of CHIP.SEAL_CMD after its checks (R444): with OP other than 0 it starts a request. -/
def sealStart (v : Word) (s : State) : State :=
  let s1 := s.wr Reg.CHIP_SEAL_CMD v
  let op := fget v 28 4
  let tag := fget v 0 16
  if op = 0 then s1
  else if !s.env.part.hasMet then sealTurned 3 tag s1
  else if s.chip.b Reg.CHIP_SEAL_STAT 31 then sealTurned 4 tag s1
  else if s.chip.rgn .metrology ≠ 0 ∨ !s.met.st.on then sealTurned 5 tag s1
  else onMet (sealRun s1 op (fget v 24 4) tag) (onChip (fun _ c => c.setB Reg.CHIP_SEAL_STAT 31 true) s1)

/-- A plane writes CHIP.SEAL_CMD. -/
def sealCmd (p : Plane) (op count : Nat) (tag : BitVec 16) (s : State) : State :=
  onWrite p Reg.CHIP_SEAL_CMD (word (op * 2 ^ 28 + count * 2 ^ 24 + tag.toNat)) sealStart s

/-- SEALED_WRITE: a WRITE of `n` + 1 words (R445, R446). -/
def execSealedWrite (p : Plane) (n : Fin 16) (tag : BitVec 16) (s : State) : Host.Outcome State Fault Refusal := .next (sealCmd p 1 n tag s)
/-- TIME_SET: a request to set UTC (R465, R466). -/
def execTimeSet (p : Plane) (tag : BitVec 16) (s : State) : Host.Outcome State Fault Refusal := .next (sealCmd p 2 0 tag s)
/-- CLOSE_PERIOD: a request to close the billing period at the next epoch boundary (R484). -/
def execClosePeriod (p : Plane) (tag : BitVec 16) (s : State) : Host.Outcome State Fault Refusal := .next (sealCmd p 3 0 tag s)
/-- SESSION_BEGIN: a request to open a metering session (R497). -/
def execSessionBegin (p : Plane) (tag : BitVec 16) (s : State) : Host.Outcome State Fault Refusal := .next (sealCmd p 4 0 tag s)
/-- SESSION_END: a request to end one (R497). -/
def execSessionEnd (p : Plane) (tag : BitVec 16) (s : State) : Host.Outcome State Fault Refusal := .next (sealCmd p 5 0 tag s)
/-- SELECT: a request to show a record or a log entry (R500). -/
def execSelect (p : Plane) (tag : BitVec 16) (s : State) : Host.Outcome State Fault Refusal := .next (sealCmd p 6 0 tag s)
/-- TAMPER_REPORT: a request for a signed TAMPER record (R489, R495). -/
def execTamperReport (p : Plane) (tag : BitVec 16) (s : State) : Host.Outcome State Fault Refusal := .next (sealCmd p 7 0 tag s)

/-- What a completed request makes pending (R442, R466, R484, R497). -/
def sealDone (e : Env) (q : MetReq) (m : Met) : Met :=
  let m1 := m.onSt (fun t => { t with req := none, words := t.words ++ q.words, close := t.close || (q.op == 3 && q.code == 0) })
  let m2 := match q.set with
    | some d => ((m1.setB Reg.TRF_TIME_STAT 29 true).setB Reg.TRF_TIME_STAT 30 false).onSt (fun t =>
        { t with time := { t.time with utc := metUtc e m, lcU := metLc e m, slew := none, due := some d } })
    | none => m1
  let m3 := m2.onEng (fun g => { g with sess := g.sess.map (fun t =>
    if t.1 = q.meter ∧ q.code = 0 then (t.1, { t.2 with phase := if q.op = 4 ∧ t.2.phase = 0 then 1 else t.2.phase, ending := if q.op = 5 ∧ t.2.ending = 1 then 2 else t.2.ending }) else t) })
  recShow m3

/-- SEALED_REQUEST_COMPLETE: a request completes and its result is shown (R444). One that completes in the cycle of an epoch boundary takes effect
at the next (R458, 14 R504). -/
def execSealedRequestComplete (s : State) : Host.Outcome State Fault Refusal :=
  let s0 := metAtOnce s
  match s0.met.st.req with
  | some q =>
    let s1 := onMet (fun e m => (sealDone e q m, [])) s0
    .next (onChip (fun _ c => ((c.setB Reg.CHIP_SEAL_STAT 31 false).setF Reg.CHIP_SEAL_STAT 24 4 (sealShown q.code)).setF Reg.CHIP_SEAL_STAT 0 16 q.tag) s1)
  | none => .next s

end Sys2Proof.Machine
end

