-- ==== Sys2Proof/Machine/RegFile.lean ====
section
/-! DEFINITION. Software accesses to the register map (ch. 4): a write of any register with what its block does with it, a read of a
register that the read clears, and a read of an unmapped address. -/
namespace Sys2Proof.Machine

/-- A write of CHIP.ESC after its checks: CHIP_HELD stays while Control and Service are held (03 R111). -/
def escWrite (v : Word) (c : Chip) : Chip :=
  let held := c.rgn .control == 2 && c.rgn .service == 2
  c.wr Reg.CHIP_ESC (c.rd Reg.CHIP_ESC &&& ~~~ (if held then v &&& ~~~ fmask 5 1 else v))

/-- A free value of a kind, and the state with its draw counted (log entry 7). -/
def State.draw (k : Nat) (s : State) : Word × State :=
  (Config.freeWord k s.chip.drawn, onChip (fun _ c => { c with drawn := c.drawn + 1 }) s)

/-- A write of CHIP.SCC_CMD after its checks. Where a COMMIT finds a staged program image, whether the image passes its check, and its version,
are free values here: SCC_COMMIT names them (log entry 7). -/
def sccWrite (v : Word) (s : State) : State :=
  let en := s.chip.b Reg.CHIP_SCC_STAT 29
  if fget v 28 4 = 3 ∧ !s.heath.st.prog.isEmpty then
    let q := s.draw 2
    let r := q.2.draw 3
    sccStart en (if fbit q.1 0 then some r.1 else none) v r.2
  else sccStart en none v s

/-- What a block of the Control region does with a written word of its own, where that is more than keeping it; `j` is the cell and `r`
the offset in the cell, 0x1000 for a word outside the cells. -/
def controlHook (p : Plane) (g : Page) (a j r : Nat) (v : Word) : Option (State → State) :=
  match g.kind with
  | .chip =>
    if a = Reg.CHIP_ESC then some (onChip (fun _ => escWrite v))
    else if a = Reg.CHIP_SEAL_CMD then some (sealStart v)
    else if a = Reg.CHIP_SCC_CMD then some (sccWrite v)
    else none
  | .gal => if r = 0 then some (galWrite p j v) else none
  | .snp =>
    if r = 0 then some (onChip (fun _ => snapHoldWrite j v))
    else if r = 0xC then some (logPut j (fget v 0 8))
    else none
  | .thm => if a = Reg.THM_SDR_SEL then some (onChip (fun _ c => sdrShow (c.wr a v))) else none
  | .qn => if a = Reg.QN_CTRL then some (qnCtrl v) else none
  | _ => none

/-- A written word of a CAN controller's cell (R620, R623). Whether the head frame is in transmission at an ABORT is a free value here:
CAN_ABORT names it (log entry 7). -/
def canHook (c r : Nat) (v : Word) : Option (State → State) :=
  if r = 0x18 then some (onCan c (canSwIdx c v))
  else if r = 0x2C then some (fun s =>
    if fbit v 1 then
      let q := s.draw 4
      onCan c (canCmd c v (fbit q.1 0)) q.2
    else onCan c (canCmd c v false) s)
  else none

/-- The same for a block of the Service region. Which channels are still hot at a write of ASW.CLR is a free value here: ASW_CLR names them
(log entry 7). -/
def serviceHook (g : Page) (a j r : Nat) (v : Word) : Option (State → State) :=
  match g.kind with
  | .ses =>
    let o := 32 * g.inst + j
    if r = 0 then some (onChip (fun _ => sesDemWrite o v))
    else if r = 0x18 then some (onChip (fun _ => sesCreditSet o v))
    else if r = 0x1C then some (onChip (fun _ c => (c.wr a v).setSes o { c.sesOf o with expired := false }))
    else if r = 0x24 then some (onChip (fun _ => sesTunWrite o v))
    else none
  | .can => canHook j r v
  | .hdg => if a = Reg.HDG_SW_IDX then some (onChip (fun _ => hdgSwIdx v)) else none
  | .pwm =>
    if a = Reg.PWM_LOAD_ALL then some (onChip (fun e => pwmLoadAll e v))
    else if a = Reg.PWM_TRIP_CLR then some (onChip (fun e => pwmTripClr e v))
    else if r = 8 then some (onChip (fun e => pwmShPeriod e j v))
    else if r = 0xC then some (onChip (fun e => pwmShCmp e j v))
    else none
  | .asw =>
    if a = Reg.ASW_CLR then some (fun s =>
      let q := s.draw 5
      aswClr v q.1 q.2)
    else none
  | .pwr => if a = Reg.PWR_RST_CMD then some (rstWrite v) else none
  | .upd => if a = Reg.UPD_CMD then some (updWrite v) else none
  | .eth =>
    if a = Reg.ETH_PTP_STEP_NS then some (onChip (fun _ => ptpStep v))
    else if a = Reg.ETH_PTP_ADJ then some (onChip (fun _ => ptpAdj v))
    else none
  | .osp =>
    if a = Reg.OSP_BOOT then some (onChip (fun _ => bootWrite v))
    else if a = Reg.OSP_FL_CMD then some (onChip (fun _ => flWrite v))
    else none
  | _ => none

/-- What a written word does beside being kept. -/
def writeHook (p : Plane) (a : Nat) (v : Word) : Option (State → State) :=
  match pageAt a with
  | none => none
  | some g =>
    let j := (a - g.base - 0x400) / g.stride
    let r := if 0x400 ≤ a - g.base then (a - g.base - 0x400) % g.stride else 0x1000
    if a - g.base = 8 then some (pgCtrl g.base v)
    else match regionOf a with
      | .control => controlHook p g a j r v
      | .service => serviceHook g a j r v
      | .heath => if g.kind = .can then canHook 7 r v else none
      | _ => none

/-- A write that has passed its checks takes effect under its access code (R125). -/
def writeTake (p : Plane) (a : Nat) (d : RegDesc) (v : Word) (s : State) : State :=
  match writeHook p a v with
  | some f => f s
  | none => s.wr a (applyCodes d (s.rd a) v)

/-- REGISTER_WRITE: a plane writes `size` bytes at an address; the checks of R125 in order, then the effect. -/
def execRegisterWrite (p : Plane) (a size : Nat) (v : Word) (s : State) : Host.Outcome State Fault Refusal :=
  .next (if s.reaches a then
      (match checkWrite s p a size v with
       | .dropped s' => s'
       | .staged s' => s'
       | .pass s' d v' => if s.holds a then holdWrite p a v s else writeTake p a d v' s')
    else s)

/-- UNMAPPED_READ: a read of an address in no page and no window returns zero and is recorded (R114). An address that is mapped is no case
of this command. -/
def execUnmappedRead (p : Plane) (a : Nat) (s : State) : Host.Outcome State Fault Refusal :=
  .next (match placeOf s.env.part (a / 4 * 4) with
    | .unmapped => { onChip (fun e c => c.dropRecord e p a true true) s with rdata := 0 }
    | _ => s)

/-- The addressed bytes of a word: `size` bytes from the byte that the address names (R115). -/
def readBytes (w : Word) (a size : Nat) : Word := (w >>> (8 * (a % 4))) &&& word (2 ^ (8 * size) - 1)

/-- READ_CLEAR: a read of `size` bytes of an RC register returns them, then clears the whole word (R11, R115). An absent or unassigned word
returns zero and clears nothing (R119, R128, R129), as does one of a region in reset. A present word of another code is no case of this
command, nor is an unmapped address. -/
def execReadClear (p : Plane) (x : ReadAt) (s : State) : Host.Outcome State Fault Refusal :=
  let a := x.addr
  .next (match placeOf s.env.part (a / 4 * 4) with
    | .reg _ d _ =>
      if d.acc = .rc then
        (if s.reaches a then { s.wr (a / 4 * 4) 0 with rdata := readBytes (readWord s p a) a x.size } else { s with rdata := 0 })
      else s
    | .absent _ | .blank _ => { s with rdata := 0 }
    | .win .. | .unmapped => s)

/-! ### The end of a block restart (R101) -/

/-- A held write of a block that has restarted is carried out (R101). -/
def heldTake (x : Nat × Nat × Word) (s : State) : State :=
  match checkWrite s (planeOf x.1) x.2.1 4 x.2.2 with
  | .dropped s' => s'
  | .staged s' => s'
  | .pass s' d v' => writeTake (planeOf x.1) x.2.1 d v' s'

/-- BLOCK_RESTART_COMPLETE: the block's logic is cleared and reloaded, its cells keep their fences, and the requests that it held are
released in their order (R101). -/
def execBlockRestartComplete (page : Nat) (s : State) : Host.Outcome State Fault Refusal :=
  .next (if s.chip.flt.held.contains page then
      let mine := s.chip.flt.waitW.filter (fun x => homePage x.2.1 == some page)
      let s1 := onChip (fun _ c => { c with flt := { c.flt with held := c.flt.held.filter (· != page),
                                                                waitW := c.flt.waitW.filter (fun x => homePage x.2.1 != some page) } }) (blockReloadAny page s)
      eachOf mine heldTake (pageCount page 15 0 4 s1)
    else s)

end Sys2Proof.Machine
end

