-- ==== Sys2Proof/Machine/Dispatch.lean ====
section
/-! DEFINITION. What each command does: one arm for each constructor, a direct call of its meaning. -/
namespace Sys2Proof.Machine

def exec (i : Instr) (s : State) : Host.Outcome State Fault Refusal :=
  match i with
  | .frameBoundary => Sys2Proof.Machine.execFrameBoundary s
  | .timeAnchor => Sys2Proof.Machine.execTimeAnchor s
  | .bundleCutOff => Sys2Proof.Machine.execBundleCutOff s
  | .solveStart => Sys2Proof.Machine.execSolveStart s
  | .allocatorComplete used => Sys2Proof.Machine.execAllocatorComplete used s
  | .controlEngineComplete used => Sys2Proof.Machine.execControlEngineComplete used s
  | .emitStart => Sys2Proof.Machine.execEmitStart s
  | .frozenIn => Sys2Proof.Machine.execFrozenIn s
  | .ramping => Sys2Proof.Machine.execRamping s
  | .escalate => Sys2Proof.Machine.execEscalate s
  | .mirrorImposeStart => Sys2Proof.Machine.execMirrorImposeStart s
  | .galleyVerdictsFixed => Sys2Proof.Machine.execGalleyVerdictsFixed s
  | .partnerVerdict code => Sys2Proof.Machine.execPartnerVerdict code s
  | .mramMarkerWritten => Sys2Proof.Machine.execMramMarkerWritten s
  | .fsyncEdge cyc => Sys2Proof.Machine.execFsyncEdge cyc s
  | .fsyncMiss => Sys2Proof.Machine.execFsyncMiss s
  | .lockGained => Sys2Proof.Machine.execLockGained s
  | .lockLost => Sys2Proof.Machine.execLockLost s
  | .fsyncOutFall => Sys2Proof.Machine.execFsyncOutFall s
  | .nowLoRead p => Sys2Proof.Machine.execNowLoRead p s
  | .parityError w => Sys2Proof.Machine.execParityError w s
  | .parityReplay w clean => Sys2Proof.Machine.execParityReplay w clean s
  | .scrubComplete w clean => Sys2Proof.Machine.execScrubComplete w clean s
  | .fabricWriteReplay a writer ok => Sys2Proof.Machine.execFabricWriteReplay a writer ok s
  | .selfCheckerFault page => Sys2Proof.Machine.execSelfCheckerFault page s
  | .pgCtrlRestart p page v => Sys2Proof.Machine.execPgCtrlRestart p page v s
  | .blockRestartComplete page => Sys2Proof.Machine.execBlockRestartComplete page s
  | .blockRestartFailed page => Sys2Proof.Machine.execBlockRestartFailed page s
  | .regionWatchdogExpire r => Sys2Proof.Machine.execRegionWatchdogExpire r s
  | .regionRestartComplete r valid sigA sigB => Sys2Proof.Machine.execRegionRestartComplete r valid sigA sigB s
  | .regionRestartTimeout r => Sys2Proof.Machine.execRegionRestartTimeout r s
  | .chipFaultRestart => Sys2Proof.Machine.execChipFaultRestart s
  | .registerWrite p a size v => Sys2Proof.Machine.execRegisterWrite p a size v s
  | .unmappedRead p a => Sys2Proof.Machine.execUnmappedRead p a s
  | .readClear p x => Sys2Proof.Machine.execReadClear p x s
  | .galleyStage p a v => Sys2Proof.Machine.execGalleyStage p a v s
  | .galleyOpen p k tag => Sys2Proof.Machine.execGalleyOpen p k tag s
  | .galleyProof p k tag => Sys2Proof.Machine.execGalleyProof p k tag s
  | .galleyCommit p k tag => Sys2Proof.Machine.execGalleyCommit p k tag s
  | .galleyRollback p k tag => Sys2Proof.Machine.execGalleyRollback p k tag s
  | .galleyNop p k tag => Sys2Proof.Machine.execGalleyNop p k tag s
  | .structuralPassComplete => Sys2Proof.Machine.execStructuralPassComplete s
  | .snapshotHoldSet p clr => Sys2Proof.Machine.execSnapshotHoldSet p clr s
  | .snapshotHoldClear p clr => Sys2Proof.Machine.execSnapshotHoldClear p clr s
  | .holdExpired p => Sys2Proof.Machine.execHoldExpired p s
  | .logPut p v => Sys2Proof.Machine.execLogPut p v s
  | .sagStart => Sys2Proof.Machine.execSagStart s
  | .sagEnd => Sys2Proof.Machine.execSagEnd s
  | .positionSuspect g => Sys2Proof.Machine.execPositionSuspect g s
  | .stepTimeout m => Sys2Proof.Machine.execStepTimeout m s
  | .stageRejoin g => Sys2Proof.Machine.execStageRejoin g s
  | .slotReclose k => Sys2Proof.Machine.execSlotReclose k s
  | .axisEnable a => Sys2Proof.Machine.execAxisEnable a s
  | .axisMove a => Sys2Proof.Machine.execAxisMove a s
  | .axisStop a => Sys2Proof.Machine.execAxisStop a s
  | .axisDisable a => Sys2Proof.Machine.execAxisDisable a s
  | .axisReset a => Sys2Proof.Machine.execAxisReset a s
  | .axisFault a => Sys2Proof.Machine.execAxisFault a s
  | .pinFault n => Sys2Proof.Machine.execPinFault n s
  | .sensorSuspect o k => Sys2Proof.Machine.execSensorSuspect o k s
  | .stale o => Sys2Proof.Machine.execStale o s
  | .hkpConversion ch v => Sys2Proof.Machine.execHkpConversion ch v s
  | .portTrainingStart n => Sys2Proof.Machine.execPortTrainingStart n s
  | .trainBlockReceived n lane blk rtt => Sys2Proof.Machine.execTrainBlockReceived n lane blk rtt s
  | .trainingStepDone n step lane h w => Sys2Proof.Machine.execTrainingStepDone n step lane h w s
  | .trainingStepTimeout n step lane los => Sys2Proof.Machine.execTrainingStepTimeout n step lane los s
  | .trainingRetry n => Sys2Proof.Machine.execTrainingRetry n s
  | .clockLos n rx => Sys2Proof.Machine.execClockLos n rx s
  | .clockLol n rx => Sys2Proof.Machine.execClockLol n rx s
  | .dataLos n lane rx => Sys2Proof.Machine.execDataLos n lane rx s
  | .dataLol n lane rx => Sys2Proof.Machine.execDataLol n lane rx s
  | .codeErr n => Sys2Proof.Machine.execCodeErr n s
  | .statusBlockReceived n blk rx => Sys2Proof.Machine.execStatusBlockReceived n blk rx s
  | .laneRejoin n lane => Sys2Proof.Machine.execLaneRejoin n lane s
  | .upwardBundle n b => Sys2Proof.Machine.execUpwardBundle n b s
  | .portLost n => Sys2Proof.Machine.execPortLost n s
  | .nodeStagesUnavailable n => Sys2Proof.Machine.execNodeStagesUnavailable n s
  | .ackResend n => Sys2Proof.Machine.execAckResend n s
  | .tunReset n => Sys2Proof.Machine.execTunReset n s
  | .link p o => Sys2Proof.Machine.execLink p o s
  | .auth p o => Sys2Proof.Machine.execAuth p o s
  | .prepare p o => Sys2Proof.Machine.execPrepare p o s
  | .charge p o => Sys2Proof.Machine.execCharge p o s
  | .stop p o => Sys2Proof.Machine.execStop p o s
  | .clear p o => Sys2Proof.Machine.execClear p o s
  | .creditSet p o v => Sys2Proof.Machine.execCreditSet p o v s
  | .isoFault o => Sys2Proof.Machine.execIsoFault o s
  | .openForced o => Sys2Proof.Machine.execOpenForced o s
  | .sesTimer o => Sys2Proof.Machine.execSesTimer o s
  | .tunSwWrite p o v => Sys2Proof.Machine.execTunSwWrite p o v s
  | .cryJob x => Sys2Proof.Machine.execCryJob x s
  | .cryJobComplete k => Sys2Proof.Machine.execCryJobComplete k s
  | .intakeSample raw => Sys2Proof.Machine.execIntakeSample raw s
  | .l1Lost => Sys2Proof.Machine.execL1Lost s
  | .streamBlock o mac => Sys2Proof.Machine.execStreamBlock o mac s
  | .contactor o => Sys2Proof.Machine.execContactor o s
  | .epochBoundary => Sys2Proof.Machine.execEpochBoundary s
  | .settlement => Sys2Proof.Machine.execSettlement s
  | .checkpointWritten => Sys2Proof.Machine.execCheckpointWritten s
  | .legalSealChange opened => Sys2Proof.Machine.execLegalSealChange opened s
  | .sealedWrite p n tag => Sys2Proof.Machine.execSealedWrite p n tag s
  | .timeSet p tag => Sys2Proof.Machine.execTimeSet p tag s
  | .closePeriod p tag => Sys2Proof.Machine.execClosePeriod p tag s
  | .sessionBegin p tag => Sys2Proof.Machine.execSessionBegin p tag s
  | .sessionEnd p tag => Sys2Proof.Machine.execSessionEnd p tag s
  | .select p tag => Sys2Proof.Machine.execSelect p tag s
  | .tamperReport p tag => Sys2Proof.Machine.execTamperReport p tag s
  | .sealedRequestComplete => Sys2Proof.Machine.execSealedRequestComplete s
  | .slewEnd => Sys2Proof.Machine.execSlewEnd s
  | .recordSigned sig => Sys2Proof.Machine.execRecordSigned sig s
  | .periodPendWrite => Sys2Proof.Machine.execPeriodPendWrite s
  | .cut => Sys2Proof.Machine.execCut s
  | .pfSave t => Sys2Proof.Machine.execPfSave t s
  | .pfailOff => Sys2Proof.Machine.execPfailOff s
  | .pfailResume => Sys2Proof.Machine.execPfailResume s
  | .metrologyRestore => Sys2Proof.Machine.execMetrologyRestore s
  | .backupSample rms => Sys2Proof.Machine.execBackupSample rms s
  | .vbakLow => Sys2Proof.Machine.execVbakLow s
  | .legalTimeLost => Sys2Proof.Machine.execLegalTimeLost s
  | .trfNowRead p => Sys2Proof.Machine.execTrfNowRead p s
  | .heathCycle ix rb ma => Sys2Proof.Machine.execHeathCycle ix rb ma s
  | .legFilterChange ix j legB => Sys2Proof.Machine.execLegFilterChange ix j legB s
  | .discrepancy ix j => Sys2Proof.Machine.execDiscrepancy ix j s
  | .lockFault ix k => Sys2Proof.Machine.execLockFault ix k s
  | .testFault ix j legB => Sys2Proof.Machine.execTestFault ix j legB s
  | .resetEdge ix r => Sys2Proof.Machine.execResetEdge ix r s
  | .resetStuck ix r => Sys2Proof.Machine.execResetStuck ix r s
  | .stopDlyExpire ix k => Sys2Proof.Machine.execStopDlyExpire ix k s
  | .unlockDlyExpire ix k => Sys2Proof.Machine.execUnlockDlyExpire ix k s
  | .syncFail ix k => Sys2Proof.Machine.execSyncFail ix k s
  | .outputTest ix n fell => Sys2Proof.Machine.execOutputTest ix n fell s
  | .overload n trip => Sys2Proof.Machine.execOverload n trip s
  | .short24v n => Sys2Proof.Machine.execShort24v n s
  | .heartbeatLost ix => Sys2Proof.Machine.execHeartbeatLost ix s
  | .channelDisagreement => Sys2Proof.Machine.execChannelDisagreement s
  | .lockstepMismatch => Sys2Proof.Machine.execLockstepMismatch s
  | .oscOutOfRange => Sys2Proof.Machine.execOscOutOfRange s
  | .heathTelegramSend => Sys2Proof.Machine.execHeathTelegramSend s
  | .networkBTelegram => Sys2Proof.Machine.execNetworkBTelegram s
  | .networkLost ix b => Sys2Proof.Machine.execNetworkLost ix b s
  | .unlockRequest p v => Sys2Proof.Machine.execUnlockRequest p v s
  | .sccEnter p tag en => Sys2Proof.Machine.execSccEnter p tag en s
  | .sccWrite p n tag => Sys2Proof.Machine.execSccWrite p n tag s
  | .sccCommit p tag img => Sys2Proof.Machine.execSccCommit p tag img s
  | .sccExit p tag => Sys2Proof.Machine.execSccExit p tag s
  | .sccAbort p tag => Sys2Proof.Machine.execSccAbort p tag s
  | .sccProg p n tag => Sys2Proof.Machine.execSccProg p n tag s
  | .cfgEnLow => Sys2Proof.Machine.execCfgEnLow s
  | .quoinBChange low => Sys2Proof.Machine.execQuoinBChange low s
  | .quoinOwn => Sys2Proof.Machine.execQuoinOwn s
  | .claimDeadline => Sys2Proof.Machine.execClaimDeadline s
  | .coldClaim => Sys2Proof.Machine.execColdClaim s
  | .qnRejoin p v => Sys2Proof.Machine.execQnRejoin p v s
  | .mirrorLinkDown => Sys2Proof.Machine.execMirrorLinkDown s
  | .hello h => Sys2Proof.Machine.execHello h s
  | .boundaryItem frame site rtt => Sys2Proof.Machine.execBoundaryItem frame site rtt s
  | .aligned => Sys2Proof.Machine.execAligned s
  | .imageItem x => Sys2Proof.Machine.execImageItem x s
  | .inDiff n => Sys2Proof.Machine.execInDiff n s
  | .hbItem health parts => Sys2Proof.Machine.execHbItem health parts s
  | .stateItem m units => Sys2Proof.Machine.execStateItem m units s
  | .fenceItem fences marks shuts => Sys2Proof.Machine.execFenceItem fences marks shuts s
  | .galleyItem g => Sys2Proof.Machine.execGalleyItem g s
  | .sessionItem o x sync => Sys2Proof.Machine.execSessionItem o x sync s
  | .closeItem frame => Sys2Proof.Machine.execCloseItem frame s
  | .cmpItem x => Sys2Proof.Machine.execCmpItem x s
  | .scrubItem a v => Sys2Proof.Machine.execScrubItem a v s
  | .outputComparison => Sys2Proof.Machine.execOutputComparison s
  | .selftest parts => Sys2Proof.Machine.execSelftest parts s
  | .selftestOutcome => Sys2Proof.Machine.execSelftestOutcome s
  | .divergence => Sys2Proof.Machine.execDivergence s
  | .joinStepDone cfg => Sys2Proof.Machine.execJoinStepDone cfg s
  | .swapRelease => Sys2Proof.Machine.execSwapRelease s
  | .canFrameReceived c x => Sys2Proof.Machine.execCanFrameReceived c x s
  | .canFrameSent c ts tdcv => Sys2Proof.Machine.execCanFrameSent c ts tdcv s
  | .canBusError c x => Sys2Proof.Machine.execCanBusError c x s
  | .canAbort p c busy => Sys2Proof.Machine.execCanAbort p c busy s
  | .canRecover p c => Sys2Proof.Machine.execCanRecover p c s
  | .boWaitExpire c => Sys2Proof.Machine.execBoWaitExpire c s
  | .recovered c => Sys2Proof.Machine.execRecovered c s
  | .canIntegrated c => Sys2Proof.Machine.execCanIntegrated c s
  | .canSwIdxWrite p c v => Sys2Proof.Machine.execCanSwIdxWrite p c v s
  | .hdgFrameReceived x => Sys2Proof.Machine.execHdgFrameReceived x s
  | .hdgFrameSent k clips ipk => Sys2Proof.Machine.execHdgFrameSent k clips ipk s
  | .hdgAckTimeout => Sys2Proof.Machine.execHdgAckTimeout s
  | .beaconTimer => Sys2Proof.Machine.execBeaconTimer s
  | .drvTrip temp sending => Sys2Proof.Machine.execDrvTrip temp sending s
  | .driverResume => Sys2Proof.Machine.execDriverResume s
  | .zcLost => Sys2Proof.Machine.execZcLost s
  | .hdgSwIdxWrite p v => Sys2Proof.Machine.execHdgSwIdxWrite p v s
  | .pwmReload j => Sys2Proof.Machine.execPwmReload j s
  | .deadTimeExpire j => Sys2Proof.Machine.execDeadTimeExpire j s
  | .loadAll p v => Sys2Proof.Machine.execLoadAll p v s
  | .tripAssert t => Sys2Proof.Machine.execTripAssert t s
  | .blankWindowClose t => Sys2Proof.Machine.execBlankWindowClose t s
  | .tripClr p v => Sys2Proof.Machine.execTripClr p v s
  | .tripInst j => Sys2Proof.Machine.execTripInst j s
  | .tripI2t j => Sys2Proof.Machine.execTripI2t j s
  | .tripTherm j => Sys2Proof.Machine.execTripTherm j s
  | .aswClr p v hot => Sys2Proof.Machine.execAswClr p v hot s
  | .inrushEnd j => Sys2Proof.Machine.execInrushEnd j s
  | .aswCurrentReport => Sys2Proof.Machine.execAswCurrentReport s
  | .openLoad j => Sys2Proof.Machine.execOpenLoad j s
  | .extV j above => Sys2Proof.Machine.execExtV j above s
  | .supplyFault k => Sys2Proof.Machine.execSupplyFault k s
  | .supplyReturn k => Sys2Proof.Machine.execSupplyReturn k s
  | .keepEnd j => Sys2Proof.Machine.execKeepEnd j s
  | .railFault r => Sys2Proof.Machine.execRailFault r s
  | .railGood r => Sys2Proof.Machine.execRailGood r s
  | .suppliesValid => Sys2Proof.Machine.execSuppliesValid s
  | .bakLow => Sys2Proof.Machine.execBakLow s
  | .resetNAssert => Sys2Proof.Machine.execResetNAssert s
  | .resetNRelease => Sys2Proof.Machine.execResetNRelease s
  | .rstCmd p v => Sys2Proof.Machine.execRstCmd p v s
  | .heathStart => Sys2Proof.Machine.execHeathStart s
  | .controlRegionStart valid => Sys2Proof.Machine.execControlRegionStart valid s
  | .serviceStart sigA sigB => Sys2Proof.Machine.execServiceStart sigA sigB s
  | .svcRestart p key => Sys2Proof.Machine.execSvcRestart p key s
  | .metOffer p key => Sys2Proof.Machine.execMetOffer p key s
  | .metWithdraw p key => Sys2Proof.Machine.execMetWithdraw p key s
  | .metImageLoad img => Sys2Proof.Machine.execMetImageLoad img s
  | .bootConfirm p v => Sys2Proof.Machine.execBootConfirm p v s
  | .bootTimeout => Sys2Proof.Machine.execBootTimeout s
  | .bootNextWrite p v => Sys2Proof.Machine.execBootNextWrite p v s
  | .flErase p slot => Sys2Proof.Machine.execFlErase p slot s
  | .flProgram p slot len => Sys2Proof.Machine.execFlProgram p slot len s
  | .flVerify p slot => Sys2Proof.Machine.execFlVerify p slot s
  | .flashOpComplete ok sig => Sys2Proof.Machine.execFlashOpComplete ok sig s
  | .ddrEccCe => Sys2Proof.Machine.execDdrEccCe s
  | .ddrEccUe a x => Sys2Proof.Machine.execDdrEccUe a x s
  | .patrolScrub ce => Sys2Proof.Machine.execPatrolScrub ce s
  | .ptpStep p v => Sys2Proof.Machine.execPtpStep p v s
  | .ptpNowRead p => Sys2Proof.Machine.execPtpNowRead p s
  | .ethFrameReceived ix bytes => Sys2Proof.Machine.execEthFrameReceived ix bytes s
  | .ethFrameSent ix bytes => Sys2Proof.Machine.execEthFrameSent ix bytes s
  | .ethLinkChange ix up anDone rfault speed => Sys2Proof.Machine.execEthLinkChange ix up anDone rfault speed s
  | .gpioEdge n level => Sys2Proof.Machine.execGpioEdge n level s
  | .pps => Sys2Proof.Machine.execPps s
  | .debugUnlock sig => Sys2Proof.Machine.execDebugUnlock sig s
  | .debugEnd => Sys2Proof.Machine.execDebugEnd s
  | .debugHalt k => Sys2Proof.Machine.execDebugHalt k s
  | .testPulse n => Sys2Proof.Machine.execTestPulse n s
  | .safetyInputSample ix legs rst => Sys2Proof.Machine.execSafetyInputSample ix legs rst s
  | .supervisorSample u1 u2 u3 => Sys2Proof.Machine.execSupervisorSample u1 u2 u3 s
  | .analogueInputConversion n v => Sys2Proof.Machine.execAnalogueInputConversion n v s
  | .pulseInputEdge n a b => Sys2Proof.Machine.execPulseInputEdge n a b s
  | .refFall j => Sys2Proof.Machine.execRefFall j s
  | .tripDeassert t => Sys2Proof.Machine.execTripDeassert t s
  | .aswCurrentSample ma => Sys2Proof.Machine.execAswCurrentSample ma s
  | .domainSupplyFault r => Sys2Proof.Machine.execDomainSupplyFault r s
  | .mtrVbakSwitchover => Sys2Proof.Machine.execMtrVbakSwitchover s
  | .sccRequestComplete => Sys2Proof.Machine.execSccRequestComplete s

end Sys2Proof.Machine
end

