-- ==== Sys2Proof/Machine/Due.lean ====
section
/-! DEFINITION. What the block does by itself: the commands whose time or condition has come, which an empty queue lets happen before
another FCLK cycle passes (log entry 1). Only commands that take no outside data stand here: the cuts of the frame, and the events
that the block's own state makes due and whose effect ends their condition. -/
namespace Sys2Proof.Machine

/-- The keys of a table as numbers below `n`. -/
def keysBelow {α : Type} (n : Nat) (m : List (Nat × α)) : List (Fin n) :=
  m.filterMap (fun x => if h : x.1 < n then some ⟨x.1, h⟩ else none)

/-- Regions, faults, the frame clock and the snapshot planes. -/
def coreEvents (s : State) : List Instr :=
  [.chipFaultRestart, .regionRestartTimeout .control, .regionRestartTimeout .service, .regionRestartTimeout .heath,
   .regionRestartTimeout .metrology, .bootTimeout, .escalate, .frozenIn, .ramping, .timeAnchor, .fsyncMiss, .lockGained, .lockLost,
   .fsyncOutFall, .pps, .sagStart, .sagEnd, .holdExpired .control, .holdExpired .data, .holdExpired .management]
  ++ s.chip.flt.held.map .blockRestartFailed

/-- The limits of a port's training, its retry, and its lanes' loss of block lock (R334, R335, R338). -/
def portEvents (n : Fin 32) : List Instr :=
  let m : Fin 34 := n.castLE (by decide)
  [.trainingRetry n, .trainingStepTimeout n 1 0 false, .trainingStepTimeout n 2 0 false, .trainingStepTimeout n 2 1 false,
   .trainingStepTimeout n 4 0 false, .trainingStepTimeout n 5 0 false, .dataLol m 0 {}, .dataLol m 1 {}]

/-- Ports, stages, loops, cable cooling and sessions. -/
def siteEvents (s : State) : List Instr :=
  (List.finRange 32).flatMap (fun n => [.portTrainingStart n, .portLost n, .nodeStagesUnavailable n, .ackResend n, .tunReset n])
  ++ (keysBelow 32 s.chip.phy).flatMap portEvents
  ++ (keysBelow 512 s.chip.mov.stg).flatMap (fun g => [.positionSuspect g, .stageRejoin g])
  ++ (keysBelow 128 s.chip.mov.slots).map .stepTimeout
  ++ (keysBelow 1024 s.chip.cen.slots).map .slotReclose
  ++ (keysBelow 8 s.chip.cen.axes).flatMap (fun a =>
    [.axisFault a, .axisEnable a, .axisMove a, .axisStop a, .axisDisable a, .axisReset a])
  ++ (keysBelow 4 s.chip.cen.pin).map .pinFault
  ++ (keysBelow 64 s.chip.thm.outs).flatMap (fun o => .stale o :: (List.finRange 6).map (.sensorSuspect o))
  ++ (keysBelow 64 s.chip.ses).flatMap (fun o => [.isoFault o, .openForced o, .sesTimer o])

/-- The Metrology region. -/
def metEvents (s : State) : List Instr :=
  [.epochBoundary, .settlement, .l1Lost, .slewEnd, .pfailResume, .periodPendWrite] ++ (keysBelow 64 s.met.st.eng.acc).map .contactor

/-- The two channels of Heath. -/
def heathEvents : List Instr :=
  (List.finRange 2).flatMap (fun i =>
    (List.finRange 16).flatMap (fun j =>
      [.legFilterChange i j false, .legFilterChange i j true, .testFault i j false, .testFault i j true, .discrepancy i j, .lockFault i j, .stopDlyExpire i j, .unlockDlyExpire i j,
       .syncFail i j])
    ++ (List.finRange 2).flatMap (fun r => [.resetEdge i r, .resetStuck i r]) ++ [.heartbeatLost i])
  ++ .channelDisagreement :: (List.finRange 8).flatMap (fun n => [.overload n false, .short24v n])
  ++ (List.finRange 4).map .testPulse
  ++ .networkBTelegram :: (List.finRange 32).flatMap (fun i => [.networkLost i false, .networkLost i true])

/-- The pair and Hedgerow's zero crossings. -/
def pairEvents (s : State) : List Instr :=
  [.quoinOwn, .claimDeadline, .coldClaim, .aligned, .outputComparison, .selftestOutcome, .divergence, .swapRelease, .zcLost]
  ++ [.dataLol 32 0 {}, .dataLol 32 1 {}, .dataLol 33 0 {}, .dataLol 33 1 {}]
  ++ (keysBelow 32 s.chip.pair.differ).map .inDiff ++ (keysBelow 32 s.chip.pair.agree).map .inDiff

/-- Controllers, Hedgerow's timers, PWM counters and aux switches. -/
def busEvents (s : State) : List Instr :=
  (List.finRange 8).map .boWaitExpire ++ [.beaconTimer, .driverResume]
  ++ (keysBelow 16 s.chip.pwm).flatMap (fun j => [.deadTimeExpire j, .refFall j, .pwmReload j])
  ++ (List.finRange 6).map .blankWindowClose
  ++ (keysBelow 16 s.chip.asw.ch).flatMap (fun j => [.tripInst j, .tripI2t j, .inrushEnd j, .keepEnd j, .openLoad j])
  ++ [.aswCurrentReport]
  ++ (if s.heath.st.run ≠ s.heath.st.sentRun ∨ 40 ≤ s.heath.st.sentAge then [.heathTelegramSend] else [])

/-- The next cut of the frame, once its cycle has come (R35, R153). -/
def cutEvents (s : State) : List Instr :=
  let k := s.chip.cuts
  let due (n : Nat) (i : Instr) : List Instr := if n ≤ s.env.time.offset then [i] else []
  match s.chip.frm.phase with
  | 0 => due k.cut .bundleCutOff
  | 1 => due k.solve .solveStart
  | 2 => due k.emit .emitStart
  | 3 => due k.mirror .mirrorImposeStart
  | 4 => due (k.mirror + 1000) .galleyVerdictsFixed
  | _ => due s.env.time.len .frameBoundary

/-- Every command that the block may bring about by itself. -/
def ownEvents (s : State) : List Instr :=
  cutEvents s ++ coreEvents s ++ siteEvents s ++ metEvents s ++ heathEvents ++ pairEvents s ++ busEvents s

/-- A command is due: it changes the state, and no cycle has to pass before it does. -/
def isDue (s : State) (i : Instr) : Bool :=
  match exec i s with
  | .next t => decide (t.env.time.up = s.env.time.up) && !decide (t = s)
  | _ => false

/-- One FCLK cycle passes. Where it brings the cycle of the next cut, the cut is made in the same step: an instant at the end of a frame or
of a phase belongs to the one that follows (R71, R76). -/
def State.tick (s : State) : State :=
  let s1 := s.advance 1
  match cutEvents s1 with
  | [] => s1
  | i :: _ => match exec i s1 with | .next t => t | _ => s1

/-- The block with no command waiting: the first event that is due, else one FCLK cycle. -/
def idleStep (s : State) : Host.Outcome State Fault Refusal :=
  match (ownEvents s).find? (isDue s) with
  | some i => exec i s
  | none => .next s.tick

end Sys2Proof.Machine
end

