-- ==== Sys2Proof/Safety.lean ====
section
/-! DEFINITION. What a safe state is, in the terms that claims use. -/
namespace Sys2Proof.Machine

/-- LPDDR4X and Heath-private SRAM are in their canonical form: addresses rising, no byte listed that an unlisted address reads. -/
abbrev State.memOk (s : State) : Prop := memWf s.mem = true ∧ memWf s.heath.sram = true

/-- Every register of the Control and Service regions but those listed reads as before. -/
abbrev sameRegs (l : List Nat) (c d : Chip) : Prop := ∀ a, a ∉ l → d.rd a = c.rd a

/-- Every Heath register but those listed reads as before. -/
abbrev sameHeath (l : List Nat) (c d : Heath) : Prop := ∀ a, a ∉ l → d.rd a = c.rd a

/-- Every Metrology register but those listed reads as before. -/
abbrev sameMet (l : List Nat) (c d : Met) : Prop := ∀ a, a ∉ l → d.rd a = c.rd a

/-- Heath, Metrology, the memory, the time and the queue are untouched, and no datum is returned. -/
abbrev onlyChip (s t : State) : Prop :=
  t.heath = s.heath ∧ t.met = s.met ∧ t.mem = s.mem ∧ t.env = s.env ∧ t.pending = s.pending ∧ t.rdata = s.rdata

/-- The words that an entry of the event log changes beside the ring (R167, R169). -/
abbrev logRegs : List Nat := [Reg.CHIP_LOG_WR, Reg.CHIP_LOG_LOST]

/-- The Control and Service regions, Metrology, the memory, the time and the queue are untouched but for entries of the event log. -/
abbrev onlyHeath (s t : State) : Prop :=
  t.met = s.met ∧ t.mem = s.mem ∧ t.env = s.env ∧ t.pending = s.pending ∧ t.rdata = s.rdata ∧ t.chip.frm = s.chip.frm ∧
    t.chip.gal = s.chip.gal ∧ t.chip.alc = s.chip.alc ∧ t.chip.mov = s.chip.mov ∧ t.chip.ses = s.chip.ses ∧ t.chip.pair = s.chip.pair

/-- The Control and Service regions, Heath, the memory, the time and the queue are untouched but for entries of the event log. -/
abbrev onlyMet (s t : State) : Prop :=
  t.heath = s.heath ∧ t.mem = s.mem ∧ t.env = s.env ∧ t.pending = s.pending ∧ t.rdata = s.rdata ∧ t.chip.frm = s.chip.frm ∧
    t.chip.gal = s.chip.gal ∧ t.chip.alc = s.chip.alc ∧ t.chip.mov = s.chip.mov ∧ t.chip.ses = s.chip.ses ∧ t.chip.pair = s.chip.pair

/-- What a write of a whole word by a plane hands to its command: its bits without the reserved ones, where it reaches its region and
passes every check of R125 and its block does not restart. -/
def State.takes (s : State) (p : Plane) (a : Nat) (v : Word) : Option Word :=
  if s.reaches a && !s.holds a then (match checkWrite s p a 4 v with | .pass _ _ v' => some v' | _ => none) else none

/-- Every byte of memory outside the ranges listed, each an address and a length, reads as before. -/
abbrev memOutside (l : List (Nat × Nat)) (m m' : List Host.Cell) : Prop :=
  ∀ b, (∀ r, r ∈ l → b < r.1 ∨ r.1 + r.2 ≤ b) → memGet m' b = memGet m b

/-- A CAN controller acts: 0 to 6 present, their region running and not fenced; 7 while Heath runs and it is not fenced (R612, R629). -/
abbrev State.canRuns (s : State) (c : Nat) : Prop :=
  if c = 7 then s.chip.rgn .heath = 0 ∧ s.heath.fenced 0x50005000 0 = false
  else s.chip.svc = true ∧ s.chip.fenced 0x70003000 c = false ∧ c < (if s.env.part.variant = .v5108 then 3 else 7)

/-- What a CAN controller works on (R612): LPDDR4X and the Service region's registers, or Heath's registers and private SRAM. -/
def State.can (s : State) (c : Nat) : CanV :=
  if c = 7 then ⟨s.heath.regs, s.heath.sram, 0, s.heath.can, [], s.env.time.up⟩ else canViewOf s.env.time.up c s.chip s.mem

/-- Only a CAN controller's listed registers and its memory may differ, and the event log. -/
abbrev canOnly (c : Nat) (l : List Nat) (s t : State) : Prop :=
  t.met = s.met ∧ t.env = s.env ∧ t.pending = s.pending ∧ t.rdata = s.rdata ∧
    (c ≠ 7 → t.heath = s.heath ∧ sameRegs (l ++ logRegs) s.chip t.chip) ∧
    (c = 7 → t.mem = s.mem ∧ sameRegs logRegs s.chip t.chip ∧ sameHeath l s.heath t.heath)

/-- A command stores an entry in the log ring, at the place that the ring before it gives to the entry (R30, R167). -/
def logged (c d : Chip) (en : LogEntry) : Prop := logAt d.log (c.logNext en) = en

end Sys2Proof.Machine
end

