-- ==== Sys2Proof/WellFormed.lean ====
section
/-! DEFINITION. Which commands are well formed: every operand in the range that the interface that brings it gives it. The meanings
are total on the others too. -/
namespace Sys2Proof
open Machine

/-- An address of the 32-bit register map (R113). -/
def addrOk (a : Nat) : Bool := decide (a < 2 ^ 32)
/-- A word address of the register map. -/
def wordOk (a : Nat) : Bool := addrOk a && a % 4 == 0
/-- An address that begins a page (R117). -/
def pageOk (a : Nat) : Bool := match pageAt a with | some g => g.base == a | none => false
/-- A frame's bytes, at most `n`. -/
def bytesOk (n : Nat) (l : List Byte) : Bool := decide (l.length ≤ n)

/-- An upward bundle's payload blocks fit the bundle buffer (R350). -/
def UpBundle.ok (b : UpBundle) : Bool :=
  decide (b.d0.blocks.length ≤ 1024) && decide (b.d1.blocks.length ≤ 1024) && decide (b.cycle < 65536)
/-- A frame of at most 64 bytes, and a REC that ISO 11898-1 lets it fall to (R617). -/
def CanRx.ok (x : CanRx) : Bool := bytesOk 64 x.data && decide (119 ≤ x.recv) && decide (x.recv ≤ 127)
/-- What ISO 11898-1 adds to a counter at one error: at most 8. -/
def CanErr.ok (x : CanErr) : Bool := decide (x.tec ≤ 8) && decide (x.recv ≤ 8)
/-- A Hedgerow frame: at most 1,024 bytes (R637), a BEACON's neighbours among 241 addresses (R647), at most 8 addresses in a route (R649). -/
def HdgRx.ok (x : HdgRx) : Bool := bytesOk 1024 x.data && decide (x.nbrs.length ≤ 241) && decide (x.route.length ≤ 8) && decide (x.errs.length ≤ 5) && decide (x.snr < 256)
/-- An item's entry of the register map. -/
def MirGal.ok : MirGal → Bool
  | .entry _ place a _ => decide (place < 4096) && wordOk a
  | .commit _ _ n => decide (n ≤ 4096)
  | .verdict _ code => decide (code < 256)
  | _ => true
/-- An image's lists have a place for each port. -/
def MirImage.ok (x : MirImage) : Bool := decide (x.crcs.length ≤ 32) && decide (x.runs.length ≤ 32)
/-- A word that a parity error names. -/
def ParWord.ok : ParWord → Bool
  | .word a => wordOk a
  | .bundle _ | .hid _ => true

/-- A command whose operands lie in their ranges. -/
def Instr.wf : Instr → Bool
  | .partnerVerdict code => decide (code < 256)
  | .fsyncEdge cyc => decide (cyc < 65536)
  | .parityError w => w.ok
  | .parityReplay w _ => w.ok
  | .scrubComplete w _ => w.ok
  | .fabricWriteReplay a writer _ => wordOk a && addrOk writer
  | .selfCheckerFault page => pageOk page
  | .pgCtrlRestart _ page _ => pageOk page
  | .blockRestartComplete page => pageOk page
  | .blockRestartFailed page => pageOk page
  | .registerWrite _ a size _ => addrOk a && (size == 1 || size == 2 || size == 4)
  | .unmappedRead _ a => addrOk a
  | .readClear _ x => addrOk x.addr && (x.size == 1 || x.size == 2 || x.size == 4)
  | .galleyStage _ a _ => addrOk a
  | .hkpConversion _ v => decide (-2147483648 ≤ v) && decide (v < 2147483648)
  | .trainBlockReceived .. => true
  | .trainingStepDone _ step _ _ _ => decide (1 ≤ step) && decide (step ≤ 7)
  | .trainingStepTimeout _ step _ _ => decide (1 ≤ step) && decide (step ≤ 7)
  | .upwardBundle _ b => b.ok
  | .intakeSample raw => raw.length == 7
  | .recordSigned _ => true
  | .backupSample rms => rms.length == 4
  | .heathCycle _ _ ma => ma.length == 8
  | .boundaryItem _ _ rtt => decide (rtt < 2 ^ 32)
  | .imageItem x => x.ok
  | .fenceItem _ marks _ => decide (marks.length ≤ 512)
  | .galleyItem g => g.ok
  | .sessionItem _ x _ => match x with | .checkpoint b _ | .written b => bytesOk 512 b | .acked | .key .. => true
  | .cmpItem x => decide (x.ports.length ≤ 32)
  | .scrubItem a _ => wordOk a
  | .canFrameReceived _ x => x.ok
  | .canFrameSent _ _ tdcv => decide (tdcv < 128)
  | .canBusError _ x => x.ok
  | .hdgFrameReceived x => x.ok
  | .ddrEccUe a _ => decide (a < 2 ^ 36)
  | .patrolScrub ce => decide (ce < 65536)
  | .ethFrameReceived _ bytes => bytesOk 9018 bytes
  | .ethFrameSent _ bytes => bytesOk 9018 bytes
  | .supervisorSample u1 u2 u3 => [u1, u2, u3].all (fun u => decide (-2147483648 ≤ u) && decide (u < 2147483648))
  | .analogueInputConversion _ v => decide (-2147483648 ≤ v) && decide (v < 2147483648)
  | .aswCurrentSample ma => ma.length == 16
  | _ => true

end Sys2Proof
end

