-- ==== Sys2Proof/Certificates/Slice0/Obligations.lean ====
section
/-! DEFINITION. The statements about the model, one for each entry of OBLIGATIONS.json. -/
open Sys2Proof Sys2Proof.Machine

/-- For every state and every command c at the front of its queue, a step is exec of c on the state with the rest of the queue. (The queue is the form
in which the model takes the events of the chapters; first in, first out.) -/
def Obligations.StepRunsFront : Prop :=
  ∀ (s : State) (c : Instr) (rest : List Instr), s.pending = c :: rest → step s = exec c { s with pending := rest }

/-- With no command waiting, a step is exec of some command of the block's own events that is due, or, where none of them is due, one FCLK cycle
passes; where that cycle is the one of the next cut of the frame, or its last, the cut is made in the same step, so that an instant at the end of a
frame or of a phase belongs to the one that follows. The passing of cycles moves nothing else than the time and the precision-time clock: memory,
Heath and Metrology stand. That the block acts by itself on an empty queue is the model's choice (log entry 1), not a rule of the spec. -/
def Obligations.IdleStep : Prop :=
  (∀ s : State, s.pending = [] → (∀ i ∈ ownEvents s, isDue s i = false) → step s = .next s.tick) ∧
  (∀ s : State, s.pending = [] → (∃ i ∈ ownEvents s, isDue s i = true) → ∃ i ∈ ownEvents s, isDue s i = true ∧ step s = exec i s) ∧
  (∀ s : State, cutEvents (s.advance 1) = [] → s.tick = s.advance 1) ∧
  (∀ (s : State) (i : Instr), cutEvents (s.advance 1) = [i] → exec i (s.advance 1) = .next s.tick) ∧
  (∀ (n : Nat) (s : State), (s.advance n).env.time.up = s.env.time.up + n ∧ (s.advance n).mem = s.mem ∧
    (s.advance n).heath = s.heath ∧ (s.advance n).met = s.met ∧
    (s.advance n).env.time.offset = (if s.chip.ctl then s.env.time.offset + n else s.env.time.offset))

/-- For every command and every state there is a next state. The spec gives every row of the table an effect, or none where its condition does not
hold, so nothing stops the block. -/
def Obligations.NoCommandStops : Prop :=
  ∀ (i : Instr) (s : State), ∃ t, exec i s = .next t

/-- Whatever the command and the state, what exec answers has the queue that the state had: only a step takes a command from it. -/
def Obligations.QueueKept : Prop :=
  ∀ (i : Instr) (s t : State), exec i s = .next t → t.pending = s.pending

/-- From every state, what a step answers has the same part: the variant, the straps and the fused words of the part are never written. -/
def Obligations.PartFixed : Prop :=
  ∀ s t : State, step s = .next t → t.env.part = s.env.part

/-- From every state, what a step answers stands no earlier than the state: the count of FCLK cycles since power-on, which times what outlasts a
restart, never falls. -/
def Obligations.TimeNeverRunsBack : Prop :=
  ∀ s t : State, step s = .next t → s.env.time.up ≤ t.env.time.up

/-- The reset state lists no byte of LPDDR4X and none of the Heath-private SRAM, and both are in their canonical form. What an unlisted byte reads is
the model's choice (log entry 2). -/
def Obligations.MemCanonicalReset : Prop :=
  State.reset.memOk ∧ State.reset.mem = [] ∧ State.reset.heath.sram = [] ∧ ∀ a, memGet State.reset.mem a = 0

/-- From every state whose two memories are in their canonical form (addresses strictly rising, no byte listed that an unlisted address reads), what a
step answers has both in that form: equal memories stay equal data, whichever command ran and whichever event of its own the block brought about. -/
def Obligations.MemCanonicalStep : Prop :=
  ∀ s t : State, s.memOk → step s = .next t → t.memOk

/-- FRAME_NO is a word of 48 bits, zero at reset for frame 0. From every state in which the Control region runs, the cuts of the frame are past, no
block that restarts holds the boundary back and the frame has not run beyond its length, FRAME_BOUNDARY answers a next state whose FRAME_NO is one
more, whatever the Solve of the frame did and whether or not the frame was frozen; it stands at offset 0 before the first cut, with the boundary time
moved on by the ended frame's length, and the queue and the part as they were. -/
def Obligations.FrameBoundaryTime : Prop :=
  (∀ (s : State), s.chip.ctl = true → s.chip.frm.phase = 5 → s.chip.flt.held = [] → s.env.time.offset ≤ s.env.time.len → ∃ t, exec
      .frameBoundary s = .next t ∧ t.env.time.frameNo = s.env.time.frameNo + 1 ∧ t.env.time.offset = 0 ∧ t.env.time.bndTime =
      s.env.time.bndTime + BitVec.ofNat 64 s.env.time.len ∧ t.chip.frm.phase = 0 ∧ t.env.time.up = s.env.time.up + (s.env.time.len -
      s.env.time.offset) ∧ t.env.part = s.env.part ∧ t.pending = s.pending) ∧
  State.reset.env.time.frameNo = (0 : BitVec 48)

/-- Where the Control region runs and the cut before it is past, each cut of a frame answers a next state at the cycle of its cut in the period in
force, in the same frame, with the queue, the part and Metrology as they were; where another cut is next, or while the Control region does not run, it
changes nothing. On a SOLO chip the Solve begins at SOLVE_START, with both engines still to complete and FRM.USED showing neither, and in frozen-grant
mode with the Allocator left out. At an EMIT_START of a chip that is not BARRED, whose Solve has not completed, the overrun is counted and flagged. On
a SOLO chip a fixing of the verdicts does nothing else. The order in time of the cuts as commands is the model's form (log entry 1). -/
def Obligations.FrameCuts : Prop :=
  (∀ (s : State), s.chip.ctl = true → s.chip.frm.phase = 0 → s.env.time.offset ≤ s.chip.cuts.cut → ∃ t, exec .bundleCutOff s = .next t
      ∧ t.env.time.offset = s.chip.cuts.cut ∧ t.env.time.frameNo = s.env.time.frameNo ∧ t.env.part = s.env.part ∧ t.met = s.met ∧
      t.pending = s.pending ∧ t.mem = s.mem ∧ t.heath = s.heath) ∧
  (∀ (s : State), s.chip.ctl = true → s.chip.frm.phase = 1 → s.env.time.offset ≤ s.chip.cuts.solve → ∃ t, exec .solveStart s = .next t
      ∧ t.env.time.offset = s.chip.cuts.solve ∧ t.env.time.frameNo = s.env.time.frameNo ∧ t.env.part = s.env.part ∧ t.met = s.met ∧
      t.pending = s.pending ∧ t.heath = s.heath ∧ (s.chip.role = 0 ∧ s.chip.pair.evalDue = false → t.chip.frm.solving = true ∧
      t.chip.frm.cenDone = false ∧ t.mem = s.mem ∧ t.chip.frm.alcDone = frmFrozen s.chip ∧ (frmFrozen s.chip = false → t.chip.rd
      Reg.FRM_USED = 0xFFFFFFFF ∧ sameRegs [Reg.FRM_USED] s.chip t.chip))) ∧
  (∀ (s : State), s.chip.ctl = true → s.chip.frm.phase = 2 → s.env.time.offset ≤ s.chip.cuts.emit → ∃ t, exec .emitStart s = .next t ∧
      t.env.time.offset = s.chip.cuts.emit ∧ t.env.time.frameNo = s.env.time.frameNo ∧ t.env.part = s.env.part ∧ t.met = s.met ∧ t.pending
      = s.pending ∧ t.mem = s.mem ∧ ((s.chip.frm.alcDone && s.chip.frm.cenDone) = false ∧ s.chip.role ≠ 4 → t.chip.rd Reg.FRM_OVR_CNT =
      s.chip.rd Reg.FRM_OVR_CNT + 1 ∧ t.chip.b Reg.FRM_EVT 0 = true)) ∧
  (∀ (s : State), s.chip.ctl = true → s.chip.frm.phase = 3 → s.env.time.offset ≤ s.chip.cuts.mirror → ∃ t, exec .mirrorImposeStart s =
      .next t ∧ t.env.time.offset = s.chip.cuts.mirror ∧ t.env.time.frameNo = s.env.time.frameNo ∧ t.env.part = s.env.part ∧ t.met = s.met
      ∧ t.pending = s.pending ∧ t.mem = s.mem ∧ t.heath = s.heath) ∧
  (∀ (s : State), s.chip.ctl = true → s.chip.frm.phase = 4 → s.env.time.offset ≤ s.chip.cuts.mirror + 1000 → ∃ t, exec
      .galleyVerdictsFixed s = .next t ∧ t.env.time.offset = s.chip.cuts.mirror + 1000 ∧ t.env.time.frameNo = s.env.time.frameNo ∧
      t.env.part = s.env.part ∧ t.met = s.met ∧ t.pending = s.pending ∧ t.heath = s.heath ∧ (s.chip.role = 0 → t.chip.frm.phase = 5 ∧
      t.mem = s.mem ∧ sameRegs [] s.chip t.chip)) ∧
  (∀ s : State, s.chip.ctl = false → exec .bundleCutOff s = .next s ∧ exec .solveStart s = .next s ∧ exec .emitStart s = .next s ∧
    exec .mirrorImposeStart s = .next s ∧ exec .galleyVerdictsFixed s = .next s ∧ exec .frameBoundary s = .next s) ∧
  (∀ s : State, (s.chip.frm.phase ≠ 0 → exec .bundleCutOff s = .next s) ∧ (s.chip.frm.phase ≠ 1 → exec .solveStart s = .next s) ∧
    (s.chip.frm.phase ≠ 2 → exec .emitStart s = .next s) ∧ (s.chip.frm.phase ≠ 3 → exec .mirrorImposeStart s = .next s) ∧
    (s.chip.frm.phase ≠ 4 → exec .galleyVerdictsFixed s = .next s) ∧ (s.chip.frm.phase ≠ 5 → exec .frameBoundary s = .next s))

/-- The first edge within 2,500 cycles after a boundary whose window is open is evaluated: ERR shows its distance, LOCK_RUN counts up to 16 but in
OFF, and on a SOLO chip whose frames do not run free the frame grows by that distance clamped to 250 cycles; a second edge in the window counts as
extra; an edge in no window, past SLEW's pre-lock phase, is counted and flagged and clears LOCKED and LOCK_RUN, and the frames run free from then on.
Memory, Heath and Metrology stand, as does the queue, and every register of the chip but those of the frame clock and the log. Under these conditions
alone fsyncEdge answers a next state. -/
def Obligations.FsyncEdges : Prop :=
  (∀ (s : State) (cyc : Nat), s.chip.ctl = true → cyc < 2500 → cyc + 2500 < s.env.time.len → s.chip.frm.wmode ≠ 0 → s.chip.frm.winEdge =
      false → s.chip.role = 0 → ∃ t, exec (.fsyncEdge cyc) s = .next t ∧ t.env.time.len = s.env.time.len + (if s.chip.frm.freeRun then 0
      else min cyc 250) ∧ t.chip.f Reg.FRM_SYNC_PHASE 0 16 = cyc ∧ lockRun t.chip = (if syncMode s.chip = 0 then lockRun s.chip else min 16
      (lockRun s.chip + 1)) ∧ t.chip.frm.winEdge = true ∧ frmLocked t.chip = frmLocked s.chip ∧ t.env.time.frameNo = s.env.time.frameNo ∧
      t.env.time.offset = s.env.time.offset ∧ t.heath = s.heath ∧ t.met = s.met ∧ t.mem = s.mem ∧ t.pending = s.pending ∧ sameRegs
      [Reg.FRM_SYNC_PHASE, Reg.FRM_STAT, Reg.FRM_LEN] s.chip t.chip) ∧
  (∀ (s : State) (cyc : Nat), s.chip.ctl = true → cyc < 2500 → cyc + 2500 < s.env.time.len → s.chip.frm.wmode ≠ 0 → s.chip.frm.winEdge
      = true → ∃ t, exec (.fsyncEdge cyc) s = .next t ∧ t.chip.b Reg.FRM_EVT 5 = true ∧ t.chip.f Reg.FRM_SYNC_CNT_B 16 16 = (s.chip.f
      Reg.FRM_SYNC_CNT_B 16 16 + 1) % 65536 ∧ onlyChip s t ∧ sameRegs [Reg.FRM_SYNC_CNT_B, Reg.FRM_EVT] s.chip t.chip) ∧
  (∀ (s : State) (cyc : Nat), s.chip.ctl = true → 2500 ≤ cyc → cyc + 2500 < s.env.time.len → syncMode s.chip ≠ 0 → s.chip.frm.prelock =
      false → ∃ t, exec (.fsyncEdge cyc) s = .next t ∧ t.chip.b Reg.FRM_EVT 4 = true ∧ t.chip.f Reg.FRM_SYNC_CNT_A 16 16 = (s.chip.f
      Reg.FRM_SYNC_CNT_A 16 16 + 1) % 65536 ∧ frmLocked t.chip = false ∧ lockRun t.chip = 0 ∧ t.chip.frm.freeRun = true ∧ onlyChip s t ∧
      sameRegs [Reg.FRM_SYNC_CNT_A, Reg.FRM_SYNC_CNT_B, Reg.FRM_EVT, Reg.FRM_STAT, Reg.CHIP_LOG_WR, Reg.CHIP_LOG_LOST] s.chip t.chip)

/-- A window that closes without an edge is counted and flagged at cycle 2,500 and shows ERR 0x8000; it sets LOCK_RUN to zero while unlocked, and
leaves the lock while locked. LOCK_RUN at 16 sets LOCKED and flags it; the fourth miss in a row clears LOCKED and LOCK_RUN, and flags it. FSYNC_OUT
falls at OUT_WIDTH times 100 cycles, where that lies before the bundle cut-off. Memory, Heath and Metrology stand, and every register but those named.
Under these conditions alone each of fsyncMiss, lockGained, lockLost and fsyncOutFall answers a next state. -/
def Obligations.LockRules : Prop :=
  (∀ (s : State), s.chip.ctl = true → s.chip.frm.phase = 0 → s.chip.frm.wmode ≠ 0 → s.chip.frm.winClosed = false → s.chip.frm.winEdge
      = false → s.env.time.offset ≤ 2500 → ∃ t, exec .fsyncMiss s = .next t ∧ t.env.time.offset = 2500 ∧ t.chip.f Reg.FRM_SYNC_CNT_A 0 16
      = (s.chip.f Reg.FRM_SYNC_CNT_A 0 16 + 1) % 65536 ∧ t.chip.b Reg.FRM_EVT 6 = true ∧ t.chip.f Reg.FRM_SYNC_PHASE 0 16 = 0x8000 ∧
      frmLocked t.chip = frmLocked s.chip ∧ lockRun t.chip = (if frmLocked s.chip then lockRun s.chip else 0) ∧ t.chip.frm.missRun = (if
      frmLocked s.chip then s.chip.frm.missRun + 1 else 0) ∧ t.env.time.len = s.env.time.len ∧ t.heath = s.heath ∧ t.met = s.met ∧ t.mem =
      s.mem ∧ t.pending = s.pending ∧ sameRegs [Reg.FRM_SYNC_CNT_A, Reg.FRM_EVT, Reg.FRM_SYNC_PHASE, Reg.FRM_STAT] s.chip t.chip) ∧
  (∀ (s : State), s.chip.ctl = true → frmLocked s.chip = false → lockRun s.chip = 16 → ∃ t, exec .lockGained s = .next t ∧ frmLocked t.chip
      = true ∧ lockRun t.chip = 16 ∧ t.chip.b Reg.FRM_EVT 8 = true ∧ t.chip.frm.prelock = false ∧ t.chip.frm.freeRun = false ∧ onlyChip s t
      ∧ t.chip.rd Reg.CHIP_LOG_WR = s.chip.rd Reg.CHIP_LOG_WR + 4 ∧ sameRegs [Reg.FRM_STAT, Reg.FRM_EVT, Reg.CHIP_LOG_WR] s.chip t.chip) ∧
  (∀ (s : State), s.chip.ctl = true → frmLocked s.chip = true → 4 ≤ s.chip.frm.missRun → ∃ t, exec .lockLost s = .next t ∧ frmLocked
      t.chip = false ∧ lockRun t.chip = 0 ∧ t.chip.b Reg.FRM_EVT 7 = true ∧ t.chip.f Reg.FRM_SYNC_CNT_B 0 16 = (s.chip.f
      Reg.FRM_SYNC_CNT_B 0 16 + 1) % 65536 ∧ onlyChip s t ∧ sameRegs [Reg.FRM_STAT, Reg.FRM_EVT, Reg.FRM_SYNC_CNT_B, Reg.CHIP_LOG_WR]
      s.chip t.chip) ∧
  (∀ (s : State), s.chip.ctl = true → s.chip.frm.phase = 0 → s.chip.frm.fsyncOut = true → 100 * s.chip.f Reg.FRM_CFG 16 8 < s.chip.cuts.cut
      → ∃ t, exec .fsyncOutFall s = .next t ∧ t.chip.frm.fsyncOut = false ∧ t.env.time.offset = max s.env.time.offset (100 * s.chip.f
      Reg.FRM_CFG 16 8) ∧ t.env.time.len = s.env.time.len ∧ t.heath = s.heath ∧ t.met = s.met ∧ t.mem = s.mem ∧ t.pending = s.pending ∧
      sameRegs [] s.chip t.chip)

/-- While the Control region runs, a read of FRM.NOW_LO by a plane returns the low word of the present stamp, and that plane's latch, and no other
plane's, holds the six values of this cycle: NOW_LO, NOW_HI, SITE_TIME and the boundary time, where SITE_TIME is the boundary time plus the offset. No
register changes. Under these conditions alone nowLoRead answers a next state. -/
def Obligations.TimeWords : Prop :=
  (∀ (s : State) (p : Plane), s.chip.ctl = true → ∃ t, exec (.nowLoRead p) s = .next t ∧ t.rdata = word (s.env.time.frameNo.toNat %
      65536 * 65536 + s.env.time.offset % 65536) ∧ tget (fun _ => ({} : NowLatch)) t.chip.now (planeCode p) = (⟨word
      (s.env.time.frameNo.toNat % 65536 * 65536 + s.env.time.offset % 65536), word (s.env.time.frameNo.toNat / 65536), word
      ((s.env.time.bndTime.toNat + s.env.time.offset) % 2 ^ 64), word ((s.env.time.bndTime.toNat + s.env.time.offset) % 2 ^ 64 / 2 ^ 32),
      s.env.time.bndTime.setWidth 32, (s.env.time.bndTime >>> 32).setWidth 32⟩ : NowLatch) ∧ (∀ q ∈ [Plane.control, Plane.data,
      Plane.management, Plane.heath, Plane.metrology], q ≠ p → tget (fun _ => ({} : NowLatch)) t.chip.now (planeCode q) = tget (fun _ =>
      ({} : NowLatch)) s.chip.now (planeCode q)) ∧ sameRegs [] s.chip t.chip ∧ t.heath = s.heath ∧ t.met = s.met ∧ t.mem = s.mem ∧ t.env =
      s.env ∧ t.pending = s.pending)

/-- While the Solve runs and the Allocator has not completed, its completion shows the cycles it used, flags ALC_LATE where they pass its budget, and
leaves the result of the run that the Solve start began for the Emit and one for the Control Engine, with no other register changed. Once the
Allocator has completed, the Control Engine's completion ends the Solve: in a warm takeover's frame its results are dropped, FRM.USED shows its
cycles, and FRM.STAT.OVR_RUN is zero. Memory, Heath and Metrology stand in both. Under these conditions alone each of allocatorComplete and
controlEngineComplete answers a next state. -/
def Obligations.EnginesComplete : Prop :=
  (∀ (s : State) (used : BitVec 16), s.chip.ctl = true → s.chip.frm.solving = true → s.chip.frm.alcDone = false → ∃ t, exec
      (.allocatorComplete used) s = .next t ∧ t.chip.frm.alcDone = true ∧ t.chip.alc.res = some (s.chip.alc.run.getD (allocate s.env.part
      s.chip)) ∧ t.chip.cen.res.isSome = true ∧ t.chip.f Reg.FRM_USED 0 16 = used.toNat ∧ t.chip.f Reg.FRM_USED 16 16 = s.chip.f
      Reg.FRM_USED 16 16 ∧ (s.chip.cuts.alc < used.toNat → t.chip.b Reg.FRM_EVT 10 = true) ∧ (used.toNat ≤ s.chip.cuts.alc → sameRegs
      [Reg.FRM_USED] s.chip t.chip) ∧ sameRegs [Reg.FRM_USED, Reg.FRM_EVT] s.chip t.chip ∧ onlyChip s t) ∧
  (∀ (s : State) (used : BitVec 16), s.chip.ctl = true → s.chip.frm.solving = true → s.chip.frm.alcDone = true → s.chip.frm.cenDone =
      false → ∃ t, exec (.controlEngineComplete used) s = .next t ∧ t.chip.frm.cenDone = true ∧ t.chip.frm.frozenOvr = 0 ∧ t.chip.f
      Reg.FRM_STAT 0 8 = 0 ∧ t.chip.f Reg.FRM_USED 16 16 = used.toNat ∧ (s.chip.pair.skip = true → t.chip.cen.res = none ∧ sameRegs
      [Reg.FRM_USED, Reg.FRM_STAT] s.chip t.chip) ∧ onlyChip s t)

/-- Where the third overrun in a row has made it due, frozen-grant mode comes in before the Solve start: FROZEN is set, its age is zero, and it is
flagged and logged. Past its 64th frame RAMPING is set and nothing else. Sixteen overruns in a row in that mode restart the Control region with a
fault of its own: its state in CHIP.RGN_STAT is restarting or held. A due time anchor makes three entries and starts the sum of the pulls anew. Under
these conditions alone each of frozenIn, ramping, escalate and timeAnchor answers a next state. -/
def Obligations.FrozenGrants : Prop :=
  (∀ (s : State), s.chip.ctl = true → s.chip.frm.freezeDue = true → frmFrozen s.chip = false → s.env.time.offset < s.chip.cuts.solve →
      ∃ t, exec .frozenIn s = .next t ∧ frmFrozen t.chip = true ∧ t.chip.f Reg.FRM_STAT 16 7 = 0 ∧ t.chip.b Reg.FRM_EVT 1 = true ∧
      t.chip.frm.freezeDue = false ∧ logged s.chip t.chip ⟨s.env.time.stamp, srcWord 2 0 2, 0⟩ ∧ onlyChip s t ∧ sameRegs [Reg.FRM_STAT,
      Reg.FRM_EVT, Reg.CHIP_LOG_WR] s.chip t.chip) ∧
  (∀ (s : State), s.chip.ctl = true → frmFrozen s.chip = true → s.chip.b Reg.FRM_STAT 29 = false → 64 ≤ s.chip.f Reg.FRM_STAT 16 7 → ∃
      t, exec .ramping s = .next t ∧ t.chip.b Reg.FRM_STAT 29 = true ∧ t.chip.f Reg.FRM_STAT 16 7 = s.chip.f Reg.FRM_STAT 16 7 ∧ frmFrozen
      t.chip = true ∧ onlyChip s t ∧ sameRegs [Reg.FRM_STAT] s.chip t.chip) ∧
  (∀ (s : State), s.chip.ctl = true → frmFrozen s.chip = true → 16 ≤ s.chip.frm.frozenOvr → ∃ t, exec .escalate s = .next t ∧
      t.chip.ctl = false ∧ (t.chip.rgn .control = 1 ∨ t.chip.rgn .control = 2) ∧ t.env.part = s.env.part ∧ t.pending = s.pending) ∧
  (∀ (s : State), s.chip.ctl = true → s.chip.frm.anchorDue = true → ∃ t, exec .timeAnchor s = .next t ∧ t.chip.rd Reg.CHIP_LOG_WR =
      s.chip.rd Reg.CHIP_LOG_WR + 3 ∧ t.chip.frm.pullSum = 0 ∧ t.chip.frm.anchorDue = false ∧ logged s.chip t.chip ⟨s.env.time.stamp,
      srcWord 2 0 8, word (s.chip.cuts.nom * 65536 + (if frmLocked s.chip then 32768 else 0))⟩ ∧ onlyChip s t ∧ sameRegs [Reg.CHIP_LOG_WR]
      s.chip t.chip)

/-- A write that reaches a running region: a whole word to a present Control or Service register of code RW by the page's owner, of a cell that is not
fenced, and that starts nothing else, gives the register the written bits with its reserved bits zero and leaves every other register but the page's
error flags; of another size, or by a plane that does not own the word, it leaves the register and raises the page's SIZE or OWNER flag. Heath,
Metrology, memory, time and the queue stand. A read of a word of code RC in a region that runs returns the addressed bytes of the word as it reads and
leaves the whole word zero, with every other register of the block as it was. A write to a block that restarts waits, and no register changes. Under
these conditions alone each of registerWrite and readClear answers a next state. -/
def Obligations.RegisterWriteChecks : Prop :=
  (∀ (s : State) (p : Plane) (a : Nat) (v : Word) (g : Page) (d : RegDesc) (j : Nat), s.reaches a = true → a % 4 = 0 → placeOf s.env.part a
      = .reg g d j → g.owner < 3 → s.chip.ownerOk g a p = true → s.cellFenced g a = false → s.holds a = false → d.acc = .rw → writeHook p a
      (v &&& ~~~ word d.rsv) = none → ∃ t, exec (.registerWrite p a 4 v) s = .next t ∧ t.chip.rd a = applyCodes d (s.chip.rd a) (v &&& ~~~
      word d.rsv) ∧ (v &&& word d.rsv = 0 → sameRegs [a] s.chip t.chip) ∧ onlyChip s t ∧ sameRegs [a, Reg.PG_ERR g.base, Reg.CHIP_LOG_WR,
      Reg.CHIP_LOG_LOST] s.chip t.chip) ∧
  (∀ (s : State) (p : Plane) (a size : Nat) (v : Word) (g : Page) (d : RegDesc) (j : Nat), s.reaches a = true → placeOf s.env.part (a
      / 4 * 4) = .reg g d j → size ≠ 4 ∨ a % 4 ≠ 0 → regionOf g.base = .control → ∃ t, exec (.registerWrite p a size v) s = .next t ∧
      t.chip.b (Reg.PG_ERR g.base) 5 = true ∧ onlyChip s t ∧ sameRegs [Reg.PG_ERR g.base, Reg.CHIP_LOG_WR, Reg.CHIP_LOG_LOST] s.chip
      t.chip) ∧
  (∀ (s : State) (p : Plane) (a : Nat) (v : Word) (g : Page) (d : RegDesc) (j : Nat), s.reaches a = true → a % 4 = 0 → placeOf
      s.env.part a = .reg g d j → g.owner < 3 → regionOf g.base = .control → s.chip.ownerOk g a p = false → ∃ t, exec (.registerWrite p a
      4 v) s = .next t ∧ t.chip.b (Reg.PG_ERR g.base) 4 = true ∧ onlyChip s t ∧ sameRegs [Reg.PG_ERR g.base, Reg.CHIP_LOG_WR,
      Reg.CHIP_LOG_LOST] s.chip t.chip) ∧
  (∀ (s : State) (p : Plane) (x : ReadAt) (a : Nat) (g : Page) (d : RegDesc) (j : Nat), x.addr = a → placeOf s.env.part (a / 4 * 4) = .reg g
      d j → d.acc = .rc → s.reaches a = true → ∃ t, exec (.readClear p x) s = .next t ∧ t.rdata = readBytes (readWord s p a) a x.size ∧ t.rd
      (a / 4 * 4) = 0 ∧ sameRegs [a / 4 * 4] s.chip t.chip ∧ sameHeath [a / 4 * 4] s.heath t.heath ∧ sameMet [a / 4 * 4] s.met t.met ∧ t.mem
      = s.mem ∧ t.env = s.env ∧ t.pending = s.pending) ∧ (∀ (s : State) (p : Plane) (a : Nat) (v : Word) (g : Page) (d : RegDesc) (j : Nat),
      s.reaches a = true → a % 4 = 0 → placeOf s.env.part a = .reg g d j → g.owner < 3 → s.chip.ownerOk g a p = true → s.cellFenced g a =
      false → s.holds a = true → d.acc = .rw → ∃ t, exec (.registerWrite p a 4 v) s = .next t ∧ t.chip.flt.waitW = s.chip.flt.waitW ++
      [(planeCode p, a, v)] ∧ onlyChip s t ∧ sameRegs [] s.chip t.chip)

/-- At an address that lies in no page and in no window: a read returns zero; a write of any size changes nothing but the record; and both set the
chip page's UNMAPPED flag, record the address, the plane and whether it was a read, and count, with no other register changed but the log's. Heath,
Metrology, memory, time and the queue stand. A second access of the cycle whose requester's region ranks lower is counted and leaves the record of the
first. Under these conditions alone each of unmappedRead and registerWrite answers a next state. -/
def Obligations.UnmappedAccess : Prop :=
  (∀ (s : State) (p : Plane) (a : Nat), pageAt (a / 4 * 4) = none → windowAt (a / 4 * 4) = none → (∀ x ∈ s.chip.flt.dropAt, x.1 =
      s.env.time.up → x.2 ≤ requesterRank p) → ∃ t, exec (.unmappedRead p a) s = .next t ∧ t.rdata = 0 ∧ t.chip.b (Reg.PG_ERR 0x40000000) 7
      = true ∧ t.chip.rd Reg.CHIP_DROP_ADDR = word a ∧ t.chip.f Reg.CHIP_DROP_INFO 29 3 = planeCode p ∧ t.chip.b Reg.CHIP_DROP_INFO 27 =
      true ∧ t.chip.f Reg.CHIP_DROP_INFO 0 16 = min (s.chip.f Reg.CHIP_DROP_INFO 0 16 + 1) 65535 ∧ t.heath = s.heath ∧ t.met = s.met ∧ t.mem
      = s.mem ∧ t.env = s.env ∧ t.pending = s.pending ∧ sameRegs [Reg.PG_ERR 0x40000000, Reg.CHIP_DROP_ADDR, Reg.CHIP_DROP_INFO,
      Reg.CHIP_LOG_WR, Reg.CHIP_LOG_LOST] s.chip t.chip) ∧
  (∀ (s : State) (p : Plane) (a size : Nat) (v : Word), pageAt (a / 4 * 4) = none → windowAt (a / 4 * 4) = none → (∀ x ∈ s.chip.flt.dropAt,
      x.1 = s.env.time.up → x.2 ≤ requesterRank p) → ∃ t, exec (.registerWrite p a size v) s = .next t ∧ t.chip.b (Reg.PG_ERR 0x40000000) 7
      = true ∧ t.chip.rd Reg.CHIP_DROP_ADDR = word a ∧ t.chip.f Reg.CHIP_DROP_INFO 29 3 = planeCode p ∧ t.chip.b Reg.CHIP_DROP_INFO 27 =
      false ∧ onlyChip s t ∧ sameRegs [Reg.PG_ERR 0x40000000, Reg.CHIP_DROP_ADDR, Reg.CHIP_DROP_INFO, Reg.CHIP_LOG_WR, Reg.CHIP_LOG_LOST]
      s.chip t.chip) ∧ (∀ (s : State) (p : Plane) (a size : Nat) (v : Word) (q : Nat × Nat), pageAt (a / 4 * 4) = none → windowAt (a / 4 *
      4) = none → s.chip.flt.dropAt = some q → q.1 = s.env.time.up → requesterRank p < q.2 → ∃ t, exec (.registerWrite p a size v) s = .next
      t ∧ t.chip.rd Reg.CHIP_DROP_ADDR = s.chip.rd Reg.CHIP_DROP_ADDR ∧ t.chip.f Reg.CHIP_DROP_INFO 0 16 = min (s.chip.f Reg.CHIP_DROP_INFO
      0 16 + 1) 65535 ∧ t.chip.f Reg.CHIP_DROP_INFO 27 5 = s.chip.f Reg.CHIP_DROP_INFO 27 5 ∧ onlyChip s t ∧ sameRegs [Reg.PG_ERR
      0x40000000, Reg.CHIP_DROP_INFO, Reg.CHIP_LOG_WR, Reg.CHIP_LOG_LOST] s.chip t.chip)

/-- While the Control region runs and a plane's cell of SNP is not fenced: a hold that it sets is in force and shows the frame of the bank that it
reads; a hold that it clears ends, and the plane reads the most recent bank; a hold whose eighth boundary has passed ends in the same way and shows
EXPIRED; a software entry of a class below 0xF0 stands in the log with the plane's detail word, and one of a class from 0xF0 is turned away with the
RSVD_WR flag. No other register changes, and Heath, Metrology, memory, time and the queue stand. Under these conditions alone each of snapshotHoldSet,
snapshotHoldClear, holdExpired and logPut answers a next state. -/
def Obligations.SnapshotHolds : Prop :=
  (∀ (s : State) (p : Plane) (clr : Bool), s.chip.ctl = true → planeCode p < 3 → s.chip.fenced 0x40003000 (planeCode p) = false →
      snapHeld s.chip (planeCode p) = false → ∃ t, exec (.snapshotHoldSet p clr) s = .next t ∧ snapHeld t.chip (planeCode p) = true ∧
      t.chip.rd (Reg.SNP_HELD_SEQ (planeCode p)) = (s.chip.snap (planeCode p)).read.seq ∧ (t.chip.snap (planeCode p)).age = 0 ∧
      (t.chip.snap (planeCode p)).readB = (s.chip.snap (planeCode p)).readB ∧ t.chip.b (Reg.SNP_HOLD (planeCode p)) 1 = (s.chip.b
      (Reg.SNP_HOLD (planeCode p)) 1 && !clr) ∧ onlyChip s t ∧ sameRegs [Reg.SNP_HOLD (planeCode p), Reg.SNP_HELD_SEQ (planeCode p)]
      s.chip t.chip) ∧
  (∀ (s : State) (p : Plane) (clr : Bool), s.chip.ctl = true → planeCode p < 3 → s.chip.fenced 0x40003000 (planeCode p) = false →
      snapHeld s.chip (planeCode p) = true → ∃ t, exec (.snapshotHoldClear p clr) s = .next t ∧ snapHeld t.chip (planeCode p) = false ∧
      t.chip.rd (Reg.SNP_HELD_SEQ (planeCode p)) = 0 ∧ (t.chip.snap (planeCode p)).fresh = false ∧ (t.chip.snap (planeCode p)).readB =
      ((s.chip.snap (planeCode p)).readB != (s.chip.snap (planeCode p)).fresh) ∧ onlyChip s t ∧ sameRegs [Reg.SNP_HOLD (planeCode p),
      Reg.SNP_HELD_SEQ (planeCode p)] s.chip t.chip) ∧
  (∀ (s : State) (p : Plane), s.chip.ctl = true → planeCode p < 3 → snapHeld s.chip (planeCode p) = true → 8 ≤ (s.chip.snap (planeCode
      p)).age → ∃ t, exec (.holdExpired p) s = .next t ∧ snapHeld t.chip (planeCode p) = false ∧ t.chip.b (Reg.SNP_HOLD (planeCode p)) 1 =
      true ∧ t.chip.rd (Reg.SNP_HELD_SEQ (planeCode p)) = 0 ∧ (t.chip.snap (planeCode p)).age = 0 ∧ onlyChip s t ∧ sameRegs [Reg.SNP_HOLD
      (planeCode p), Reg.SNP_HELD_SEQ (planeCode p)] s.chip t.chip) ∧
  (∀ (s : State) (p : Plane) (v : Word), s.chip.ctl = true → planeCode p < 3 → s.chip.fenced 0x40003000 (planeCode p) = false →
      v.toNat < 240 → ∃ t, exec (.logPut p v) s = .next t ∧ logged s.chip t.chip ⟨s.env.time.stamp, srcWord 4 (planeCode p) v.toNat,
      s.chip.rd (Reg.SNP_LOG_DETAIL (planeCode p))⟩ ∧ t.chip.rd Reg.CHIP_LOG_WR = s.chip.rd Reg.CHIP_LOG_WR + 1 ∧ onlyChip s t ∧ sameRegs
      [Reg.CHIP_LOG_WR] s.chip t.chip) ∧
  (∀ (s : State) (p : Plane) (v : Word), s.chip.ctl = true → planeCode p < 3 → s.chip.fenced 0x40003000 (planeCode p) = false → 240 ≤
      fget v 0 8 → ∃ t, exec (.logPut p v) s = .next t ∧ t.chip.b (Reg.PG_ERR 0x40003000) 0 = true ∧ onlyChip s t ∧ sameRegs [Reg.PG_ERR
      0x40003000, Reg.CHIP_LOG_WR] s.chip t.chip)

/-- While the Control region runs, from the plane that owns the slot (for OPEN of the pair slot, from any plane of the first three), on a slot that is
not fenced: OPEN of a slot without a transaction, by a plane that holds none, opens it with the tag, an empty list and zero target and failure words,
and is refused with code 0x01 and CMD_REFUSED where the slot holds one; PROOF and COMMIT of an open or proved slot put it into the checker's queue as
PROVING, behind all but those of the same cycle that the slot order 3, 0, 1, 2 puts after it; ROLLBACK of a slot that is open, proving or proved
discards its list; NOP shows in GAL.CMD and does nothing else. Heath, Metrology, memory, time and the queue stand. Under these conditions alone each
of galleyOpen, galleyProof, galleyCommit, galleyRollback and galleyNop answers a next state. -/
def Obligations.GalleyCommands : Prop :=
  (∀ (s : State) (p : Plane) (k : Fin 4) (tag : BitVec 16), s.chip.ctl = true → ((planeCode p = k.val ∧ k.val < 3) ∨ (k = 3 ∧
      planeCode p < 3 ∧ ¬ (1 ≤ s.chip.slotState 3 ∧ s.chip.slotState 3 ≤ 4))) → s.chip.fenced 0x40002000 k = false → ¬ (1 ≤
      s.chip.slotState k ∧ s.chip.slotState k ≤ 4) → s.chip.openSlot p = none → ¬ (s.chip.roleIs 2 = true ∧ k ≠ 2) → ∃ t, exec
      (.galleyOpen p k tag) s = .next t ∧ t.chip.rd (Reg.GAL_STATE k) = word (2 ^ 28 + tag.toNat) ∧ t.chip.slotState k = 1 ∧ t.chip.rd
      (Reg.GAL_LIST k) = 0 ∧ t.chip.rd (Reg.GAL_TARGET k) = 0 ∧ t.chip.rd (Reg.GAL_FAIL_ADDR k) = 0 ∧ t.chip.rd (Reg.GAL_FAIL_INFO k) =
      word (planeCode p * 2 ^ 29) ∧ (t.chip.slot k).list = [] ∧ onlyChip s t ∧ sameRegs [Reg.GAL_CMD k, Reg.GAL_STATE k, Reg.GAL_LIST k,
      Reg.GAL_TARGET k, Reg.GAL_FAIL_ADDR k, Reg.GAL_FAIL_INFO k] s.chip t.chip) ∧
  (∀ (s : State) (p : Plane) (k : Fin 4) (tag : BitVec 16), s.chip.ctl = true → planeCode p = k.val → k.val < 3 → s.chip.fenced
      0x40002000 k = false → 1 ≤ s.chip.slotState k → s.chip.slotState k ≤ 4 → ∃ t, exec (.galleyOpen p k tag) s = .next t ∧ t.chip.f
      (Reg.GAL_STATE k) 16 8 = 1 ∧ t.chip.slotState k = s.chip.slotState k ∧ t.chip.b (Reg.PG_ERR 0x40002000) 18 = true ∧ t.chip.slot k =
      s.chip.slot k ∧ onlyChip s t ∧ sameRegs [Reg.GAL_CMD k, Reg.GAL_STATE k, Reg.PG_ERR 0x40002000, Reg.CHIP_LOG_WR] s.chip t.chip) ∧
  (∀ (s : State) (p : Plane) (k : Fin 4) (tag : BitVec 16), s.chip.ctl = true → planeCode p = k.val → k.val < 3 → s.chip.fenced 0x40002000 k
      = false → s.chip.slotState k = 1 ∨ s.chip.slotState k = 3 → (∀ j ∈ s.chip.gal.queue, s.chip.gal.came.contains (j, s.env.time.up) =
      true → slotRank j ≤ slotRank k) → ∃ t, exec (.galleyProof p k tag) s = .next t ∧ t.chip.slotState k = 2 ∧ (t.chip.slot k).pass = 1 ∧
      (t.chip.slot k).list = (s.chip.slot k).list ∧ t.chip.gal.queue = s.chip.gal.queue ++ [k.val] ∧ onlyChip s t ∧ sameRegs [Reg.GAL_CMD k,
      Reg.GAL_STATE k] s.chip t.chip) ∧
  (∀ (s : State) (p : Plane) (k : Fin 4) (tag : BitVec 16), s.chip.ctl = true → planeCode p = k.val → k.val < 3 → s.chip.fenced 0x40002000 k
      = false → s.chip.slotState k = 1 ∨ s.chip.slotState k = 3 → (∀ j ∈ s.chip.gal.queue, s.chip.gal.came.contains (j, s.env.time.up) =
      true → slotRank j ≤ slotRank k) → ∃ t, exec (.galleyCommit p k tag) s = .next t ∧ t.chip.slotState k = 2 ∧ (t.chip.slot k).pass = 2 ∧
      (t.chip.slot k).list = (s.chip.slot k).list ∧ t.chip.gal.queue = s.chip.gal.queue ++ [k.val] ∧ onlyChip s t ∧ sameRegs [Reg.GAL_CMD k,
      Reg.GAL_STATE k] s.chip t.chip) ∧ (∀ (s : State) (p : Plane) (k : Fin 4) (j : Nat) (tag : BitVec 16), s.chip.ctl = true → planeCode p
      = k.val → k.val < 3 → s.chip.fenced 0x40002000 k = false → s.chip.slotState k = 1 ∨ s.chip.slotState k = 3 → s.chip.gal.queue = [j] →
      s.chip.gal.came.contains (j, s.env.time.up) = true → slotRank k < slotRank j → ∃ t, exec (.galleyCommit p k tag) s = .next t ∧
      t.chip.gal.queue = [k.val, j] ∧ onlyChip s t) ∧
  (∀ (s : State) (p : Plane) (k : Fin 4) (tag : BitVec 16), s.chip.ctl = true → planeCode p = k.val → k.val < 3 → s.chip.fenced
      0x40002000 k = false → 1 ≤ s.chip.slotState k → s.chip.slotState k ≤ 3 → s.chip.gal.accepted.contains k.val = false → ∃ t, exec
      (.galleyRollback p k tag) s = .next t ∧ t.chip.slotState k = 7 ∧ t.chip.slot k = {} ∧ t.chip.rd (Reg.GAL_LIST k) = 0 ∧
      t.chip.gal.queue = s.chip.gal.queue.filter (· != k.val) ∧ t.chip.rd Reg.CHIP_LOG_WR = s.chip.rd Reg.CHIP_LOG_WR + 1 ∧ t.chip.image =
      s.chip.image ∧ onlyChip s t) ∧
  (∀ (s : State) (p : Plane) (k : Fin 4) (tag : BitVec 16), s.chip.ctl = true → planeCode p = k.val → k.val < 3 → s.chip.fenced
      0x40002000 k = false → ∃ t, exec (.galleyNop p k tag) s = .next t ∧ t.chip.rd (Reg.GAL_CMD k) = word (tag.toNat * 65536) ∧
      t.chip.gal = s.chip.gal ∧ onlyChip s t ∧ sameRegs [Reg.GAL_CMD k] s.chip t.chip)

/-- A word for a staged register without bits that act at once joins the end of the open slot's list of its plane with its reserved bits zero, the
count moves on, and the register keeps its value. The pass at the head of the checker's queue ends: without a finding a PROOF leaves PROVED, and a
COMMIT is accepted with its target shown; with a finding the slot fails with that code. From M + 1,400 a marker puts the words of the first
transaction without one, where it passes, into the committed image and no register changes. A partner's verdict on the pair slot that comes in time is
kept; at the boundary a transaction that this chip passed and the partner failed ends as FAILED with PAIR_VERDICT and the partner's code. Heath,
Metrology, memory, time and the queue stand. Under these conditions alone each of galleyStage, structuralPassComplete, mramMarkerWritten and
partnerVerdict answers a next state. -/
def Obligations.GalleyStaging : Prop :=
  (∀ (s : State) (p : Plane) (a k : Nat) (v : Word) (g : Page) (d : RegDesc) (j : Nat), s.chip.ctl = true → a % 4 = 0 → placeOf s.env.part a
      = .reg g d j → g.owner < 3 → s.chip.ownerOk g a p = true → s.cellFenced g a = false → d.acc = .rws → d.w1c = 0 → s.chip.openSlot p =
      some k → s.chip.slotState k ≠ 2 → (s.chip.slot k).list.length < 4096 → ∃ t, exec (.galleyStage p a v) s = .next t ∧ (t.chip.slot
      k).list = (s.chip.slot k).list ++ [(a, v &&& ~~~ word d.rsv)] ∧ t.chip.f (Reg.GAL_LIST k) 0 13 = (s.chip.slot k).list.length + 1 ∧
      t.chip.slotState k = 1 ∧ t.chip.image = s.chip.image ∧ onlyChip s t ∧ sameRegs [Reg.GAL_LIST k, Reg.GAL_STATE k, Reg.PG_GALLEY g.base,
      Reg.PG_ERR g.base, Reg.CHIP_LOG_WR] s.chip t.chip) ∧
  (∀ (s : State) (k : Nat) (l : List Nat), s.chip.ctl = true → s.chip.gal.queue = k :: l → k < 4 → (s.chip.slot k).pass = 1 →
      structuralPass s.env s.mem k (commitTarget s.env s.chip) s.chip = none → ∃ t, exec .structuralPassComplete s = .next t ∧
      t.chip.slotState k = 3 ∧ t.chip.f (Reg.GAL_STATE k) 16 8 = 0 ∧ t.chip.gal.queue = l ∧ (t.chip.slot k).list = (s.chip.slot k).list ∧
      onlyChip s t ∧ sameRegs [Reg.GAL_STATE k] s.chip t.chip) ∧
  (∀ (s : State) (k : Nat) (l : List Nat), s.chip.ctl = true → s.chip.gal.queue = k :: l → k < 3 → (s.chip.slot k).pass = 2 → structuralPass
      s.env s.mem k (commitTarget s.env s.chip) s.chip = none → ∃ t, exec .structuralPassComplete s = .next t ∧ t.chip.slotState k = 4 ∧
      t.chip.gal.queue = l ∧ t.chip.gal.accepted = s.chip.gal.accepted ++ [k] ∧ (t.chip.slot k).target = commitTarget s.env s.chip ∧
      t.chip.rd (Reg.GAL_TARGET k) = (commitTarget s.env s.chip).setWidth 32 ∧ (t.chip.slot k).list = (s.chip.slot k).list ∧ onlyChip s t ∧
      sameRegs (Reg.GAL_STATE k :: Reg.GAL_TARGET k :: (s.chip.slot k).list.filterMap (fun x => (homePage x.1).map Reg.PG_GALLEY)) s.chip
      t.chip) ∧
  (∀ (s : State) (k : Nat) (l : List Nat) (f : Nat × Nat × Nat), s.chip.ctl = true → s.chip.gal.queue = k :: l → k < 4 → f.1 < 256 →
      structuralPass s.env s.mem k (commitTarget s.env s.chip) s.chip = some f → ∃ t, exec .structuralPassComplete s = .next t ∧
      t.chip.slotState k = 6 ∧ t.chip.f (Reg.GAL_STATE k) 16 8 = f.1 ∧ t.chip.rd (Reg.GAL_FAIL_ADDR k) = word f.2.1 ∧ t.chip.slot k = {} ∧
      t.chip.image = s.chip.image ∧ onlyChip s t) ∧
  (∀ (s : State) (k : Nat), s.chip.ctl = true → s.chip.gal.gap = false → s.chip.cuts.mirror + 1400 ≤ s.env.time.offset →
      s.chip.gal.cut.find? (fun k => !(s.chip.slot k).marker) = some k → galPassing s.chip k = true → ∃ t, exec .mramMarkerWritten s = .next
      t ∧ (t.chip.slot k).marker = true ∧ t.chip.image = imagePut (s.chip.slot k).list s.chip.image ∧ (t.chip.slot k).list = (s.chip.slot
      k).list ∧ onlyChip s t ∧ sameRegs [] s.chip t.chip) ∧
  (∀ (s : State) (code : Nat), s.chip.ctl = true → s.chip.roleIs 0 = false → s.chip.gal.past = true → s.chip.gal.cut.contains 3 = true →
      (s.chip.slot 3).partner = none → s.env.time.offset ≤ s.chip.cuts.mirror + 1400 → ∃ t, exec (.partnerVerdict code) s = .next t ∧
      (t.chip.slot 3).partner = some (code % 256) ∧ onlyChip s t ∧ sameRegs [] s.chip t.chip) ∧
  (∀ (e : Env) (c : Chip) (code : Nat), c.gal.cut = [3] → c.slotState 3 = 4 → c.roleIs 0 = false → (c.slot 3).verdict = some 0 → (c.slot
      3).partner = some code → 0 < code → code < 256 → (galJudge e c).slotState 3 = 6 ∧ (galJudge e c).f (Reg.GAL_STATE 3) 16 8 = 0x1E ∧
      (galJudge e c).f (Reg.GAL_FAIL_INFO 3) 16 8 = code ∧ (galJudge e c).image = c.image)

/-- In a region that runs, a read that finds a parity error is kept for its repeats and changes no register. A clean repeat ends it, flagged as a
transient and counted; the first repeat that is not clean leaves it waiting for the second; a persistent error of a configuration word asks for a
scrub, one of a port's bundle, before the cut-off, drops the bundle, and MISS_RUN is again that of the last boundary. A scrub that reads clean writes
the value of its source back, flagged and counted; a state word of a loop slot takes what the partner supplied. A persistent error in the fabric
arbiter is a chip fault, which stops Control and Service. A fabric write whose replay succeeds is forgotten; the second failure of one raises WR_LOST
in both pages. Memory, time and the queue stand. Under these conditions alone each of parityError, parityReplay, scrubComplete and fabricWriteReplay
answers a next state. -/
def Obligations.ParityHandling : Prop :=
  (∀ (s : State) (w : ParWord), pageRuns' s (parPage w) = true → replayOf s w = none → ∃ t, exec (.parityError w) s = .next t ∧
      replayOf t w = some {} ∧ onlyChip s t ∧ sameRegs [] s.chip t.chip) ∧
  (∀ (s : State) (w : ParWord) (r : Replay), replayOf s w = some r → r.scrub = false → ∃ t, exec (.parityReplay w true) s = .next t ∧
      replayOf t w = none ∧ fbit (t.rd (Reg.PG_ERR (parPage w))) 10 = true ∧ t.mem = s.mem ∧ t.env = s.env ∧ t.pending = s.pending ∧ fget
      (t.rd (Reg.PG_ERRCNT (parPage w))) 16 16 = min (fget (s.rd (Reg.PG_ERRCNT (parPage w))) 16 16 + 1) 65535 ∧ sameRegs [Reg.PG_ERR
      (parPage w), Reg.PG_ERRCNT (parPage w), Reg.CHIP_LOG_WR, Reg.CHIP_LOG_LOST] s.chip t.chip) ∧
  (∀ (s : State) (w : ParWord) (r : Replay), replayOf s w = some r → r.scrub = false → r.tries = 0 → ∃ t, exec (.parityReplay w false)
      s = .next t ∧ replayOf t w = some { r with tries := 1 } ∧ onlyChip s t ∧ sameRegs [] s.chip t.chip) ∧
  (∀ (s : State) (n : Fin 32) (r : Replay), replayOf s (.bundle n) = some r → r.scrub = false → 1 ≤ r.tries → (s.chip.tpOf n).done =
      true → s.chip.frm.phase = 0 → ∃ t, exec (.parityReplay (.bundle n) false) s = .next t ∧ replayOf t (.bundle n) = none ∧ (t.chip.tpOf
      n).done = false ∧ (t.chip.tpOf n).crc = none ∧ t.chip.f (Reg.PRT_TP_STAT n) 8 8 = fget (rget s.chip.bnd.regs (Reg.PRT_TP_STAT n)) 8
      8 ∧ onlyChip s t ∧ sameRegs [Reg.PRT_TP_STAT n] s.chip t.chip) ∧
  (∀ (s : State) (a : Nat) (r : Replay), replayOf s (.word a) = some r → r.scrub = false → 1 ≤ r.tries → classOf (.word a) = .config → ∃ t,
      exec (.parityReplay (.word a) false) s = .next t ∧ replayOf t (.word a) = some { tries := 2, scrub := true, supplied := none } ∧
      onlyChip s t ∧ sameRegs [] s.chip t.chip) ∧
  (∀ (s : State) (a : Nat) (v : Word) (r : Replay), replayOf s (.word a) = some r → r.scrub = true → scrubValue (.word a) r s = some v → a ≠
      Reg.PG_ERR (parPage (.word a)) → a ≠ Reg.PG_ERRCNT (parPage (.word a)) → a ≠ Reg.CHIP_LOG_WR → a ≠ Reg.CHIP_LOG_LOST → ∃ t, exec
      (.scrubComplete (.word a) true) s = .next t ∧ t.rd a = v ∧ replayOf t (.word a) = none ∧ fbit (t.rd (Reg.PG_ERR (parPage (.word a))))
      11 = true ∧ t.mem = s.mem ∧ t.env = s.env ∧ t.pending = s.pending ∧ sameRegs [a, Reg.PG_ERR (parPage (.word a)), Reg.PG_ERRCNT
      (parPage (.word a)), Reg.CHIP_LOG_WR, Reg.CHIP_LOG_LOST] s.chip t.chip) ∧
  (∀ (s : State) (a writer : Nat), ∃ t, exec (.fabricWriteReplay a writer true) s = .next t ∧ tget (fun _ => 0) t.chip.flt.wreplays a
      = 0 ∧ onlyChip s t ∧ sameRegs [] s.chip t.chip) ∧
  (∀ (s : State) (a writer : Nat), tget (fun _ => 0) s.chip.flt.wreplays a ≠ 0 → ∃ t, exec (.fabricWriteReplay a writer false) s = .next t ∧
      fbit (t.rd (Reg.PG_ERR ((homePage a).getD 0x40000000))) 9 = true ∧ fbit (t.rd (Reg.PG_ERR ((homePage writer).getD 0x40000000))) 9 =
      true ∧ tget (fun _ => 0) t.chip.flt.wreplays a = 0 ∧ t.mem = s.mem ∧ t.env = s.env ∧ t.pending = s.pending) ∧ (∀ (s : State) (n : Fin
      1024) (i : Fin 8) (v : Word) (r : Replay), replayOf s (.hid (.loop n i)) = some r → r.scrub = true → r.supplied = some v → ∃ t, exec
      (.scrubComplete (.hid (.loop n i)) true) s = .next t ∧ (t.chip.cenSlot n).st.getD i 0 = v ∧ replayOf t (.hid (.loop n i)) = none ∧
      onlyChip s t ∧ sameRegs [Reg.PG_ERR (parPage (.hid (.loop n i))), Reg.PG_ERRCNT (parPage (.hid (.loop n i))), Reg.CHIP_LOG_WR,
      Reg.CHIP_LOG_LOST] s.chip t.chip) ∧ (∀ (s : State) (r : Replay), replayOf s (.hid .arbiter) = some r → r.scrub = false → 1 ≤ r.tries →
      ∃ t, exec (.parityReplay (.hid .arbiter) false) s = .next t ∧ t.chip.b Reg.CHIP_ESC 4 = true ∧ t.chip.ctl = false ∧ t.chip.svc = false
      ∧ t.env = s.env ∧ t.pending = s.pending)

/-- In a region that runs, a block whose self-checker fails, with fewer than two restarts in its recent frames, is held with a fault record of level 1
and cause 0xA that names it. A write of PG_CTRL by the page's owner keeps its two fields, and with bit 31 holds the block and leaves no fault record.
A completed restart that holds no write releases the block, flagged and counted. One not complete by the last cycle of its frame restarts the region:
a Control block's leaves the Control region not running. The third failure of a block in 4,096 frames restarts its region, and so does a restart not
complete by the last cycle, whatever the region: it is flagged in CHIP.ESC. A block that is not held has nothing to complete. Memory, time and the
queue stand but where a region restarts. Under these conditions alone each of selfCheckerFault, pgCtrlRestart, blockRestartComplete and
blockRestartFailed answers a next state. -/
def Obligations.BlockRestarts : Prop :=
  (∀ (s : State) (page : Nat) (g : Page), pageAt page = some g → g.base = page → pageRuns' s page = true → s.chip.flt.held.contains page =
      false → (recentRestarts s page).length < 2 → ∃ t, exec (.selfCheckerFault page) s = .next t ∧ t.chip.flt.held.contains page = true ∧
      t.chip.rd Reg.CHIP_FAULT_A = word (2 ^ 30 + regionCode (regionOf page) * 2 ^ 28 + 0xA * 2 ^ 24 + g.type) ∧ t.chip.rd Reg.CHIP_FAULT_B
      = word (g.inst * 2 ^ 24 + 0xFFFF) ∧ t.mem = s.mem ∧ sameHeath [] s.heath t.heath ∧ sameMet [] s.met t.met ∧ t.env = s.env ∧ t.pending
      = s.pending) ∧
  (∀ (s : State) (p : Plane) (page : Nat) (v : Word) (g : Page), pageAt page = some g → g.base = page → pagePresent s.env.part g = true →
      g.owner < 3 → planeCode p = g.owner → pageRuns' s page = true → v &&& 0x7FFE0000 = 0 → fbit v 31 = false → s.chip.flt.held.contains
      page = false → ∃ t, exec (.pgCtrlRestart p page v) s = .next t ∧ t.chip.rd (Reg.PG_CTRL page) = v &&& 0x1FFFF ∧ onlyChip s t ∧
      sameRegs [Reg.PG_CTRL page] s.chip t.chip) ∧
  (∀ (s : State) (p : Plane) (page : Nat) (v : Word) (g : Page), pageAt page = some g → g.base = page → pagePresent s.env.part g =
      true → g.owner < 3 → planeCode p = g.owner → pageRuns' s page = true → v &&& 0x7FFE0000 = 0 → fbit v 31 = true →
      s.chip.flt.held.contains page = false → (recentRestarts s page).length < 2 → g.kind ≠ .gal → ∃ t, exec (.pgCtrlRestart p page v) s =
      .next t ∧ t.chip.rd (Reg.PG_CTRL page) = v &&& 0x1FFFF ∧ t.chip.flt.held.contains page = true ∧ onlyChip s t ∧ sameRegs [Reg.PG_CTRL
      page] s.chip t.chip) ∧
  (∀ (s : State) (page : Nat), s.chip.flt.held.contains page = true → pageAt page ≠ none → page % 4096 = 0 → (∀ x ∈ s.chip.flt.waitW,
      homePage x.2.1 ≠ some page) → ∃ t, exec (.blockRestartComplete page) s = .next t ∧ t.chip.flt.held.contains page = false ∧ fbit (t.rd
      (Reg.PG_ERR page)) 15 = true ∧ t.mem = s.mem ∧ t.env = s.env ∧ t.pending = s.pending) ∧
  (∀ (s : State) (page : Nat), s.chip.flt.held.contains page = true → pageAt page ≠ none → regionOf page = .control → s.chip.ctl = true →
      s.chip.frm.phase = 5 → s.env.time.offset < s.env.time.len → ∃ t, exec (.blockRestartFailed page) s = .next t ∧ t.chip.ctl = false ∧
      t.chip.flt.held.contains page = false ∧ t.env.part = s.env.part ∧ t.pending = s.pending) ∧
  (∀ (s : State) (page : Nat) (g : Page), pageAt page = some g → pageRuns' s page = true → s.chip.flt.held.contains page = false → 2 ≤
      (recentRestarts s page).length → rgnThird s.env (regionOf page) s.chip = false → ∃ t, exec (.selfCheckerFault page) s = .next t ∧
      t.chip.rgn (regionOf page) = 1 ∧ t.chip.b Reg.CHIP_ESC (escBit (regionOf page)) = true ∧ t.env = s.env ∧ t.pending = s.pending) ∧
  (∀ (s : State) (p : Plane) (page : Nat) (v : Word) (g : Page), pageAt page = some g → g.base = page → pagePresent s.env.part g = true →
      g.kind = .gal → planeCode p = g.owner → pageRuns' s page = true → v &&& 0x7FFE0000 = 0 → fbit v 31 = true → s.chip.flt.held.contains
      page = false → (recentRestarts s page).length < 2 → ∃ t, exec (.pgCtrlRestart p page v) s = .next t ∧ t.chip.rd (Reg.PG_CTRL page) = v
      &&& 0x1FFFF ∧ t.chip.flt.held.contains page = true ∧ onlyChip s t) ∧
  (∀ (s : State) (page : Nat), blockFailDue s page = true → pageAt page ≠ none → s.chip.rgn (regionOf page) = 0 → rgnThird s.env (regionOf
      page) s.chip = false → ∃ t, exec (.blockRestartFailed page) s = .next t ∧ t.chip.rgn (regionOf page) = 1 ∧ t.chip.b Reg.CHIP_ESC
      (escBit (regionOf page)) = true ∧ t.chip.flt.held.contains page = false ∧ t.env = s.env ∧ t.pending = s.pending) ∧
  (∀ (s : State) (page : Nat), s.chip.flt.held.contains page = false → exec (.blockRestartComplete page) s = .next s ∧ exec
      (.blockRestartFailed page) s = .next s)

/-- A running region whose watchdog expires, or whose own supply fails, no longer runs; its two earlier restarts within 60 s make it a chip fault,
which holds Control and Service and is flagged; else its restart is flagged in CHIP.ESC. A restart past its return time is a chip fault. 100 ms after
a chip fault that does not hold the chip for good, Control and Service restart, and CHIP.ESC shows it. The queue and the part stand. Under these
conditions alone each of regionWatchdogExpire, domainSupplyFault, regionRestartTimeout and chipFaultRestart answers a next state. -/
def Obligations.RegionRestarts : Prop :=
  (∀ (s : State) (r : Region), s.chip.rgn r = 0 → rgnThird s.env r s.chip = false → ∃ t, exec (.regionWatchdogExpire r) s = .next t ∧
      t.chip.rgn r = 1 ∧ t.chip.b Reg.CHIP_ESC (escBit r) = true ∧ t.env = s.env ∧ t.pending = s.pending) ∧
  (∀ (s : State) (r : Region), s.chip.rgn r = 0 → rgnThird s.env r s.chip = true → ∃ t, exec (.regionWatchdogExpire r) s = .next t ∧
      t.chip.rgn .control = 2 ∧ t.chip.rgn .service = 2 ∧ t.chip.b Reg.CHIP_ESC 4 = true ∧ t.env = s.env ∧ t.pending = s.pending) ∧
  (∀ (s : State) (r : Region), s.chip.rgn r = 0 → rgnThird s.env r s.chip = false → ∃ t, exec (.domainSupplyFault r) s = .next t ∧
      t.chip.rgn r = 1 ∧ t.chip.b Reg.CHIP_ESC (escBit r) = true ∧ t.env = s.env ∧ t.pending = s.pending) ∧
  (∀ (s : State) (r : Region), timeoutDue s r = true → ∃ t, exec (.regionRestartTimeout r) s = .next t ∧ t.chip.rgn .control = 2 ∧
      t.chip.rgn .service = 2 ∧ t.chip.b Reg.CHIP_ESC 4 = true ∧ t.env = s.env ∧ t.met = s.met ∧ t.pending = s.pending) ∧
  (∀ (s : State), chipRestartDue s = true → ∃ t, exec .chipFaultRestart s = .next t ∧ t.chip.rgn .control = 1 ∧ t.chip.rgn .service =
      1 ∧ t.chip.b Reg.CHIP_ESC 0 = true ∧ t.chip.b Reg.CHIP_ESC 1 = true ∧ t.heath = s.heath ∧ t.met = s.met ∧ t.mem = s.mem ∧ t.env =
      s.env ∧ t.pending = s.pending ∧ sameRegs [Reg.CHIP_RGN_STAT, Reg.CHIP_ESC] s.chip t.chip)

/-- A Control region that restarts runs again in frame 0 at its opening boundary with SITE_TIME zero, and shows an image that was lost. A Service
region that restarts runs again where one of its boot slots can run, and stays down where the signatures of both fail. Heath, restarting with VDDA
good, runs again. A region restart that completes does the same for its region. The queue and the part stand. Under these conditions alone each of
controlRegionStart, serviceStart, heathStart and regionRestartComplete answers a next state. -/
def Obligations.RegionStarts : Prop :=
  (∀ (s : State) (valid : Bool), s.chip.rgn .control = 1 → ∃ t, exec (.controlRegionStart valid) s = .next t ∧ t.chip.ctl = true ∧
      t.env.time.frameNo = 0 ∧ t.env.time.offset = 0 ∧ t.env.time.bndTime = 0 ∧ t.chip.frm.phase = 0 ∧ t.env.time.up = s.env.time.up ∧
      t.chip.b Reg.PWR_STAT 27 = !valid ∧ t.env.part = s.env.part ∧ t.pending = s.pending) ∧
  (∀ (s : State) (sigA sigB : Bool), s.chip.rgn .service = 1 → (bootSlot sigA sigB s.chip).isSome = true → ∃ t, exec (.serviceStart
      sigA sigB) s = .next t ∧ t.chip.svc = true ∧ t.env = s.env ∧ t.heath = s.heath ∧ t.met = s.met ∧ t.mem = s.mem ∧ t.pending =
      s.pending) ∧
  (∀ (s : State), s.chip.rgn .service = 1 → ∃ t, exec (.serviceStart false false) s = .next t ∧ t = s) ∧
  (∀ (s : State), s.chip.rgn .heath = 1 → vddaGood s.chip = true → ∃ t, exec .heathStart s = .next t ∧ t.chip.rgn .heath = 0 ∧
      t.heath.b Reg.HTH_STAT 25 = s.env.part.rolePri ∧ t.env = s.env ∧ t.met = s.met ∧ t.mem = s.mem ∧ t.pending = s.pending) ∧
  (∀ (s : State) (valid sigA sigB : Bool), s.chip.rgn .control = 1 → ∃ t, exec (.regionRestartComplete .control valid sigA sigB) s =
      .next t ∧ t.chip.ctl = true ∧ t.env.time.frameNo = 0 ∧ t.env.time.offset = 0 ∧ t.env.part = s.env.part ∧ t.pending = s.pending) ∧
  (∀ (s : State) (valid sigA sigB : Bool), s.chip.rgn .service = 1 → (bootSlot sigA sigB s.chip).isSome = true → ∃ t, exec
      (.regionRestartComplete .service valid sigA sigB) s = .next t ∧ t.chip.svc = true ∧ t.env = s.env ∧ t.heath = s.heath ∧ t.met =
      s.met ∧ t.mem = s.mem ∧ t.pending = s.pending) ∧
  (∀ (s : State) (valid sigA sigB : Bool), s.chip.rgn .heath = 1 → vddaGood s.chip = true → ∃ t, exec (.regionRestartComplete .heath
      valid sigA sigB) s = .next t ∧ t.chip.rgn .heath = 0 ∧ t.env = s.env ∧ t.met = s.met ∧ t.mem = s.mem ∧ t.pending = s.pending) ∧
  (∀ (s : State) (valid sigA sigB : Bool), s.chip.rgn .metrology = 1 → s.met.st.fwNew = none → ∃ t, exec (.regionRestartComplete
      .metrology valid sigA sigB) s = .next t ∧ t.chip.rgn .metrology = 0 ∧ t.met.b Reg.MET_STAT 26 = false ∧ t.env = s.env ∧ t.heath =
      s.heath ∧ t.mem = s.mem ∧ t.pending = s.pending)

/-- A rail that stops being good holds Control and Service in reset and is counted and flagged; one that returns is good again. The first supplies
valid since power-on lets Control and Service restart with cause 1. A low RESET_N holds both with cause 2; its release starts them where nothing else
holds them. RST_CMD with its key is a reset of both that ends at once, with cause 3; with a wrong key it is flagged and holds nothing. A low VBAK is
shown and flagged, and waits to be logged. The queue and the part stand. Under these conditions alone each of railFault, railGood, suppliesValid,
bakLow, resetNAssert, resetNRelease and rstCmd answers a next state. -/
def Obligations.SuppliesAndResets : Prop :=
  (∀ (s : State) (r : Fin 4), s.chip.pwr.rails.testBit r.val = false → ∃ t, exec (.railFault r) s = .next t ∧ t.chip.rgn .control = 2
      ∧ t.chip.rgn .service = 2 ∧ t.chip.pwr.rails.testBit r.val = true ∧ t.chip.pwr.held = true ∧ t.chip.b Reg.PWR_EVT 2 = true ∧
      t.chip.f Reg.PWR_RAIL_FLT (8 * r.val) 8 = min (s.chip.f Reg.PWR_RAIL_FLT (8 * r.val) 8 + 1) 255 ∧ (r.val = 3 → t.chip.rgn .heath =
      2) ∧ t.env = s.env ∧ t.pending = s.pending) ∧
  (∀ (s : State) (r : Fin 4), s.chip.pwr.rails.testBit r.val = true → r.val ≠ 3 → ∃ t, exec (.railGood r) s = .next t ∧
      t.chip.pwr.rails.testBit r.val = false ∧ onlyChip s t ∧ sameRegs [] s.chip t.chip) ∧
  (∀ (s : State), s.chip.pwr.rails.testBit 3 = true → s.chip.rgn .heath = 2 → ∃ t, exec (.railGood 3) s = .next t ∧
      t.chip.pwr.rails.testBit 3 = false ∧ t.chip.rgn .heath = 1 ∧ onlyChip s t) ∧
  (∀ (s : State), s.chip.pwr.rails = 0 → s.chip.pwr.rstLow = false → s.chip.pwr.on = false → ∃ t, exec .suppliesValid s = .next t ∧
      t.chip.rgn .control = 1 ∧ t.chip.rgn .service = 1 ∧ t.chip.rgn .heath = 1 ∧ t.chip.pwr.on = true ∧ t.chip.pwr.causes.contains 1 =
      true ∧ (s.env.part.hasMet = false → t.chip.rgn .metrology = 3) ∧ t.env = s.env ∧ t.pending = s.pending) ∧
  (∀ (s : State), s.chip.pwr.on = true → s.chip.pwr.held = true → startFree s.chip = true → ∃ t, exec .suppliesValid s = .next t ∧
      t.chip.rgn .control = 1 ∧ t.chip.rgn .service = 1 ∧ t.chip.pwr.held = false ∧ onlyChip s t ∧ sameRegs [Reg.CHIP_RGN_STAT] s.chip
      t.chip) ∧
  (∀ (s : State), ∃ t, exec .bakLow s = .next t ∧ t.chip.b Reg.PWR_STAT 29 = true ∧ t.chip.b Reg.PWR_EVT 3 = true ∧ t.chip.pwr.bakDue
      = true ∧ onlyChip s t ∧ sameRegs [Reg.PWR_STAT, Reg.PWR_EVT] s.chip t.chip) ∧
  (∀ (s : State), s.chip.pwr.rstLow = false → ∃ t, exec .resetNAssert s = .next t ∧ t.chip.rgn .control = 2 ∧ t.chip.rgn .service = 2
      ∧ t.chip.pwr.rstLow = true ∧ t.chip.pwr.held = true ∧ t.chip.b Reg.CHIP_ESC 5 = false ∧ t.env = s.env ∧ t.met = s.met ∧ t.pending =
      s.pending) ∧
  (∀ (s : State), s.chip.pwr.rstLow = true → s.chip.pwr.on = true → s.chip.pwr.rails = 0 → s.chip.hkp.dieSd = false → s.chip.b
      Reg.CHIP_ESC 5 = false → ∃ t, exec .resetNRelease s = .next t ∧ t.chip.pwr.rstLow = false ∧ t.chip.rgn .control = 1 ∧ t.chip.rgn
      .service = 1 ∧ t.chip.pwr.held = false ∧ onlyChip s t ∧ sameRegs [Reg.CHIP_RGN_STAT] s.chip t.chip) ∧
  (∀ (s : State) (p : Plane) (v : Word), s.chip.svc = true → p = .management → v = 0xA501 → ∃ t, exec (.rstCmd p v) s = .next t ∧
      t.chip.rgn .control = 1 ∧ t.chip.rgn .service = 1 ∧ t.chip.pwr.causes.contains 3 = true ∧ t.heath = s.heath ∧ t.met = s.met ∧ t.env
      = s.env ∧ t.pending = s.pending) ∧
  (∀ (s : State) (p : Plane) (v : Word), s.chip.svc = true → p = .management → v &&& 0xFFFF00FE = 0 → v ≠ 0xA501 → ∃ t, exec (.rstCmd
      p v) s = .next t ∧ t.chip.b Reg.PWR_EVT 5 = true ∧ onlyChip s t ∧ sameRegs [Reg.PWR_EVT] s.chip t.chip)

/-- On a part with axes, while no engine results stand uncommitted, of an axis in use whose latched command it is, a command acts once: ENABLE takes
OFF to HOLD at the actual position where no Heath stop is present; MOVE takes HOLD or MOVE to MOVE with the latched target as its goal where that lies
in the soft limits; STOP takes MOVE to STOP; DISABLE takes HOLD to OFF, MOVE to STOP with DIS_PEND, and sets DIS_PEND in STOP; RESET takes FAULT to
OFF; in another state each is refused with its flag and the state stands. A met fault cause takes HOLD, MOVE and STOP to FAULT with the cause shown.
No other register changes but the log's, and Heath, Metrology, memory, time and the queue stand. Under these conditions alone each of axisEnable,
axisMove, axisStop, axisDisable, axisReset and axisFault answers a next state. -/
def Obligations.AxisCommands : Prop :=
  (∀ (s : State) (a : Fin 8), s.env.part.hasAxes = true → s.chip.b (Reg.CEN_AX_CFG a) 31 = true → (s.chip.axis a).cmd = 1 →
      s.chip.cen.res = none → axState s.chip a = 0 → s.chip.b (Reg.CEN_AX_STAT a) 22 = false → ∃ t, exec (.axisEnable a) s = .next t ∧
      axState t.chip a = 1 ∧ t.chip.rd (Reg.CEN_AX_PSP a) = fOfInt (sgn (s.chip.rd (Reg.CEN_AX_POS a))) ∧ (t.chip.axis a).cmd = 0 ∧
      onlyChip s t ∧ sameRegs [Reg.CEN_AX_STAT a, Reg.CEN_AX_PSP a, Reg.CHIP_LOG_WR, Reg.CHIP_LOG_LOST] s.chip t.chip) ∧
  (∀ (s : State) (a : Fin 8), s.env.part.hasAxes = true → s.chip.b (Reg.CEN_AX_CFG a) 31 = true → (s.chip.axis a).cmd = 2 →
      s.chip.cen.res = none → axState s.chip a = 1 ∨ axState s.chip a = 2 → axInLimits s.chip a (s.chip.axis a).tgt = true → ∃ t, exec
      (.axisMove a) s = .next t ∧ axState t.chip a = 2 ∧ (t.chip.axis a).goal = (s.chip.axis a).tgt ∧ (t.chip.axis a).cmd = 0 ∧ onlyChip s
      t ∧ sameRegs [Reg.CEN_AX_STAT a, Reg.CHIP_LOG_WR, Reg.CHIP_LOG_LOST] s.chip t.chip) ∧
  (∀ (s : State) (a : Fin 8), s.env.part.hasAxes = true → s.chip.b (Reg.CEN_AX_CFG a) 31 = true → (s.chip.axis a).cmd = 3 →
      s.chip.cen.res = none → axState s.chip a = 2 → ∃ t, exec (.axisStop a) s = .next t ∧ axState t.chip a = 3 ∧ (t.chip.axis a).cmd = 0
      ∧ onlyChip s t ∧ sameRegs [Reg.CEN_AX_STAT a, Reg.CHIP_LOG_WR, Reg.CHIP_LOG_LOST] s.chip t.chip) ∧
  (∀ (s : State) (a : Fin 8), s.env.part.hasAxes = true → s.chip.b (Reg.CEN_AX_CFG a) 31 = true → (s.chip.axis a).cmd = 4 →
      s.chip.cen.res = none → axState s.chip a = 1 ∨ axState s.chip a = 2 ∨ axState s.chip a = 3 → ∃ t, exec (.axisDisable a) s = .next t
      ∧ axState t.chip a = (if axState s.chip a = 1 then 0 else 3) ∧ (axState s.chip a ≠ 1 → t.chip.b (Reg.CEN_AX_STAT a) 21 = true) ∧
      (t.chip.axis a).cmd = 0 ∧ onlyChip s t ∧ sameRegs [Reg.CEN_AX_STAT a, Reg.CHIP_LOG_WR, Reg.CHIP_LOG_LOST] s.chip t.chip) ∧
  (∀ (s : State) (a : Fin 8), s.env.part.hasAxes = true → s.chip.b (Reg.CEN_AX_CFG a) 31 = true → (s.chip.axis a).cmd = 5 →
      s.chip.cen.res = none → axState s.chip a = 4 → ∃ t, exec (.axisReset a) s = .next t ∧ axState t.chip a = 0 ∧ (t.chip.axis a).cmd = 0
      ∧ onlyChip s t ∧ sameRegs [Reg.CEN_AX_STAT a, Reg.CHIP_LOG_WR, Reg.CHIP_LOG_LOST] s.chip t.chip) ∧
  (∀ (s : State) (a : Fin 8), s.env.part.hasAxes = true → s.chip.b (Reg.CEN_AX_CFG a) 31 = true → (s.chip.axis a).cmd = 3 →
      s.chip.cen.res = none → axState s.chip a ≠ 2 → ∃ t, exec (.axisStop a) s = .next t ∧ t.chip.b Reg.CEN_EVT 5 = true ∧ axState t.chip
      a = axState s.chip a ∧ (t.chip.axis a).cmd = 0 ∧ onlyChip s t ∧ sameRegs [Reg.CEN_EVT] s.chip t.chip) ∧
  (∀ (s : State) (a : Fin 8), s.env.part.hasAxes = true → s.chip.b (Reg.CEN_AX_CFG a) 31 = true → s.chip.cen.res = none → (s.chip.axis
      a).faultDue ≠ 0 → (s.chip.axis a).faultDue < 16 → axState s.chip a ≠ 0 → axState s.chip a ≠ 4 → ∃ t, exec (.axisFault a) s = .next t
      ∧ axState t.chip a = 4 ∧ t.chip.f (Reg.CEN_AX_STAT a) 24 4 = (s.chip.axis a).faultDue ∧ t.chip.b Reg.CEN_EVT 6 = true ∧ (t.chip.axis
      a).faultDue = 0 ∧ onlyChip s t)

/-- A conversion of an analogue input joins its frame's sum and count. Of a pulse input, a level that has not been stable for the 2^FILT cycles of its
filter changes nothing; one that has is taken. In use, it counts a selected edge in the modes of counting; in quadrature a legal step moves the live
position while the input is on, and both levels changing at once is an illegal transition, which changes no position and is then counted, flagged and
makes the input invalid for the frame. A sample of the supervisor gives the magnitude of its instant, while the Control region runs. No register
changes but those named; Heath, Metrology, memory, time and the queue stand. Under these conditions alone each of analogueInputConversion,
pulseInputEdge, pinFault and supervisorSample answers a next state. -/
def Obligations.LocalInputs : Prop :=
  (∀ (s : State) (n : Fin 4) (v : Int), ∃ t, exec (.analogueInputConversion n v) s = .next t ∧ (t.chip.ain n).count = (s.chip.ain
      n).count + 1 ∧ (t.chip.ain n).sum = (s.chip.ain n).sum + v ∧ onlyChip s t ∧ sameRegs [] s.chip t.chip) ∧
  (∀ (s : State) (n : Fin 4) (a b : PinLevel), s.chip.b (Reg.CEN_PIN_CFG n) 31 = true → s.chip.f (Reg.CEN_PIN_CFG n) 29 2 = 2 → 2 ^ s.chip.f
      (Reg.CEN_PIN_CFG n) 24 3 ≤ a.stood → 2 ^ s.chip.f (Reg.CEN_PIN_CFG n) 24 3 ≤ b.stood → (a.high ≠ (s.chip.pin n).a ∧ b.high =
      (s.chip.pin n).b) ∨ (a.high = (s.chip.pin n).a ∧ b.high ≠ (s.chip.pin n).b) → ∃ t, exec (.pulseInputEdge n a b) s = .next t ∧
      (t.chip.pin n).a = a.high ∧ (t.chip.pin n).b = b.high ∧ (t.chip.pin n).ill = (s.chip.pin n).ill ∧ (s.chip.b Reg.CEN_IN_STAT (8 + n) =
      false → (t.chip.pin n).pos = (s.chip.pin n).pos) ∧ (s.chip.b Reg.CEN_IN_STAT (8 + n) = true → (t.chip.pin n).pos = (s.chip.pin n).pos
      + 1 ∨ (t.chip.pin n).pos = (s.chip.pin n).pos - 1) ∧ onlyChip s t ∧ sameRegs [] s.chip t.chip) ∧
  (∀ (s : State) (n : Fin 4) (a b : PinLevel), s.chip.b (Reg.CEN_PIN_CFG n) 31 = true → s.chip.f (Reg.CEN_PIN_CFG n) 29 2 = 2 → 2 ^ s.chip.f
      (Reg.CEN_PIN_CFG n) 24 3 ≤ a.stood → 2 ^ s.chip.f (Reg.CEN_PIN_CFG n) 24 3 ≤ b.stood → a.high ≠ (s.chip.pin n).a → b.high ≠
      (s.chip.pin n).b → ∃ t, exec (.pulseInputEdge n a b) s = .next t ∧ (t.chip.pin n).ill = true ∧ (t.chip.pin n).pos = (s.chip.pin n).pos
      ∧ onlyChip s t ∧ sameRegs [] s.chip t.chip) ∧
  (∀ (s : State) (n : Fin 4) (a b : PinLevel), s.chip.b (Reg.CEN_PIN_CFG n) 31 = true → s.chip.f (Reg.CEN_PIN_CFG n) 29 2 ≠ 2 → (s.chip.pin
      n).a = false → a.high = true → 2 ^ s.chip.f (Reg.CEN_PIN_CFG n) 24 3 ≤ a.stood → ∃ t, exec (.pulseInputEdge n a b) s = .next t ∧
      (t.chip.pin n).edges = (s.chip.pin n).edges + 1 ∧ (t.chip.pin n).stamps = (s.env.time.site, s.env.time.frameNo.toNat) :: (s.chip.pin
      n).stamps ∧ onlyChip s t ∧ sameRegs [] s.chip t.chip) ∧ (∀ (s : State) (n : Fin 4) (a b : PinLevel), a.stood < 2 ^ s.chip.f
      (Reg.CEN_PIN_CFG n) 24 3 → b.stood < 2 ^ s.chip.f (Reg.CEN_PIN_CFG n) 24 3 → ∃ t, exec (.pulseInputEdge n a b) s = .next t ∧
      t.chip.pin n = s.chip.pin n ∧ onlyChip s t ∧ sameRegs [] s.chip t.chip) ∧
  (∀ (s : State) (n : Fin 4), (s.chip.pin n).ill = true → ∃ t, exec (.pinFault n) s = .next t ∧ (t.chip.pin n).ill = false ∧
      (t.chip.pin n).bad = true ∧ (t.chip.pin n).faults = (s.chip.pin n).faults + 1 ∧ t.chip.b Reg.CEN_EVT 7 = true ∧ onlyChip s t ∧
      sameRegs [Reg.CEN_EVT] s.chip t.chip) ∧
  (∀ (s : State) (u1 u2 u3 : Int), s.chip.ctl = true → ∃ t, exec (.supervisorSample u1 u2 u3) s = .next t ∧ t.chip.alc.mag =
      svMagnitude u1 u2 u3 ∧ t.chip.alc.seen = true ∧ t.chip.frm = s.chip.frm ∧ onlyChip s t)

/-- Where no evaluation waits: a step that has timed out is flagged: a wait of step 8 ends the move as RAMP_TIMEOUT and counts it as done; one of step
2 or 5 abandons it with result 0x11 or 0x12 and frees its slot; one of step 6 or 7 enters step 9 with result 0x13 or 0x14 kept; an opening that fails,
of step 4 or 9, ends it as 0x20 with the stage fenced. A persistent disagreement marks its position SUSPECT, flagged. A stage that rejoins after its
confirmations, unless it is fenced, keeps as commanded the one position that it followed in its feedback, where that names an outlet, and is commanded
open where it names none or followed none; a fenced one keeps what it followed. An evaluation that waits goes on from there with the next piece of its
order. Heath, Metrology, memory, time and the queue stand. Under these conditions alone each of stepTimeout, positionSuspect and stageRejoin answers a
next state. -/
def Obligations.StageSwitching : Prop :=
  (∀ (s : State) (m : Fin 128), s.chip.b (Reg.MOV_SLOT_A m) 31 = true → (s.chip.movSlot m).late = true → s.chip.mov.todo = [] → slotStep
      s.chip m = 8 → ∃ t, exec (.stepTimeout m) s = .next t ∧ t.chip.b Reg.MOV_EVT 2 = true ∧ (t.chip.movSlot m).late = false ∧ t.chip.rd
      (Reg.MOV_SLOT_A m) = 0 ∧ t.chip.f (Reg.MOV_SLOT_D m) 24 8 = 2 ∧ t.chip.n Reg.MOV_DONE_CNT = (s.chip.n Reg.MOV_DONE_CNT + 1) % 2 ^ 32 ∧
      onlyChip s t) ∧
  (∀ (s : State) (m : Fin 128), s.chip.b (Reg.MOV_SLOT_A m) 31 = true → (s.chip.movSlot m).late = true → s.chip.mov.todo = [] → slotStep
      s.chip m = 2 → ∃ t, exec (.stepTimeout m) s = .next t ∧ t.chip.b Reg.MOV_EVT 2 = true ∧ (t.chip.movSlot m).late = false ∧ t.chip.rd
      (Reg.MOV_SLOT_A m) = 0 ∧ t.chip.f (Reg.MOV_SLOT_D m) 24 8 = 0x11 ∧ t.chip.b Reg.MOV_EVT 1 = true ∧ t.chip.n Reg.MOV_END_CNT =
      (s.chip.n Reg.MOV_END_CNT + 1) % 2 ^ 32 ∧ onlyChip s t) ∧
  (∀ (s : State) (m : Fin 128), s.chip.b (Reg.MOV_SLOT_A m) 31 = true → (s.chip.movSlot m).late = true → s.chip.mov.todo = [] → slotStep
      s.chip m = 5 → ∃ t, exec (.stepTimeout m) s = .next t ∧ t.chip.b Reg.MOV_EVT 2 = true ∧ (t.chip.movSlot m).late = false ∧ t.chip.rd
      (Reg.MOV_SLOT_A m) = 0 ∧ t.chip.f (Reg.MOV_SLOT_D m) 24 8 = 0x12 ∧ t.chip.b Reg.MOV_EVT 1 = true ∧ (t.chip.stgMov (movStage s.chip
      m)).want = none ∧ onlyChip s t) ∧
  (∀ (s : State) (m : Fin 128), s.chip.b (Reg.MOV_SLOT_A m) 31 = true → (s.chip.movSlot m).late = true → s.chip.mov.todo = [] → slotStep
      s.chip m = 6 ∨ slotStep s.chip m = 7 → ∃ t, exec (.stepTimeout m) s = .next t ∧ t.chip.b Reg.MOV_EVT 2 = true ∧ (t.chip.movSlot
      m).late = false ∧ slotStep t.chip m = 9 ∧ t.chip.b (Reg.MOV_SLOT_A m) 31 = true ∧ (t.chip.movSlot m).ab = some (if slotStep s.chip m =
      6 then 0x13 else 0x14) ∧ t.chip.b Reg.MOV_EVT 1 = true ∧ onlyChip s t) ∧
  (∀ (s : State) (m : Fin 128), s.chip.b (Reg.MOV_SLOT_A m) 31 = true → (s.chip.movSlot m).late = true → s.chip.mov.todo = [] → slotStep
      s.chip m = 4 ∨ slotStep s.chip m = 9 → ∃ t, exec (.stepTimeout m) s = .next t ∧ t.chip.b Reg.MOV_EVT 2 = true ∧ (t.chip.movSlot
      m).late = false ∧ t.chip.rd (Reg.MOV_SLOT_A m) = 0 ∧ t.chip.f (Reg.MOV_SLOT_D m) 24 8 = 0x20 ∧ t.chip.stageFenced (movStage s.chip m)
      = true ∧ t.chip.b (Reg.XPT_EVT (movStage s.chip m / 64)) 2 = true ∧ onlyChip s t) ∧
  (∀ (s : State) (g : Fin 512) (k : Nat) (l : List Nat), (s.chip.stgMov g).susp = k :: l → k < 16 → s.chip.mov.todo = [] → ∃ t, exec
      (.positionSuspect g) s = .next t ∧ t.chip.b (Reg.XPT_MARK g) k = true ∧ t.chip.b (Reg.XPT_EVT (g / 64)) 1 = true ∧ (t.chip.stgMov
      g).susp = [] ∧ onlyChip s t) ∧
  (∀ (s : State) (g : Fin 512), (s.chip.stgMov g).deciding = true → movConf s.chip ≤ (s.chip.stgMov g).decRun → s.chip.mov.todo = [] →
      (s.chip.stgMov g).want = none → ∃ t, exec (.stageRejoin g) s = .next t ∧ (t.chip.stgMov g).deciding = false ∧ (t.chip.stgMov g).want =
      none ∧ (t.chip.stgMov g).started = false ∧ onlyChip s t ∧ sameRegs [] s.chip t.chip) ∧
  (∀ (s : State) (g : Fin 512) (k : Nat), (s.chip.stgMov g).deciding = true → movConf s.chip ≤ (s.chip.stgMov g).decRun → s.chip.mov.todo =
      [] → (s.chip.stgMov g).want = some k → s.chip.stageFenced g = false → ∃ t, exec (.stageRejoin g) s = .next t ∧ (t.chip.stgMov
      g).deciding = false ∧ (t.chip.stgMov g).want = (xptOutlet s.chip g k).map (fun _ => k) ∧ onlyChip s t) ∧
  (∀ (s : State) (g : Fin 512) (k : Nat), (s.chip.stgMov g).deciding = true → movConf s.chip ≤ (s.chip.stgMov g).decRun → s.chip.mov.todo =
      [] → (s.chip.stgMov g).want = some k → s.chip.stageFenced g = true → ∃ t, exec (.stageRejoin g) s = .next t ∧ (t.chip.stgMov
      g).deciding = false ∧ (t.chip.stgMov g).want = some k ∧ onlyChip s t ∧ sameRegs [] s.chip t.chip) ∧ (∀ (s : State) (g : Fin 512) (l :
      List MovTask), (s.chip.stgMov g).susp ≠ [] → s.chip.mov.todo = .mark g :: l → exec (.positionSuspect g) s = .next (onChip (fun e c =>
      movGo e true l (movSuspect e g c)) s)) ∧ (∀ (s : State) (m : Fin 128) (l : List MovTask), moveLate s.chip m = true → s.chip.mov.todo
      = .late m :: l → exec (.stepTimeout m) s = .next (onChip (fun e c => movGo e true l (movTimeout e m c)) s)) ∧ (∀ (s : State) (g : Fin
      512), rejoinDue s.chip g = true → exec (.stageRejoin g) s = .next (onChip (fun e c => movResume e (movRejoined e g c)) s))

/-- While the Control region runs and no sag is held, the supervisor's first magnitude outside the band starts one: held, flagged, and logged with
that magnitude and whether it lies above nominal. A held sag whose in-band latches have reached RELEASE ends: SAG_HOLD clears in the state and in the
frame's image, flagged and logged with the freeze's magnitude. A slot that tripped for its inputs, with RECLOSE and 64 valid freezes, is marked to
close again in the next Solve, and nothing else changes. Every register but those named stands, as do Heath, Metrology, memory, time and the queue.
Under these conditions alone each of sagStart, sagEnd and slotReclose answers a next state. -/
def Obligations.SagHold : Prop :=
  (∀ (s : State) (m : Nat), s.chip.ctl = true → s.chip.alc.sag = false → s.chip.alc.first = some m → ∃ t, exec .sagStart s = .next t ∧
      t.chip.alc.sag = true ∧ t.chip.alc.inBand = 0 ∧ t.chip.b Reg.ALC_EVT 4 = true ∧ logged s.chip t.chip ⟨s.env.time.stamp, srcWord
      0x10 8 1, word ((if s.chip.f Reg.ALC_SAG_NOM 0 16 ≤ m then 2 ^ 31 else 0) + m % 65536)⟩ ∧ onlyChip s t ∧ sameRegs [Reg.ALC_EVT,
      Reg.CHIP_LOG_WR] s.chip t.chip) ∧
  (∀ (s : State), s.chip.ctl = true → s.chip.alc.sag = true → s.chip.f Reg.ALC_SAG_CFG 0 8 ≤ s.chip.alc.inBand → ∃ t, exec .sagEnd s =
      .next t ∧ t.chip.alc.sag = false ∧ t.chip.img.sag = false ∧ t.chip.b Reg.ALC_EVT 5 = true ∧ logged s.chip t.chip ⟨s.env.time.stamp, srcWord 0x10 8 2, word (s.chip.f Reg.ALC_SAG_MAG 0 16)⟩ ∧ onlyChip s t ∧ sameRegs [Reg.ALC_EVT, Reg.CHIP_LOG_WR]
      s.chip t.chip) ∧
  (∀ (s : State) (k : Fin 1024), (s.chip.cenSlot k).trip = 2 → s.chip.b (Reg.CEN_SLOT_CTL k) 30 = true → 64 ≤ (s.chip.cenSlot k).valid
      → ∃ t, exec (.slotReclose k) s = .next t ∧ (t.chip.cenSlot k).reclose = true ∧ (t.chip.cenSlot k).trip = (s.chip.cenSlot k).trip ∧
      (t.chip.cenSlot k).out = (s.chip.cenSlot k).out ∧ onlyChip s t ∧ sameRegs [] s.chip t.chip)

/-- A sensor that is due to be suspect, in a running Control region, is marked in THM.OSTAT, flagged and logged. An outlet that is not fenced and has
missed four frames is shown stale and limited, flagged once. A conversion in its 250 µs slot of an enabled channel other than 3, 8, 9 and 31 leaves
its value, valid, with the range mark, and the present stamp; one of channel 31 also counts the round. One of channel 3 that shows the Field die at
135 degrees or more, its other sensor broken, with no shutdown in force, begins the die shutdown: Control and Service are held. A conversion that is
not in its slot, or a second one in it, is none. Nothing else of the registers changes in the first three; time and the queue stand in all, and memory
but for the ring entry of a Hedgerow frame that the shutdown cuts while it awaits its ACK. Under these conditions alone each of sensorSuspect, stale
and hkpConversion answers a next state. -/
def Obligations.TemperatureEvents : Prop :=
  (∀ (s : State) (o : Fin 64) (k : Fin 6), s.chip.ctl = true → (s.chip.thmOut o).due.testBit k = true → ∃ t, exec (.sensorSuspect o k)
      s = .next t ∧ thmMarks t.chip o = thmMarks s.chip o ||| 2 ^ k.val ∧ (t.chip.thmOut o).due = (s.chip.thmOut o).due ^^^ 2 ^ k.val ∧
      t.chip.f (Reg.THM_OSTAT o) 18 6 = (thmMarks s.chip o ||| 2 ^ k.val) % 64 ∧ t.chip.b (Reg.THM_EVT (o / 32)) 3 = true ∧ logged s.chip t.chip ⟨s.env.time.stamp, srcWord 0x15 (o / 32) 2, word (k.val * 256 + o.val)⟩ ∧ onlyChip s t ∧ sameRegs [Reg.THM_OSTAT o,
      Reg.THM_EVT (o / 32), Reg.CHIP_LOG_WR] s.chip t.chip) ∧
  (∀ (s : State) (o : Fin 64), s.chip.ctl = true → s.chip.outletFenced o = false → 4 ≤ (s.chip.outIn o).missRun → s.chip.b (Reg.THM_OSTAT o)
      28 = false → ∃ t, exec (.stale o) s = .next t ∧ t.chip.b (Reg.THM_OSTAT o) 28 = true ∧ t.chip.b (Reg.THM_OSTAT o) 29 = true ∧ t.chip.b
      (Reg.THM_EVT (o / 32)) 5 = true ∧ (s.chip.b (Reg.THM_OSTAT o) 29 = false → t.chip.b (Reg.THM_EVT (o / 32)) 4 = true) ∧ t.chip.f
      (Reg.THM_OSTAT o) 0 28 = s.chip.f (Reg.THM_OSTAT o) 0 28 ∧ onlyChip s t ∧ sameRegs [Reg.THM_OSTAT o, Reg.THM_EVT (o / 32)] s.chip
      t.chip) ∧
  (∀ (s : State) (ch : Fin 32) (v : Int), vddaGood s.chip = true → s.chip.b (Reg.HKP_CH_CFG ch) 31 = true → ch.val ≠ 3 → ch.val ≠ 8 → ch.val
      ≠ 9 → hkpTurn s.env ch s.chip = true → ∃ t, exec (.hkpConversion ch v) s = .next t ∧ t.chip.rd (Reg.HKP_CH_VAL ch) = word (2 ^ 31 +
      (if v < signOf 16 (s.chip.f (Reg.HKP_CH_LIM ch) 0 16) ∨ signOf 16 (s.chip.f (Reg.HKP_CH_LIM ch) 16 16) < v then 2 ^ 30 else 0) + satI
      24 v) ∧ t.chip.rd (Reg.HKP_CH_TS_LO ch) = s.env.time.stamp.setWidth 32 ∧ t.chip.rd (Reg.HKP_CH_TS_HI ch) = (s.env.time.stamp >>>
      32).setWidth 32 ∧ t.chip.rd Reg.HKP_ROUND = (if ch.val = 31 then s.chip.rd Reg.HKP_ROUND + 1 else s.chip.rd Reg.HKP_ROUND) ∧ onlyChip
      s t ∧ sameRegs [Reg.HKP_CH_VAL ch, Reg.HKP_CH_TS_LO ch, Reg.HKP_CH_TS_HI ch, Reg.HKP_ROUND, Reg.HKP_EVT, Reg.CHIP_LOG_WR,
      Reg.CHIP_LOG_LOST] s.chip t.chip) ∧
  (∀ (s : State) (v : Int), vddaGood s.chip = true → s.chip.b (Reg.HKP_CH_CFG 3) 31 = true → hkpTurn s.env 3 s.chip = true →
      s.chip.hkp.dieSd = false → hkpBroken s.chip 2 = true → 1350 ≤ v → v ≤ 2000 → ∃ t, exec (.hkpConversion 3 v) s = .next t ∧
      t.chip.hkp.dieSd = true ∧ t.chip.rgn .control = 2 ∧ t.chip.rgn .service = 2 ∧ t.met = s.met ∧ (s.chip.hdg.waiting = false → t.mem =
      s.mem) ∧ memOutside [(hdgTxAddr s.chip, 4)] s.mem t.mem ∧ t.env = s.env ∧ t.pending = s.pending) ∧ (∀ (s : State) (ch : Fin 32) (v :
      Int), (s.env.time.up - s.chip.hkp.start) / 50000 % 32 ≠ ch.val ∨ (s.env.time.up - s.chip.hkp.start) / 50000 < s.chip.hkp.done → exec
      (.hkpConversion ch v) s = .next s)

/-- On a port that lives (present, enabled, not fenced, the Control region running): a training that is due, or a failed attempt's retry, starts (the
retry RETRY milliseconds after the failure, at 200,000 cycles each) at step 1 with the preset taps, no lane excluded, no round trip and one attempt
counted; a TRAIN block on a port that does not train starts a training where it comes on a lane in use; in training, on a lane that trains, its
request becomes the last one applied, READY stays seen, and the awaited answer to the own request is taken. Within the limits of the steps: step 1
met, with neither clock monitor asserted, puts the lanes trained into LOCK; 4 met, with a skew of at most 8 slots, leads to step 5; 5 met with every
passed lane ready brings the port up, on one lane or two. A lane's step 2 met, with signal and 64 valid headers, leads to EQUALISE and the first
request; at step 3, four frames after an answer, a wide enough eye ends it and another, before the 64th request, leads to the next one, the eye shown.
A limit reached in step 1, 4 or 5 fails the attempt with code 1 or 2, 5, 6; one in step 2, or the 64th request answered without a pass in step 3,
fails the lane with code 3 or 4 while the other lane goes on; before its limit no step times out. Only this port's words, the port summaries and the
log change. Under these conditions alone each of portTrainingStart, trainingRetry, trainBlockReceived, trainingStepDone and trainingStepTimeout
answers a next state. -/
def Obligations.PortTraining : Prop :=
  (∀ (s : State) (n : Fin 32), prtLive s.env s.chip n = true → (s.chip.phyOf n).due = true ∨ prtState s.chip n = 0 → ∃ t, exec
      (.portTrainingStart n) s = .next t ∧ prtState t.chip n = 2 ∧ t.chip.f (Reg.PRT_PHY_TRAIN n) 28 4 = 1 ∧ t.chip.f (Reg.PRT_PHY_TRAIN n)
      0 16 = 0xFFFF ∧ t.chip.rd (Reg.PRT_PHY_TAPS n) = word (tapsPreset * 65537) ∧ t.chip.f (Reg.PRT_PHY_STAT n) 8 2 = 0 ∧ t.chip.b
      Reg.PRT_UP n = false ∧ (t.chip.phyOf n).due = false ∧ (t.chip.phyOf n).retry = false ∧ onlyChip s t ∧ sameRegs [Reg.PRT_PHY_STAT n,
      Reg.PRT_PHY_TRAIN n, Reg.PRT_PHY_TAPS n, Reg.PRT_PERR n, Reg.PRT_UP, Reg.PRT_DEGR, Reg.PRT_PHY_CNT n, Reg.PRT_PHY_EYE n,
      Reg.PRT_TP_STAT n, Reg.CHIP_LOG_WR] s.chip t.chip) ∧
  (∀ (s : State) (n : Fin 32), prtLive s.env s.chip n = true → prtState s.chip n = 1 → (s.chip.phyOf n).retry = true → retryDue s.env s.chip
      n = true → ∃ t, exec (.trainingRetry n) s = .next t ∧ prtState t.chip n = 2 ∧ t.chip.f (Reg.PRT_PHY_TRAIN n) 28 4 = 1 ∧ t.chip.f
      (Reg.PRT_PHY_TRAIN n) 0 16 = 0xFFFF ∧ t.chip.rd (Reg.PRT_PHY_TAPS n) = word (tapsPreset * 65537) ∧ t.chip.f (Reg.PRT_PHY_STAT n) 8 2 =
      0 ∧ t.chip.b Reg.PRT_UP n = false ∧ t.chip.f (Reg.PRT_PHY_STAT n) 0 8 = min (s.chip.f (Reg.PRT_PHY_STAT n) 0 8 + 1) 255 ∧ onlyChip s t
      ∧ sameRegs [Reg.PRT_PHY_STAT n, Reg.PRT_PHY_TRAIN n, Reg.PRT_PHY_TAPS n, Reg.PRT_PERR n, Reg.PRT_UP, Reg.PRT_DEGR, Reg.PRT_PHY_CNT n,
      Reg.PRT_PHY_EYE n, Reg.PRT_TP_STAT n, Reg.CHIP_LOG_WR] s.chip t.chip) ∧
  (∀ (s : State) (n : Fin 32) (lane : Fin 2) (blk : LineBlock) (rx : Bool), prtLive s.env s.chip n = true → blk.kind = .train → prtState
      s.chip n ≠ 2 → prtUp s.chip n = false ∨ (prtOut s.chip n lane = false ∧ (prtLanes s.chip n).contains lane.val = true) → ∃ t, exec
      (.trainBlockReceived n lane blk rx) s = .next t ∧ prtState t.chip n = 2 ∧ t.chip.f (Reg.PRT_PHY_TRAIN n) 28 4 = 1 ∧ ((t.chip.phyOf
      n).lane lane).seq = some ((trainRead blk.payload).request.toNat / 2 ^ 12) ∧ ((t.chip.phyOf n).lane lane).ready = (trainRead
      blk.payload).ready ∧ onlyChip s t ∧ sameRegs [Reg.PRT_PHY_STAT n, Reg.PRT_PHY_TRAIN n, Reg.PRT_PHY_TAPS n, Reg.PRT_PERR n, Reg.PRT_UP,
      Reg.PRT_DEGR, Reg.PRT_PHY_CNT n, Reg.PRT_PHY_EYE n, Reg.PRT_TP_STAT n, Reg.CHIP_LOG_WR] s.chip t.chip) ∧
  (∀ (s : State) (n : Fin 32) (lane : Fin 2) (blk : LineBlock) (rx : Bool), prtLive s.env s.chip n = true → prtState s.chip n = 2 →
      (prtLanes s.chip n).contains lane.val = true → blk.kind = .train → ∃ t, exec (.trainBlockReceived n lane blk rx) s = .next t ∧
      prtState t.chip n = 2 ∧ ((t.chip.phyOf n).lane lane).seq = some ((trainRead blk.payload).request.toNat / 2 ^ 12) ∧ ((t.chip.phyOf
      n).lane lane).ready = (((s.chip.phyOf n).lane lane).ready || (trainRead blk.payload).ready) ∧ (((s.chip.phyOf n).lane lane).waiting =
      true → (trainRead blk.payload).response.toNat / 2 ^ 12 = ((s.chip.phyOf n).lane lane).request.toNat / 2 ^ 12 → ((t.chip.phyOf n).lane
      lane).waiting = false ∧ ((t.chip.phyOf n).lane lane).answAt = some s.env.time.up) ∧ (((s.chip.phyOf n).lane lane).seq = some
      ((trainRead blk.payload).request.toNat / 2 ^ 12) → t.chip.rd (Reg.PRT_PHY_TAPS n) = s.chip.rd (Reg.PRT_PHY_TAPS n)) ∧ onlyChip s t ∧
      sameRegs [Reg.PRT_PHY_TRAIN n, Reg.PRT_PHY_TAPS n, Reg.PRT_PERR n, Reg.PRT_PHY_CNT n] s.chip t.chip) ∧
  (∀ (s : State) (n : Fin 32) (lane : Fin 2) (h w : BitVec 8), prtLive s.env s.chip n = true → prtState s.chip n = 2 → s.env.time.up <
      stepLimit (s.chip.phyOf n) 1 → s.chip.f (Reg.PRT_PHY_STAT n) 20 2 = 0 → s.chip.f (Reg.PRT_PHY_TRAIN n) 28 4 = 1 → ∃ t, exec
      (.trainingStepDone n 1 lane h w) s = .next t ∧ t.chip.f (Reg.PRT_PHY_TRAIN n) 28 4 = 2 ∧ (∀ k ∈ prtLanes s.chip n, ((t.chip.phyOf
      n).lane k).step = 2) ∧ prtState t.chip n = 2 ∧ onlyChip s t ∧ sameRegs [Reg.PRT_PHY_STAT n, Reg.PRT_PHY_TRAIN n, Reg.PRT_PHY_TAPS n,
      Reg.PRT_PERR n, Reg.PRT_UP, Reg.PRT_DEGR, Reg.PRT_PHY_CNT n, Reg.PRT_PHY_EYE n, Reg.PRT_TP_STAT n, Reg.CHIP_LOG_WR] s.chip t.chip) ∧
  (∀ (s : State) (n : Fin 32) (lane : Fin 2) (h w : BitVec 8), prtLive s.env s.chip n = true → prtState s.chip n = 2 → s.env.time.up <
      stepLimit (s.chip.phyOf n) 2 → s.env.time.up < stepLimit (s.chip.phyOf n) 5 → s.chip.b (Reg.PRT_PHY_STAT n) (17 + 2 * lane) = false →
      lockHeld s.env ((s.chip.phyOf n).lane lane) = true → ((s.chip.phyOf n).lane lane).step = 2 → ∃ t, exec (.trainingStepDone n 2 lane h
      w) s = .next t ∧ ((t.chip.phyOf n).lane lane).step = 3 ∧ t.chip.b (Reg.PRT_PHY_STAT n) (16 + 2 * lane) = false ∧ t.chip.b
      (Reg.PRT_PHY_STAT n) (17 + 2 * lane) = false ∧ ((t.chip.phyOf n).lane lane).waiting = true ∧ prtState t.chip n = 2 ∧ onlyChip s t ∧
      sameRegs [Reg.PRT_PHY_STAT n, Reg.PRT_PHY_TRAIN n, Reg.PRT_PHY_TAPS n, Reg.PRT_PERR n, Reg.PRT_UP, Reg.PRT_DEGR, Reg.PRT_PHY_CNT n,
      Reg.PRT_PHY_EYE n, Reg.PRT_TP_STAT n, Reg.CHIP_LOG_WR] s.chip t.chip) ∧
  (∀ (s : State) (n : Fin 32) (lane : Fin 2) (h w : BitVec 8), prtLive s.env s.chip n = true → prtState s.chip n = 2 → s.env.time.up <
      stepLimit (s.chip.phyOf n) 5 → eyeSeen s.env ((s.chip.phyOf n).lane lane) = true → ((s.chip.phyOf n).lane lane).step = 3 → s.chip.f
      (Reg.PRT_PHY_CFG n) 16 8 ≤ h.toNat → s.chip.f (Reg.PRT_PHY_CFG n) 8 8 ≤ w.toNat → ∃ t, exec (.trainingStepDone n 3 lane h w) s = .next
      t ∧ ((t.chip.phyOf n).lane lane).step = 4 ∧ t.chip.f (Reg.PRT_PHY_EYE n) (16 * lane) 16 = h.toNat * 256 + w.toNat ∧ prtState t.chip n
      = 2 ∧ onlyChip s t ∧ sameRegs [Reg.PRT_PHY_STAT n, Reg.PRT_PHY_TRAIN n, Reg.PRT_PHY_TAPS n, Reg.PRT_PERR n, Reg.PRT_UP, Reg.PRT_DEGR,
      Reg.PRT_PHY_CNT n, Reg.PRT_PHY_EYE n, Reg.PRT_TP_STAT n, Reg.CHIP_LOG_WR] s.chip t.chip) ∧
  (∀ (s : State) (n : Fin 32) (lane : Fin 2) (h w : BitVec 8), prtLive s.env s.chip n = true → prtState s.chip n = 2 → s.env.time.up <
      stepLimit (s.chip.phyOf n) 5 → eyeSeen s.env ((s.chip.phyOf n).lane lane) = true → ((s.chip.phyOf n).lane lane).step = 3 → h.toNat <
      s.chip.f (Reg.PRT_PHY_CFG n) 16 8 ∨ w.toNat < s.chip.f (Reg.PRT_PHY_CFG n) 8 8 → ((s.chip.phyOf n).lane lane).reqs < 64 → ∃ t, exec
      (.trainingStepDone n 3 lane h w) s = .next t ∧ ((t.chip.phyOf n).lane lane).step = 3 ∧ ((t.chip.phyOf n).lane lane).waiting = true ∧
      ((t.chip.phyOf n).lane lane).answAt = none ∧ ((t.chip.phyOf n).lane lane).request.toNat / 2 ^ 12 = (((s.chip.phyOf n).lane
      lane).request.toNat / 2 ^ 12 + 1) % 16 ∧ t.chip.f (Reg.PRT_PHY_EYE n) (16 * lane) 16 = h.toNat * 256 + w.toNat ∧ onlyChip s t ∧
      sameRegs [Reg.PRT_PHY_TRAIN n, Reg.PRT_PHY_EYE n] s.chip t.chip) ∧
  (∀ (s : State) (n : Fin 32) (lane : Fin 2) (h w : BitVec 8), prtLive s.env s.chip n = true → prtState s.chip n = 2 → s.env.time.up <
      stepLimit (s.chip.phyOf n) 4 → s.env.time.up < stepLimit (s.chip.phyOf n) 5 → w.toNat ≤ 8 → s.chip.f (Reg.PRT_PHY_TRAIN n) 28 4 = 4 →
      phyBusy s.chip n = false → ∃ t, exec (.trainingStepDone n 4 lane h w) s = .next t ∧ t.chip.f (Reg.PRT_PHY_TRAIN n) 28 4 = 5 ∧ onlyChip
      s t ∧ sameRegs [Reg.PRT_PHY_TRAIN n] s.chip t.chip) ∧
  (∀ (s : State) (n : Fin 32) (lane : Fin 2) (h w : BitVec 8), prtLive s.env s.chip n = true → prtState s.chip n = 2 → s.env.time.up <
      stepLimit (s.chip.phyOf n) 5 → s.chip.f (Reg.PRT_PHY_TRAIN n) 28 4 = 5 → (phyPassed s.chip n).all (fun k => ((s.chip.phyOf n).lane
      k).ready) = true → ∃ t, exec (.trainingStepDone n 5 lane h w) s = .next t ∧ prtState t.chip n = (if (phyPassed s.chip n).length = 1
      then 4 else 3) ∧ t.chip.b Reg.PRT_UP n = true ∧ prtAdmit t.chip n = 0 ∧ t.chip.f (Reg.PRT_PHY_TRAIN n) 28 4 = 0 ∧ onlyChip s t ∧
      sameRegs [Reg.PRT_PHY_STAT n, Reg.PRT_PHY_TRAIN n, Reg.PRT_PHY_TAPS n, Reg.PRT_PERR n, Reg.PRT_UP, Reg.PRT_DEGR, Reg.PRT_PHY_CNT n,
      Reg.PRT_PHY_EYE n, Reg.PRT_TP_STAT n, Reg.CHIP_LOG_WR] s.chip t.chip) ∧
  (∀ (s : State) (n : Fin 32) (step : Nat) (lane : Fin 2) (los : Bool), prtLive s.env s.chip n = true → prtState s.chip n = 2 → stepLimit
      (s.chip.phyOf n) step ≤ s.env.time.up → step = 1 ∨ step = 4 ∨ step = 5 → (step ≠ 5 → s.chip.f (Reg.PRT_PHY_TRAIN n) 28 4 = step) →
      (step = 4 → phyBusy s.chip n = false) → ∃ t, exec (.trainingStepTimeout n step lane los) s = .next t ∧ prtState t.chip n = 1 ∧
      (t.chip.phyOf n).retry = true ∧ t.chip.b (Reg.PRT_PERR n) 3 = true ∧ t.chip.f (Reg.PRT_PHY_TRAIN n) 28 4 = 0 ∧ t.chip.f
      (Reg.PRT_PHY_TRAIN n) 24 4 = (if step = 1 then (if los || s.chip.b (Reg.PRT_PHY_STAT n) 21 then 1 else 2) else step + 1) ∧ onlyChip s
      t ∧ sameRegs [Reg.PRT_PHY_STAT n, Reg.PRT_PHY_TRAIN n, Reg.PRT_PHY_TAPS n, Reg.PRT_PERR n, Reg.PRT_UP, Reg.PRT_DEGR, Reg.PRT_PHY_CNT
      n, Reg.PRT_PHY_EYE n, Reg.PRT_TP_STAT n, Reg.CHIP_LOG_WR] s.chip t.chip) ∧
  (∀ (s : State) (n : Fin 32) (step : Nat) (lane : Fin 2) (los : Bool), prtLive s.env s.chip n = true → prtState s.chip n = 2 → prtForced
      s.chip n = none → (step = 2 ∧ ((s.chip.phyOf n).lane lane).step = 2 ∧ stepLimit (s.chip.phyOf n) 2 ≤ s.env.time.up) ∨ (step = 3 ∧
      ((s.chip.phyOf n).lane lane).step = 3 ∧ ((s.chip.phyOf n).lane lane).reqs = 64 ∧ eyeSeen s.env ((s.chip.phyOf n).lane lane) = true) →
      2 ≤ ((s.chip.phyOf n).lane (1 - lane.val)).step → ((s.chip.phyOf n).lane (1 - lane.val)).step ≤ 4 → ∃ t, exec (.trainingStepTimeout n
      step lane los) s = .next t ∧ ((t.chip.phyOf n).lane lane).step = 0 ∧ ((t.chip.phyOf n).lane lane).fail = step + 1 ∧ prtState t.chip n
      = 2 ∧ onlyChip s t ∧ sameRegs [Reg.PRT_PHY_TRAIN n] s.chip t.chip) ∧
  (∀ (s : State) (n : Fin 32) (step : Nat) (lane : Fin 2) (los : Bool), step ≠ 3 → s.env.time.up < stepLimit (s.chip.phyOf n) step → exec
      (.trainingStepTimeout n step lane los) s = .next s)

/-- On a live port: a clock monitor's loss of signal or of lock takes a port that is up down and into training from step 1, flagged and counted; a
data lane's, in use (for its lock, with 16 invalid headers of 64), excludes the lane and leaves the port up on the other, or takes down a port that
used only it. A block of no kind that a receiver takes is a code error, counted and flagged, and breaks a bundle on its lane; another one is none. A
lane's signal that is back for 10 µs clears its bit. A STATUS block on a port that is up is the far end's exclusions; with its retrain bit it starts a
training in any state. A lane excluded on a port up on one, with rejoining enabled, no forced lane and no hold, returns once it has held lock and eye
for 65,536 slots, where the other lane is not excluded in that cycle: the port is up on two. Only this port's words, the port summaries and the log
change. Under these conditions alone each of clockLos, clockLol, dataLos, dataLol, codeErr, statusBlockReceived and laneRejoin answers a next state.
-/
def Obligations.PortLanes : Prop :=
  (∀ (s : State) (n : Fin 34) (m : LineMon), m.back = false → prtLive s.env s.chip n = true → prtUp s.chip n = true → ∃ t, exec (.clockLos n
      m) s = .next t ∧ prtState t.chip n = 2 ∧ t.chip.f (Reg.PRT_PHY_TRAIN n) 28 4 = 1 ∧ t.chip.b (Reg.PRT_PHY_STAT n) 21 = true ∧ t.chip.b
      (Reg.PRT_PERR n) 1 = true ∧ t.chip.b (Reg.PRT_PERR n) 4 = true ∧ t.chip.f (Reg.PRT_PHY_CNT n) 8 8 = min (s.chip.f (Reg.PRT_PHY_CNT n)
      8 8 + 1) 255 ∧ onlyChip s t ∧ sameRegs [Reg.PRT_PHY_STAT n, Reg.PRT_PHY_TRAIN n, Reg.PRT_PHY_TAPS n, Reg.PRT_PERR n, Reg.PRT_UP,
      Reg.PRT_DEGR, Reg.PRT_PHY_CNT n, Reg.PRT_PHY_EYE n, Reg.PRT_TP_STAT n, Reg.CHIP_LOG_WR] s.chip t.chip) ∧
  (∀ (s : State) (n : Fin 34) (m : LineMon), m.back = false → prtLive s.env s.chip n = true → prtUp s.chip n = true → ∃ t, exec (.clockLol n
      m) s = .next t ∧ prtState t.chip n = 2 ∧ t.chip.f (Reg.PRT_PHY_TRAIN n) 28 4 = 1 ∧ t.chip.b (Reg.PRT_PHY_STAT n) 20 = true ∧ t.chip.b
      (Reg.PRT_PERR n) 2 = true ∧ t.chip.b (Reg.PRT_PERR n) 4 = true ∧ t.chip.f (Reg.PRT_PHY_CNT n) 0 8 = min (s.chip.f (Reg.PRT_PHY_CNT n)
      0 8 + 1) 255 ∧ onlyChip s t ∧ sameRegs [Reg.PRT_PHY_STAT n, Reg.PRT_PHY_TRAIN n, Reg.PRT_PHY_TAPS n, Reg.PRT_PERR n, Reg.PRT_UP,
      Reg.PRT_DEGR, Reg.PRT_PHY_CNT n, Reg.PRT_PHY_EYE n, Reg.PRT_TP_STAT n, Reg.CHIP_LOG_WR] s.chip t.chip) ∧
  (∀ (s : State) (n : Fin 34) (k : Fin 2) (m : LineMon), m.back = false → prtLive s.env s.chip n = true → prtState s.chip n = 3 →
      (s.chip.phyOf n).rejoin.all (fun x => x.1 != s.env.time.up) = true → prtOut s.chip n k = false → (prtLanes s.chip n).contains k.val =
      true → ∃ t, exec (.dataLos n k m) s = .next t ∧ prtState t.chip n = 4 ∧ t.chip.b Reg.PRT_UP n = true ∧ t.chip.b Reg.PRT_DEGR n = true
      ∧ prtOut t.chip n k = true ∧ t.chip.f (Reg.PRT_PHY_STAT n) 28 1 = 1 - k.val ∧ t.chip.b (Reg.PRT_PERR n) 1 = true ∧ t.chip.f
      (Reg.PRT_PHY_CNT n) 8 8 = min (s.chip.f (Reg.PRT_PHY_CNT n) 8 8 + 1) 255 ∧ onlyChip s t ∧ sameRegs [Reg.PRT_PHY_STAT n,
      Reg.PRT_PHY_TRAIN n, Reg.PRT_PHY_TAPS n, Reg.PRT_PERR n, Reg.PRT_UP, Reg.PRT_DEGR, Reg.PRT_PHY_CNT n, Reg.PRT_PHY_EYE n,
      Reg.PRT_TP_STAT n, Reg.CHIP_LOG_WR] s.chip t.chip) ∧
  (∀ (s : State) (n : Fin 34) (k : Fin 2) (m : LineMon), m.back = false → prtLive s.env s.chip n = true → prtState s.chip n = 4 → prtOut
      s.chip n k = false → (prtLanes s.chip n).contains k.val = true → ∃ t, exec (.dataLos n k m) s = .next t ∧ prtState t.chip n = 2 ∧
      t.chip.b Reg.PRT_UP n = false ∧ t.chip.b (Reg.PRT_PERR n) 4 = true ∧ onlyChip s t ∧ sameRegs [Reg.PRT_PHY_STAT n, Reg.PRT_PHY_TRAIN n,
      Reg.PRT_PHY_TAPS n, Reg.PRT_PERR n, Reg.PRT_UP, Reg.PRT_DEGR, Reg.PRT_PHY_CNT n, Reg.PRT_PHY_EYE n, Reg.PRT_TP_STAT n,
      Reg.CHIP_LOG_WR] s.chip t.chip) ∧
  (∀ (s : State) (n : Fin 34) (k : Fin 2) (m : LineMon), m.back = false → s.chip.b (Reg.PRT_PHY_STAT n) (16 + 2 * k) = false → lockGone
      s.env ((s.chip.phyOf n).lane k) = true → prtLive s.env s.chip n = true → prtState s.chip n = 3 → (s.chip.phyOf n).rejoin.all (fun x =>
      x.1 != s.env.time.up) = true → prtOut s.chip n k = false → (prtLanes s.chip n).contains k.val = true → ∃ t, exec (.dataLol n k m) s =
      .next t ∧ prtState t.chip n = 4 ∧ t.chip.b Reg.PRT_UP n = true ∧ t.chip.b Reg.PRT_DEGR n = true ∧ prtOut t.chip n k = true ∧ t.chip.f
      (Reg.PRT_PHY_STAT n) 28 1 = 1 - k.val ∧ t.chip.b (Reg.PRT_PERR n) 2 = true ∧ t.chip.f (Reg.PRT_PHY_CNT n) 0 8 = min (s.chip.f
      (Reg.PRT_PHY_CNT n) 0 8 + 1) 255 ∧ onlyChip s t ∧ sameRegs [Reg.PRT_PHY_STAT n, Reg.PRT_PHY_TRAIN n, Reg.PRT_PHY_TAPS n, Reg.PRT_PERR
      n, Reg.PRT_UP, Reg.PRT_DEGR, Reg.PRT_PHY_CNT n, Reg.PRT_PHY_EYE n, Reg.PRT_TP_STAT n, Reg.CHIP_LOG_WR] s.chip t.chip) ∧
  (∀ (s : State) (n : Fin 34) (k : Fin 2) (m : LineMon), m.back = false → s.chip.b (Reg.PRT_PHY_STAT n) (16 + 2 * k) = false → lockGone
      s.env ((s.chip.phyOf n).lane k) = true → prtLive s.env s.chip n = true → prtState s.chip n = 4 → prtOut s.chip n k = false → (prtLanes
      s.chip n).contains k.val = true → ∃ t, exec (.dataLol n k m) s = .next t ∧ prtState t.chip n = 2 ∧ t.chip.b Reg.PRT_UP n = false ∧
      t.chip.b (Reg.PRT_PERR n) 4 = true ∧ onlyChip s t ∧ sameRegs [Reg.PRT_PHY_STAT n, Reg.PRT_PHY_TRAIN n, Reg.PRT_PHY_TAPS n,
      Reg.PRT_PERR n, Reg.PRT_UP, Reg.PRT_DEGR, Reg.PRT_PHY_CNT n, Reg.PRT_PHY_EYE n, Reg.PRT_TP_STAT n, Reg.CHIP_LOG_WR] s.chip t.chip) ∧
  (∀ (s : State) (n : Fin 34) (b : BadBlock), b.port = n → b.blk.kind = .bad → prtLive s.env s.chip n = true → ∃ t, exec (.codeErr b) s =
      .next t ∧ t.chip.f (Reg.PRT_PHY_CNT n) 16 16 = min (s.chip.f (Reg.PRT_PHY_CNT n) 16 16 + 1) 65535 ∧ t.chip.b (Reg.PRT_PERR n) 0 = true
      ∧ ((t.chip.phyOf n).lane b.lane).errAt = some s.env.time.up ∧ onlyChip s t ∧ sameRegs [Reg.PRT_PHY_CNT n, Reg.PRT_PERR n] s.chip
      t.chip) ∧
  (∀ (s : State) (b : BadBlock), b.blk.kind ≠ .bad → exec (.codeErr b) s = .next s) ∧
  (∀ (s : State) (n : Fin 32) (blk : LineBlock) (rx : Bool), prtLive s.env s.chip n = true → prtUp s.chip n = true → blk.kind = .status →
      blk.payload.getLsbD 10 = false → ∃ t, exec (.statusBlockReceived n blk rx) s = .next t ∧ (t.chip.phyOf n).farOut = (if
      blk.payload.getLsbD 8 then 1 else 0) + (if blk.payload.getLsbD 9 then 2 else 0) ∧ (t.chip.phyOf n).d0 = (s.chip.phyOf n).d0 ∧
      (t.chip.phyOf n).d1 = (s.chip.phyOf n).d1 ∧ onlyChip s t ∧ sameRegs [] s.chip t.chip) ∧
  (∀ (s : State) (n : Fin 32) (blk : LineBlock) (rx : Bool), prtLive s.env s.chip n = true → blk.kind = .status → blk.payload.getLsbD 10 =
      true → ∃ t, exec (.statusBlockReceived n blk rx) s = .next t ∧ prtState t.chip n = 2 ∧ t.chip.f (Reg.PRT_PHY_TRAIN n) 28 4 = 1 ∧
      t.chip.f (Reg.PRT_PHY_TRAIN n) 0 16 = 0xFFFF ∧ t.chip.rd (Reg.PRT_PHY_TAPS n) = word (tapsPreset * 65537) ∧ t.chip.f (Reg.PRT_PHY_STAT
      n) 8 2 = 0 ∧ t.chip.b Reg.PRT_UP n = false ∧ onlyChip s t ∧ sameRegs [Reg.PRT_PHY_STAT n, Reg.PRT_PHY_TRAIN n, Reg.PRT_PHY_TAPS n,
      Reg.PRT_PERR n, Reg.PRT_UP, Reg.PRT_DEGR, Reg.PRT_PHY_CNT n, Reg.PRT_PHY_EYE n, Reg.PRT_TP_STAT n, Reg.CHIP_LOG_WR] s.chip t.chip) ∧
  (∀ (s : State) (n : Fin 34) (x : LaneEye) (k : Nat), x.lane.val = k → laneRejoinDue s.env s.chip n x = true → ((s.chip.phyOf n).lane (1 -
      k)).exAt ≠ some s.env.time.up → prtLive s.env s.chip n = true → prtState s.chip n = 4 → prtOut s.chip n k = true → s.chip.b
      (Reg.PRT_PHY_CFG n) 30 = true → prtForced s.chip n = none → ((s.chip.phyOf n).lane k).flap = false → ∃ t, exec (.laneRejoin n x) s =
      .next t ∧ prtState t.chip n = 3 ∧ prtOut t.chip n k = false ∧ t.chip.b (Reg.PRT_PERR n) 6 = true ∧ t.chip.b Reg.PRT_UP n = true ∧
      onlyChip s t ∧ sameRegs [Reg.PRT_PHY_STAT n, Reg.PRT_PHY_TRAIN n, Reg.PRT_PHY_TAPS n, Reg.PRT_PERR n, Reg.PRT_UP, Reg.PRT_DEGR,
      Reg.PRT_PHY_CNT n, Reg.PRT_PHY_EYE n, Reg.PRT_TP_STAT n, Reg.CHIP_LOG_WR] s.chip t.chip) ∧
  (∀ (s : State) (n : Fin 34) (x : LaneEye), n.val < 32 → laneRejoinDue s.env s.chip n x = false → exec (.laneRejoin n x) s = .next s) ∧
  (∀ (s : State) (n : Fin 34) (k : Fin 2) (m : LineMon), prtLive s.env s.chip n = true → m.back = true → s.chip.b (Reg.PRT_PHY_STAT n) (17 +
      2 * k) = true → tget (fun _ => 0) (s.chip.phyOf n).monAt (17 + 2 * k) + 2000 ≤ s.env.time.up → ∃ t, exec (.dataLos n k m) s = .next t
      ∧ t.chip.b (Reg.PRT_PHY_STAT n) (17 + 2 * k) = false ∧ prtState t.chip n = prtState s.chip n ∧ onlyChip s t ∧ sameRegs
      [Reg.PRT_PHY_STAT n] s.chip t.chip)

/-- On a port that is up and not fenced: a whole upward bundle, begun since the port came up on lanes in service, of the present frame and a matching
CRC, before the cut-off and the first of its frame, from a node of the class mapped, is accepted: admitted, its words shown, the run of missed frames
zero, a lost port regained; one of two header blocks touches only the port's words and those that its acknowledgement names; one with a wrong CRC is
counted and flagged and changes nothing else; one of another frame likewise. A mapped port whose run reaches 4 is lost, flagged and logged. A CIN
port's stages that ran into HOLD read unavailable with no current. The oldest waiting record's resend marks every sent record due, until its last,
which resets the sub-layer: both series 0, TRST due, flagged and counted. Memory, time and the queue stand but for what an accepted record delivers.
Under these conditions alone each of upwardBundle, portLost, nodeStagesUnavailable, ackResend and tunReset answers a next state. -/
def Obligations.UpwardTransport : Prop :=
  (∀ (s : State) (n : Fin 32) (b : UpBundle) (recs : List TpWords), s.chip.ctl = true → n.val < s.env.part.ports → prtUp s.chip n = true →
      s.chip.portFenced n = false → bundleClean s.chip n b = true → b.whole = true → b.blocks.length = dget b.start 48 16 → 2 ≤
      b.blocks.length → b.start.getLsbD 47 = true → dget b.term 32 32 = (blocksCrc b.blocks).toNat → dget (b.blocks.getD 0 0) 32 32 =
      s.env.time.frameNo.toNat % 2 ^ 32 → s.env.time.frameNo.toNat % 2 ^ 32 ≠ 0xFFFFFFFF → bundleLate s.chip b = false → (s.chip.tpOf
      n).done = false → mapClass s.chip n ≠ 0 → dget (b.blocks.getD 0 0) 13 3 = mapClass s.chip n → tpRecords b.blocks.length (b.blocks.drop
      2) = some recs → ∃ t, exec (.upwardBundle n b) s = .next t ∧ prtAdmit t.chip n = 1 ∧ (t.chip.tpOf n).done = true ∧ missRun t.chip n =
      0 ∧ t.chip.b Reg.PRT_LOST n = false ∧ t.chip.f (Reg.PRT_TP_SIZE n) 16 16 = (b.blocks.length + 2) % 65536 ∧ t.chip.rd (Reg.PRT_TP_SEQ
      n) = word (dget (b.blocks.getD 0 0) 16 16 * 65536 + dget (b.blocks.getD 1 0) 48 16) ∧ t.chip.rd (Reg.PRT_TP_NODE n) = word (dget
      (b.blocks.getD 1 0) 0 32) ∧ t.env = s.env ∧ t.pending = s.pending) ∧
  (∀ (s : State) (n : Fin 32) (b : UpBundle), s.chip.ctl = true → n.val < s.env.part.ports → prtUp s.chip n = true → s.chip.portFenced n =
      false → bundleClean s.chip n b = true → b.whole = true → b.blocks.length = dget b.start 48 16 → 2 ≤ b.blocks.length → b.start.getLsbD
      47 = true → dget b.term 32 32 = (blocksCrc b.blocks).toNat → b.blocks.length = 2 → ∃ t, exec (.upwardBundle n b) s = .next t ∧
      onlyChip s t ∧ sameRegs ([Reg.PRT_TP_CNT n, Reg.PRT_TP_ERR n, Reg.PRT_TP_NODE n, Reg.PRT_TP_STAT n, Reg.PRT_TP_SEQ n, Reg.PRT_TP_SIZE
      n, Reg.PRT_PERR n, Reg.PRT_LOST, Reg.PRT_TUN_STAT n, Reg.PRT_TUN_CNT n, Reg.CHIP_LOG_WR] ++ (s.chip.tpOf n).tx.map (fun r =>
      Reg.SES_TUN r.outlet)) s.chip t.chip) ∧
  (∀ (s : State) (n : Fin 32) (b : UpBundle), s.chip.ctl = true → n.val < s.env.part.ports → prtUp s.chip n = true → s.chip.portFenced n =
      false → bundleClean s.chip n b = true → b.whole = true → b.blocks.length = dget b.start 48 16 → 2 ≤ b.blocks.length → b.start.getLsbD
      47 = true → dget b.term 32 32 ≠ (blocksCrc b.blocks).toNat → bundleLate s.chip b = false → ∃ t, exec (.upwardBundle n b) s = .next t ∧
      t.chip.f (Reg.PRT_TP_ERR n) 24 8 = min (s.chip.f (Reg.PRT_TP_ERR n) 24 8 + 1) 255 ∧ t.chip.b (Reg.PRT_PERR n) 22 = true ∧ t.chip.tp =
      s.chip.tp ∧ t.chip.img = s.chip.img ∧ onlyChip s t ∧ sameRegs [Reg.PRT_TP_ERR n, Reg.PRT_PERR n] s.chip t.chip) ∧
  (∀ (s : State) (n : Fin 32) (b : UpBundle), s.chip.ctl = true → n.val < s.env.part.ports → prtUp s.chip n = true → s.chip.portFenced n =
      false → bundleClean s.chip n b = true → b.whole = true → b.blocks.length = dget b.start 48 16 → 2 ≤ b.blocks.length → b.start.getLsbD
      47 = true → dget b.term 32 32 = (blocksCrc b.blocks).toNat → dget (b.blocks.getD 0 0) 32 32 ≠ s.env.time.frameNo.toNat % 2 ^ 32 → dget
      (b.blocks.getD 0 0) 32 32 ≠ 0xFFFFFFFF → bundleLate s.chip b = false → ∃ t, exec (.upwardBundle n b) s = .next t ∧ t.chip.f
      (Reg.PRT_TP_ERR n) 16 8 = min (s.chip.f (Reg.PRT_TP_ERR n) 16 8 + 1) 255 ∧ t.chip.b (Reg.PRT_PERR n) 23 = true ∧ t.chip.tp = s.chip.tp
      ∧ t.chip.img = s.chip.img ∧ onlyChip s t ∧ sameRegs [Reg.PRT_TP_ERR n, Reg.PRT_PERR n] s.chip t.chip) ∧
  (∀ (s : State) (n : Fin 32), s.chip.ctl = true → mapClass s.chip n ≠ 0 → 4 ≤ missRun s.chip n → s.chip.b Reg.PRT_LOST n = false → ∃
      t, exec (.portLost n) s = .next t ∧ t.chip.b Reg.PRT_LOST n = true ∧ t.chip.b (Reg.PRT_PERR n) 19 = true ∧ logged s.chip t.chip ⟨s.env.time.stamp, srcWord 0x16 0 0x20, word n.val⟩ ∧ onlyChip s t ∧ sameRegs [Reg.PRT_LOST, Reg.PRT_PERR n, Reg.CHIP_LOG_WR] s.chip
      t.chip) ∧
  (∀ (s : State) (n : Fin 32) (i : Nat), s.chip.ctl = true → mapClass s.chip n = 1 → s.chip.f Reg.PRT_TP_GCFG 28 4 ≤ missRun s.chip n
      → i < mapCount s.chip n → ∃ t, exec (.nodeStagesUnavailable n) s = .next t ∧ t.chip.f (Reg.ALC_STG_IN (mapFirst s.chip n + i)) 30 2
      = (if s.chip.f (Reg.ALC_STG_IN (mapFirst s.chip n + i)) 30 2 = 3 then 3 else 0) ∧ t.chip.f (Reg.ALC_STG_IN (mapFirst s.chip n + i))
      0 16 = 0 ∧ onlyChip s t ∧ sameRegs ((List.range (mapCount s.chip n)).map (fun i => Reg.ALC_STG_IN (mapFirst s.chip n + i))) s.chip
      t.chip) ∧
  (∀ (s : State) (n : Fin 32) (r : TpRec), s.chip.ctl = true → tunStale s.env s.chip n = some r → r.times ≤ s.chip.f Reg.PRT_TP_GCFG
      12 4 → ∃ t, exec (.ackResend n) s = .next t ∧ (t.chip.tpOf n).tx = (s.chip.tpOf n).tx.map (fun r => if 0 < r.times then
      { r with due := true } else r) ∧ onlyChip s t ∧ sameRegs [] s.chip t.chip) ∧
  (∀ (s : State) (n : Fin 32) (r : TpRec), s.chip.ctl = true → tunStale s.env s.chip n = some r → s.chip.f Reg.PRT_TP_GCFG 12 4 <
      r.times → ∃ t, exec (.tunReset n) s = .next t ∧ (t.chip.tpOf n).tx = [] ∧ (t.chip.tpOf n).trst = true ∧ (t.chip.tpOf n).wait = true
      ∧ (t.chip.tpOf n).parts = [] ∧ t.chip.rd (Reg.PRT_TUN_STAT n) = 0 ∧ t.chip.f (Reg.PRT_TUN_CNT n) 0 8 = min (s.chip.f
      (Reg.PRT_TUN_CNT n) 0 8 + 1) 255 ∧ t.chip.b (Reg.PRT_PERR n) 31 = true ∧ onlyChip s t ∧ sameRegs ([Reg.PRT_TUN_STAT n,
      Reg.PRT_TUN_CNT n, Reg.PRT_PERR n, Reg.CHIP_LOG_WR] ++ (s.chip.tpOf n).tx.map (fun r => Reg.SES_TUN r.outlet)) s.chip t.chip)

/-- With the Service region running and the write accepted: each command writes its code to SES.CMD of its outlet and no other register; an evaluation
that finds it latched in the state that takes it, with its refusal conditions unmet, moves the session on: LINK from PLUGGED, AUTH from LINKED,
PREPARE from AUTHORISED, CHARGE from PREPARING, STOP to ENDED or STOPPING, CLEAR from FAULTED; a refused one leaves the state. CREDIT_SET puts its
value into REMAIN, or adds it up to the field's top, and writes EN. TUN_SW_WRITE takes both fields where each advances within its ring. Heath,
Metrology, memory, time and the queue stand. Under these conditions alone each of link, auth, prepare, charge, stop, clear, creditSet and tunSwWrite
answers a next state. -/
def Obligations.SessionCommands : Prop :=
  (∀ (s : State) (p : Plane) (o : Fin 64), s.chip.svc = true → s.takes p (Reg.SES_CMD o) 1 = some 1 → ∃ t, exec (.link p o) s = .next
      t ∧ t.chip.rd (Reg.SES_CMD o) = 1 ∧ onlyChip s t ∧ sameRegs [Reg.SES_CMD o] s.chip t.chip) ∧
  (∀ (s : State) (p : Plane) (o : Fin 64), s.chip.svc = true → s.takes p (Reg.SES_CMD o) 2 = some 2 → ∃ t, exec (.auth p o) s = .next
      t ∧ t.chip.rd (Reg.SES_CMD o) = 2 ∧ onlyChip s t ∧ sameRegs [Reg.SES_CMD o] s.chip t.chip) ∧
  (∀ (s : State) (p : Plane) (o : Fin 64), s.chip.svc = true → s.takes p (Reg.SES_CMD o) 3 = some 3 → ∃ t, exec (.prepare p o) s =
      .next t ∧ t.chip.rd (Reg.SES_CMD o) = 3 ∧ onlyChip s t ∧ sameRegs [Reg.SES_CMD o] s.chip t.chip) ∧
  (∀ (s : State) (p : Plane) (o : Fin 64), s.chip.svc = true → s.takes p (Reg.SES_CMD o) 4 = some 4 → ∃ t, exec (.charge p o) s =
      .next t ∧ t.chip.rd (Reg.SES_CMD o) = 4 ∧ onlyChip s t ∧ sameRegs [Reg.SES_CMD o] s.chip t.chip) ∧
  (∀ (s : State) (p : Plane) (o : Fin 64), s.chip.svc = true → s.takes p (Reg.SES_CMD o) 5 = some 5 → ∃ t, exec (.stop p o) s = .next
      t ∧ t.chip.rd (Reg.SES_CMD o) = 5 ∧ onlyChip s t ∧ sameRegs [Reg.SES_CMD o] s.chip t.chip) ∧
  (∀ (s : State) (p : Plane) (o : Fin 64), s.chip.svc = true → s.takes p (Reg.SES_CMD o) 6 = some 6 → ∃ t, exec (.clear p o) s = .next
      t ∧ t.chip.rd (Reg.SES_CMD o) = 6 ∧ onlyChip s t ∧ sameRegs [Reg.SES_CMD o] s.chip t.chip) ∧
  (∀ (s : State) (p : Plane) (o : Fin 64) (v : Word), s.chip.svc = true → s.takes p (Reg.SES_CREDIT_SET o) v = some v → s.reaches
      (Reg.SES_CREDIT_SET o) = true → ∃ t, exec (.creditSet p o v) s = .next t ∧ sesRemain t.chip o = (if fbit v 30 then min (sesRemain
      s.chip o + fget v 0 30) (2 ^ 30 - 1) else fget v 0 30) ∧ sesPrepaid t.chip o = fbit v 31 ∧ onlyChip s t ∧ sameRegs [Reg.SES_CREDIT
      o] s.chip t.chip) ∧
  (∀ (s : State) (p : Plane) (o : Fin 64) (v : Word), s.chip.svc = true → s.takes p (Reg.SES_TUN_SW o) v = some v → (fget v 26 6 + 64
      - s.chip.f (Reg.SES_TUN_SW o) 26 6) % 64 ≤ (s.chip.f (Reg.SES_TUN o) 26 6 + 64 - s.chip.f (Reg.SES_TUN_SW o) 26 6) % 64 → (fget v 20
      6 + 64 - s.chip.f (Reg.SES_TUN_SW o) 20 6) % 64 + (s.chip.f (Reg.SES_TUN_SW o) 20 6 + 64 - s.chip.f (Reg.SES_TUN o) 20 6) % 64 ≤ 32
      → ∃ t, exec (.tunSwWrite p o v) s = .next t ∧ t.chip.f (Reg.SES_TUN_SW o) 26 6 = fget v 26 6 ∧ t.chip.f (Reg.SES_TUN_SW o) 20 6 =
      fget v 20 6 ∧ onlyChip s t ∧ sameRegs [Reg.SES_TUN_SW o] s.chip t.chip) ∧
  (∀ (e : Env) (c : Chip) (o : Fin 64), sesRefused c o (c.sesOf o).cmd = false →
      ((c.sesOf o).cmd = 1 → sesState c o = 1 → sesState (sesCommand e o c) o = 2) ∧
      ((c.sesOf o).cmd = 2 → sesState c o = 2 → sesState (sesCommand e o c) o = 3) ∧
      ((c.sesOf o).cmd = 3 → sesState c o = 3 → sesState (sesCommand e o c) o = 4) ∧
      ((c.sesOf o).cmd = 4 → sesState c o = 4 → sesState (sesCommand e o c) o = 5) ∧
      ((c.sesOf o).cmd = 5 → sesState c o = 2 ∨ sesState c o = 3 → sesState (sesCommand e o c) o = 7 ∧ (sesCommand e o c).f (Reg.SES_STATE o) 24 4 = 1) ∧
      ((c.sesOf o).cmd = 5 → sesState c o = 4 ∨ sesState c o = 5 → sesState (sesCommand e o c) o = 6 ∧ (sesCommand e o c).f (Reg.SES_STATE o) 24 4 = 1) ∧
      ((c.sesOf o).cmd = 6 → sesState c o = 8 → sesState (sesCommand e o c) o = 0)) ∧
  (∀ (e : Env) (c : Chip) (o : Fin 64), (c.sesOf o).cmd ≠ 0 → sesRefused c o (c.sesOf o).cmd = true →
      sesState (sesCommand e o c) o = sesState c o ∧ (sesCommand e o c).b (Reg.SES_EVT o) 8 = true)

/-- With the Service region running: a mapped outlet whose contactor has disagreed for ISO_TO fresh frames is FAULTED with cause 9 where it was not,
commanded open, flagged and logged; in STOPPING, OPEN_WAIT frames with the contactor commanded closed command it open, flagged; a timer that reached 0
is disabled and flagged, and with STOP ends the session at the next evaluation; a job of a core's ring joins it, and its oldest leaves it when it
completes, no key slot but the one that it fills changes, and an active chip with a keyed link copies that one to its partner. Heath, Metrology,
memory, time and the queue stand. Under these conditions alone each of isoFault, openForced, sesTimer, cryJob and cryJobComplete answers a next state.
-/
def Obligations.SessionEvents : Prop :=
  (∀ (s : State) (o : Fin 64), s.chip.svc = true → s.chip.ctl = true → (outletPort s.env.part s.chip o).isSome = true → sesDisagrees
      s.chip o = true → sesState s.chip o ≠ 8 → ∃ t, exec (.isoFault o) s = .next t ∧ sesState t.chip o = 8 ∧ t.chip.f (Reg.SES_STATE o)
      24 4 = 9 ∧ (t.chip.sesOf o).iso = false ∧ (t.chip.sesOf o).taken = true ∧ t.chip.b (Reg.SES_EVT o) 9 = true ∧ t.chip.b
      (Reg.SES_DEM_I o) 31 = false ∧ t.chip.rd Reg.CHIP_LOG_WR = s.chip.rd Reg.CHIP_LOG_WR + 2 ∧ logged s.chip t.chip ⟨s.env.time.stamp,
      srcWord 0x20 (o / 32) 2, word ((if s.chip.b (Reg.SES_STATE o) 21 then 64 else 0) + o.val)⟩ ∧ onlyChip s t) ∧
  (∀ (s : State) (o : Fin 64), s.chip.svc = true → sesState s.chip o = 6 → (s.chip.sesOf o).iso = true → s.chip.f (Reg.SES_SCFG (o /
      32)) 24 8 ≤ s.chip.f (Reg.SES_STATE o) 0 16 → ∃ t, exec (.openForced o) s = .next t ∧ (t.chip.sesOf o).iso = false ∧ t.chip.b
      (Reg.SES_EVT o) 11 = true ∧ onlyChip s t ∧ sameRegs [Reg.SES_EVT o] s.chip t.chip) ∧
  (∀ (s : State) (o : Fin 64), s.chip.svc = true → s.chip.b (Reg.SES_TIMER o) 31 = true → s.chip.f (Reg.SES_TIMER o) 0 24 = 0 → ∃ t,
      exec (.sesTimer o) s = .next t ∧ t.chip.b (Reg.SES_TIMER o) 31 = false ∧ t.chip.b (Reg.SES_EVT o) 10 = true ∧ (t.chip.sesOf
      o).expired = ((s.chip.sesOf o).expired || s.chip.b (Reg.SES_TIMER o) 30) ∧ onlyChip s t ∧ sameRegs [Reg.SES_EVT o, Reg.SES_TIMER o]
      s.chip t.chip) ∧
  (∀ (s : State) (x : CryReq), s.chip.svc = true → ∃ t, exec (.cryJob x) s = .next t ∧ t.chip.cry.ring x.ring = s.chip.cry.ring x.ring ++
      [{ names := x.names, fills := x.fills }] ∧ t.chip.cry.slots = s.chip.cry.slots ∧ onlyChip s t ∧ sameRegs [] s.chip t.chip) ∧
  (∀ (s : State) (k : Fin 4) (j : CryJob) (l : List CryJob), s.chip.svc = true → s.chip.cry.ring k = j :: l → ∃ t, exec (.cryJobComplete k)
      s = .next t ∧ t.chip.cry.ring k = l ∧ (∀ n : Fin 256, j.fills ≠ some n → t.chip.cry.slot n = s.chip.cry.slot n) ∧ (∀ n : Fin 256,
      j.fills = some n → s.chip.role = 1 → s.chip.linkUp = true → s.chip.pair.keyed = true → t.chip.pair.sesOut = s.chip.pair.sesOut ++ [(0,
      .key n (t.chip.cry.slot n) true)]) ∧ onlyChip s t ∧ sameRegs [] s.chip t.chip)

/-- In a Metrology region that measures: an intake sample adds the corrected power of the three phases to meter 64, forward or reverse, in the epoch
that is open or apart from the one that settles, and counts; 800 samples (667 at 60 Hz) without a crossing lose L1, flagged, with the L1 kind of the
tamper table counted; the oldest waiting block of an outlet leaves its queue, and with a wrong check word it is flagged and counted as a tamper kind
and adds no sample, while the first good one, of the present frame, sets the sequence number, and one of a single sample, in an open epoch, adds its
corrected power; a contactor that has differed in 800 samples is flagged and its kind counted. A sample and a block of the cycle in which an epoch
closes or settles come after that. Heath, memory, time, the queue and the Control and Service regions stand but for the log. Under these conditions
alone each of intakeSample, l1Lost, streamBlock and contactor answers a next state. -/
def Obligations.MetrologySampling : Prop :=
  (∀ (s : State) (raw : List Int), s.env.part.hasMet = true → metCounts s.met = true → s.met.st.epochDue = false → s.met.st.settleDue =
      false → ∃ t, exec (.intakeSample raw) s = .next t ∧ t.met.acc 64 = accPower (intakeValue s.met raw 0 * intakeValue s.met raw 3 +
      intakeValue s.met raw 1 * intakeValue s.met raw 4 + intakeValue s.met raw 2 * intakeValue s.met raw 5) s.met.st.eng.closed.isSome
      (s.met.acc 64) ∧ t.met.st.eng.n = s.met.st.eng.n + 1 ∧ onlyMet s t ∧ sameMet [Reg.MET_STAT, Reg.MET_EVT] s.met t.met) ∧
  (∀ (s : State), metCounts s.met = true → s.met.b Reg.MET_STAT 30 = false → (if s.met.b Reg.MET_CFG 31 then 667 else 800) ≤
      s.met.st.eng.zc.since → ∃ t, exec .l1Lost s = .next t ∧ t.met.b Reg.MET_STAT 30 = true ∧ t.met.b Reg.MET_STAT 29 = true ∧ t.met.b
      Reg.MET_EVT 5 = true ∧ t.met.n (Reg.TMP_COUNT 0x12) = min (s.met.n (Reg.TMP_COUNT 0x12) + 1) 0xFFFFFFFF ∧ onlyMet s t) ∧
  (∀ (s : State) (o : Fin 64) (b : List Byte) (q : List (Nat × List Byte)) (mac : Bool), inboxTake o s.met.st.inbox = (some b, q) →
      metCounts s.met = true → s.met.st.epochDue = false → s.met.st.settleDue = false → blkForm b = true → (crc32 (b.take 0x110)).toNat ≠
      blkWord b 0x110 → ∃ t, exec (.streamBlock o mac) s = .next t ∧ t.met.st.inbox = q ∧ t.met.b Reg.MET_EVT 3 = true ∧ t.met.st.eng.acc =
      s.met.st.eng.acc ∧ t.met.n (Reg.TMP_COUNT 0x13) = min (s.met.n (Reg.TMP_COUNT 0x13) + 1) 0xFFFFFFFF ∧ onlyMet s t) ∧
  (∀ (s : State) (o : Fin 64) (b : List Byte) (q : List (Nat × List Byte)), inboxTake o s.met.st.inbox = (some b, q) → metCounts s.met =
      true → s.met.st.epochDue = false → s.met.st.settleDue = false → blkForm b = true → (crc32 (b.take 0x110)).toNat = blkWord b 0x110 →
      blkWord b 0 / 65536 % 256 = s.met.f (Reg.MET_MCFG o) 16 8 → s.met.st.keyed.contains o = true → blkWord b 8 = s.env.time.frameNo.toNat
      % 2 ^ 32 → s.met.b (Reg.MET_MCFG o) 31 = true → metFenced s.met o = false → (s.met.acc o).fresh = true → ∃ t, exec (.streamBlock o
      true) s = .next t ∧ t.met.st.inbox = q ∧ t.met.rd (Reg.MET_SEQ_NEXT o) = word (blkWord b 4 + blkCount b) ∧ (t.met.acc o).fresh = false
      ∧ onlyMet s t) ∧
  (∀ (s : State) (o : Fin 64) (b : List Byte) (q : List (Nat × List Byte)), inboxTake o s.met.st.inbox = (some b, q) → metCounts s.met =
      true → s.met.st.epochDue = false → s.met.st.settleDue = false → blkForm b = true → (crc32 (b.take 0x110)).toNat = blkWord b 0x110 →
      blkWord b 0 / 65536 % 256 = s.met.f (Reg.MET_MCFG o) 16 8 → s.met.st.keyed.contains o = true → blkWord b 8 = s.env.time.frameNo.toNat
      % 2 ^ 32 → s.met.b (Reg.MET_MCFG o) 31 = true → metFenced s.met o = false → (s.met.acc o).fresh = true → blkCount b = 1 →
      s.met.st.eng.closed = none → s.met.st.eng.first ≤ s.env.time.frameNo.toNat → ∃ t, exec (.streamBlock o true) s = .next t ∧ (t.met.acc
      o).cnt = (s.met.acc o).cnt + 1 ∧ (t.met.acc o).sum = (s.met.acc o).sum + (metCorrect (signOf 24 (blkSample b 0 / 2 ^ 40 % 2 ^ 24))
      (s.met.n (Reg.MET_OFS_V o)) (s.met.n (Reg.MET_GAIN_V o)) * metCorrect (signOf 24 (blkSample b 0 / 2 ^ 16 % 2 ^ 24)) (s.met.n
      (Reg.MET_OFS_I o)) (s.met.n (Reg.MET_GAIN_I o))).toNat) ∧
  (∀ (s : State) (o : Fin 64), s.met.st.on = true → 800 ≤ (s.met.acc o).diff → (s.met.acc o).taken = false → ∃ t, exec (.contactor o)
      s = .next t ∧ (t.met.acc o).taken = true ∧ t.met.b Reg.MET_EVT 16 = true ∧ t.met.n (Reg.TMP_COUNT 0x06) = min (s.met.n
      (Reg.TMP_COUNT 0x06) + 1) 0xFFFFFFFF ∧ onlyMet s t) ∧
  (∀ (s : State) (raw : List Int), ∃ t, exec (.intakeSample raw) s = .next t ∧ exec (.intakeSample raw) (metAtOnce s) = .next t) ∧
  (∀ (s : State) (o : Fin 64) (mac : Bool), ∃ t, exec (.streamBlock o mac) s = .next t ∧ exec (.streamBlock o mac) (metAtOnce s) =
      .next t)

/-- In a region that measures, an epoch that is due closes at the boundary: it awaits settlement with its length, a new one opens in the present
frame, and a checkpoint is due. A settlement that is due latches: the epoch's number, stamp and length, and meter 64's import in mWh. A checkpoint
that is being written stands in one of its two slots. A slew that has applied its delta ends with UTC as it reads. With the core running, the oldest
record that waits for its signature joins the store, not fetched, signed over its OCMF payload; a period record that waits takes the next number and a
free slot. A read of TRF.NOW0 latches the legal stamp for its plane and returns the first word; on a part without Metrology it reads 0 and is recorded
as an access to an absent unit. Heath, memory, time, the queue and the Control and Service regions stand but for the log and an offered image. Under
these conditions alone each of epochBoundary, settlement, checkpointWritten, slewEnd, recordSigned, periodPendWrite and trfNowRead answers a next
state. -/
def Obligations.LegalTimeAndRecords : Prop :=
  (∀ (s : State), metCounts s.met = true → s.met.st.epochDue = true → ∃ t, exec .epochBoundary s = .next t ∧ t.met.st.epochDue = false
      ∧ t.met.st.eng.start = s.env.time.up ∧ t.met.st.eng.first = s.env.time.frameNo.toNat ∧ (t.met.st.eng.closed.map (fun z => (z.len,
      z.bnd))) = some (s.env.time.up - s.met.st.eng.start, s.env.time.frameNo.toNat) ∧ t.met.st.ckDue.isSome = true ∧ t.heath = s.heath ∧
      t.mem = s.mem ∧ t.env = s.env ∧ t.pending = s.pending) ∧
  (∀ (s : State) (z : MetClosed), metCounts s.met = true → s.met.st.settleDue = true → s.met.st.eng.closed = some z → ∃ t, exec
      .settlement s = .next t ∧ t.met.st.settleDue = false ∧ t.met.st.eng.closed = none ∧ t.met.rd Reg.MET_EPOCH_NO = s.met.rd
      Reg.MET_EPOCH_NO + 1 ∧ t.met.rd Reg.MET_EPOCH_LEN = topWord z.len ∧ t.met.rd Reg.MET_EPOCH_TS_LO = z.ts.setWidth 32 ∧ t.met.rd
      Reg.MET_EPOCH_TS_HI = (z.ts >>> 32).setWidth 32 ∧ t.met.b Reg.MET_STAT 28 = false ∧ metA t.met 64 = (s.met.acc 64).sum / uwPerMwh %
      2 ^ 64 ∧ onlyMet s t) ∧
  (∀ (s : State) (g : MetImage), s.met.st.ckDue = some g → ∃ t, exec .checkpointWritten s = .next t ∧ t.met.st.ckDue = none ∧ (tget
      (fun _ => ({} : MetImage)) t.met.st.images 2 = g ∨ tget (fun _ => ({} : MetImage)) t.met.st.images 3 = g) ∧ onlyMet s t ∧ sameMet []
      s.met t.met ∧ sameRegs [] s.chip t.chip) ∧
  (∀ (s : State) (d : Int) (f : Nat), s.met.st.time.slew = some (d, f) → d.natAbs * 1000 ≤ metLc s.env s.met - f → ∃ t, exec .slewEnd
      s = .next t ∧ t.met.st.time.slew = none ∧ t.met.b Reg.TRF_TIME_STAT 30 = false ∧ metUtc s.env t.met = metUtc s.env s.met ∧ onlyMet s
      t ∧ sameMet [Reg.TRF_TIME_STAT] s.met t.met ∧ sameRegs [] s.chip t.chip) ∧
  (∀ (s : State) (no : Nat) (w : List Word) (q : List (Nat × List Word)), s.met.st.unsigned = (no, w) :: q → 96 ≤ w.length → s.met.st.on =
      true → s.chip.rgn .metrology = 0 → ∃ t, exec (.recordSigned ()) s = .next t ∧ t.met.st.unsigned = q ∧ (t.met.st.recs.getLast?).map
      (fun r => (r.1, r.2.1, r.2.2.take 96)) = some (no, false, w.take 96) ∧ (t.met.st.recs.getLast?).map (fun r => (r.2.2.drop 96).take 16)
      = some ((List.range 16).map (Config.recordSignature (recSigned s.env.part s.met w))) ∧ onlyMet s t ∧ sameMet [Reg.TRF_REC_STAT,
      Reg.TRF_SESS_LO, Reg.TRF_SESS_HI] s.met t.met) ∧
  (∀ (s : State) (w : List Word), s.met.st.perPend = [w] → 0 < recFree s.met → s.met.st.on = true → s.chip.rgn .metrology = 0 → ∃ t,
      exec .periodPendWrite s = .next t ∧ t.met.st.perPend = [] ∧ t.met.st.unsigned = s.met.st.unsigned ++ [(s.met.n Reg.TRF_RNO_NEXT,
      w.set 1 (s.met.rd Reg.TRF_RNO_NEXT))] ∧ t.met.rd Reg.TRF_RNO_NEXT = s.met.rd Reg.TRF_RNO_NEXT + 1 ∧ onlyMet s t ∧ sameMet
      [Reg.TRF_RNO_NEXT, Reg.TRF_REC_STAT, Reg.TRF_SESS_LO, Reg.TRF_SESS_HI] s.met t.met ∧ sameRegs [] s.chip t.chip) ∧
  (∀ (s : State) (p : Plane), s.env.part.hasMet = true → ∃ t, exec (.trfNowRead p) s = .next t ∧ t.rdata = (metStamp s.env s.met).getD
      0 0 ∧ tget (fun _ => ([] : List Word)) t.met.st.now (planeCode p) = metStamp s.env s.met ∧ t.chip = s.chip ∧ t.heath = s.heath ∧
      t.mem = s.mem ∧ t.env = s.env ∧ t.pending = s.pending ∧ sameMet [] s.met t.met) ∧
  (∀ (s : State) (p : Plane), s.env.part.hasMet = false → ∃ t, exec (.trfNowRead p) s = .next t ∧ t.rdata = 0 ∧ t.chip.rd
      Reg.CHIP_DROP_ADDR = word (Reg.TRF_NOW 0) ∧ t.chip.b (Reg.PG_ERR 0x40000000) 6 = true ∧ t.heath = s.heath ∧ t.met = s.met ∧ t.mem =
      s.mem ∧ t.env = s.env ∧ t.pending = s.pending)

/-- A cut stops a region that measures, with a save image due and the filtered PFAIL_N level shown; the written image is flagged and counted with its
time; PFAIL_N deasserted is kept with its cycle, and 10 ms later, the image written, counting is due to resume. A restore, main supply good, turns the
region on. Going over to VBAK turns it off and keeps the LC; each second of backup advances LC by 1,000 ms and, at or above the threshold, counts the
current; a low VBAK stops sampling; legal time lost is kept. A new level of the seal is shown in both regions, an opening counted with its tamper
kind. Heath, memory, time and the queue stand. Under these conditions alone each of cut, pfSave, pfailOff, pfailResume, metrologyRestore,
mtrVbakSwitchover, backupSample, vbakLow, legalTimeLost and legalSealChange answers a next state. -/
def Obligations.MetrologySupply : Prop :=
  (∀ (s : State), metCounts s.met = true → ∃ t, exec .cut s = .next t ∧ t.met.b Reg.MET_STAT 27 = true ∧ t.met.st.saving.isSome = true
      ∧ s.met.st.seq < t.met.st.seq ∧ t.met.st.cutUp = s.env.time.up ∧ t.met.st.resume = false ∧ t.chip.b Reg.PWR_STAT 31 = true ∧ onlyMet
      s t) ∧
  (∀ (s : State) (n : BitVec 16) (g : MetImage), s.met.st.saving = some g → ∃ t, exec (.pfSave n) s = .next t ∧ t.met.st.saving = none
      ∧ t.met.f Reg.MET_PF_STAT 0 16 = n.toNat ∧ t.met.n Reg.MET_PF_CNT = min (s.met.n Reg.MET_PF_CNT + 1) 0xFFFFFFFF ∧ t.met.b
      Reg.MET_EVT 11 = true ∧ (tget (fun _ => ({} : MetImage)) t.met.st.images 0 = g ∨ tget (fun _ => ({} : MetImage)) t.met.st.images 1 =
      g) ∧ onlyMet s t ∧ sameMet [Reg.MET_PF_STAT, Reg.MET_PF_CNT, Reg.MET_EVT] s.met t.met) ∧
  (∀ (s : State), s.met.st.on = true → s.met.b Reg.MET_STAT 27 = true → s.met.st.offAt = none → ∃ t, exec .pfailOff s = .next t ∧
      t.met.st.offAt = some s.env.time.up ∧ t.chip.b Reg.PWR_STAT 31 = false ∧ onlyMet s t ∧ sameMet [] s.met t.met) ∧
  (∀ (s : State) (n : Nat), s.met.st.on = true → s.met.b Reg.MET_STAT 27 = true → s.met.st.saving = none → s.met.st.offAt = some n → n
      + 2000000 ≤ s.env.time.up → ∃ t, exec .pfailResume s = .next t ∧ t.met.st.resume = true ∧ onlyMet s t ∧ sameMet [] s.met t.met ∧
      sameRegs [] s.chip t.chip) ∧
  (∀ (s : State), s.env.part.hasMet = true → s.met.st.on = false → s.chip.pwr.rails.testBit 3 = false → ∃ t, exec .metrologyRestore s
      = .next t ∧ t.met.st.on = true ∧ t.met.st.bakFrom = none ∧ t.met.st.saving = (if metNewest s.met = none then s.met.st.saving else
      none) ∧ onlyMet s t) ∧
  (∀ (s : State), s.env.part.hasMet = true → s.met.st.bakFrom = none → ∃ t, exec .mtrVbakSwitchover s = .next t ∧ t.met.st.on = false
      ∧ t.met.st.bakFrom = some (metLc s.env s.met) ∧ t.met.st.inbox = [] ∧ t.met.b Reg.MET_BAK_STAT 31 = false ∧ onlyMet s t ∧ sameMet
      [Reg.MET_BAK_STAT] s.met t.met ∧ sameRegs [] s.chip t.chip) ∧
  (∀ (s : State) (rms : List Nat) (n : Nat), s.met.st.bakFrom = some n → s.met.st.lost = false → ∃ t, exec (.backupSample rms) s =
      .next t ∧ t.met.st.time.lc = s.met.st.time.lc + 1000 ∧ t.met.st.cws = s.met.st.cws + (if s.met.b Reg.MET_BAK_CFG 31 = true ∧ s.met.b
      Reg.MET_BAK_STAT 31 = false ∧ s.met.f Reg.MET_BAK_CFG 0 16 * 100 ≤ max (rms.getD 0 0) (max (rms.getD 1 0) (rms.getD 2 0)) then 1
      else 0) ∧ onlyMet s t ∧ sameMet [] s.met t.met ∧ sameRegs [] s.chip t.chip) ∧
  (∀ (s : State) (n : Nat), s.met.st.bakFrom = some n → ∃ t, exec .vbakLow s = .next t ∧ t.met.b Reg.MET_BAK_STAT 31 = true ∧ t.met.b
      Reg.MET_BAK_STAT 30 = true ∧ onlyMet s t ∧ sameMet [Reg.MET_BAK_STAT] s.met t.met ∧ sameRegs [] s.chip t.chip) ∧
  (∀ (s : State) (n : Nat), s.met.st.bakFrom = some n → ∃ t, exec .legalTimeLost s = .next t ∧ t.met.st.lost = true ∧ onlyMet s t ∧
      sameMet [] s.met t.met ∧ sameRegs [] s.chip t.chip) ∧
  (∀ (s : State) (b : Bool), s.env.part.hasMet = true → s.met.b Reg.MET_SEAL 31 ≠ b → ∃ t, exec (.legalSealChange b) s = .next t ∧
      t.met.b Reg.MET_SEAL 31 = b ∧ t.met.b Reg.MET_STAT 31 = b ∧ t.chip.b Reg.CHIP_SEAL_STAT 30 = b ∧ t.met.b Reg.MET_EVT 6 = true ∧
      t.met.n (Reg.TMP_COUNT 0) = (if b then min (s.met.n (Reg.TMP_COUNT 0) + 1) 0xFFFFFFFF else s.met.n (Reg.TMP_COUNT 0)) ∧ t.met.f
      Reg.MET_SEAL 0 16 = (if b then min (s.met.f Reg.MET_SEAL 0 16 + 1) 65535 else s.met.f Reg.MET_SEAL 0 16) ∧ onlyMet s t)

/-- A write of SEAL_CMD that passes its checks, with no request BUSY and the metrology core running and restored, starts the request: BUSY shows, and
the core holds it with its tag and code. A WRITE that its checks pass counts in CAL_SEQ, with its kind of the tamper table. A request other than WRITE
is stated for SEAL_DATA words that are zero where it names none of them. TIME_SET holds its code and delta. CLOSE_PERIOD is accepted, and with a word
that is not zero it is refused with RANGE. SESSION_BEGIN of an enabled meter, with no session and 66 free slots, opens one under the next record
number; SESSION_END of an open one has it ending. SELECT of a log entry in reach shows its words. TAMPER_REPORT, with 66 free slots, queues a record
for signature. The completion ends BUSY with the result and the tag, and its words wait for the epoch boundary; one in the cycle of an epoch boundary
comes after it. Only the seal's registers and the log change in the Control region. Under these conditions alone each of sealedWrite, timeSet,
closePeriod, sessionBegin, sessionEnd, select, tamperReport and sealedRequestComplete answers a next state. -/
def Obligations.SealedRequests : Prop :=
  (∀ (s : State) (p : Plane) (n : Fin 16) (tag : BitVec 16), s.takes p Reg.CHIP_SEAL_CMD (word (1 * 2 ^ 28 + n.val * 2 ^ 24 +
      tag.toNat)) = some (word (1 * 2 ^ 28 + n.val * 2 ^ 24 + tag.toNat)) → s.env.part.hasMet = true → s.chip.b Reg.CHIP_SEAL_STAT 31 =
      false → s.chip.rgn .metrology = 0 → s.met.st.on = true → sealWriteCode s (sealWords s n) = 0 → ∃ t, exec (.sealedWrite p n tag) s =
      .next t ∧ t.chip.b Reg.CHIP_SEAL_STAT 31 = true ∧ t.chip.rd Reg.CHIP_SEAL_CMD = (word (1 * 2 ^ 28 + n.val * 2 ^ 24 + tag.toNat)) ∧
      (t.met.st.req.map (fun q => (q.op, q.tag, q.code))) = some (1, tag.toNat, 0) ∧ t.met.rd Reg.MET_CAL_SEQ = s.met.rd Reg.MET_CAL_SEQ +
      1 ∧ t.met.b Reg.MET_EVT 8 = true ∧ t.met.n (Reg.TMP_COUNT 0x01) = min (s.met.n (Reg.TMP_COUNT 0x01) + 1) 0xFFFFFFFF ∧ onlyMet s t ∧
      sameRegs [Reg.CHIP_SEAL_CMD, Reg.CHIP_SEAL_STAT, Reg.CHIP_LOG_WR, Reg.CHIP_LOG_LOST] s.chip t.chip) ∧
  (∀ (s : State) (p : Plane) (n : Fin 16) (tag : BitVec 16), s.takes p Reg.CHIP_SEAL_CMD (word (1 * 2 ^ 28 + n.val * 2 ^ 24 +
      tag.toNat)) = some (word (1 * 2 ^ 28 + n.val * 2 ^ 24 + tag.toNat)) → s.env.part.hasMet = true → s.chip.b Reg.CHIP_SEAL_STAT 31 =
      false → s.chip.rgn .metrology = 0 → s.met.st.on = true → sealWriteCode s (sealWords s n) ≠ 0 → ∃ t, exec (.sealedWrite p n tag) s =
      .next t ∧ t.chip.b Reg.CHIP_SEAL_STAT 31 = true ∧ t.chip.rd Reg.CHIP_SEAL_CMD = (word (1 * 2 ^ 28 + n.val * 2 ^ 24 + tag.toNat)) ∧
      (t.met.st.req.map (fun q => (q.op, q.tag, q.code))) = some (1, tag.toNat, sealWriteCode s (sealWords s n)) ∧ t.met.rd
      Reg.MET_CAL_SEQ = s.met.rd Reg.MET_CAL_SEQ ∧ t.met.b Reg.MET_EVT 7 = true ∧ t.met.st.words = s.met.st.words ∧ onlyMet s t ∧ sameRegs
      [Reg.CHIP_SEAL_CMD, Reg.CHIP_SEAL_STAT, Reg.CHIP_LOG_WR, Reg.CHIP_LOG_LOST] s.chip t.chip) ∧
  (∀ (s : State) (p : Plane) (tag : BitVec 16), s.takes p Reg.CHIP_SEAL_CMD (word (2 * 2 ^ 28 + 0 * 2 ^ 24 + tag.toNat)) = some (word
      (2 * 2 ^ 28 + 0 * 2 ^ 24 + tag.toNat)) → s.env.part.hasMet = true → s.chip.b Reg.CHIP_SEAL_STAT 31 = false → s.chip.rgn .metrology =
      0 → s.met.st.on = true → dataClear 2 (fun k => s.chip.rd (Reg.CHIP_SEAL_DATA k)) = true → ∃ t, exec (.timeSet p tag) s = .next t ∧
      t.chip.b Reg.CHIP_SEAL_STAT 31 = true ∧ t.chip.rd Reg.CHIP_SEAL_CMD = (word (2 * 2 ^ 28 + 0 * 2 ^ 24 + tag.toNat)) ∧
      (t.met.st.req.map (fun q => (q.op, q.tag, q.code))) = some (2, tag.toNat, (timeSetCode s.env s.met (s.chip.rd (Reg.CHIP_SEAL_DATA
      0)) (s.chip.rd (Reg.CHIP_SEAL_DATA 1))).1) ∧ t.met.st.req.map (fun q => q.set) = some (if (timeSetCode s.env s.met (s.chip.rd
      (Reg.CHIP_SEAL_DATA 0)) (s.chip.rd (Reg.CHIP_SEAL_DATA 1))).1 = 0 then some (timeSetCode s.env s.met (s.chip.rd (Reg.CHIP_SEAL_DATA
      0)) (s.chip.rd (Reg.CHIP_SEAL_DATA 1))).2 else none) ∧ onlyMet s t ∧ sameRegs [Reg.CHIP_SEAL_CMD, Reg.CHIP_SEAL_STAT,
      Reg.CHIP_LOG_WR, Reg.CHIP_LOG_LOST] s.chip t.chip) ∧
  (∀ (s : State) (p : Plane) (tag : BitVec 16), s.takes p Reg.CHIP_SEAL_CMD (word (3 * 2 ^ 28 + 0 * 2 ^ 24 + tag.toNat)) = some (word
      (3 * 2 ^ 28 + 0 * 2 ^ 24 + tag.toNat)) → s.env.part.hasMet = true → s.chip.b Reg.CHIP_SEAL_STAT 31 = false → s.chip.rgn .metrology =
      0 → s.met.st.on = true → dataClear 3 (fun k => s.chip.rd (Reg.CHIP_SEAL_DATA k)) = true → ∃ t, exec (.closePeriod p tag) s = .next t
      ∧ t.chip.b Reg.CHIP_SEAL_STAT 31 = true ∧ t.chip.rd Reg.CHIP_SEAL_CMD = (word (3 * 2 ^ 28 + 0 * 2 ^ 24 + tag.toNat)) ∧
      (t.met.st.req.map (fun q => (q.op, q.tag, q.code))) = some (3, tag.toNat, 0) ∧ onlyMet s t ∧ sameRegs [Reg.CHIP_SEAL_CMD,
      Reg.CHIP_SEAL_STAT, Reg.CHIP_LOG_WR, Reg.CHIP_LOG_LOST] s.chip t.chip) ∧
  (∀ (s : State) (p : Plane) (tag : BitVec 16), s.takes p Reg.CHIP_SEAL_CMD (word (3 * 2 ^ 28 + 0 * 2 ^ 24 + tag.toNat)) = some (word
      (3 * 2 ^ 28 + 0 * 2 ^ 24 + tag.toNat)) → s.env.part.hasMet = true → s.chip.b Reg.CHIP_SEAL_STAT 31 = false → s.chip.rgn .metrology =
      0 → s.met.st.on = true → dataClear 3 (fun k => s.chip.rd (Reg.CHIP_SEAL_DATA k)) = false → ∃ t, exec (.closePeriod p tag) s = .next
      t ∧ t.chip.b Reg.CHIP_SEAL_STAT 31 = true ∧ t.chip.rd Reg.CHIP_SEAL_CMD = (word (3 * 2 ^ 28 + 0 * 2 ^ 24 + tag.toNat)) ∧
      (t.met.st.req.map (fun q => (q.op, q.tag, q.code))) = some (3, tag.toNat, 2) ∧ t.met.b Reg.MET_EVT 7 = true ∧ onlyMet s t ∧ sameRegs
      [Reg.CHIP_SEAL_CMD, Reg.CHIP_SEAL_STAT, Reg.CHIP_LOG_WR, Reg.CHIP_LOG_LOST] s.chip t.chip) ∧
  (∀ (s : State) (p : Plane) (tag : BitVec 16), s.takes p Reg.CHIP_SEAL_CMD (word (4 * 2 ^ 28 + 0 * 2 ^ 24 + tag.toNat)) = some (word
      (4 * 2 ^ 28 + 0 * 2 ^ 24 + tag.toNat)) → s.env.part.hasMet = true → s.chip.b Reg.CHIP_SEAL_STAT 31 = false → s.chip.rgn .metrology =
      0 → s.met.st.on = true → dataClear 4 (fun k => s.chip.rd (Reg.CHIP_SEAL_DATA k)) = true → beginCode s.env.part s.met (s.chip.rd
      (Reg.CHIP_SEAL_DATA 0)) = 0 → ∃ t, exec (.sessionBegin p tag) s = .next t ∧ t.chip.b Reg.CHIP_SEAL_STAT 31 = true ∧ t.chip.rd
      Reg.CHIP_SEAL_CMD = (word (4 * 2 ^ 28 + 0 * 2 ^ 24 + tag.toNat)) ∧ (t.met.st.req.map (fun q => (q.op, q.tag, q.code))) = some (4,
      tag.toNat, 0) ∧ t.met.rd Reg.TRF_RNO_NEXT = s.met.rd Reg.TRF_RNO_NEXT + 1 ∧ t.met.st.eng.sess.map (fun q => (q.1, q.2.rno,
      q.2.phase)) = s.met.st.eng.sess.map (fun q => (q.1, q.2.rno, q.2.phase)) ++ [(fget (s.chip.rd (Reg.CHIP_SEAL_DATA 0)) 0 7, s.met.n
      Reg.TRF_RNO_NEXT, 0)] ∧ onlyMet s t ∧ sameRegs [Reg.CHIP_SEAL_CMD, Reg.CHIP_SEAL_STAT, Reg.CHIP_LOG_WR, Reg.CHIP_LOG_LOST] s.chip
      t.chip) ∧
  (∀ (s : State) (p : Plane) (tag : BitVec 16), s.takes p Reg.CHIP_SEAL_CMD (word (5 * 2 ^ 28 + 0 * 2 ^ 24 + tag.toNat)) = some (word
      (5 * 2 ^ 28 + 0 * 2 ^ 24 + tag.toNat)) → s.env.part.hasMet = true → s.chip.b Reg.CHIP_SEAL_STAT 31 = false → s.chip.rgn .metrology =
      0 → s.met.st.on = true → dataClear 5 (fun k => s.chip.rd (Reg.CHIP_SEAL_DATA k)) = true → endCode s.env.part s.met (s.chip.rd
      (Reg.CHIP_SEAL_DATA 0)) = 0 → ∃ t, exec (.sessionEnd p tag) s = .next t ∧ t.chip.b Reg.CHIP_SEAL_STAT 31 = true ∧ t.chip.rd
      Reg.CHIP_SEAL_CMD = (word (5 * 2 ^ 28 + 0 * 2 ^ 24 + tag.toNat)) ∧ (t.met.st.req.map (fun q => (q.op, q.tag, q.code))) = some (5,
      tag.toNat, 0) ∧ t.met.st.eng.sess.map (fun q => (q.1, q.2.ending)) = s.met.st.eng.sess.map (fun q => (q.1, if q.1 = fget (s.chip.rd
      (Reg.CHIP_SEAL_DATA 0)) 0 7 then 1 else q.2.ending)) ∧ onlyMet s t ∧ sameRegs [Reg.CHIP_SEAL_CMD, Reg.CHIP_SEAL_STAT,
      Reg.CHIP_LOG_WR, Reg.CHIP_LOG_LOST] s.chip t.chip) ∧
  (∀ (s : State) (p : Plane) (tag : BitVec 16) (w : List Word) (k : Nat), s.takes p Reg.CHIP_SEAL_CMD (word (6 * 2 ^ 28 + 0 * 2 ^ 24 +
      tag.toNat)) = some (word (6 * 2 ^ 28 + 0 * 2 ^ 24 + tag.toNat)) → s.env.part.hasMet = true → s.chip.b Reg.CHIP_SEAL_STAT 31 = false
      → s.chip.rgn .metrology = 0 → s.met.st.on = true → dataClear 6 (fun k => s.chip.rd (Reg.CHIP_SEAL_DATA k)) = true → s.chip.rd
      (Reg.CHIP_SEAL_DATA 0) = 0x20000000 → selectFind s.met 2 (s.chip.n (Reg.CHIP_SEAL_DATA 1)) = some w → k < w.length → w.length ≤ 128
      → ∃ t, exec (.select p tag) s = .next t ∧ t.chip.b Reg.CHIP_SEAL_STAT 31 = true ∧ t.chip.rd Reg.CHIP_SEAL_CMD = (word (6 * 2 ^ 28 +
      0 * 2 ^ 24 + tag.toNat)) ∧ (t.met.st.req.map (fun q => (q.op, q.tag, q.code))) = some (6, tag.toNat, 0) ∧ t.met.rd (Reg.TRF_REC_W k)
      = w.getD k 0 ∧ t.met.rd Reg.TRF_REC_NUM = s.chip.rd (Reg.CHIP_SEAL_DATA 1) ∧ t.met.rd Reg.TRF_REC_INFO = 0x20000000 ∧ onlyMet s t ∧
      sameRegs [Reg.CHIP_SEAL_CMD, Reg.CHIP_SEAL_STAT, Reg.CHIP_LOG_WR, Reg.CHIP_LOG_LOST] s.chip t.chip) ∧
  (∀ (s : State) (p : Plane) (tag : BitVec 16), s.takes p Reg.CHIP_SEAL_CMD (word (7 * 2 ^ 28 + 0 * 2 ^ 24 + tag.toNat)) = some (word
      (7 * 2 ^ 28 + 0 * 2 ^ 24 + tag.toNat)) → s.env.part.hasMet = true → s.chip.b Reg.CHIP_SEAL_STAT 31 = false → s.chip.rgn .metrology =
      0 → s.met.st.on = true → dataClear 7 (fun k => s.chip.rd (Reg.CHIP_SEAL_DATA k)) = true → 66 ≤ recFree s.met → ∃ t, exec
      (.tamperReport p tag) s = .next t ∧ t.chip.b Reg.CHIP_SEAL_STAT 31 = true ∧ t.chip.rd Reg.CHIP_SEAL_CMD = (word (7 * 2 ^ 28 + 0 * 2
      ^ 24 + tag.toNat)) ∧ (t.met.st.req.map (fun q => (q.op, q.tag, q.code))) = some (7, tag.toNat, 0) ∧ t.met.rd Reg.TRF_RNO_NEXT =
      s.met.rd Reg.TRF_RNO_NEXT + 1 ∧ t.met.st.unsigned.length = s.met.st.unsigned.length + 1 ∧ onlyMet s t ∧ sameRegs [Reg.CHIP_SEAL_CMD,
      Reg.CHIP_SEAL_STAT, Reg.CHIP_LOG_WR, Reg.CHIP_LOG_LOST] s.chip t.chip) ∧
  (∀ (s : State) (q : MetReq), s.met.st.req = some q → s.met.st.epochDue = false → s.met.st.settleDue = false → ∃ t, exec
      .sealedRequestComplete s = .next t ∧ t.met.st.req = none ∧ t.chip.b Reg.CHIP_SEAL_STAT 31 = false ∧ t.chip.f Reg.CHIP_SEAL_STAT 24 4 =
      sealShown q.code % 16 ∧ t.chip.f Reg.CHIP_SEAL_STAT 0 16 = q.tag % 65536 ∧ t.met.st.words = s.met.st.words ++ q.words ∧ t.met.st.close
      = (s.met.st.close || (q.op == 3 && q.code == 0)) ∧ onlyMet s t ∧ sameMet [Reg.TRF_TIME_STAT, Reg.TRF_REC_STAT, Reg.TRF_SESS_LO,
      Reg.TRF_SESS_HI] s.met t.met ∧ sameRegs [Reg.CHIP_SEAL_STAT] s.chip t.chip) ∧
  (∀ (s : State) (q : MetReq), (metAtOnce s).met.st.req = some q → ∃ t, exec .sealedRequestComplete s = .next t ∧ exec
      .sealedRequestComplete (metAtOnce s) = .next t)

/-- With Heath running: a sample gives every leg of its channel its terminal level and changes no filtered state and no function of either channel; a
leg whose sample has differed for T_F changes its filtered state; a disagreement that has lasted T_D latches, where none is latched, a discrepancy in
both channels, counted and flagged; a pulse that is due, of an enabled test output that the chip drives, opens its window in both; a leg that failed
its test latches the fault of its leg; a reset pulse of 50 ms to 3 s is an accepted edge, counted by channel A, a shorter one none; a level high past
3 s is stuck, flagged by channel A. Metrology, memory, time, the queue and the Control and Service regions stand but for the log, and so do all of
Heath's registers but those named. Under these conditions alone each of safetyInputSample, legFilterChange, discrepancy, testPulse, testFault,
resetEdge and resetStuck answers a next state. -/
def Obligations.HeathInputs : Prop :=
  (∀ (s : State) (i : Fin 2) (legs : BitVec 32) (rst : BitVec 2) (j : Fin 16), hthOn s = true → ∃ t, exec (.safetyInputSample i legs
      rst) s = .next t ∧ ((t.heath.ch i).inp j).a.raw = legs.getLsbD (2 * j) ∧ ((t.heath.ch i).inp j).b.raw = legs.getLsbD (2 * j + 1) ∧
      ((t.heath.ch i).inp j).a.run = ((s.heath.ch i).inp j).a.run ∧ ((t.heath.ch i).inp j).b.run = ((s.heath.ch i).inp j).b.run ∧
      t.heath.ch (1 - i) = s.heath.ch (1 - i) ∧ (t.heath.ch i).sw = (s.heath.ch i).sw ∧ (onlyHeath s t) ∧ sameHeath ((List.range 16).map
      (fun j => Reg.HTH_IN_STAT j) ++ [Reg.HTH_RST_STAT 12, Reg.HTH_RST_STAT 13]) s.heath t.heath ∧ sameRegs [] s.chip t.chip) ∧
  (∀ (s : State) (i : Fin 2) (j : Fin 16) (b : Bool), hthOn s = true → legDue s.heath i j b = true → ∃ t, exec (.legFilterChange i j
      b) s = .next t ∧ (((t.heath.ch i).inp j).leg b).run = !(((s.heath.ch i).inp j).leg b).run ∧ (((t.heath.ch i).inp j).leg !b) =
      (((s.heath.ch i).inp j).leg !b) ∧ t.heath.ch (1 - i) = s.heath.ch (1 - i) ∧ (onlyHeath s t) ∧ sameHeath [Reg.HTH_IN_STAT j] s.heath
      t.heath ∧ sameRegs [] s.chip t.chip) ∧
  (∀ (s : State) (i : Fin 2) (j : Fin 16), hthOn s = true → disDue s.heath i j = true → ((s.heath.ch i).inp j).fault = 0 → ∃ t, exec
      (.discrepancy i j) s = .next t ∧ ((t.heath.ch i).inp j).fault = 1 ∧ ((t.heath.ch (1 - i)).inp j).fault ≠ 0 ∧ ((t.heath.ch i).inp
      j).taken = true ∧ t.heath.b Reg.HTH_EVT 2 = true ∧ t.heath.f (Reg.HTH_IN_CNT j) 24 8 = min (s.heath.f (Reg.HTH_IN_CNT j) 24 8 + 1)
      255 ∧ (onlyHeath s t) ∧ sameHeath [Reg.HTH_IN_STAT j, Reg.HTH_IN_CNT j, Reg.HTH_EVT] s.heath t.heath) ∧
  (∀ (s : State) (n : Fin 4), hthOn s = true → pulseDue s.env s.heath n = true → ∃ t, exec (.testPulse n) s = .next t ∧
      t.heath.st.a.win.head? = some (n.val, 0) ∧ t.heath.st.b.win.head? = some (n.val, 0) ∧ tget (fun _ => (none : Option Nat))
      t.heath.st.tpAt n = some s.env.time.up ∧ t.heath.st.a.sw = s.heath.st.a.sw ∧ t.heath.st.a.ins = s.heath.st.a.ins ∧ (onlyHeath s t) ∧
      sameHeath [] s.heath t.heath ∧ sameRegs [] s.chip t.chip) ∧
  (∀ (s : State) (i : Fin 2) (j : Fin 16) (b : Bool), hthOn s = true → (((s.heath.ch i).inp j).leg b).fail = true → ((s.heath.ch
      i).inp j).fault = 0 → ∃ t, exec (.testFault i j b) s = .next t ∧ ((t.heath.ch i).inp j).fault = (if b then 3 else 2) ∧ ((t.heath.ch
      (1 - i)).inp j).fault ≠ 0 ∧ (((t.heath.ch i).inp j).leg b).fail = false ∧ t.heath.b Reg.HTH_EVT 2 = true ∧ t.heath.f (Reg.HTH_IN_CNT
      j) 16 8 = min (s.heath.f (Reg.HTH_IN_CNT j) 16 8 + 1) 255 ∧ (onlyHeath s t) ∧ sameHeath [Reg.HTH_IN_STAT j, Reg.HTH_IN_CNT j,
      Reg.HTH_EVT] s.heath t.heath) ∧
  (∀ (s : State) (i r : Fin 2) (d : Nat), hthOn s = true → ((s.heath.ch i).rin r).fell = some d → 1000 ≤ d → d ≤ 60000 → ∃ t, exec
      (.resetEdge i r) s = .next t ∧ ((t.heath.ch i).rin r).edge = true ∧ ((t.heath.ch i).rin r).fell = none ∧ t.heath.ch (1 - i) =
      s.heath.ch (1 - i) ∧ t.heath.f (Reg.HTH_RST_CNT (12 + r)) 16 16 = (if i = 0 then min (s.heath.f (Reg.HTH_RST_CNT (12 + r)) 16 16 +
      1) 65535 else s.heath.f (Reg.HTH_RST_CNT (12 + r)) 16 16) ∧ (onlyHeath s t) ∧ sameHeath ([Reg.HTH_RST_CNT (12 + r)] ++ (List.range
      8).map (fun n => Reg.HTH_OUT_STAT n)) s.heath t.heath ∧ sameRegs [] s.chip t.chip) ∧
  (∀ (s : State) (i r : Fin 2) (d : Nat), hthOn s = true → ((s.heath.ch i).rin r).fell = some d → d < 1000 → ∃ t, exec (.resetEdge i
      r) s = .next t ∧ ((t.heath.ch i).rin r).edge = ((s.heath.ch i).rin r).edge ∧ ((t.heath.ch i).rin r).fell = none ∧ t.heath.f
      (Reg.HTH_RST_CNT (12 + r)) 8 8 = (if i = 0 then min (s.heath.f (Reg.HTH_RST_CNT (12 + r)) 8 8 + 1) 255 else s.heath.f
      (Reg.HTH_RST_CNT (12 + r)) 8 8) ∧ (onlyHeath s t) ∧ sameHeath [Reg.HTH_RST_CNT (12 + r)] s.heath t.heath) ∧
  (∀ (s : State) (i r : Fin 2), hthOn s = true → stuckDue s.heath i r = true → ∃ t, exec (.resetStuck i r) s = .next t ∧ ((t.heath.ch
      i).rin r).stuck = true ∧ (i = 0 → t.heath.b Reg.HTH_EVT 4 = true) ∧ (onlyHeath s t) ∧ sameHeath [Reg.HTH_RST_CNT (12 + r),
      Reg.HTH_RST_STAT (12 + r), Reg.HTH_EVT] s.heath t.heath)

/-- With Heath running: after a channel's cycle no used function of it is in RUN that names a local input whose legs do not both read run, it has sent
its heartbeat and counts one more cycle without the other's; in configuration mode or a die shutdown it closes no switch, and an output that is
latched, or named by no function and held by no lock, stays open. A lock fault latches in both channels; an ended delay, with no lock held, opens
every output that the function names; an ended unlock delay with its bit of CHIP.HTH_REQ holds the LOCK output; an ended two-hand window blocks until
release. A failed output test, an overload and a short latch their codes and open both switches; a test that passes changes nothing. A write of
CHIP.HTH_REQ gives it the bits. Under these conditions alone each of heathCycle, lockFault, stopDlyExpire, unlockDlyExpire, syncFail, outputTest,
overload, short24v and unlockRequest answers a next state. -/
def Obligations.HeathFunctions : Prop :=
  (∀ (s : State) (i : Fin 2) (rb : BitVec 8) (ma : List Nat) (k : Fin 16) (j : Nat), hthOn s = true → hthCfg s.heath = false → fnKind
      s.heath k ≠ 0 → (fnInputs s.heath k).contains (false, j) = true → inLegs s.heath (s.heath.ch i) j ≠ (true, true) → j < 16 → ∃ t,
      exec (.heathCycle i rb ma) s = .next t ∧ ((t.heath.ch i).fn k).st ≠ 2 ∧ t.mem = s.mem ∧ t.met = s.met ∧ t.env = s.env ∧ t.pending =
      s.pending) ∧
  (∀ (s : State) (i : Fin 2) (rb : BitVec 8) (ma : List Nat) (n : Fin 8), hthOn s = true → hthCfg s.heath = true ∨ hthSd s = true ∨
      (fnsOf s.heath n = [] ∧ (List.range 16).all (fun k => fnLock s.heath k != some n.val) = true) ∨ s.heath.f (Reg.HTH_OUT_STAT n) 26 2
      ≠ 0 → ∃ t, exec (.heathCycle i rb ma) s = .next t ∧ (t.heath.ch i).sw.testBit n = false ∧ (t.heath.ch i).silent = 0 ∧ (t.heath.ch (1
      - i)).silent = (s.heath.ch (1 - i)).silent + 1 ∧ (t.heath.ch (1 - i)).sw = (s.heath.ch (1 - i)).sw) ∧
  (∀ (s : State) (i : Fin 2) (k : Fin 16), hthOn s = true → lockDue s.heath i k = true → ∃ t, exec (.lockFault i k) s = .next t ∧
      (t.heath.st.a.fn k).lock = true ∧ (t.heath.st.b.fn k).lock = true ∧ (t.heath.st.a.fn k).st = (s.heath.st.a.fn k).st ∧
      t.heath.st.a.sw = s.heath.st.a.sw ∧ (onlyHeath s t) ∧ sameHeath [] s.heath t.heath ∧ sameRegs [] s.chip t.chip) ∧
  (∀ (s : State) (i : Fin 2) (k : Fin 16) (n : Fin 8), hthOn s = true → dlyDue s.heath i k = true → ((s.heath.ch i).fn k).st ≠ 2 →
      fnKind s.heath k ≠ 0 → s.heath.b (Reg.HTH_FN_OUT k) n = true → (List.range 16).all (fun m => fnLock s.heath m != some n.val) = true
      → ∃ t, exec (.stopDlyExpire i k) s = .next t ∧ ((t.heath.ch i).fn k).dly = none ∧ (t.heath.ch i).sw.testBit n = false ∧ ((t.heath.ch
      i).fn k).st = ((s.heath.ch i).fn k).st ∧ t.heath.ch (1 - i) = s.heath.ch (1 - i) ∧ (onlyHeath s t) ∧ sameHeath ((List.range 8).map
      (fun n => Reg.HTH_OUT_STAT n) ++ [Reg.HTH_STAT, Reg.HTH_FN_STAT k]) s.heath t.heath ∧ sameRegs [] s.chip t.chip) ∧
  (∀ (s : State) (i : Fin 2) (k : Fin 16), hthOn s = true → unlDue s.heath i k = true → s.chip.b Reg.CHIP_HTH_REQ k = true → ∃ t, exec
      (.unlockDlyExpire i k) s = .next t ∧ ((t.heath.ch i).fn k).unl = true ∧ t.heath.ch (1 - i) = s.heath.ch (1 - i) ∧ (onlyHeath s t) ∧
      sameHeath ((List.range 8).map (fun n => Reg.HTH_OUT_STAT n) ++ [Reg.HTH_STAT, Reg.HTH_FN_STAT k]) s.heath t.heath) ∧
  (∀ (s : State) (i : Fin 2) (k : Fin 16), hthOn s = true → syncDue s.heath i k = true → ∃ t, exec (.syncFail i k) s = .next t ∧
      ((t.heath.ch i).fn k).win = none ∧ ((t.heath.ch i).fn k).sync = true ∧ ((t.heath.ch i).fn k).block = true ∧ (i = 0 → t.heath.b
      Reg.HTH_EVT 1 = true) ∧ (onlyHeath s t) ∧ sameHeath [Reg.HTH_FN_STAT k, Reg.HTH_EVT] s.heath t.heath ∧ sameRegs [] s.chip t.chip) ∧
  (∀ (s : State) (n : Fin 8) (i : Fin 2), hthOn s = true → s.heath.b (Reg.HTH_OUT_CFG n) 31 = true → s.heath.b (Reg.HTH_OUT_STAT n) 31
      = true → ∃ t, exec (.outputTest i n false) s = .next t ∧ t.heath.f (Reg.HTH_OUT_STAT n) 26 2 = 3 ∧ t.heath.st.a.sw.testBit n = false
      ∧ t.heath.st.b.sw.testBit n = false ∧ t.heath.b (Reg.HTH_OUT_STAT n) 31 = false ∧ t.heath.b Reg.HTH_EVT 3 = true ∧ t.heath.st.a.fns
      = s.heath.st.a.fns ∧ (onlyHeath s t) ∧ sameHeath ((List.range 8).map (fun n => Reg.HTH_OUT_STAT n) ++ [Reg.HTH_STAT, Reg.HTH_EVT])
      s.heath t.heath) ∧
  (∀ (s : State) (i : Fin 2) (n : Fin 8), hthOn s = true → ∃ t, exec (.outputTest i n true) s = .next t ∧ t = s) ∧
  (∀ (s : State) (n : Fin 8) (trip : Bool), hthOn s = true → s.heath.f (Reg.HTH_OUT_STAT n) 26 2 = 0 → trip = true ∨ 5 ≤ tget (fun _
      => 0) s.heath.st.amps n → ∃ t, exec (.overload n trip) s = .next t ∧ t.heath.f (Reg.HTH_OUT_STAT n) 26 2 = 2 ∧
      t.heath.st.a.sw.testBit n = false ∧ t.heath.st.b.sw.testBit n = false ∧ t.heath.b (Reg.HTH_OUT_STAT n) 31 = false ∧ t.heath.b
      Reg.HTH_EVT 3 = true ∧ t.heath.st.a.fns = s.heath.st.a.fns ∧ (onlyHeath s t) ∧ sameHeath ((List.range 8).map (fun n =>
      Reg.HTH_OUT_STAT n) ++ [Reg.HTH_STAT, Reg.HTH_EVT]) s.heath t.heath) ∧
  (∀ (s : State) (n : Fin 8), hthOn s = true → shortDue s.heath n = true → ∃ t, exec (.short24v n) s = .next t ∧ t.heath.f
      (Reg.HTH_OUT_STAT n) 26 2 = 1 ∧ t.heath.st.a.sw.testBit n = false ∧ t.heath.st.b.sw.testBit n = false ∧ t.heath.b (Reg.HTH_OUT_STAT
      n) 31 = false ∧ t.heath.b Reg.HTH_EVT 3 = true ∧ t.heath.st.a.fns = s.heath.st.a.fns ∧ (onlyHeath s t) ∧ sameHeath ((List.range
      8).map (fun n => Reg.HTH_OUT_STAT n) ++ [Reg.HTH_STAT, Reg.HTH_EVT]) s.heath t.heath) ∧
  (∀ (s : State) (p : Plane) (v w : Word), s.takes p Reg.CHIP_HTH_REQ v = some w → v = w → ∃ t, exec (.unlockRequest p v) s = .next t
      ∧ t.chip.rd Reg.CHIP_HTH_REQ = w ∧ onlyChip s t ∧ sameRegs [Reg.CHIP_HTH_REQ] s.chip t.chip)

/-- With Heath running and no third restart in its window: a lost heartbeat of a channel, a disagreement of 2 ms, a lockstep mismatch and an
oscillator out of range each restart Heath, flagged in CHIP.ESC, with every switch command open. A Heath telegram that channel B does not withhold
counts its SEQ and is queued with RUN as it stood; one withheld is flagged and counts nothing. The oldest frame of controller 7's ring leaves it, and
where it is a point telegram of a source that passes every check, gives the source's arrival, SEQ, TS and states on network B; an empty ring changes
nothing. A source enabled whose network has brought nothing for 10 ms is lost once, flagged. Metrology, memory, time and the queue stand. Under these
conditions alone each of heartbeatLost, channelDisagreement, lockstepMismatch, oscOutOfRange, heathTelegramSend, networkBTelegram and networkLost
answers a next state. -/
def Obligations.HeathNetworksAndFaults : Prop :=
  (∀ (s : State) (i : Fin 2), hthOn s = true → rgnThird s.env .heath s.chip = false → beatDue s.heath i = true → ∃ t, exec
      (.heartbeatLost i) s = .next t ∧ t.chip.rgn .heath = 1 ∧ t.heath.st.a.sw = 0 ∧ t.heath.st.b.sw = 0 ∧ t.chip.b Reg.CHIP_ESC (escBit
      .heath) = true ∧ t.met = s.met ∧ t.mem = s.mem ∧ t.env = s.env ∧ t.pending = s.pending) ∧
  (∀ (s : State), hthOn s = true → rgnThird s.env .heath s.chip = false → 9 ≤ s.heath.st.differ → ∃ t, exec .channelDisagreement s =
      .next t ∧ t.chip.rgn .heath = 1 ∧ t.heath.st.a.sw = 0 ∧ t.heath.st.b.sw = 0 ∧ t.chip.b Reg.CHIP_ESC (escBit .heath) = true ∧ t.met =
      s.met ∧ t.mem = s.mem ∧ t.env = s.env ∧ t.pending = s.pending) ∧
  (∀ (s : State), hthOn s = true → rgnThird s.env .heath s.chip = false → ∃ t, exec .lockstepMismatch s = .next t ∧ t.chip.rgn .heath
      = 1 ∧ t.heath.st.a.sw = 0 ∧ t.heath.st.b.sw = 0 ∧ t.chip.b Reg.CHIP_ESC (escBit .heath) = true ∧ t.met = s.met ∧ t.mem = s.mem ∧
      t.env = s.env ∧ t.pending = s.pending) ∧
  (∀ (s : State), hthOn s = true → rgnThird s.env .heath s.chip = false → ∃ t, exec .oscOutOfRange s = .next t ∧ t.chip.rgn .heath = 1
      ∧ t.heath.st.a.sw = 0 ∧ t.heath.st.b.sw = 0 ∧ t.chip.b Reg.CHIP_ESC (escBit .heath) = true ∧ t.met = s.met ∧ t.mem = s.mem ∧ t.env =
      s.env ∧ t.pending = s.pending) ∧
  (∀ (s : State), hthOn s = true → teleHeld s.heath = false → ∃ t, exec .heathTelegramSend s = .next t ∧ t.heath.rd Reg.SFN_TXSEQ =
      s.heath.rd Reg.SFN_TXSEQ + 1 ∧ t.heath.st.sentRun = s.heath.st.run ∧ t.heath.st.sentAge = 0 ∧ (onlyHeath s t) ∧ sameHeath
      [Reg.SFN_TXSEQ, Reg.CAN_SW_IDX 7] s.heath t.heath ∧ sameRegs [] s.chip t.chip) ∧
  (∀ (s : State), hthOn s = true → teleHeld s.heath = true → ∃ t, exec .heathTelegramSend s = .next t ∧ t.heath.b Reg.SFN_EVT 7 = true
      ∧ t.heath.sram = s.heath.sram ∧ (onlyHeath s t) ∧ sameHeath [Reg.SFN_EVT] s.heath t.heath ∧ sameRegs [] s.chip t.chip) ∧
  (∀ (s : State), hthOn s = true → s.heath.f (Reg.CAN_SW_IDX 7) 16 13 ≠ s.heath.f (Reg.CAN_HW_IDX 7) 16 13 → ∃ t, exec
      .networkBTelegram s = .next t ∧ t.heath.f (Reg.CAN_SW_IDX 7) 16 13 = (s.heath.f (Reg.CAN_SW_IDX 7) 16 13 + 1) % 8192 ∧ t.heath.sram
      = s.heath.sram ∧ (onlyHeath s t)) ∧
  (∀ (s : State), hthOn s = true → s.heath.f (Reg.CAN_SW_IDX 7) 16 13 = s.heath.f (Reg.CAN_HW_IDX 7) 16 13 → ∃ t, exec
      .networkBTelegram s = .next t ∧ t.heath = s.heath ∧ t.chip.regs = s.chip.regs ∧ (onlyHeath s t)) ∧
  (∀ (s : State) (i : Fin 32) (l : List Word), hthOn s = true → s.heath.f (Reg.CAN_SW_IDX 7) 16 13 ≠ s.heath.f (Reg.CAN_HW_IDX 7) 16
      13 → fget (memWord s.heath.sram (80 * (s.heath.f (Reg.CAN_SW_IDX 7) 16 13 % 4096) + 8)) 18 11 = 0x100 + i.val → l = (List.range
      (fget (memWord s.heath.sram (80 * (s.heath.f (Reg.CAN_SW_IDX 7) 16 13 % 4096) + 12)) 16 7 / 4)).map (fun k => memWord s.heath.sram
      (80 * (s.heath.f (Reg.CAN_SW_IDX 7) 16 13 % 4096) + 16 + 4 * k)) → teleCheck s.env s.heath 1 (some i.val) false l = 0 → fget (l.getD
      0 0) 28 4 = 1 → ∃ t, exec .networkBTelegram s = .next t ∧ (t.heath.net 1 i).at' = some s.env.time.up ∧ (t.heath.net 1 i).seq =
      (l.getD 1 0).toNat ∧ (t.heath.net 1 i).ts = (l.getD 2 0).toNat ∧ (t.heath.net 1 i).states = fget (l.getD 3 0) 0 16 ∧ (t.heath.net 1
      i).lost = false ∧ t.heath.b (Reg.SFN_SRC_STAT i) 30 = true) ∧
  (∀ (s : State) (i : Fin 32) (b : Bool), hthOn s = true → srcOn s.heath i = true → (s.heath.net (if b then 1 else 0) i).lost = false
      → netGone s.env (s.heath.net (if b then 1 else 0) i) = true → ∃ t, exec (.networkLost i b) s = .next t ∧ (t.heath.net (if b then 1
      else 0) i).lost = true ∧ t.heath.b (Reg.SFN_SRC_STAT i) (if b then 30 else 31) = false ∧ t.heath.b Reg.SFN_EVT 5 = true ∧
      t.heath.net (if b then 0 else 1) i = s.heath.net (if b then 0 else 1) i ∧ (onlyHeath s t) ∧ sameHeath [Reg.SFN_SRC_STAT i,
      Reg.SFN_EVT, Reg.SFN_CNT] s.heath t.heath)

/-- A write of SCC_CMD that passes its checks, with no request BUSY and Heath running, starts the request with its tag: ENTER with the enable high and
the CRC in force enters configuration mode with every output open; in the mode, a WRITE of one legal configuration word stages it, a COMMIT with the
CRC of what would stand and no failing check and no program puts the staged words and that CRC in force, an EXIT with the CRC in force ends the mode,
an ABORT discards what is staged, a PROG stages its words. The completion ends BUSY and shows the code and the tag. The enable going low with no
request running ends the mode, discarding what is staged. Metrology, memory, time and the queue stand, and of the Control region all but the request's
words and the log. Under these conditions alone each of sccEnter, sccWrite, sccCommit, sccExit, sccAbort, sccProg, sccRequestComplete and cfgEnLow
answers a next state. -/
def Obligations.SafetyConfiguration : Prop :=
  (∀ (s : State) (p : Plane) (tag : BitVec 16), s.takes p Reg.CHIP_SCC_CMD (word (1 * 2 ^ 28 + 0 * 2 ^ 24 + tag.toNat)) = some (word
      (1 * 2 ^ 28 + 0 * 2 ^ 24 + tag.toNat)) → hthOn s = true → s.chip.b Reg.CHIP_SCC_STAT 31 = false → s.chip.rd (Reg.CHIP_SCC_DATA 0) =
      s.heath.rd Reg.HTH_CFG_CRC → ∃ t, exec (.sccEnter p tag true) s = .next t ∧ t.chip.b Reg.CHIP_SCC_STAT 31 = true ∧ t.heath.st.req =
      some (1, tag.toNat, 0) ∧ hthCfg t.heath = true ∧ t.heath.st.a.sw = 0 ∧ t.heath.st.b.sw = 0 ∧ t.chip.b Reg.CHIP_SCC_STAT 30 = true ∧
      t.chip.b Reg.CHIP_SCC_STAT 29 = true ∧ onlyHeath s t ∧ sameRegs [Reg.CHIP_SCC_CMD, Reg.CHIP_SCC_STAT, Reg.CHIP_LOG_WR,
      Reg.CHIP_LOG_LOST] s.chip t.chip) ∧
  (∀ (s : State) (p : Plane) (tag : BitVec 16) (r : RegDesc), s.takes p Reg.CHIP_SCC_CMD (word (2 * 2 ^ 28 + 0 * 2 ^ 24 + tag.toNat))
      = some (word (2 * 2 ^ 28 + 0 * 2 ^ 24 + tag.toNat)) → hthOn s = true → s.chip.b Reg.CHIP_SCC_STAT 31 = false → hthCfg s.heath = true
      → s.chip.n Reg.CHIP_SCC_ADDR % 4 = 0 → hthCfgReg (s.chip.n Reg.CHIP_SCC_ADDR) = some r → s.chip.rd (Reg.CHIP_SCC_DATA 0) &&& word
      r.rsv = 0 → s.chip.n Reg.CHIP_SCC_ADDR ≠ Reg.SFN_CFG → ∃ t, exec (.sccWrite p 0 tag) s = .next t ∧ t.chip.b Reg.CHIP_SCC_STAT 31 =
      true ∧ t.heath.st.req = some (2, tag.toNat, 0) ∧ t.heath.st.staged.head? = some (s.chip.n Reg.CHIP_SCC_ADDR, s.chip.rd
      (Reg.CHIP_SCC_DATA 0) &&& word r.rw) ∧ sameHeath [] s.heath t.heath ∧ onlyHeath s t ∧ sameRegs [Reg.CHIP_SCC_CMD, Reg.CHIP_SCC_STAT,
      Reg.CHIP_LOG_WR, Reg.CHIP_LOG_LOST] s.chip t.chip) ∧
  (∀ (s : State) (p : Plane) (tag : BitVec 16), s.takes p Reg.CHIP_SCC_CMD (word (3 * 2 ^ 28 + 0 * 2 ^ 24 + tag.toNat)) = some (word
      (3 * 2 ^ 28 + 0 * 2 ^ 24 + tag.toNat)) → hthOn s = true → s.chip.b Reg.CHIP_SCC_STAT 31 = false → hthCfg s.heath = true → s.chip.rd
      (Reg.CHIP_SCC_DATA 0) = cfgCrc s.heath → s.heath.st.prog = [] → cfgFails s.env.part (cfgAfter s.heath) ++ canInUse s.heath (cfgAfter
      s.heath) = [] → ∃ t, exec (.sccCommit p tag none) s = .next t ∧ t.chip.b Reg.CHIP_SCC_STAT 31 = true ∧ t.heath.st.req = some (3,
      tag.toNat, 0) ∧ t.heath.rd Reg.HTH_CFG_CRC = cfgCrc s.heath ∧ t.heath.st.staged = [] ∧ hthCfg t.heath = true ∧ t.heath.b Reg.HTH_EVT
      5 = true ∧ onlyHeath s t ∧ sameRegs [Reg.CHIP_SCC_CMD, Reg.CHIP_SCC_STAT, Reg.CHIP_LOG_WR, Reg.CHIP_LOG_LOST] s.chip t.chip) ∧
  (∀ (s : State) (p : Plane) (tag : BitVec 16), s.takes p Reg.CHIP_SCC_CMD (word (4 * 2 ^ 28 + 0 * 2 ^ 24 + tag.toNat)) = some (word
      (4 * 2 ^ 28 + 0 * 2 ^ 24 + tag.toNat)) → hthOn s = true → s.chip.b Reg.CHIP_SCC_STAT 31 = false → hthCfg s.heath = true → s.chip.rd
      (Reg.CHIP_SCC_DATA 0) = s.heath.rd Reg.HTH_CFG_CRC → ∃ t, exec (.sccExit p tag) s = .next t ∧ t.chip.b Reg.CHIP_SCC_STAT 31 = true ∧
      t.heath.st.req = some (4, tag.toNat, 0) ∧ hthCfg t.heath = false ∧ t.chip.b Reg.CHIP_SCC_STAT 30 = false ∧ t.heath.st.staged = [] ∧
      t.heath.b Reg.HTH_EVT 5 = true ∧ onlyHeath s t ∧ sameRegs [Reg.CHIP_SCC_CMD, Reg.CHIP_SCC_STAT, Reg.CHIP_LOG_WR, Reg.CHIP_LOG_LOST]
      s.chip t.chip) ∧
  (∀ (s : State) (p : Plane) (tag : BitVec 16), s.takes p Reg.CHIP_SCC_CMD (word (5 * 2 ^ 28 + 0 * 2 ^ 24 + tag.toNat)) = some (word
      (5 * 2 ^ 28 + 0 * 2 ^ 24 + tag.toNat)) → hthOn s = true → s.chip.b Reg.CHIP_SCC_STAT 31 = false → hthCfg s.heath = true → ∃ t, exec
      (.sccAbort p tag) s = .next t ∧ t.chip.b Reg.CHIP_SCC_STAT 31 = true ∧ t.heath.st.req = some (5, tag.toNat, 0) ∧ hthCfg t.heath =
      true ∧ t.heath.st.staged = [] ∧ t.heath.st.prog = [] ∧ sameHeath [] s.heath t.heath ∧ onlyHeath s t ∧ sameRegs [Reg.CHIP_SCC_CMD,
      Reg.CHIP_SCC_STAT, Reg.CHIP_LOG_WR, Reg.CHIP_LOG_LOST] s.chip t.chip) ∧
  (∀ (s : State) (p : Plane) (n : Fin 16) (tag : BitVec 16) (k : Nat), s.takes p Reg.CHIP_SCC_CMD (word (6 * 2 ^ 28 + n.val * 2 ^ 24 +
      tag.toNat)) = some (word (6 * 2 ^ 28 + n.val * 2 ^ 24 + tag.toNat)) → hthOn s = true → s.chip.b Reg.CHIP_SCC_STAT 31 = false →
      hthCfg s.heath = true → s.chip.n Reg.CHIP_SCC_ADDR + n.val + 1 ≤ 65536 → k ≤ n.val → ∃ t, exec (.sccProg p n tag) s = .next t ∧
      t.chip.b Reg.CHIP_SCC_STAT 31 = true ∧ t.heath.st.req = some (6, tag.toNat, 0) ∧ (s.chip.n Reg.CHIP_SCC_ADDR + k, s.chip.rd
      (Reg.CHIP_SCC_DATA k)) ∈ t.heath.st.prog ∧ t.heath.st.staged = s.heath.st.staged ∧ sameHeath [] s.heath t.heath ∧ onlyHeath s t ∧
      sameRegs [Reg.CHIP_SCC_CMD, Reg.CHIP_SCC_STAT, Reg.CHIP_LOG_WR, Reg.CHIP_LOG_LOST] s.chip t.chip) ∧
  (∀ (s : State) (op tag code : Nat), s.heath.st.req = some (op, tag, code) → s.heath.st.ending = false → ∃ t, exec
      .sccRequestComplete s = .next t ∧ t.heath.st.req = none ∧ t.chip.b Reg.CHIP_SCC_STAT 31 = false ∧ t.chip.f Reg.CHIP_SCC_STAT 24 4 =
      code % 16 ∧ t.chip.f Reg.CHIP_SCC_STAT 0 16 = tag % 65536 ∧ onlyHeath s t ∧ sameHeath [] s.heath t.heath ∧ sameRegs
      [Reg.CHIP_SCC_STAT] s.chip t.chip) ∧
  (∀ (s : State), hthOn s = true → hthCfg s.heath = true → s.heath.st.req = none → ∃ t, exec .cfgEnLow s = .next t ∧ hthCfg t.heath =
      false ∧ t.chip.b Reg.CHIP_SCC_STAT 29 = false ∧ t.chip.b Reg.CHIP_SCC_STAT 30 = false ∧ t.heath.st.staged = [] ∧ t.heath.st.prog =
      [] ∧ onlyHeath s t ∧ sameRegs [Reg.CHIP_SCC_STAT, Reg.CHIP_LOG_WR, Reg.CHIP_LOG_LOST] s.chip t.chip)

/-- A new level of the partner line is taken. On a SOLO chip nothing else follows. The partner line rising, a standby that does not pull its own pulls
it low; the partner line falling preempts an owner without the strap, which releases its line, closes its gate and becomes JOINING. A claim that has
held both lines for 64 cycles owns the Quoin: its gate opens, the takeover is flagged, and a standby or a joining chip, no swap in hand, is ACTIVE. A
claim whose line never rose makes the standby JOINING. A line free for COLD x 10 ms is claimed cold. REJOIN restarts the Control region of a joining
or barred chip. A due swap release lets the line go and closes the gate. Heath, Metrology, time and the queue stand but for a restart. Under these
conditions alone each of quoinBChange, quoinOwn, claimDeadline, coldClaim, qnRejoin and swapRelease answers a next state. -/
def Obligations.QuoinAndRoles : Prop :=
  (∀ (s : State) (b : Bool), s.chip.ctl = true → s.chip.role = 0 → s.chip.pwr.quoinB ≠ b → ∃ t, exec (.quoinBChange b) s = .next t ∧
      t.chip.pwr.quoinB = b ∧ t.chip.partnerLow = b ∧ t.chip.pair = s.chip.pair ∧ t.chip.gate = s.chip.gate ∧ t.mem = s.mem ∧ t.heath =
      s.heath ∧ t.met = s.met ∧ t.env = s.env ∧ t.pending = s.pending ∧ sameRegs [Reg.QN_STAT] s.chip t.chip) ∧
  (∀ (s : State), s.chip.ctl = true → s.chip.svc = true → s.chip.role = 2 → s.chip.pwr.quoinB = true → s.chip.pair.low = false → ∃ t,
      exec (.quoinBChange false) s = .next t ∧ t.chip.pair.low = true ∧ t.chip.pair.bothAt = some s.env.time.up ∧ t.chip.partnerLow =
      false ∧ t.chip.pair.wait = none ∧ t.chip.role = 2 ∧ t.mem = s.mem ∧ t.heath = s.heath ∧ t.met = s.met ∧ t.env = s.env ∧ t.pending =
      s.pending) ∧
  (∀ (s : State), s.chip.ctl = true → s.chip.role = 1 → s.chip.pwr.quoinB = false → s.chip.pair.low = true → s.chip.gate = true →
      s.chip.pri = false → ∃ t, exec (.quoinBChange true) s = .next t ∧ t.chip.pair.low = false ∧ t.chip.gate = false ∧ t.chip.role = 3 ∧
      t.chip.b Reg.QN_EVT 3 = true ∧ t.heath = s.heath ∧ t.met = s.met ∧ t.env = s.env ∧ t.pending = s.pending) ∧
  (∀ (s : State), ownDue s.env s.chip = true → swapTake s.env s.chip = false → ∃ t, exec .quoinOwn s = .next t ∧ t.chip.role = 1 ∧
      t.chip.gate = true ∧ t.chip.b Reg.QN_EVT 1 = true ∧ t.chip.pair.ownedAt = some s.env.time.frameNo.toNat ∧ t.chip.pair.bothAt = none
      ∧ t.heath = s.heath ∧ t.met = s.met ∧ t.env = s.env ∧ t.pending = s.pending) ∧
  (∀ (s : State), s.chip.ctl = true → s.chip.role = 2 → s.chip.pair.wait = some 0 → ∃ t, exec .claimDeadline s = .next t ∧ t.chip.role
      = 3 ∧ t.chip.pair.wait = none ∧ t.chip.gate = s.chip.gate ∧ t.heath = s.heath ∧ t.met = s.met ∧ t.env = s.env ∧ t.pending =
      s.pending) ∧
  (∀ (s : State), coldDue s.env s.chip = true → ∃ t, exec .coldClaim s = .next t ∧ t.chip.pair.low = true ∧ t.chip.pair.bothAt = some
      s.env.time.up ∧ t.chip.pair.cause = 0xA ∧ t.chip.role = 3 ∧ t.mem = s.mem ∧ t.heath = s.heath ∧ t.met = s.met ∧ t.env = s.env ∧
      t.pending = s.pending ∧ sameRegs [] s.chip t.chip) ∧
  (∀ (s : State) (p : Plane) (v : Word), s.chip.ctl = true → s.takes p Reg.QN_CTRL v = some v → fbit v 0 = true → s.chip.role = 3 ∨
      s.chip.role = 4 → rgnThird s.env .control s.chip = false → ∃ t, exec (.qnRejoin p v) s = .next t ∧ t.chip.rgn .control = 1 ∧
      t.chip.b Reg.CHIP_ESC (escBit .control) = true ∧ t.met.regs = s.met.regs ∧ t.env.part = s.env.part ∧ t.pending = s.pending) ∧
  (∀ (s : State), swapDue s.env s.chip = true → ∃ t, exec .swapRelease s = .next t ∧ t.chip.pair.low = false ∧ t.chip.gate = false ∧
      t.chip.pair.swapping = true ∧ t.chip.role = 1 ∧ t.heath = s.heath ∧ t.met = s.met ∧ t.pending = s.pending)

/-- With both comparison sets of a frame that takes part and no swap in it: equal sets end the run of mismatches and make the frame equal; unequal
ones flag and count a mismatch and show the ports. A due self-test runs once, with the parts that failed and its result; its outcome at M + 2,000 bars
the chip that alone failed, which releases its line and closes its gate, and changes no role where the partner has answered nothing. The 64th mismatch
in a row leaves the active ACTIVE and makes the standby JOINING from step 4, or BARRED within 60 s of the last. A joining step that is done leads to
the next, the last to STANDBY. Heath, Metrology, time and the queue stand. Under these conditions alone each of outputComparison, selftest,
selftestOutcome, divergence and joinStepDone answers a next state. -/
def Obligations.OutputComparison : Prop :=
  (∀ (s : State) (a b : CmpSet), cmpDue s.env s.chip = true → s.chip.pair.mine = some a → s.chip.pair.theirs = some b → cmpTakes
      s.chip = true → swapHere s.env s.chip = false → a = b → ∃ t, exec .outputComparison s = .next t ∧ t.chip.pair.equal = true ∧
      t.chip.f Reg.QN_STAT 8 8 = 0 ∧ t.chip.b Reg.MIR_STAT 24 = true ∧ t.chip.rd Reg.MIR_CMP = 0 ∧ t.chip.pair.theirs = none ∧ onlyChip s
      t ∧ sameRegs [Reg.QN_STAT, Reg.MIR_CMP, Reg.MIR_CMP_X, Reg.MIR_STAT] s.chip t.chip) ∧
  (∀ (s : State) (a b : CmpSet), cmpDue s.env s.chip = true → s.chip.pair.mine = some a → s.chip.pair.theirs = some b → cmpTakes
      s.chip = true → swapHere s.env s.chip = false → a ≠ b → ∃ t, exec .outputComparison s = .next t ∧ t.chip.b Reg.QN_EVT 6 = true ∧
      t.chip.f Reg.QN_STAT 8 8 = min (s.chip.f Reg.QN_STAT 8 8 + 1) 255 ∧ t.chip.b Reg.MIR_STAT 24 = false ∧ t.chip.rd Reg.MIR_CMP = word
      (cmpPorts a b) ∧ t.chip.pair.equal = s.chip.pair.equal ∧ t.chip.pair.theirs = none ∧ onlyChip s t ∧ sameRegs [Reg.QN_STAT,
      Reg.QN_EVT, Reg.MIR_CNT, Reg.MIR_CMP, Reg.MIR_CMP_X, Reg.MIR_STAT] s.chip t.chip) ∧
  (∀ (s : State) (parts : BitVec 5), testDue s.env s.chip = true → ∃ t, exec (.selftest parts) s = .next t ∧ t.chip.pair.tested = true
      ∧ t.chip.pair.testing = true ∧ t.chip.f Reg.QN_ST_RES 30 2 = (if parts = 0 then 1 else 2) ∧ t.chip.f Reg.QN_ST_RES 8 5 = parts.toNat
      ∧ t.chip.f Reg.QN_ST_RES 28 2 = 0 ∧ t.chip.f Reg.QN_CNT 8 8 = min (s.chip.f Reg.QN_CNT 8 8 + 1) 255 ∧ onlyChip s t ∧ sameRegs
      [Reg.QN_ST_RES, Reg.QN_CNT] s.chip t.chip) ∧
  (∀ (s : State), s.chip.ctl = true → s.chip.pair.testing = true → s.chip.role = 1 ∨ s.chip.role = 2 → s.chip.cuts.mirror + 2000 ≤
      s.env.time.offset → s.chip.f Reg.QN_ST_RES 30 2 = 2 → s.chip.f Reg.QN_ST_RES 28 2 = 1 → ∃ t, exec .selftestOutcome s = .next t ∧
      t.chip.role = 4 ∧ t.chip.gate = false ∧ t.chip.pair.low = false ∧ t.chip.pair.testing = false ∧ t.chip.b Reg.QN_EVT 7 = true ∧
      t.heath = s.heath ∧ t.met = s.met ∧ t.env = s.env ∧ t.pending = s.pending) ∧
  (∀ (s : State), s.chip.ctl = true → s.chip.pair.testing = true → s.chip.role = 1 ∨ s.chip.role = 2 → s.chip.cuts.mirror + 2000 ≤
      s.env.time.offset → s.chip.f Reg.QN_ST_RES 28 2 = 0 → ∃ t, exec .selftestOutcome s = .next t ∧ t.chip.pair.testing = false ∧
      t.chip.role = s.chip.role ∧ onlyChip s t ∧ sameRegs [] s.chip t.chip) ∧
  (∀ (s : State), divergeDue s.chip = true → ∃ t, exec .divergence s = .next t ∧ t.chip.role = (if s.chip.role = 1 then 1 else if
      ((s.chip.pair.diverged.map (fun t => decide (s.env.time.up < t + 60 * cyclesPerSec))).getD false) = true then 4 else 3) ∧ t.chip.b
      Reg.QN_EVT 8 = true ∧ t.chip.f Reg.QN_STAT 8 8 = 0 ∧ t.chip.pair.diverged = some s.env.time.up ∧ (t.chip.role = 3 → t.chip.f
      Reg.QN_STAT 0 4 = 4) ∧ t.heath = s.heath ∧ t.met = s.met ∧ t.env = s.env ∧ t.pending = s.pending) ∧
  (∀ (s : State), s.chip.ctl = true → s.chip.role = 3 → joinStep s.chip = 1 ∨ joinStep s.chip = 2 ∨ joinStep s.chip = 3 ∨ joinStep
      s.chip = 6 → joinDone s.chip none = true → ∃ t, exec (.joinStepDone none) s = .next t ∧ joinStep t.chip = joinStep s.chip + 1 ∧
      t.chip.role = 3 ∧ onlyChip s t ∧ sameRegs [Reg.QN_STAT, Reg.CHIP_LOG_WR] s.chip t.chip) ∧
  (∀ (s : State), s.chip.ctl = true → s.chip.role = 3 → joinStep s.chip = 7 → ∃ t, exec (.joinStepDone none) s = .next t ∧ t.chip.role
      = 2 ∧ t.heath = s.heath ∧ t.met = s.met ∧ t.env = s.env ∧ t.pending = s.pending)

/-- A link of a pair chip that fails shows training with no lane, is counted and flagged, and forgets its partner's HELLO and its alignment; a HELLO
with three lanes or four brings it up, with what it must agree on judged and the partner's CRC shown. A BOUNDARY item that a follower heeds shows its
error, counts the boundaries in line, and pulls the frame in progress, or, where the follower's boundary is still to come, the frame that it opens.
Sixteen in line align the follower's frame number and site time to the active's. An image that a shadow has in time is its input image. A port that
has differed, or agreed again, for 16 frames has its bit changed, logged. On the mirror link itself (links 32 and 33): a lane in service that loses
its signal, or its lock, leaves a link of four lanes up on three, and takes one of three down, as a lost clock does; a signal that is back clears its
bit; an excluded lane that has held lock for 65,536 slots makes it four again, and one that has not stays out; a block that no receiver takes is
counted for its lane. Heath, Metrology, memory and the queue stand. Under these conditions alone each of mirrorLinkDown, hello, boundaryItem, aligned,
imageItem, inDiff and, on the mirror link, dataLos, dataLol, clockLos, clockLol, laneRejoin and codeErr answers a next state. -/
def Obligations.MirrorLink : Prop :=
  (∀ (s : State), mirHeeds s.chip = true → ∃ t, exec .mirrorLinkDown s = .next t ∧ t.chip.f Reg.MIR_STAT 29 3 = 2 ∧ mirUp t.chip =
      false ∧ t.chip.b Reg.QN_EVT 14 = true ∧ t.chip.b Reg.MIR_STAT 28 = false ∧ t.chip.pair.helloOk = false ∧ t.chip.pair.inLine = 0 ∧
      t.chip.pair.next = none ∧ (List.range 4).all (fun k => !t.chip.b (Reg.MIR_LANE k) 31) = true ∧ t.chip.role = s.chip.role ∧ onlyChip
      s t) ∧
  (∀ (s : State) (h : MirHello), s.chip.ctl = true → s.chip.role ≠ 0 → mirUp s.chip = false → 3 ≤ ((List.range 4).filter (fun k =>
      h.lanes.getLsbD k)).length → ∃ t, exec (.hello h) s = .next t ∧ t.chip.f Reg.MIR_STAT 29 3 = (if ((List.range 4).filter (fun k =>
      h.lanes.getLsbD k)).length = 4 then 3 else 4) ∧ t.chip.rd Reg.QN_PCFG_CRC = h.cfgCrc ∧ (t.chip.pair.helloOk = (h.variant ==
      variantWord s.env.part.variant && h.size == sizeWord s.env.part.variant && h.layout == 1 && h.pri != s.chip.pri && h.mode)) ∧ (∀ k :
      Fin 4, t.chip.b (Reg.MIR_LANE k) 31 = h.lanes.getLsbD k ∧ t.chip.f (Reg.MIR_LANE k) 0 8 = 0) ∧ onlyChip s t) ∧
  (∀ (s : State) (frame : BitVec 48) (site : BitVec 64) (rtt : Nat), mirFollows s.chip = true → (bndError s.env.time rtt).2 = true → ∃
      t, exec (.boundaryItem frame site rtt) s = .next t ∧ t.chip.pair.bnd = some (frame.toNat, site.toNat, (bndError s.env.time rtt).1) ∧
      t.chip.pair.bndPull = some (pullOf (-(bndError s.env.time rtt).1)) ∧ t.chip.f Reg.MIR_STAT 0 16 = ((bndError s.env.time rtt).1 %
      65536).toNat ∧ onlyChip s t ∧ sameRegs [Reg.MIR_STAT] s.chip t.chip) ∧
  (∀ (s : State) (frame : BitVec 48) (site : BitVec 64) (rtt : Nat), mirFollows s.chip = true → (bndError s.env.time rtt).2 = false →
      ∃ t, exec (.boundaryItem frame site rtt) s = .next t ∧ t.chip.pair.bnd = some (frame.toNat, site.toNat, (bndError s.env.time rtt).1)
      ∧ t.env.time.len = ((s.env.time.len : Int) + pullOf (-(bndError s.env.time rtt).1)).toNat ∧ t.env.time.offset = s.env.time.offset ∧
      t.chip.pair.inLine = (if -4 ≤ (bndError s.env.time rtt).1 ∧ (bndError s.env.time rtt).1 ≤ 4 then s.chip.pair.inLine + 1 else 0) ∧
      t.heath = s.heath ∧ t.met = s.met ∧ t.mem = s.mem ∧ t.pending = s.pending ∧ sameRegs [Reg.MIR_STAT, Reg.FRM_LEN, Reg.FRM_SYNC_PHASE]
      s.chip t.chip) ∧
  (∀ (s : State) (b : Nat × Nat × Int), alignDue s.chip = true → s.chip.pair.bnd = some b → s.chip.pair.bndPull = none → ∃ t, exec
      .aligned s = .next t ∧ t.env.time.frameNo = BitVec.ofNat 48 b.1 ∧ t.env.time.bndTime = BitVec.ofNat 64 b.2.1 ∧ t.env.time.offset =
      s.env.time.offset ∧ t.env.time.up = s.env.time.up ∧ t.chip.b Reg.MIR_STAT 28 = true ∧ t.heath = s.heath ∧ t.met = s.met ∧ t.mem =
      s.mem ∧ t.pending = s.pending) ∧
  (∀ (s : State) (x : MirImage), mirFollows s.chip = true → mirShadows s.chip = true → s.env.time.offset < s.chip.cuts.solve →
      s.chip.pair.imgGot = false → ∃ t, exec (.imageItem x) s = .next t ∧ t.chip.img = x.img ∧ t.chip.pair.imgGot = true ∧ t.chip.role =
      s.chip.role ∧ onlyChip s t) ∧
  (∀ (s : State) (n : Fin 32), inDiffDue s.chip n = true → ∃ t, exec (.inDiff n) s = .next t ∧ t.chip.b Reg.MIR_IN_DIFF n = !s.chip.b
      Reg.MIR_IN_DIFF n ∧ logged s.chip t.chip ⟨s.env.time.stamp, srcWord 0x17 0 3, word ((if s.chip.b Reg.MIR_IN_DIFF n then 0 else 2 ^
      31) + n.val)⟩ ∧ onlyChip s t ∧ sameRegs [Reg.MIR_IN_DIFF, Reg.CHIP_LOG_WR] s.chip t.chip) ∧
  (∀ (s : State) (n : Fin 34) (k : Fin 2) (j : Nat) (m : LineMon), 32 ≤ n.val → mirLaneNo n k = j → m.back = false → mirRuns s.chip = true →
      s.chip.f Reg.MIR_STAT 29 3 = 3 → mirIn s.chip = 4 → (s.chip.phyOf 32).rejoin.all (fun x => x.1 != s.env.time.up) = true → ∃ t, exec
      (.dataLos n k m) s = .next t ∧ t.chip.f Reg.MIR_STAT 29 3 = 4 ∧ t.chip.b (Reg.MIR_LANE j) 31 = false ∧ t.chip.b (Reg.MIR_LANE j) 30 =
      true ∧ onlyChip s t ∧ sameRegs [Reg.MIR_STAT, Reg.MIR_LANE j, Reg.CHIP_LOG_WR] s.chip t.chip) ∧
  (∀ (s : State) (n : Fin 34) (k : Fin 2) (j : Nat) (m : LineMon), 32 ≤ n.val → mirLaneNo n k = j → m.back = false → mirRuns s.chip = true →
      mirUp s.chip = true → mirIn s.chip = 3 → s.chip.b (Reg.MIR_LANE j) 31 = true → ∃ t, exec (.dataLos n k m) s = .next t ∧ t.chip.f
      Reg.MIR_STAT 29 3 = 2 ∧ t.chip.b Reg.QN_EVT 14 = true ∧ mirIn t.chip = 0 ∧ onlyChip s t) ∧
  (∀ (s : State) (n : Fin 34) (k : Fin 2) (j : Nat) (m : LineMon), 32 ≤ n.val → mirLaneNo n k = j → m.back = false → mirRuns s.chip = true →
      s.chip.f Reg.MIR_STAT 29 3 = 3 → mirIn s.chip = 4 → (s.chip.phyOf 32).rejoin.all (fun x => x.1 != s.env.time.up) = true → s.chip.b
      (Reg.MIR_LANE j) 29 = false → lockGone s.env ((s.chip.phyOf n).lane k) = true → ∃ t, exec (.dataLol n k m) s = .next t ∧ t.chip.f
      Reg.MIR_STAT 29 3 = 4 ∧ t.chip.b (Reg.MIR_LANE j) 31 = false ∧ t.chip.b (Reg.MIR_LANE j) 29 = true ∧ onlyChip s t ∧ sameRegs
      [Reg.MIR_STAT, Reg.MIR_LANE j, Reg.CHIP_LOG_WR] s.chip t.chip) ∧
  (∀ (s : State) (n : Fin 34) (m : LineMon), 32 ≤ n.val → m.back = false → mirRuns s.chip = true → mirUp s.chip = true → ∃ t, exec
      (.clockLos n m) s = .next t ∧ exec (.clockLol n m) s = .next t ∧ t.chip.f Reg.MIR_STAT 29 3 = 2 ∧ t.chip.b Reg.QN_EVT 14 = true ∧
      mirIn t.chip = 0 ∧ onlyChip s t) ∧
  (∀ (s : State) (n : Fin 34) (x : LaneEye) (j : Nat), 32 ≤ n.val → mirLaneNo n x.lane = j → mirRejoinDue s.env s.chip n x = true → mirIn
      s.chip = 3 → ∃ t, exec (.laneRejoin n x) s = .next t ∧ t.chip.f Reg.MIR_STAT 29 3 = 3 ∧ t.chip.b (Reg.MIR_LANE j) 31 = true ∧ t.chip.f
      (Reg.MIR_LANE j) 8 16 = x.h.toNat * 256 + x.w.toNat ∧ onlyChip s t ∧ sameRegs [Reg.MIR_STAT, Reg.MIR_LANE j, Reg.CHIP_LOG_WR] s.chip
      t.chip) ∧
  (∀ (s : State) (n : Fin 34) (x : LaneEye), 32 ≤ n.val → mirRejoinDue s.env s.chip n x = false → exec (.laneRejoin n x) s = .next s) ∧
  (∀ (s : State) (b : BadBlock) (j : Nat), 32 ≤ b.port.val → mirLaneNo b.port b.lane = j → b.blk.kind = .bad → mirRuns s.chip = true → ∃ t,
      exec (.codeErr b) s = .next t ∧ t.chip.f (Reg.MIR_LANE j) 0 8 = min 255 (s.chip.f (Reg.MIR_LANE j) 0 8 + 1) ∧ onlyChip s t ∧ sameRegs
      [Reg.MIR_LANE j] s.chip t.chip) ∧
  (∀ (s : State) (n : Fin 34) (k : Fin 2) (j : Nat) (m : LineMon), 32 ≤ n.val → mirLaneNo n k = j → m.back = true → mirRuns s.chip = true →
      s.chip.b (Reg.MIR_LANE j) 30 = true → tget (fun _ => 0) (s.chip.phyOf n).monAt (17 + 2 * k) + 2000 ≤ s.env.time.up → ∃ t, exec
      (.dataLos n k m) s = .next t ∧ t.chip.b (Reg.MIR_LANE j) 30 = false ∧ t.chip.b (Reg.MIR_LANE j) 31 = s.chip.b (Reg.MIR_LANE j) 31 ∧
      onlyChip s t ∧ sameRegs [Reg.MIR_LANE j] s.chip t.chip)

/-- On a pair chip whose link is up: a heartbeat shows the partner's health and is kept for the frame; changes of fences, marks and shutdowns wait for
the boundary; the partner's comparison set is kept; a word that a scrub awaits is supplied. On a standby or joining chip besides: the mirrored state
as it stands is kept, with the stream's volume shown; a forwarded slot opens with its plane and tag, an entry in its place joins its list, one out of
place marks a gap; a checkpoint of a session of its own image's format level is the newest of its outlet, and acknowledged; a CLOSE of this frame, by
its Mirror/Impose start, closes it. On an active chip a checkpoint written goes out and counts, an acknowledgement counts, and no transmit frame is
passed on before the checkpoints that its queueing found written are acknowledged. A key slot's copy fills it where it authenticates under the link's
key. Nothing else changes: Heath, Metrology, memory, time and the queue stand. Under these conditions alone each of hbItem, stateItem, fenceItem,
galleyItem, sessionItem, closeItem, cmpItem and scrubItem answers a next state. -/
def Obligations.MirrorItems : Prop :=
  (∀ (s : State) (health : Word) (parts : BitVec 5), mirHeeds s.chip = true → ∃ t, exec (.hbItem health parts) s = .next t ∧
      t.chip.pair.hbGot = true ∧ t.chip.rd Reg.QN_PARTNER = (health &&& 0xFFFF00FF) ||| 0x8000 ∧ t.chip.role = s.chip.role ∧ onlyChip s t
      ∧ sameRegs [Reg.QN_PARTNER, Reg.QN_ST_RES] s.chip t.chip) ∧
  (∀ (s : State) (m : CtlCopy) (units : Nat), mirFollows s.chip = true → ∃ t, exec (.stateItem m units) s = .next t ∧ t.chip.pair.next
      = some m ∧ t.chip.f Reg.MIR_LOAD 0 16 = min 1536 units ∧ t.chip.f Reg.MIR_LOAD 16 16 = max (min 1536 units) (s.chip.f Reg.MIR_LOAD
      16 16) ∧ onlyChip s t ∧ sameRegs [Reg.MIR_LOAD] s.chip t.chip) ∧
  (∀ (s : State) (f : List (Nat × Nat × Bool)) (m : List (Nat × Word)) (u : List (Nat × Bool)), mirHeeds s.chip = true → ∃ t, exec
      (.fenceItem f m u) s = .next t ∧ t.chip.pair.fences = s.chip.pair.fences ++ f ∧ t.chip.pair.marks = s.chip.pair.marks ++ m ∧
      t.chip.pair.shuts = s.chip.pair.shuts ++ u ∧ onlyChip s t ∧ sameRegs [] s.chip t.chip) ∧
  (∀ (s : State) (k : Fin 4) (p : Plane) (tag : BitVec 16), mirFollows s.chip = true → k ≠ 2 → ∃ t, exec (.galleyItem (.opened k p
      tag)) s = .next t ∧ t.chip.slotState k = 1 ∧ t.chip.f (Reg.GAL_STATE k) 0 16 = tag.toNat ∧ t.chip.f (Reg.GAL_FAIL_INFO k) 29 3 =
      planeCode p ∧ t.chip.rd (Reg.GAL_LIST k) = 0 ∧ (t.chip.slot k).list = [] ∧ onlyChip s t) ∧
  (∀ (s : State) (k : Fin 4) (place a : Nat) (v : Word), mirFollows s.chip = true → k ≠ 2 → (s.chip.slot k).list.length ≠ place → ∃ t,
      exec (.galleyItem (.entry k place a v)) s = .next t ∧ t.chip.gal.gap = true ∧ (t.chip.slot k).list = (s.chip.slot k).list ∧ onlyChip
      s t ∧ sameRegs [] s.chip t.chip) ∧
  (∀ (s : State) (k : Fin 4) (place a : Nat) (v : Word), mirFollows s.chip = true → k ≠ 2 → (s.chip.slot k).list.length = place →
      place < 4096 → s.chip.slotState k ≠ 2 → ∃ t, exec (.galleyItem (.entry k place a v)) s = .next t ∧ (t.chip.slot k).list =
      (s.chip.slot k).list ++ [(a, v)] ∧ t.chip.f (Reg.GAL_LIST k) 0 13 = place + 1 ∧ t.chip.gal.gap = s.chip.gal.gap ∧ onlyChip s t) ∧
  (∀ (s : State) (o : Fin 64) (b : List Byte) (level : BitVec 8) (sync : Bool), mirFollows s.chip = true → s.chip.svc = true → level =
      ckptLevel s.chip → ∃ t, exec (.sessionItem o (.checkpoint b level) sync) s = .next t ∧ t.chip.pair.ckpts.head? = some (o.val, b) ∧
      t.chip.b Reg.QN_STAT 23 = sync ∧ t.chip.pair.sesOut = s.chip.pair.sesOut ++ [(o.val, .acked)] ∧ onlyChip s t ∧ sameRegs [Reg.QN_STAT]
      s.chip t.chip) ∧ (∀ (s : State) (o : Fin 64) (b : List Byte) (sync : Bool), mirHeeds s.chip = true → s.chip.role = 1 → s.chip.svc =
      true → ∃ t, exec (.sessionItem o (.written b) sync) s = .next t ∧ t.chip.pair.written = s.chip.pair.written + 1 ∧ t.chip.pair.acked =
      s.chip.pair.acked ∧ t.chip.pair.sesOut = s.chip.pair.sesOut ++ [(o.val, .checkpoint b (ckptLevel s.chip))] ∧ onlyChip s t ∧ sameRegs
      [] s.chip t.chip) ∧ (∀ (s : State) (o : Fin 64) (sync : Bool), mirHeeds s.chip = true → s.chip.role = 1 → s.chip.pair.acked <
      s.chip.pair.written → ∃ t, exec (.sessionItem o .acked sync) s = .next t ∧ t.chip.pair.acked = s.chip.pair.acked + 1 ∧ onlyChip s t ∧
      sameRegs [] s.chip t.chip) ∧ (∀ (s : State) (o : Fin 64) (n : Fin 256) (v : BitVec 256) (ok sync : Bool), mirHeeds s.chip = true →
      s.chip.pair.keyed = true → ∃ t, exec (.sessionItem o (.key n v ok) sync) s = .next t ∧ t.chip.cry.slot n = (if ok then v else
      s.chip.cry.slot n) ∧ (∀ j, j ≠ n.val → t.chip.cry.slot j = s.chip.cry.slot j) ∧ onlyChip s t ∧ sameRegs [] s.chip t.chip) ∧ (∀ (c :
      Chip) (n : Nat) (q : Nat × Nat × Nat), tunNext c n = some q → tget (fun _ => 0) (c.sesOf q.2.1).ckpt q.2.2 ≤ c.pair.acked) ∧
  (∀ (s : State) (frame : BitVec 48), mirFollows s.chip = true → frame = s.env.time.frameNo → s.env.time.offset ≤ s.chip.cuts.mirror →
      ∃ t, exec (.closeItem frame) s = .next t ∧ t.chip.pair.closed = true ∧ onlyChip s t ∧ sameRegs [] s.chip t.chip) ∧
  (∀ (s : State) (x : CmpSet), mirHeeds s.chip = true → ∃ t, exec (.cmpItem x) s = .next t ∧ t.chip.pair.theirs = some x ∧ onlyChip s
      t ∧ sameRegs [] s.chip t.chip) ∧
  (∀ (s : State) (a : Nat) (v : Word) (r : Replay), mirHeeds s.chip = true → tget (fun _ => ({} : Replay)) s.chip.flt.replays a = r →
      r.scrub = true → ∃ t, exec (.scrubItem a v) s = .next t ∧ tget (fun _ => ({} : Replay)) t.chip.flt.replays a =
      { r with supplied := some v } ∧ onlyChip s t ∧ sameRegs [] s.chip t.chip)

/-- On a controller on its bus, 0 to 6 or 7, a valid frame that it keeps: with room in the ring, the 80 bytes of the entry at RX_WR hold the time, the
identifier, the flags with DLC, LEN and SEQ, and the data with zeros after it; RX_WR, SEQ and the count advance, RX is flagged, every other byte of
memory stands. With a full ring nothing is written, the loss is counted and SEQ advances. An entry that meets a parity error is counted lost.
Controller 7 discards an identifier outside R554 with its flag and count. Nothing else of the machine changes but the error counters and state. Under
these conditions alone canFrameReceived answers a next state. -/
def Obligations.CanReception : Prop :=
  (∀ (s : State) (c : Fin 8) (x : CanRx), s.canRuns c → canEn c (s.can c) = true → canActive c (s.can c) = true → (c.val = 7 → canSafeId x =
      true) → x.parity = false → (canRxWr c (s.can c) + 8192 - canRxRd c (s.can c)) % 8192 ≠ 4096 → ∃ t, exec (.canFrameReceived c x) s =
      .next t ∧ canRxWr c (t.can c) = (canRxWr c (s.can c) + 1) % 8192 ∧ (t.can c).b (Reg.CAN_EVT c) 0 = true ∧ (t.can c).st.seq = ((s.can
      c).st.seq + 1) % 65536 ∧ (t.can c).st.run = 0 ∧ (t.can c).f (Reg.CAN_CNT c) 16 16 = min 65535 ((s.can c).f (Reg.CAN_CNT c) 16 16 + 1)
      ∧ memWord (t.can c).mem ((s.can c).base + 80 * (canRxWr c (s.can c) % 4096)) = x.ts.setWidth 32 ∧ memWord (t.can c).mem ((s.can
      c).base + 80 * (canRxWr c (s.can c) % 4096) + 4) = (x.ts >>> 32).setWidth 32 ∧ memWord (t.can c).mem ((s.can c).base + 80 * (canRxWr c
      (s.can c) % 4096) + 8) = word x.id.toNat ∧ fget (memWord (t.can c).mem ((s.can c).base + 80 * (canRxWr c (s.can c) % 4096) + 12)) 0 16
      = (s.can c).st.seq % 65536 ∧ fget (memWord (t.can c).mem ((s.can c).base + 80 * (canRxWr c (s.can c) % 4096) + 12)) 16 7 = dlcLen
      x.dlc.toNat ∧ fget (memWord (t.can c).mem ((s.can c).base + 80 * (canRxWr c (s.can c) % 4096) + 12)) 23 4 = x.dlc.toNat ∧ fbit
      (memWord (t.can c).mem ((s.can c).base + 80 * (canRxWr c (s.can c) % 4096) + 12)) 31 = x.xtd ∧ fbit (memWord (t.can c).mem ((s.can
      c).base + 80 * (canRxWr c (s.can c) % 4096) + 12)) 30 = x.rtr ∧ fbit (memWord (t.can c).mem ((s.can c).base + 80 * (canRxWr c (s.can
      c) % 4096) + 12)) 29 = x.fdf ∧ fbit (memWord (t.can c).mem ((s.can c).base + 80 * (canRxWr c (s.can c) % 4096) + 12)) 28 = x.brs ∧
      fbit (memWord (t.can c).mem ((s.can c).base + 80 * (canRxWr c (s.can c) % 4096) + 12)) 27 = x.esi ∧ memTake (t.can c).mem ((s.can
      c).base + 80 * (canRxWr c (s.can c) % 4096) + 16) 64 = (List.range 64).map (fun i => if i < dlcLen x.dlc.toNat then x.data.getD i 0
      else 0) ∧ memOutside [((s.can c).base + 80 * (canRxWr c (s.can c) % 4096), 80)] (s.can c).mem (t.can c).mem ∧ canOnly c [Reg.CAN_ECNT
      c, Reg.CAN_STAT c, Reg.CAN_EVT c, Reg.CAN_HW_IDX c, Reg.CAN_CNT c] s t) ∧
  (∀ (s : State) (c : Fin 8) (x : CanRx), s.canRuns c → canEn c (s.can c) = true → canActive c (s.can c) = true → (c.val = 7 → canSafeId x =
      true) → x.parity = false → (canRxWr c (s.can c) + 8192 - canRxRd c (s.can c)) % 8192 = 4096 → ∃ t, exec (.canFrameReceived c x) s =
      .next t ∧ (t.can c).mem = (s.can c).mem ∧ canRxWr c (t.can c) = canRxWr c (s.can c) ∧ (t.can c).f (Reg.CAN_LOST c) 16 16 = min 65535
      ((s.can c).f (Reg.CAN_LOST c) 16 16 + 1) ∧ (t.can c).st.seq = ((s.can c).st.seq + 1) % 65536 ∧ (t.can c).st.run = (s.can c).st.run + 1
      ∧ ((s.can c).st.run = 0 → (t.can c).b (Reg.CAN_EVT c) 1 = true) ∧ canOnly c [Reg.CAN_ECNT c, Reg.CAN_STAT c, Reg.CAN_EVT c,
      Reg.CAN_LOST c] s t) ∧
  (∀ (s : State) (c : Fin 8) (x : CanRx), s.canRuns c → canEn c (s.can c) = true → canActive c (s.can c) = true → (c.val = 7 → canSafeId x =
      true) → x.parity = true → ∃ t, exec (.canFrameReceived c x) s = .next t ∧ (t.can c).mem = (s.can c).mem ∧ canRxWr c (t.can c) =
      canRxWr c (s.can c) ∧ (t.can c).f (Reg.CAN_LOST c) 8 8 = min 255 ((s.can c).f (Reg.CAN_LOST c) 8 8 + 1) ∧ (t.can c).st.seq = ((s.can
      c).st.seq + 1) % 65536 ∧ canOnly c [Reg.CAN_ECNT c, Reg.CAN_STAT c, Reg.CAN_EVT c, Reg.CAN_LOST c] s t) ∧
  (∀ (s : State) (x : CanRx), s.canRuns 7 → canEn 7 (s.can 7) = true → canActive 7 (s.can 7) = true → canSafeId x = false → ∃ t, exec
      (.canFrameReceived 7 x) s = .next t ∧ (t.can 7).mem = (s.can 7).mem ∧ (t.can 7).st = (s.can 7).st ∧ t.heath.b Reg.SFN_EVT 2 = true ∧
      t.heath.f Reg.SFN_CNT 8 8 = min 255 (s.heath.f Reg.SFN_CNT 8 8 + 1) ∧ canOnly 7 [Reg.CAN_ECNT 7, Reg.CAN_STAT 7, Reg.CAN_EVT 7,
      Reg.SFN_EVT, Reg.SFN_CNT] s t)

/-- The head entry sent: TX_DONE is flagged and counted, its time and tag are shown, TEC goes down by one, TX_RD advances, and memory is as it was
unless the controller echoes its frames, in which case the echo is written to the ring. Entries that may not be sent are passed over, failed, and the
first that may is the one that was sent. A controller's error is shown in its code and moves the counters; an entry with ONE_SHOT is given up, any
other one stays for its retry; a TEC past 255 is bus-off. A lost arbitration moves no counter. ABORT gives up every entry but one in transmission,
whose index is kept, and moves TX_RD to TX_WR. Nothing else of the machine changes. Under these conditions alone each of canFrameSent, canBusError and
canAbort answers a next state. -/
def Obligations.CanSending : Prop :=
  (∀ (s : State) (c : Fin 8) (ts : BitVec 64) (tdcv : Nat), s.canRuns c → canEn c (s.can c) = true → canActive c (s.can c) = true → canLom c
      (s.can c) = false → (s.can c).st.last = false → canTxRd c (s.can c) ≠ canTxWr c (s.can c) → (s.can c).st.aborted = none → canEntryOk
      (memWord (s.can c).mem (canFifo (s.can c) (canTxRd c (s.can c)) + 12)) = true → (s.can c).b (Reg.CAN_CTL c) 28 = false → ∃ t, exec
      (.canFrameSent c ts tdcv) s = .next t ∧ canTxRd c (t.can c) = canFirst c (s.can c) ((canTxRd c (s.can c) + 1) % 128) ∧ (t.can c).b
      (Reg.CAN_EVT c) 2 = true ∧ (t.can c).f (Reg.CAN_CNT c) 0 16 = min 65535 ((s.can c).f (Reg.CAN_CNT c) 0 16 + 1) ∧ rget (t.can c).regs
      (Reg.CAN_TX_TS_LO c) = ts.setWidth 32 ∧ rget (t.can c).regs (Reg.CAN_TX_TS_HI c) = (ts >>> 32).setWidth 32 ∧ rget (t.can c).regs
      (Reg.CAN_TX_TAG c) = memWord (s.can c).mem (canFifo (s.can c) (canTxRd c (s.can c)) + 12) &&& 0xFFFF ∧ canTec c (t.can c) = canTec c
      (s.can c) - 1 ∧ (t.can c).mem = (s.can c).mem ∧ canOnly c [Reg.CAN_ECNT c, Reg.CAN_STAT c, Reg.CAN_EVT c, Reg.CAN_HW_IDX c,
      Reg.CAN_CNT c, Reg.CAN_TX_TS_LO c, Reg.CAN_TX_TS_HI c, Reg.CAN_TX_TAG c, Reg.CAN_LOST c] s t) ∧
  (∀ (s : State) (c : Fin 8) (ts : BitVec 64) (tdcv : Nat), s.canRuns c → canEn c (s.can c) = true → canActive c (s.can c) = true → canLom c
      (s.can c) = false → (s.can c).st.last = false → canTxRd c (s.can c) ≠ canTxWr c (s.can c) → (s.can c).st.aborted = none → canEntryOk
      (memWord (s.can c).mem (canFifo (s.can c) (canTxRd c (s.can c)) + 12)) = true → (s.can c).b (Reg.CAN_CTL c) 28 = true → (canRxWr c
      (s.can c) + 8192 - canRxRd c (s.can c)) % 8192 ≠ 4096 → ∃ t, exec (.canFrameSent c ts tdcv) s = .next t ∧ canTxRd c (t.can c) =
      canFirst c (s.can c) ((canTxRd c (s.can c) + 1) % 128) ∧ (t.can c).b (Reg.CAN_EVT c) 2 = true ∧ canRxWr c (t.can c) = (canRxWr c
      (s.can c) + 1) % 8192 ∧ fbit (memWord (t.can c).mem ((s.can c).base + 80 * (canRxWr c (s.can c) % 4096) + 8)) 31 = true ∧ memWord
      (t.can c).mem ((s.can c).base + 80 * (canRxWr c (s.can c) % 4096)) = ts.setWidth 32 ∧ memOutside [((s.can c).base + 80 * (canRxWr c
      (s.can c) % 4096), 80)] (s.can c).mem (t.can c).mem ∧ canOnly c [Reg.CAN_ECNT c, Reg.CAN_STAT c, Reg.CAN_EVT c, Reg.CAN_HW_IDX c,
      Reg.CAN_CNT c, Reg.CAN_TX_TS_LO c, Reg.CAN_TX_TS_HI c, Reg.CAN_TX_TAG c, Reg.CAN_LOST c] s t) ∧
  (∀ (s : State) (c : Fin 8) (ts : BitVec 64) (tdcv : Nat), s.canRuns c → canEn c (s.can c) = true → canActive c (s.can c) = true → canLom c
      (s.can c) = false → canTxRd c (s.can c) ≠ canTxWr c (s.can c) → (s.can c).st.aborted = none → canEntryOk (memWord (s.can c).mem
      (canFifo (s.can c) (canTxRd c (s.can c)) + 12)) = false → canFirst c (s.can c) (canTxRd c (s.can c)) = canTxWr c (s.can c) → ∃ t, exec
      (.canFrameSent c ts tdcv) s = .next t ∧ canTxRd c (t.can c) = canTxWr c (s.can c) ∧ (t.can c).b (Reg.CAN_EVT c) 3 = true ∧ (t.can c).f
      (Reg.CAN_LOST c) 0 8 = min 255 ((s.can c).f (Reg.CAN_LOST c) 0 8 + (canTxWr c (s.can c) + 128 - canTxRd c (s.can c)) % 128) ∧ (t.can
      c).mem = (s.can c).mem ∧ canOnly c [Reg.CAN_EVT c, Reg.CAN_HW_IDX c, Reg.CAN_LOST c] s t) ∧
  (∀ (s : State) (c : Fin 8) (x : CanErr), s.canRuns c → canActive c (s.can c) = true → canLom c (s.can c) = false → (s.can c).st.last =
      false → x.tx = true → x.lost = false → x.pxe = false → canTxRd c (s.can c) ≠ canTxWr c (s.can c) → (s.can c).st.aborted = none → ∃ t,
      exec (.canBusError c x) s = .next t ∧ canTec c (t.can c) = min 255 (canTec c (s.can c) + x.tec) ∧ canRec c (t.can c) = min 255 (canRec
      c (s.can c) + x.recv) ∧ (x.dataPhase = false → (t.can c).f (Reg.CAN_STAT c) 25 3 = x.code.toNat) ∧ (x.dataPhase = true → (t.can c).f
      (Reg.CAN_STAT c) 22 3 = x.code.toNat) ∧ canState c (t.can c) = (if 255 < canTec c (s.can c) + x.tec then 2 else if 128 ≤ canTec c
      (s.can c) + x.tec ∨ 128 ≤ canRec c (s.can c) + x.recv then 1 else 0) ∧ (255 < canTec c (s.can c) + x.tec → (t.can c).b (Reg.CAN_EVT c)
      6 = true) ∧ canTxRd c (t.can c) = (if (s.can c).b (Reg.CAN_CTL c) 29 = true then canFirst c (t.can c) ((canTxRd c (s.can c) + 1) %
      128) else canTxRd c (s.can c)) ∧ ((s.can c).b (Reg.CAN_CTL c) 29 = true → (t.can c).b (Reg.CAN_EVT c) 3 = true) ∧ (t.can c).mem =
      (s.can c).mem ∧ canOnly c [Reg.CAN_ECNT c, Reg.CAN_STAT c, Reg.CAN_EVT c, Reg.CAN_HW_IDX c, Reg.CAN_LOST c] s t) ∧
  (∀ (s : State) (c : Fin 8) (x : CanErr), s.canRuns c → canActive c (s.can c) = true → x.pxe = false → x.tx = true → x.lost = true → (s.can
      c).st.last = false → (s.can c).b (Reg.CAN_CTL c) 29 = true → canTxRd c (s.can c) ≠ canTxWr c (s.can c) → (s.can c).st.aborted = none →
      ∃ t, exec (.canBusError c x) s = .next t ∧ canTxRd c (t.can c) = canFirst c (s.can c) ((canTxRd c (s.can c) + 1) % 128) ∧ (t.can c).b
      (Reg.CAN_EVT c) 3 = true ∧ (t.can c).f (Reg.CAN_LOST c) 0 8 = min 255 (min 255 ((s.can c).f (Reg.CAN_LOST c) 0 8 + 1) + (canFirst c
      (s.can c) ((canTxRd c (s.can c) + 1) % 128) + 128 - (canTxRd c (s.can c) + 1) % 128) % 128) ∧ (t.can c).mem = (s.can c).mem ∧ canOnly
      c [Reg.CAN_EVT c, Reg.CAN_HW_IDX c, Reg.CAN_LOST c] s t) ∧
  (∀ (s : State) (p : Plane) (c : Fin 8) (busy : Bool), s.canRuns c → s.takes p (Reg.CAN_CMD c) 2 = some 2 → ∃ t, exec (.canAbort p c
      busy) s = .next t ∧ canTxRd c (t.can c) = canTxWr c (s.can c) ∧ canTxWr c (t.can c) = canTxWr c (s.can c) ∧ (t.can c).b (Reg.CAN_EVT
      c) 8 = true ∧ (t.can c).st.aborted = (if (busy && decide (canTxRd c (s.can c) ≠ canTxWr c (s.can c)) && canActive c (s.can c) &&
      canEn c (s.can c)) = true then some (canTxRd c (s.can c)) else (s.can c).st.aborted) ∧ (t.can c).f (Reg.CAN_LOST c) 0 8 = min 255
      ((s.can c).f (Reg.CAN_LOST c) 0 8 + ((canTxWr c (s.can c) + 128 - canTxRd c (s.can c)) % 128 - (if (busy && decide (canTxRd c (s.can
      c) ≠ canTxWr c (s.can c)) && canActive c (s.can c) && canEn c (s.can c)) = true then 1 else 0))) ∧ (t.can c).mem = (s.can c).mem ∧
      canOnly c [Reg.CAN_EVT c, Reg.CAN_HW_IDX c, Reg.CAN_LOST c] s t) ∧
  (∀ (s : State) (c : Fin 8) (ts : BitVec 64) (tdcv j : Nat), s.canRuns c → canEn c (s.can c) = true → canActive c (s.can c) = true →
      canLom c (s.can c) = false → (s.can c).st.last = false → canTxRd c (s.can c) ≠ canTxWr c (s.can c) → (s.can c).st.aborted = none →
      canFirst c (s.can c) (canTxRd c (s.can c)) = j → canTxRd c (s.can c) ≠ j → j ≠ canTxWr c (s.can c) → ∃ t, exec
      (.canFrameSent c ts tdcv) s = .next t ∧ canTxRd c (t.can c) = canFirst c (s.can c) ((j + 1) % 128) ∧ (t.can c).b (Reg.CAN_EVT c) 2
      = true ∧ (t.can c).b (Reg.CAN_EVT c) 3 = true ∧ rget (t.can c).regs (Reg.CAN_TX_TAG c) = memWord (s.can c).mem (canFifo (s.can c)
      j + 12) &&& 0xFFFF)

/-- RECOVER starts the recovery of a controller 0 to 6 that is bus-off, and does nothing to controller 7 or one in another state; BO_WAIT milliseconds
after the entry to bus-off it starts for any. A completed recovery clears both counters, makes the controller error active and is flagged. An enabled
controller that integrates is error active. A write of SW_IDX moves each index that keeps its rule; the other keeps its value with IDX_ERR. A head
entry that may not be sent is passed over. Nothing else of the machine changes, but for the error flag of a write with a reserved bit. Under these
conditions alone each of canRecover, boWaitExpire, recovered, canIntegrated and canSwIdxWrite answers a next state. -/
def Obligations.CanConfinement : Prop :=
  (∀ (s : State) (p : Plane) (c : Fin 8), s.canRuns c → s.takes p (Reg.CAN_CMD c) 1 = some 1 → canState c (s.can c) = 2 → c.val ≠ 7 →
      ∃ t, exec (.canRecover p c) s = .next t ∧ (t.can c).b (Reg.CAN_STAT c) 28 = true ∧ (t.can c).mem = (s.can c).mem ∧ (t.can c).st =
      (s.can c).st ∧ canOnly c [Reg.CAN_STAT c] s t) ∧
  (∀ (s : State) (p : Plane) (c : Fin 8), s.canRuns c → s.takes p (Reg.CAN_CMD c) 1 = some 1 → canState c (s.can c) ≠ 2 ∨ c.val = 7 →
      ∃ t, exec (.canRecover p c) s = .next t ∧ (t.can c).mem = (s.can c).mem ∧ (t.can c).st = (s.can c).st ∧ canOnly c [] s t) ∧
  (∀ (s : State) (c : Fin 8), s.canRuns c → canState c (s.can c) = 2 → (s.can c).st.boAt + 200000 * (s.can c).f (Reg.CAN_CTL c) 0 16 ≤
      s.env.time.up → ∃ t, exec (.boWaitExpire c) s = .next t ∧ (t.can c).b (Reg.CAN_STAT c) 28 = true ∧ (t.can c).mem = (s.can c).mem ∧
      (t.can c).st = (s.can c).st ∧ canOnly c [Reg.CAN_STAT c] s t) ∧
  (∀ (s : State) (c : Fin 8), s.canRuns c → canState c (s.can c) = 2 → (s.can c).b (Reg.CAN_STAT c) 28 = true → ∃ t, exec (.recovered c) s =
      .next t ∧ canState c (t.can c) = 0 ∧ canTec c (t.can c) = 0 ∧ canRec c (t.can c) = 0 ∧ (t.can c).b (Reg.CAN_STAT c) 28 = false ∧
      (t.can c).b (Reg.CAN_STAT c) 29 = false ∧ (t.can c).b (Reg.CAN_EVT c) 7 = true ∧ (t.can c).mem = (s.can c).mem ∧ canTxRd c (t.can c) =
      canFirst c (t.can c) (canTxRd c (s.can c)) ∧ canOnly c [Reg.CAN_STAT c, Reg.CAN_ECNT c, Reg.CAN_EVT c, Reg.CAN_HW_IDX c, Reg.CAN_LOST
      c] s t) ∧
  (∀ (s : State) (c : Fin 8), s.canRuns c → canEn c (s.can c) = true → canState c (s.can c) = 3 → ∃ t, exec (.canIntegrated c) s = .next t ∧
      canState c (t.can c) = 0 ∧ (t.can c).mem = (s.can c).mem ∧ (t.can c).st = (s.can c).st ∧ canTxRd c (t.can c) = canFirst c (t.can c)
      (canTxRd c (s.can c)) ∧ canOnly c [Reg.CAN_STAT c, Reg.CAN_EVT c, Reg.CAN_HW_IDX c, Reg.CAN_LOST c] s t) ∧
  (∀ (s : State) (p : Plane) (c : Fin 8) (v w : Word), s.canRuns c → s.takes p (Reg.CAN_SW_IDX c) v = some w → ∃ t, exec (.canSwIdxWrite p c
      v) s = .next t ∧ canRxRd c (t.can c) = (if (fget w 16 13 + 8192 - canRxRd c (s.can c)) % 8192 ≤ (canRxWr c (s.can c) + 8192 - canRxRd
      c (s.can c)) % 8192 then fget w 16 13 else canRxRd c (s.can c)) ∧ canTxWr c (t.can c) = (if (fget w 0 7 + 128 - canTxWr c (s.can c)) %
      128 ≤ 64 - (canTxWr c (s.can c) + 128 - canTxRd c (s.can c)) % 128 then fget w 0 7 else canTxWr c (s.can c)) ∧ ((t.can c).b
      (Reg.CAN_EVT c) 11 = ((s.can c).b (Reg.CAN_EVT c) 11 || decide (¬ (fget w 16 13 + 8192 - canRxRd c (s.can c)) % 8192 ≤ (canRxWr c
      (s.can c) + 8192 - canRxRd c (s.can c)) % 8192) || decide (¬ (fget w 0 7 + 128 - canTxWr c (s.can c)) % 128 ≤ 64 - (canTxWr c (s.can
      c) + 128 - canTxRd c (s.can c)) % 128))) ∧ (t.can c).mem = (s.can c).mem ∧ (t.can c).st = (s.can c).st ∧ canTxRd c (t.can c) =
      canFirst c (t.can c) (canTxRd c (s.can c)) ∧ (v = w → canOnly c [Reg.CAN_SW_IDX c, Reg.CAN_EVT c, Reg.CAN_HW_IDX c, Reg.CAN_LOST c] s
      t) ∧ canOnly c [Reg.CAN_SW_IDX c, Reg.CAN_EVT c, Reg.CAN_HW_IDX c, Reg.CAN_LOST c, Reg.PG_ERR 0x70003000, Reg.PG_ERR 0x50005000] s t)

/-- On an enabled SOLO or ACTIVE chip with its driver on: a unicast frame of the ring leaves, the line's clips and peak shown, SEQ and counter
advanced, and awaits its ACK; a broadcast is done, RESULT 0; an entry of another TYPE is refused, RESULT 2. ACKs, JOINs, forwards and a beacon that
are owed leave in order. A frame without its ACK after 6 symbols of 288,000 cycles is tried again, its backoff exponent up to 7, or after the last
retry fails with its flag, its count and RESULT 1. A beacon falls due when its period has passed. A driver trip turns the driver off, flagged and
logged, and its resumption 200,000,000 cycles later turns it on where the role lets it. A lost zero crossing clears ZC_VALID. A write of SW_IDX moves
each index that keeps its rule, else IDX_ERR. What leaves has the header's check byte and ILV_SYM; its outer code adds 16 check bytes to a codeword,
its inner code gives two bits for each and for 6 zero bits more, and the symbols carry every coded bit once. Memory changes only in the word of the
completed entry. Under these conditions alone each of hdgFrameSent, hdgAckTimeout, beaconTimer, drvTrip, driverResume, zcLost and hdgSwIdxWrite
answers a next state. -/
def Obligations.HedgerowSending : Prop :=
  (∀ (s : State) (clips ipk : Nat), hdgOn s.env s.chip = true → hdgMaySend s.chip = true → s.chip.hdg.off = false → hdgTxRd s.chip ≠ hdgTxWr
      s.chip → s.chip.hdg.waiting = false → fget (memWord s.mem (hdgTxAddr s.chip)) 28 4 = 1 ∨ fget (memWord s.mem (hdgTxAddr s.chip)) 28 4
      = 5 → fget (memWord s.mem (hdgTxAddr s.chip)) 20 8 ≠ 0xFF → ∃ t, exec (.hdgFrameSent .ring clips ipk) s = .next t ∧ t.chip.hdg = (let
      h : HdgSt :=
      { s.chip.hdg with waiting := true, sentAt := s.env.time.up, line := some (hdgFrame s.env s.chip (hdgRingOut (s.chip, s.mem))) }; if
      s.chip.hdg.tries = 0 then { h with seq := (h.seq + 1) % 16, ctr := h.ctr + 1, txSeq := h.seq, txCtr := h.ctr } else h) ∧ t.chip.rd
      Reg.HDG_LINE = word (min 65535 ipk * 65536 + min 255 clips) ∧ (0 < clips → t.chip.b Reg.HDG_EVT 6 = true) ∧ onlyChip s t ∧ sameRegs
      [Reg.HDG_LINE, Reg.HDG_EVT] s.chip t.chip) ∧
  (∀ (s : State) (clips ipk : Nat), hdgOn s.env s.chip = true → hdgMaySend s.chip = true → s.chip.hdg.off = false → hdgTxRd s.chip ≠ hdgTxWr
      s.chip → s.chip.hdg.waiting = false → fget (memWord s.mem (hdgTxAddr s.chip)) 28 4 = 1 ∨ fget (memWord s.mem (hdgTxAddr s.chip)) 28 4
      = 5 → fget (memWord s.mem (hdgTxAddr s.chip)) 20 8 = 0xFF → ∃ t, exec (.hdgFrameSent .ring clips ipk) s = .next t ∧ t.chip.hdg = (let
      h : HdgSt := { s.chip.hdg with be := 3, tries := 0, line := some (hdgFrame s.env s.chip (hdgRingOut (s.chip, s.mem))) }; if
      s.chip.hdg.tries = 0 then { h with seq := (h.seq + 1) % 16, ctr := h.ctr + 1, txSeq := h.seq, txCtr := h.ctr } else h) ∧ hdgTxRd
      t.chip = (hdgTxRd s.chip + 1) % 128 ∧ memWord t.mem (hdgTxAddr s.chip) = fset (memWord s.mem (hdgTxAddr s.chip)) 18 2 0 ∧ memOutside
      [(hdgTxAddr s.chip, 4)] s.mem t.mem ∧ t.chip.rd Reg.HDG_LINE = word (min 65535 ipk * 65536 + min 255 clips) ∧ (0 < clips → t.chip.b
      Reg.HDG_EVT 6 = true) ∧ t.heath = s.heath ∧ t.met = s.met ∧ t.env = s.env ∧ t.pending = s.pending ∧ t.rdata = s.rdata ∧ sameRegs
      [Reg.HDG_LINE, Reg.HDG_EVT, Reg.HDG_HW_IDX] s.chip t.chip) ∧
  (∀ (s : State) (clips ipk : Nat), hdgOn s.env s.chip = true → hdgMaySend s.chip = true → s.chip.hdg.off = false → hdgTxRd s.chip ≠
      hdgTxWr s.chip → s.chip.hdg.waiting = false → fget (memWord s.mem (hdgTxAddr s.chip)) 28 4 ≠ 1 ∧ fget (memWord s.mem (hdgTxAddr
      s.chip)) 28 4 ≠ 5 → ∃ t, exec (.hdgFrameSent .ring clips ipk) s = .next t ∧ t.chip.hdg = { s.chip.hdg with tries := 0 } ∧ hdgTxRd
      t.chip = (hdgTxRd s.chip + 1) % 128 ∧ memWord t.mem (hdgTxAddr s.chip) = fset (memWord s.mem (hdgTxAddr s.chip)) 18 2 2 ∧ memOutside
      [(hdgTxAddr s.chip, 4)] s.mem t.mem ∧ t.heath = s.heath ∧ t.met = s.met ∧ t.env = s.env ∧ t.pending = s.pending ∧ t.rdata = s.rdata
      ∧ sameRegs [Reg.HDG_HW_IDX] s.chip t.chip) ∧
  (∀ (s : State) (clips ipk a : Nat) (l : List Nat), hdgOn s.env s.chip = true → hdgMaySend s.chip = true → s.chip.hdg.off = false →
      s.chip.hdg.acks = a :: l → ∃ t, exec (.hdgFrameSent .ack clips ipk) s = .next t ∧ t.chip.hdg =
      { s.chip.hdg with seq := (s.chip.hdg.seq + 1) % 16, ctr := s.chip.hdg.ctr + 1, acks := l, line := some (hdgFrame s.env s.chip (hdgAckOut s.chip (hdgEui (s.chip, s.mem) 0) a)) }
      ∧ t.chip.rd Reg.HDG_LINE = word (min 65535 ipk * 65536 + min 255 clips) ∧ (0 < clips → t.chip.b Reg.HDG_EVT 6 = true) ∧ onlyChip s t ∧
      sameRegs [Reg.HDG_LINE, Reg.HDG_EVT] s.chip t.chip) ∧
  (∀ (s : State) (clips ipk a : Nat) (l : List Nat), hdgOn s.env s.chip = true → hdgMaySend s.chip = true → s.chip.hdg.off = false →
      s.chip.hdg.joins = a :: l → ∃ t, exec (.hdgFrameSent .join clips ipk) s = .next t ∧ t.chip.hdg =
      { s.chip.hdg with seq := (s.chip.hdg.seq + 1) % 16, ctr := s.chip.hdg.ctr + 1, joins := l, be := 3, line := some (hdgFrame s.env s.chip (hdgJoinOut s.chip (hdgEui (s.chip, s.mem) 0) a)) }
      ∧ t.chip.rd Reg.HDG_LINE = word (min 65535 ipk * 65536 + min 255 clips) ∧ (0 < clips → t.chip.b Reg.HDG_EVT 6 = true) ∧ onlyChip s t ∧
      sameRegs [Reg.HDG_LINE, Reg.HDG_EVT] s.chip t.chip) ∧
  (∀ (s : State) (clips ipk : Nat) (f : HdgFwd) (l : List HdgFwd), hdgOn s.env s.chip = true → hdgMaySend s.chip = true → s.chip.hdg.off =
      false → s.chip.hdg.forwards = f :: l → ∃ t, exec (.hdgFrameSent .forward clips ipk) s = .next t ∧ t.chip.hdg =
      { s.chip.hdg with seq := (s.chip.hdg.seq + 1) % 16, forwards := l, be := 3, line := some (hdgFrame s.env s.chip (hdgFwdOut s.chip f)) }
      ∧ t.chip.rd Reg.HDG_LINE = word (min 65535 ipk * 65536 + min 255 clips) ∧ (0 < clips → t.chip.b Reg.HDG_EVT 6 = true) ∧ onlyChip s t ∧
      sameRegs [Reg.HDG_LINE, Reg.HDG_EVT] s.chip t.chip) ∧
  (∀ (s : State) (clips ipk : Nat), hdgOn s.env s.chip = true → hdgMaySend s.chip = true → s.chip.hdg.off = false → s.chip.hdg.beacon = true
      → ∃ t, exec (.hdgFrameSent .beacon clips ipk) s = .next t ∧ t.chip.hdg =
      { s.chip.hdg with seq := (s.chip.hdg.seq + 1) % 16, ctr := s.chip.hdg.ctr + 1, beacon := false, be := 3, line := some (hdgFrame s.env s.chip (hdgBeaconOut s.env s.chip (hdgEui (s.chip, s.mem) 0))) }
      ∧ t.chip.rd Reg.HDG_LINE = word (min 65535 ipk * 65536 + min 255 clips) ∧ (0 < clips → t.chip.b Reg.HDG_EVT 6 = true) ∧ onlyChip s t ∧
      sameRegs [Reg.HDG_LINE, Reg.HDG_EVT] s.chip t.chip) ∧
  (∀ (s : State), s.chip.hdg.waiting = true → s.chip.hdg.sentAt + 6 * 288000 ≤ s.env.time.up → s.chip.hdg.tries < s.chip.f Reg.HDG_CFG 0 4 →
      ∃ t, exec .hdgAckTimeout s = .next t ∧ t.chip.hdg =
      { s.chip.hdg with tries := s.chip.hdg.tries + 1, be := min 7 (s.chip.hdg.be + 1), waiting := false } ∧ onlyChip s t ∧ sameRegs []
      s.chip t.chip) ∧
  (∀ (s : State), s.chip.hdg.waiting = true → s.chip.hdg.sentAt + 6 * 288000 ≤ s.env.time.up → s.chip.f Reg.HDG_CFG 0 4 ≤ s.chip.hdg.tries →
      ∃ t, exec .hdgAckTimeout s = .next t ∧ t.chip.hdg = { s.chip.hdg with tries := 0, waiting := false } ∧ hdgTxRd t.chip = (hdgTxRd
      s.chip + 1) % 128 ∧ t.chip.b Reg.HDG_EVT 1 = true ∧ t.chip.f Reg.HDG_CNT 8 8 = min 255 (s.chip.f Reg.HDG_CNT 8 8 + 1) ∧ memWord t.mem
      (hdgTxAddr s.chip) = fset (memWord s.mem (hdgTxAddr s.chip)) 18 2 1 ∧ memOutside [(hdgTxAddr s.chip, 4)] s.mem t.mem ∧ t.heath =
      s.heath ∧ t.met = s.met ∧ t.env = s.env ∧ t.pending = s.pending ∧ t.rdata = s.rdata ∧ sameRegs [Reg.HDG_EVT, Reg.HDG_CNT,
      Reg.HDG_HW_IDX] s.chip t.chip) ∧
  (∀ (s : State), hdgOn s.env s.chip = true → hdgMaySend s.chip = true → s.chip.hdg.beaconAt + hdgPeriod s.chip ≤ s.env.time.up → ∃ t, exec
      .beaconTimer s = .next t ∧ t.chip.hdg = { s.chip.hdg with beacon := true, beaconAt := s.env.time.up } ∧ onlyChip s t ∧ sameRegs []
      s.chip t.chip) ∧
  (∀ (s : State) (temp : Bool), hdgOn s.env s.chip = true → s.chip.hdg.off = false → ∃ t, exec (.drvTrip temp false) s = .next t ∧
      t.chip.hdg = { s.chip.hdg with off := true, offAt := s.env.time.up } ∧ t.chip.b Reg.HDG_EVT 5 = true ∧ t.chip.b Reg.HDG_STAT 31 =
      false ∧ logged s.chip t.chip ⟨s.env.time.stamp, srcWord 0x23 0 3, if temp then 1 else 0⟩ ∧ onlyChip s t ∧ sameRegs (logRegs ++
      [Reg.HDG_EVT, Reg.HDG_STAT]) s.chip t.chip) ∧
  (∀ (s : State) (temp : Bool), hdgOn s.env s.chip = true → s.chip.hdg.off = false → hdgTxRd s.chip ≠ hdgTxWr s.chip → s.chip.hdg.waiting =
      false → fget (memWord s.mem (hdgTxAddr s.chip)) 20 8 = 0xFF ∨ s.chip.f Reg.HDG_CFG 0 4 ≤ s.chip.hdg.tries → ∃ t, exec (.drvTrip temp
      true) s = .next t ∧ t.chip.hdg = { s.chip.hdg with off := true, offAt := s.env.time.up, tries := 0, waiting := false } ∧ hdgTxRd
      t.chip = (hdgTxRd s.chip + 1) % 128 ∧ t.chip.b Reg.HDG_EVT 1 = true ∧ t.chip.f Reg.HDG_CNT 8 8 = min 255 (s.chip.f Reg.HDG_CNT 8 8 +
      1) ∧ memWord t.mem (hdgTxAddr s.chip) = fset (memWord s.mem (hdgTxAddr s.chip)) 18 2 1 ∧ memOutside [(hdgTxAddr s.chip, 4)] s.mem
      t.mem ∧ t.heath = s.heath ∧ t.met = s.met ∧ t.env = s.env ∧ t.pending = s.pending ∧ t.rdata = s.rdata ∧ sameRegs (logRegs ++
      [Reg.HDG_EVT, Reg.HDG_STAT, Reg.HDG_CNT, Reg.HDG_HW_IDX]) s.chip t.chip) ∧
  (∀ (s : State) (temp : Bool), hdgOn s.env s.chip = true → s.chip.hdg.off = false → hdgTxRd s.chip ≠ hdgTxWr s.chip → s.chip.hdg.waiting =
      false → fget (memWord s.mem (hdgTxAddr s.chip)) 20 8 ≠ 0xFF → s.chip.hdg.tries < s.chip.f Reg.HDG_CFG 0 4 → ∃ t, exec (.drvTrip temp
      true) s = .next t ∧ t.chip.hdg =
      { s.chip.hdg with off := true, offAt := s.env.time.up, tries := s.chip.hdg.tries + 1, be := min 7 (s.chip.hdg.be + 1) } ∧ t.chip.f
      Reg.HDG_CNT 8 8 = min 255 (s.chip.f Reg.HDG_CNT 8 8 + 1) ∧ onlyChip s t ∧ sameRegs (logRegs ++ [Reg.HDG_EVT, Reg.HDG_STAT,
      Reg.HDG_CNT]) s.chip t.chip) ∧
  (∀ (s : State), s.chip.hdg.off = true → s.chip.hdg.offAt + 200000000 ≤ s.env.time.up → ∃ t, exec .driverResume s = .next t ∧ t.chip.hdg =
      { s.chip.hdg with off := false } ∧ t.chip.b Reg.HDG_STAT 31 = (hdgOn s.env s.chip && hdgMaySend s.chip) ∧ onlyChip s t ∧ sameRegs
      [Reg.HDG_STAT] s.chip t.chip) ∧
  (∀ (s : State), zcDue s.env s.chip = true → ∃ t, exec .zcLost s = .next t ∧ t.chip.b Reg.HDG_STAT 30 = false ∧ t.chip.hdg =
      s.chip.hdg ∧ onlyChip s t ∧ sameRegs [Reg.HDG_STAT] s.chip t.chip) ∧
  (∀ (s : State) (p : Plane) (v w : Word), s.takes p Reg.HDG_SW_IDX v = some w → ∃ t, exec (.hdgSwIdxWrite p v) s = .next t ∧ hdgRxRd t.chip
      = (if (fget w 16 7 + 128 - hdgRxRd s.chip) % 128 ≤ (hdgRxWr s.chip + 128 - hdgRxRd s.chip) % 128 then fget w 16 7 else hdgRxRd s.chip)
      ∧ hdgTxWr t.chip = (if (fget w 0 7 + 128 - hdgTxWr s.chip) % 128 ≤ 64 - (hdgTxWr s.chip + 128 - hdgTxRd s.chip) % 128 then fget w 0 7
      else hdgTxWr s.chip) ∧ (t.chip.b Reg.HDG_EVT 9 = (s.chip.b Reg.HDG_EVT 9 || decide (¬ (fget w 16 7 + 128 - hdgRxRd s.chip) % 128 ≤
      (hdgRxWr s.chip + 128 - hdgRxRd s.chip) % 128) || decide (¬ (fget w 0 7 + 128 - hdgTxWr s.chip) % 128 ≤ 64 - (hdgTxWr s.chip + 128 -
      hdgTxRd s.chip) % 128))) ∧ t.chip.hdg = s.chip.hdg ∧ onlyChip s t ∧ (v = w → sameRegs [Reg.HDG_SW_IDX, Reg.HDG_EVT] s.chip t.chip) ∧
      sameRegs (logRegs ++ [Reg.HDG_SW_IDX, Reg.HDG_EVT, Reg.PG_ERR 0x70004000]) s.chip t.chip) ∧
  (∀ (e : Env) (c : Chip) (o : HdgOut), hdgCrcOk (hdgFrame e c o).hdr = true ∧ (hdgFrame e c o).hdr.toNat / 2 ^ 12 % 2 ^ 7 = c.f Reg.HDG_CFG
      16 7 ∧ (hdgFrame e c o).hdr.toNat / 2 ^ 60 = o.type % 16) ∧
  (∀ (l : List Byte), l ≠ [] → l.length ≤ 239 → rsEncode l = rsWord l ∧ (rsWord l).length = l.length + 16) ∧
  (∀ (l : List Bool), (convEncode l).length = 2 * (l.length + 6)) ∧
  (∀ (bits ilv : Nat) (l : List Byte), 1 ≤ bits → 1 ≤ ilv → List.Perm (hdgSymbols bits ilv l).flatten (hdgCoded l) ∧ (hdgSymbols bits ilv
      l).all (fun x => decide (x.length ≤ bits)) = true)

/-- On an enabled chip: a frame whose check byte fails changes nothing. A new DATA or MGMT frame for the 5120 that authenticates is written to the
receive ring at RX_WR with its type, sender, length, stamp and payload, RX flagged; its counter is kept, and its ACK is owed where the chip may send.
A repeated SEQ is dropped and, where it was for the 5120, acknowledged again; a frame whose tag fails, or of which a codeword has more than 8 byte
errors, is dropped. An ACK from the neighbour that the waiting frame went to completes it with RESULT 0. A JOIN of an EUI of the table marks its entry
joined and owes the answer; of an EUI that is in no entry it is counted as dropped, without an event. A BEACON keeps its sender's list and recomputes
the routes. A frame for another node changes no register. Memory changes only in the ring entry and the node table. Under these conditions alone
hdgFrameReceived answers a next state. -/
def Obligations.HedgerowReception : Prop :=
  (∀ (s : State) (x : HdgRx), hdgCrcOk x.hdr = false → ∃ t, exec (.hdgFrameReceived x) s = .next t ∧ t.chip.hdg = s.chip.hdg ∧
      onlyChip s t ∧ sameRegs [] s.chip t.chip) ∧
  (∀ (s : State) (x : HdgRx), hdgOn s.env s.chip = true → hdgCrcOk x.hdr = true → hdgF x 60 4 = 1 ∨ hdgF x 60 4 = 5 → hdgF x 42 8 = 0
      → (s.chip.hdgPeer (hdgF x 50 8)).lastSeq ≠ some (hdgF x 8 4) → hdgUsed (s.chip, s.mem) (hdgF x 50 8) = true → hdgAuth (hdgEui
      (s.chip, s.mem) (hdgF x 50 8)) x s.chip = true → x.route = [] → (hdgRxWr s.chip + 128 - hdgRxRd s.chip) % 128 ≠ 64 → ∃ t, exec
      (.hdgFrameReceived x) s = .next t ∧ hdgRxWr t.chip = (hdgRxWr s.chip + 1) % 128 ∧ t.chip.b Reg.HDG_EVT 0 = true ∧ fget (memWord
      t.mem (hdgBase s.chip + 0x480 * (hdgRxWr s.chip % 64))) 28 4 = hdgF x 60 4 ∧ fget (memWord t.mem (hdgBase s.chip + 0x480 * (hdgRxWr
      s.chip % 64))) 20 8 = hdgF x 50 8 ∧ fget (memWord t.mem (hdgBase s.chip + 0x480 * (hdgRxWr s.chip % 64))) 0 11 = hdgF x 19 11 ∧
      memWord t.mem ((hdgBase s.chip + 0x480 * (hdgRxWr s.chip % 64)) + 4) = x.ts.setWidth 32 ∧ memWord t.mem ((hdgBase s.chip + 0x480 *
      (hdgRxWr s.chip % 64)) + 8) = (x.ts >>> 32).setWidth 32 ∧ fget (memWord t.mem ((hdgBase s.chip + 0x480 * (hdgRxWr s.chip % 64)) +
      12)) 24 8 = min 255 x.snr ∧ memTake t.mem ((hdgBase s.chip + 0x480 * (hdgRxWr s.chip % 64)) + 16) (x.data.take (min 1024 (hdgF x 19
      11))).length = x.data.take (min 1024 (hdgF x 19 11)) ∧ (t.chip.hdgPeer (hdgF x 50 8)).lastSeq = some (hdgF x 8 4) ∧ tget (fun _ =>
      (none : Option Nat)) t.chip.hdg.ctrs (hdgEui (s.chip, s.mem) (hdgF x 50 8)) = some x.ctr ∧ t.chip.hdg.acks = (if hdgMaySend s.chip
      then s.chip.hdg.acks ++ [hdgF x 50 8] else s.chip.hdg.acks) ∧ memOutside [((hdgBase s.chip + 0x480 * (hdgRxWr s.chip % 64)), 0x410),
      (hdgNode s.chip (hdgF x 50 8) + 8, 8)] s.mem t.mem ∧ t.heath = s.heath ∧ t.met = s.met ∧ t.env = s.env ∧ t.pending = s.pending ∧
      t.rdata = s.rdata ∧ sameRegs [Reg.HDG_EVT, Reg.HDG_CNT, Reg.HDG_HW_IDX] s.chip t.chip) ∧
  (∀ (s : State) (x : HdgRx), hdgOn s.env s.chip = true → hdgCrcOk x.hdr = true → hdgF x 60 4 = 1 ∨ hdgF x 60 4 = 5 → hdgF x 42 8 = 0
      → (s.chip.hdgPeer (hdgF x 50 8)).lastSeq = some (hdgF x 8 4) → ∃ t, exec (.hdgFrameReceived x) s = .next t ∧ t.chip.b Reg.HDG_EVT 4
      = true ∧ t.chip.f Reg.HDG_CNT 0 8 = min 255 (s.chip.f Reg.HDG_CNT 0 8 + 1) ∧ t.chip.hdg.acks = (if hdgMaySend s.chip then
      s.chip.hdg.acks ++ [hdgF x 50 8] else s.chip.hdg.acks) ∧ t.chip.hdg.ctrs = s.chip.hdg.ctrs ∧ memOutside [(hdgNode s.chip (hdgF x 50
      8) + 8, 8)] s.mem t.mem ∧ t.heath = s.heath ∧ t.met = s.met ∧ t.env = s.env ∧ t.pending = s.pending ∧ t.rdata = s.rdata ∧ sameRegs
      [Reg.HDG_EVT, Reg.HDG_CNT] s.chip t.chip) ∧
  (∀ (s : State) (x : HdgRx), hdgOn s.env s.chip = true → hdgCrcOk x.hdr = true → hdgF x 60 4 = 1 ∨ hdgF x 60 4 = 3 ∨ hdgF x 60 4 = 5 → hdgF
      x 42 8 = 0 ∨ hdgF x 42 8 = 0xFF → hdgF x 60 4 = 3 ∨ (s.chip.hdgPeer (hdgF x 50 8)).lastSeq ≠ some (hdgF x 8 4) → x.tagOk = false ∨
      hdgDecodes x = false → ∃ t, exec (.hdgFrameReceived x) s = .next t ∧ t.chip.b Reg.HDG_EVT 4 = true ∧ t.chip.f Reg.HDG_CNT 0 8 = min
      255 (s.chip.f Reg.HDG_CNT 0 8 + 1) ∧ t.chip.hdg.acks = s.chip.hdg.acks ∧ t.chip.hdg.ctrs = s.chip.hdg.ctrs ∧ memOutside [(hdgNode
      s.chip (hdgF x 50 8) + 8, 8)] s.mem t.mem ∧ t.heath = s.heath ∧ t.met = s.met ∧ t.env = s.env ∧ t.pending = s.pending ∧ t.rdata =
      s.rdata ∧ sameRegs [Reg.HDG_EVT, Reg.HDG_CNT] s.chip t.chip) ∧
  (∀ (s : State) (x : HdgRx), hdgOn s.env s.chip = true → hdgCrcOk x.hdr = true → hdgF x 60 4 = 2 → hdgF x 42 8 = 0 →
      s.chip.hdg.waiting = true → hdgHop s.chip (fget (memWord s.mem (hdgTxAddr s.chip)) 20 8) = hdgF x 50 8 → ∃ t, exec
      (.hdgFrameReceived x) s = .next t ∧ hdgTxRd t.chip = (hdgTxRd s.chip + 1) % 128 ∧ t.chip.hdg.waiting = false ∧ t.chip.hdg.tries = 0
      ∧ t.chip.hdg.be = 3 ∧ (t.chip.hdgPeer (hdgF x 50 8)).mode = hdgF x 58 2 ∧ memWord t.mem (hdgTxAddr s.chip) = fset (memWord s.mem
      (hdgTxAddr s.chip)) 18 2 0 ∧ memOutside [(hdgTxAddr s.chip, 4), (hdgNode s.chip (hdgF x 50 8) + 8, 8)] s.mem t.mem ∧ t.heath =
      s.heath ∧ t.met = s.met ∧ t.env = s.env ∧ t.pending = s.pending ∧ t.rdata = s.rdata ∧ sameRegs [Reg.HDG_HW_IDX] s.chip t.chip) ∧
  (∀ (s : State) (x : HdgRx) (a : Nat), hdgOn s.env s.chip = true → hdgCrcOk x.hdr = true → hdgF x 60 4 = 4 → hdgAuth x.eui.toNat x
      s.chip = true → hdgAddrs.find? (fun b => hdgUsed (s.chip, s.mem) b && hdgEui (s.chip, s.mem) b == x.eui.toNat) = some a → hdgMaySend
      s.chip = true → ∃ t, exec (.hdgFrameReceived x) s = .next t ∧ (t.chip.hdgPeer a).joined = true ∧ t.chip.hdg.joins = s.chip.hdg.joins
      ++ [a] ∧ tget (fun _ => (none : Option Nat)) t.chip.hdg.ctrs x.eui.toNat = some x.ctr ∧ t.chip.b Reg.HDG_EVT 2 = true ∧ logged s.chip t.chip ⟨s.env.time.stamp, srcWord 0x23 0 1, word (2 ^ 31 + a)⟩ ∧ onlyChip s t ∧ sameRegs (logRegs ++ [Reg.HDG_EVT]) s.chip
      t.chip) ∧
  (∀ (s : State) (x : HdgRx), hdgOn s.env s.chip = true → hdgCrcOk x.hdr = true → hdgF x 60 4 = 4 → hdgAuth x.eui.toNat x s.chip =
      true → hdgAddrs.find? (fun b => hdgUsed (s.chip, s.mem) b && hdgEui (s.chip, s.mem) b == x.eui.toNat) = none → ∃ t, exec
      (.hdgFrameReceived x) s = .next t ∧ t.chip.f Reg.HDG_CNT 0 8 = min 255 (s.chip.f Reg.HDG_CNT 0 8 + 1) ∧ t.chip.hdg.joins =
      s.chip.hdg.joins ∧ onlyChip s t ∧ sameRegs [Reg.HDG_CNT] s.chip t.chip) ∧
  (∀ (s : State) (x : HdgRx), hdgOn s.env s.chip = true → hdgCrcOk x.hdr = true → hdgF x 60 4 = 3 → hdgF x 50 8 ≠ 0 → hdgUsed (s.chip,
      s.mem) (hdgF x 50 8) = true → hdgAuth (hdgEui (s.chip, s.mem) (hdgF x 50 8)) x s.chip = true → ∃ t, exec (.hdgFrameReceived x) s =
      .next t ∧ (t.chip.hdgPeer (hdgF x 50 8)).list = x.nbrs ∧ (t.chip.hdgPeer (hdgF x 50 8)).joined = true ∧ t.chip.f Reg.HDG_STAT 16 8 =
      (hdgAddrs.filter (fun a => decide (hdgEui (s.chip, s.mem) a ≠ 0) && fbit (memWord t.mem (hdgNode s.chip a + 8)) 11)).length ∧
      t.chip.hdg.acks = s.chip.hdg.acks ∧ memOutside [(hdgBase s.chip + 0x40000, 0x1000)] s.mem t.mem ∧ t.heath = s.heath ∧ t.met = s.met
      ∧ t.env = s.env ∧ t.pending = s.pending ∧ t.rdata = s.rdata ∧ sameRegs (logRegs ++ [Reg.HDG_EVT, Reg.HDG_CNT, Reg.HDG_STAT]) s.chip
      t.chip) ∧
  (∀ (s : State) (x : HdgRx), hdgOn s.env s.chip = true → hdgCrcOk x.hdr = true → hdgF x 60 4 = 1 ∨ hdgF x 60 4 = 5 → hdgF x 42 8 ≠ 0
      ∧ hdgF x 42 8 ≠ 0xFF → ∃ t, exec (.hdgFrameReceived x) s = .next t ∧ t.chip.hdg.acks = s.chip.hdg.acks ∧ t.chip.hdg.ctrs =
      s.chip.hdg.ctrs ∧ memOutside [(hdgNode s.chip (hdgF x 50 8) + 8, 8)] s.mem t.mem ∧ t.heath = s.heath ∧ t.met = s.met ∧ t.env = s.env
      ∧ t.pending = s.pending ∧ t.rdata = s.rdata ∧ sameRegs [] s.chip t.chip)

/-- When the counter of an enabled channel that follows no other has run its period, its reload begins the next period at that cycle and, for every
enabled channel that uses the counter, copies the compare value of a load armed before its cycle, as the shadow stood before it, flagged, and raises
REF where the active compare value is not 0; every other channel stands. REF falls when the count reaches the compare value: the high output goes
inactive at once, and the dead time runs from there. When it has passed the output of the pair that was waiting turns active, unless the channel is in
its safe state. LOAD_ALL arms a load on every enabled channel with SRC = 0, in this cycle where none was armed, and, with a reserved bit written, sets
the error flag. A software write of a shadow takes its value and keeps for a reload of its own cycle the values from before. Heath, Metrology, the
memory, the time and the queue stand. Under these conditions alone each of pwmReload, refFall, deadTimeExpire, loadAll and a shadow's registerWrite
answers a next state. -/
def Obligations.PwmWaveform : Prop :=
  (∀ (s : State) (j : Fin 16), pwmEn s.chip j = true → s.chip.b (Reg.PWM_CH_CFG j) 28 = false → (s.chip.pwmCh j).at' + (max 1 (s.chip.f
      (Reg.PWM_ACT_PERIOD j) 0 16) + 1) ≤ s.env.time.up → ∃ t, exec (.pwmReload j) s = .next t ∧ (t.chip.pwmCh j).at' = (s.chip.pwmCh j).at'
      + (max 1 (s.chip.f (Reg.PWM_ACT_PERIOD j) 0 16) + 1) ∧ (∀ k : Fin 16, pwmEn s.chip k = true → pwmMaster s.chip k = j → (t.chip.b
      (Reg.PWM_CH_STAT k) 29 = (s.chip.b (Reg.PWM_CH_STAT k) 29 && !pwmArmed s.chip k (pwmReloadAt s.chip j)) ∧ t.chip.rd (Reg.PWM_ACT_CMP
      k) = (if pwmArmed s.chip k (pwmReloadAt s.chip j) = true then (pwmShadowAt s.chip k (pwmReloadAt s.chip j)).2 else s.chip.rd
      (Reg.PWM_ACT_CMP k)) ∧ (pwmArmed s.chip k (pwmReloadAt s.chip j) = true → t.chip.b Reg.PWM_EVT 3 = true) ∧ (t.chip.pwmCh k).ref =
      decide (0 < t.chip.n (Reg.PWM_ACT_CMP k)))) ∧ (∀ k : Fin 16, (pwmEn s.chip k = false ∨ pwmMaster s.chip k ≠ j) → (t.chip.pwmCh k =
      { s.chip.pwmCh k with late := (t.chip.pwmCh k).late } ∧ t.chip.rd (Reg.PWM_CH_STAT k) = s.chip.rd (Reg.PWM_CH_STAT k) ∧ t.chip.rd
      (Reg.PWM_ACT_CMP k) = s.chip.rd (Reg.PWM_ACT_CMP k) ∧ t.chip.rd (Reg.PWM_ACT_PERIOD k) = s.chip.rd (Reg.PWM_ACT_PERIOD k))) ∧
      t.chip.rd (Reg.PWM_ACT_PERIOD j) = (if pwmArmed s.chip j (pwmReloadAt s.chip j) = true then word (max 1 (pwmShadowAt s.chip j
      (pwmReloadAt s.chip j)).1) else s.chip.rd (Reg.PWM_ACT_PERIOD j)) ∧ onlyChip s t ∧ sameRegs ((List.range 16).map Reg.PWM_CH_STAT ++
      (List.range 16).map Reg.PWM_ACT_CMP ++ [Reg.PWM_ACT_PERIOD j, Reg.PWM_EVT, Reg.PWM_STAT, Reg.PWM_TRIP_STAT]) s.chip t.chip) ∧
  (∀ (s : State) (j : Fin 16), pwmEn s.chip j = true → (s.chip.pwmCh j).ref = true → s.chip.n (Reg.PWM_ACT_CMP j) < pwmLen s.chip j →
      (s.chip.pwmCh (pwmMaster s.chip j)).at' + s.chip.n (Reg.PWM_ACT_CMP j) ≤ s.env.time.up → ∃ t, exec (.refFall j) s = .next t ∧
      (t.chip.pwmCh j).ref = false ∧ (t.chip.pwmCh j).at' = (s.chip.pwmCh j).at' ∧ (j.val < 12 → s.chip.f (Reg.PWM_CH_DT j) 0 10 = 0 →
      (t.chip.pwmCh j).dtPend = 0) ∧ (j.val < 12 → s.chip.f (Reg.PWM_CH_DT j) 0 10 ≠ 0 → (t.chip.pwmCh j).dtPend = 2 ∧ (t.chip.pwmCh j).dtAt
      = (s.chip.pwmCh (pwmMaster s.chip j)).at' + s.chip.n (Reg.PWM_ACT_CMP j) + s.chip.f (Reg.PWM_CH_DT j) 0 10) ∧ (∀ k : Fin 16, k ≠ j →
      t.chip.pwmCh k = { s.chip.pwmCh k with late := (t.chip.pwmCh k).late }) ∧ t.chip.b (Reg.PWM_CH_STAT j) 28 = (pwmSafe s.chip j &&
      s.chip.b (Reg.PWM_CH_CFG j) 21) ∧ onlyChip s t ∧ sameRegs ([Reg.PWM_CH_STAT j] ++ [Reg.PWM_EVT, Reg.PWM_TRIP_STAT]) s.chip t.chip) ∧
  (∀ (s : State) (j : Fin 16), (s.chip.pwmCh j).dtPend ≠ 0 → (s.chip.pwmCh j).dtAt ≤ s.env.time.up → ∃ t, exec (.deadTimeExpire j) s = .next
      t ∧ t.chip.pwmCh j = { s.chip.pwmCh j with dtPend := 0 } ∧ (pwmSafe s.chip j = true → (t.chip.b (Reg.PWM_CH_STAT j) 28 = s.chip.b
      (Reg.PWM_CH_CFG j) 21 ∧ t.chip.b (Reg.PWM_CH_STAT j) 27 = (s.chip.b (Reg.PWM_CH_CFG j) 20 && decide (j.val < 12)))) ∧ (pwmSafe s.chip
      j = false → (t.chip.b (Reg.PWM_CH_STAT j) 28 = (decide ((s.chip.pwmCh j).dtPend = 1) && s.chip.b (Reg.PWM_CH_CFG j) 30) ∧ t.chip.b
      (Reg.PWM_CH_STAT j) 27 = (decide ((s.chip.pwmCh j).dtPend = 2) && s.chip.b (Reg.PWM_CH_CFG j) 30 && decide (j.val < 12)))) ∧ onlyChip
      s t ∧ sameRegs [Reg.PWM_CH_STAT j] s.chip t.chip) ∧
  (∀ (s : State) (p : Plane) (v w : Word), s.takes p Reg.PWM_LOAD_ALL v = some w → fbit w 0 = true → ∃ t, exec (.loadAll p v) s = .next t ∧
      (∀ k : Fin 16, t.chip.b (Reg.PWM_CH_STAT k) 29 = (s.chip.b (Reg.PWM_CH_STAT k) 29 || (pwmEn s.chip k && !s.chip.b (Reg.PWM_CH_CFG k)
      29))) ∧ (∀ k : Fin 16, pwmEn s.chip k = true → s.chip.b (Reg.PWM_CH_CFG k) 29 = false → t.chip.b Reg.PWM_STAT (16 + k.val) = true) ∧
      (∀ k : Fin 16, t.chip.pwmCh k =
      { s.chip.pwmCh k with armAt := if pwmEn s.chip k = true ∧ s.chip.b (Reg.PWM_CH_CFG k) 29 = false ∧ s.chip.b (Reg.PWM_CH_STAT k) 29 = false then s.env.time.up else (s.chip.pwmCh k).armAt })
      ∧ onlyChip s t ∧ (v = w → sameRegs (Reg.PWM_STAT :: (List.range 16).map Reg.PWM_CH_STAT) s.chip t.chip) ∧ sameRegs (logRegs ++
      [Reg.PWM_STAT, Reg.PG_ERR 0x70005000] ++ (List.range 16).map Reg.PWM_CH_STAT) s.chip t.chip) ∧
  (∀ (s : State) (p : Plane) (j : Fin 16) (a : Nat) (v w : Word), (a = Reg.PWM_SH_PERIOD j ∨ a = Reg.PWM_SH_CMP j) → s.chip.b
      (Reg.PWM_CH_CFG j) 29 = false → s.takes p a v = some w → ∃ t, exec (.registerWrite p a 4 v) s = .next t ∧ t.chip.rd a = w ∧ (∀ r :
      Nat, r ≤ s.env.time.up → (s.chip.pwmCh j).shAt = none → pwmShadowAt t.chip j r = (s.chip.f (Reg.PWM_SH_PERIOD j) 0 16, s.chip.rd
      (Reg.PWM_SH_CMP j))) ∧ onlyChip s t)

/-- An enabled trip input that asserts, at its FILT-th active sample in a row and with no reload of its window owed, outside a blanking window, or
that is still asserted when its window closes, trips every enabled channel that names it: its outputs take their safe levels, and one event, one count
and one log entry record the cycle's trips. Inside the window only the input is shown. A trip input's first inactive sample clears its bit. A sample
of any other number, or of the other level, changes nothing. An assertion that finds its window's reload owed comes after that reload. A clear of a
channel that was tripped before this cycle is rejected, flagged, where an enabled input that it names was asserted at the end of the cycle before;
else the trip ends, flagged, and the channel waits for its next reload, unless such an input asserts in this cycle. Heath, Metrology, the memory, the
time and the queue stand. Under these conditions alone each of tripAssert, blankWindowClose, tripDeassert and tripClr answers a next state. -/
def Obligations.PwmTrips : Prop :=
  (∀ (s : State) (x : TripLevel) (n : Fin 6), x.input = n → tripDue s.chip x = true → (s.chip.b (Reg.PWM_TRIP_CFG n) 29 = true → reloadDue
      s.env s.chip (pwmMaster s.chip (s.chip.f (Reg.PWM_TRIP_CFG n) 24 4)) = false) → pwmBlanked s.chip n = false → ∃ t, exec (.tripAssert
      x) s = .next t ∧ t.chip.b Reg.PWM_TRIP_STAT n = true ∧ (∀ k : Fin 16, pwmTripped t.chip k = (pwmTripped s.chip k || (pwmEn s.chip k &&
      s.chip.b (Reg.PWM_CH_CFG k) (8 + n.val)))) ∧ (∀ k : Fin 16, pwmEn s.chip k = true → pwmTripped s.chip k = false → s.chip.b
      (Reg.PWM_CH_CFG k) (8 + n.val) = true → (t.chip.b (Reg.PWM_CH_STAT k) 28 = s.chip.b (Reg.PWM_CH_CFG k) 21 ∧ t.chip.b (Reg.PWM_CH_STAT
      k) 27 = (s.chip.b (Reg.PWM_CH_CFG k) 20 && decide (k.val < 12)) ∧ t.chip.b Reg.PWM_STAT k = true ∧ (t.chip.pwmCh k).dtPend = 0)) ∧ ((∃
      k : Fin 16, pwmEn s.chip k = true ∧ pwmTripped s.chip k = false ∧ s.chip.b (Reg.PWM_CH_CFG k) (8 + n.val) = true) → (t.chip.b
      Reg.PWM_EVT 0 = true ∧ t.chip.f Reg.PWM_TRIP_CNT 16 16 = min 65535 (s.chip.f Reg.PWM_TRIP_CNT 16 16 + 1) ∧ (∃ en, logged s.chip t.chip
      en ∧ en.src = srcWord 0x24 0 1))) ∧ onlyChip s t ∧ sameRegs (logRegs ++ (List.range 16).map Reg.PWM_CH_STAT ++ [Reg.PWM_TRIP_STAT,
      Reg.PWM_STAT, Reg.PWM_EVT, Reg.PWM_TRIP_CNT, Reg.PWM_TRIP_STAT]) s.chip t.chip) ∧
  (∀ (s : State) (x : TripLevel) (n : Fin 6), x.input = n → tripDue s.chip x = true → (s.chip.b (Reg.PWM_TRIP_CFG n) 29 = true → reloadDue
      s.env s.chip (pwmMaster s.chip (s.chip.f (Reg.PWM_TRIP_CFG n) 24 4)) = false) → pwmBlanked s.chip n = true → ∃ t, exec (.tripAssert x)
      s = .next t ∧ t.chip.b Reg.PWM_TRIP_STAT n = true ∧ t.chip.b Reg.PWM_TRIP_STAT (16 + n.val) = true ∧ (∀ k : Fin 16, t.chip.pwmCh k =
      { s.chip.pwmCh k with late := (t.chip.pwmCh k).late }) ∧ onlyChip s t ∧ sameRegs [Reg.PWM_TRIP_STAT] s.chip t.chip) ∧
  (∀ (s : State) (n : Fin 6), s.chip.b (Reg.PWM_TRIP_CFG n) 31 = true → s.chip.b (Reg.PWM_TRIP_CFG n) 29 = true → s.chip.b Reg.PWM_TRIP_STAT
      n = true → pwmBlanked s.chip n = false → blankDue s.chip n = true → ∃ t, exec (.blankWindowClose n) s = .next t ∧ t.chip.b
      Reg.PWM_TRIP_STAT n = true ∧ (∀ k : Fin 16, pwmTripped t.chip k = (pwmTripped s.chip k || (pwmEn s.chip k && s.chip.b (Reg.PWM_CH_CFG
      k) (8 + n.val)))) ∧ (∀ k : Fin 16, pwmEn s.chip k = true → pwmTripped s.chip k = false → s.chip.b (Reg.PWM_CH_CFG k) (8 + n.val) =
      true → (t.chip.b (Reg.PWM_CH_STAT k) 28 = s.chip.b (Reg.PWM_CH_CFG k) 21 ∧ t.chip.b (Reg.PWM_CH_STAT k) 27 = (s.chip.b (Reg.PWM_CH_CFG
      k) 20 && decide (k.val < 12)) ∧ t.chip.b Reg.PWM_STAT k = true ∧ (t.chip.pwmCh k).dtPend = 0)) ∧ ((∃ k : Fin 16, pwmEn s.chip k = true
      ∧ pwmTripped s.chip k = false ∧ s.chip.b (Reg.PWM_CH_CFG k) (8 + n.val) = true) → (t.chip.b Reg.PWM_EVT 0 = true ∧ t.chip.f
      Reg.PWM_TRIP_CNT 16 16 = min 65535 (s.chip.f Reg.PWM_TRIP_CNT 16 16 + 1) ∧ (∃ en, logged s.chip t.chip en ∧ en.src = srcWord 0x24 0 1))) ∧ onlyChip
      s t ∧ sameRegs (logRegs ++ (List.range 16).map Reg.PWM_CH_STAT ++ [Reg.PWM_TRIP_STAT, Reg.PWM_STAT, Reg.PWM_EVT, Reg.PWM_TRIP_CNT])
      s.chip t.chip) ∧
  (∀ (s : State) (x : TripLevel), tripActive s.chip x = false → ∃ t, exec (.tripDeassert x) s = .next t ∧ t.chip.rd Reg.PWM_TRIP_STAT =
      (s.chip.setB Reg.PWM_TRIP_STAT x.input false).rd Reg.PWM_TRIP_STAT ∧ (s.chip.b Reg.PWM_TRIP_STAT x.input = true → tripWas t.env t.chip
      x.input = true) ∧ (∀ k : Fin 16, t.chip.pwmCh k = s.chip.pwmCh k) ∧ onlyChip s t ∧ sameRegs [Reg.PWM_TRIP_STAT] s.chip t.chip) ∧
  (∀ (s : State) (p : Plane) (v w : Word), s.takes p Reg.PWM_TRIP_CLR v = some w → ∃ t, exec (.tripClr p v) s = .next t ∧ (∀ k : Fin 16,
      pwmTripped t.chip k = (pwmTripped s.chip k && (!fbit w k || (s.chip.pwmCh k).tripAt == some s.env.time.up || pwmKeeps s.env s.chip k
      || pwmTripsNow s.env s.chip k && pwmEn s.chip k))) ∧ (∀ k : Fin 16, pwmTripped s.chip k = true → (s.chip.pwmCh k).tripAt ≠ some
      s.env.time.up → pwmTripsNow s.env s.chip k = false → fbit w k = true → (if pwmTripped t.chip k = true then t.chip.b Reg.PWM_EVT 1 =
      true ∧ t.chip.pwmCh k = { s.chip.pwmCh k with late := (t.chip.pwmCh k).late } else t.chip.b Reg.PWM_EVT 2 = true ∧ (t.chip.pwmCh
      k).await = true ∧ t.chip.b Reg.PWM_STAT k = false)) ∧ (∀ k : Fin 16, (pwmTripped s.chip k = false ∨ fbit w k = false) → t.chip.pwmCh k
      = { s.chip.pwmCh k with late := (t.chip.pwmCh k).late } ∧ t.chip.rd (Reg.PWM_CH_STAT k) = s.chip.rd (Reg.PWM_CH_STAT k)) ∧ onlyChip s
      t ∧ (v = w → sameRegs (logRegs ++ (List.range 16).map Reg.PWM_CH_STAT ++ [Reg.PWM_STAT, Reg.PWM_EVT, Reg.PWM_TRIP_CNT, Reg.PWM_TRIP_STAT]) s.chip t.chip)
      ∧ sameRegs (logRegs ++ (List.range 16).map Reg.PWM_CH_STAT ++ [Reg.PWM_STAT, Reg.PWM_EVT, Reg.PWM_TRIP_CNT, Reg.PWM_TRIP_STAT, Reg.PG_ERR 0x70005000])
      s.chip t.chip) ∧
  (∀ (s : State) (x : TripLevel), tripDue s.chip x = false → exec (.tripAssert x) s = .next s) ∧
  (∀ (s : State) (x : TripLevel), tripActive s.chip x = true → exec (.tripDeassert x) s = .next s) ∧
  (∀ (s : State) (x : TripLevel) (m : Nat), tripDue s.chip x = true → s.chip.b (Reg.PWM_TRIP_CFG x.input) 29 = true → pwmMaster s.chip
      (s.chip.f (Reg.PWM_TRIP_CFG x.input) 24 4) = m → reloadDue s.env s.chip m = true → reloadDue s.env (pwmReload s.env m s.chip) m =
      false → exec (.tripAssert x) s = exec (.tripAssert x) (onChip (fun e c => pwmReload e m c) s))

/-- Each sample of 10 µs adds the excess of the square of the current over the square of its free level to a channel's accumulator, counts the run
above three times I_NOM, and shows the accumulator against the trip level. A channel whose run is two samples, or whose accumulator has reached its
level, or whose switch is hot, trips: off, with the cause's state, flag, count and log entry. The end of its inrush window, INRUSH_MS after turn-on,
puts it in ON. A clear of a tripped channel is rejected, flagged, while its switch is hot or its accumulator is above half the level; otherwise it
goes to OFF. Heath, Metrology, the memory, the time and the queue stand. Under these conditions alone each of aswCurrentSample, tripInst, tripI2t,
tripTherm, aswClr and inrushEnd answers a next state. -/
def Obligations.SwitchTrips : Prop :=
  (∀ (s : State) (ma : List Nat), ∃ t, exec (.aswCurrentSample ma) s = .next t ∧ (∀ k : Fin 16, (t.chip.aswCh k).fuse = min (2 ^ 64 - 1)
      ((s.chip.aswCh k).fuse + min 10000 (ma.getD k 0) * min 10000 (ma.getD k 0) - (if (s.chip.aswCh k).inrush = true ∧ inrushDue s.env
      s.chip k = false then max (aswINom s.chip k) (aswInrushI s.chip k) else aswINom s.chip k) ^ 2)) ∧ (∀ k : Fin 16, (t.chip.aswCh
      k).instRun = (if 3 * aswINom s.chip k < min 10000 (ma.getD k 0) then (s.chip.aswCh k).instRun + 1 else 0)) ∧ (∀ k : Fin 16,
      (t.chip.aswCh k).samples = (min 10000 (ma.getD k 0) :: (s.chip.aswCh k).samples).take 100 ∧ t.chip.f (Reg.ASW_CH_STAT k) 0 16 =
      aswFuseField t.chip k ∧ aswState t.chip k = aswState s.chip k) ∧ onlyChip s t ∧ sameRegs ((List.range 16).map Reg.ASW_CH_STAT) s.chip
      t.chip) ∧
  (∀ (s : State) (j : Fin 16), aswInstMet s.env s.chip j = true → ∃ t, exec (.tripInst j) s = .next t ∧ aswState t.chip j = 4 ∧ aswOn t.chip
      j = false ∧ t.chip.b Reg.ASW_STAT j = false ∧ t.chip.b Reg.ASW_EVT 0 = true ∧ t.chip.f (Reg.ASW_CH_CNT j) 24 8 = min 255 (s.chip.f
      (Reg.ASW_CH_CNT j) 24 8 + 1) ∧ logged s.chip t.chip ⟨s.env.time.stamp, srcWord 0x25 0 1, word (1 * 2 ^ 28 + j)⟩ ∧ t.chip.aswCh j =
      { s.chip.aswCh j with inrush := false } ∧ onlyChip s t ∧ sameRegs (logRegs ++ [Reg.ASW_CH_STAT j, Reg.ASW_STAT, Reg.ASW_EVT,
      Reg.ASW_CH_CNT j]) s.chip t.chip) ∧
  (∀ (s : State) (j : Fin 16), aswI2tMet s.env s.chip j = true → aswInstMet s.env s.chip j = false → ∃ t, exec (.tripI2t j) s = .next t ∧
      aswState t.chip j = 5 ∧ aswOn t.chip j = false ∧ t.chip.b Reg.ASW_STAT j = false ∧ t.chip.b Reg.ASW_EVT 1 = true ∧ t.chip.f
      (Reg.ASW_CH_CNT j) 16 8 = min 255 (s.chip.f (Reg.ASW_CH_CNT j) 16 8 + 1) ∧ logged s.chip t.chip ⟨s.env.time.stamp, srcWord 0x25 0 1,
      word (2 * 2 ^ 28 + j)⟩ ∧ t.chip.aswCh j = { s.chip.aswCh j with inrush := false } ∧ onlyChip s t ∧ sameRegs (logRegs ++
      [Reg.ASW_CH_STAT j, Reg.ASW_STAT, Reg.ASW_EVT, Reg.ASW_CH_CNT j]) s.chip t.chip) ∧
  (∀ (s : State) (j : Fin 16), aswTripped s.chip j = false → ∃ t, exec (.tripTherm j) s = .next t ∧ aswState t.chip j = 6 ∧ aswOn
      t.chip j = false ∧ t.chip.b Reg.ASW_STAT j = false ∧ t.chip.b Reg.ASW_EVT 2 = true ∧ t.chip.f (Reg.ASW_CH_CNT j) 8 8 = min 255
      (s.chip.f (Reg.ASW_CH_CNT j) 8 8 + 1) ∧ logged s.chip t.chip ⟨s.env.time.stamp, srcWord 0x25 0 1, word (3 * 2 ^ 28 + j)⟩ ∧
      t.chip.aswCh j = { s.chip.aswCh j with inrush := false } ∧ onlyChip s t ∧ sameRegs (logRegs ++ [Reg.ASW_CH_STAT j, Reg.ASW_STAT,
      Reg.ASW_EVT, Reg.ASW_CH_CNT j]) s.chip t.chip) ∧
  (∀ (s : State) (p : Plane) (v hot w : Word), s.takes p Reg.ASW_CLR v = some w → ∃ t, exec (.aswClr p v hot) s = .next t ∧ (∀ k : Fin 16,
      aswState t.chip k = (if aswTripped s.chip k = true ∧ fbit w k = true ∧ fbit hot k = false ∧ 2 * (s.chip.aswCh k).fuse ≤ aswTripLevel
      s.chip k then 0 else aswState s.chip k)) ∧ (∀ k : Fin 16, aswTripped s.chip k = true → fbit w k = true → (if fbit hot k = true ∨
      aswTripLevel s.chip k < 2 * (s.chip.aswCh k).fuse then t.chip.b Reg.ASW_EVT 4 = true ∧ t.chip.f (Reg.ASW_CH_CNT k) 0 8 = min 255
      (s.chip.f (Reg.ASW_CH_CNT k) 0 8 + 1) else t.chip.b Reg.ASW_EVT 3 = true)) ∧ (∀ k : Fin 16, t.chip.aswCh k =
      { s.chip.aswCh k with cleared := (s.chip.aswCh k).cleared || (aswTripped s.chip k && aswState t.chip k == 0) }) ∧ t.chip.asw.latched =
      s.chip.asw.latched ∧ t.chip.asw.applied = s.chip.asw.applied ∧ onlyChip s t ∧ (v = w → sameRegs (logRegs ++ (List.range 16).map
      Reg.ASW_CH_STAT ++ (List.range 16).map Reg.ASW_CH_CNT ++ [Reg.ASW_STAT, Reg.ASW_EVT]) s.chip t.chip) ∧ sameRegs (logRegs ++
      (List.range 16).map Reg.ASW_CH_STAT ++ (List.range 16).map Reg.ASW_CH_CNT ++ [Reg.ASW_STAT, Reg.ASW_EVT, Reg.PG_ERR 0x70006000])
      s.chip t.chip) ∧
  (∀ (s : State) (j : Fin 16), (s.chip.aswCh j).inrush = true → (s.chip.aswCh j).onAt + 200000 * s.chip.f (Reg.ASW_CH_I2T j) 16 16 ≤
      s.env.time.up → ∃ t, exec (.inrushEnd j) s = .next t ∧ aswState t.chip j = (if aswState s.chip j = 1 then 2 else aswState s.chip j) ∧
      t.chip.aswCh j = { s.chip.aswCh j with inrush := false } ∧ onlyChip s t ∧ sameRegs [Reg.ASW_CH_STAT j, Reg.ASW_STAT] s.chip t.chip)

/-- While the Service region runs, a report at each new ms of SITE_TIME shows each channel's mean current of the last samples in steps of 2.5 mA and
advances its sequence. A channel that is ON, not yet flagged, and has drawn less than its open-load level at each of 10,000 samples is flagged; an off
output at a foreign voltage is flagged, and its bit clears when the voltage goes. A new supply cause holds every channel that has no trip, flagged and
logged; the end of the last one lets untripped channels with an open gate and no fence follow their latched commands. A keep window that ends turns
its channel off and holds it. Heath, Metrology, the memory, the time and the queue stand. Under these conditions alone each of aswCurrentReport,
openLoad, extV, supplyFault, supplyReturn and keepEnd answers a next state. -/
def Obligations.SwitchSupply : Prop :=
  (∀ (s : State), s.chip.svc = true → siteMs s.env ≠ s.chip.asw.rep → ∃ t, exec .aswCurrentReport s = .next t ∧ (∀ k : Fin 16, t.chip.f
      (Reg.ASW_CH_CUR k) 28 4 = (s.chip.f (Reg.ASW_CH_CUR k) 28 4 + 1) % 16 ∧ t.chip.f (Reg.ASW_CH_CUR k) 0 12 = (if (s.chip.aswCh
      k).samples = [] then 0 else min 4095 ((s.chip.aswCh k).samples.sum * 2 / (5 * (s.chip.aswCh k).samples.length)))) ∧ t.chip.asw =
      { s.chip.asw with rep := siteMs s.env } ∧ onlyChip s t ∧ sameRegs ((List.range 16).map Reg.ASW_CH_CUR) s.chip t.chip) ∧
  (∀ (s : State) (j : Fin 16), openDue s.chip j = true → ∃ t, exec (.openLoad j) s = .next t ∧ t.chip.b (Reg.ASW_CH_STAT j) 27 = true ∧
      t.chip.b Reg.ASW_EVT 7 = true ∧ aswState t.chip j = 2 ∧ t.chip.asw = s.chip.asw ∧ onlyChip s t ∧ sameRegs [Reg.ASW_CH_STAT j,
      Reg.ASW_EVT] s.chip t.chip) ∧
  (∀ (s : State) (j : Fin 16), aswOn s.chip j = false → ∃ t, exec (.extV j true) s = .next t ∧ t.chip.b (Reg.ASW_CH_STAT j) 26 = true
      ∧ t.chip.b Reg.ASW_EVT 8 = true ∧ t.chip.asw = s.chip.asw ∧ onlyChip s t ∧ sameRegs [Reg.ASW_CH_STAT j, Reg.ASW_EVT] s.chip t.chip) ∧
  (∀ (s : State) (j : Fin 16), ∃ t, exec (.extV j false) s = .next t ∧ t.chip = s.chip.setB (Reg.ASW_CH_STAT j) 26 false ∧ onlyChip s
      t) ∧
  (∀ (s : State) (k : Fin 3), s.chip.b Reg.ASW_STAT (31 - k.val) = false → ∃ t, exec (.supplyFault k) s = .next t ∧ t.chip.b
      Reg.ASW_STAT (31 - k.val) = true ∧ t.chip.b Reg.ASW_EVT 6 = true ∧ (∀ j : Fin 16, aswState t.chip j = (if aswTripped s.chip j = true
      then aswState s.chip j else 7)) ∧ (∀ j : Fin 16, t.chip.b Reg.ASW_STAT j = (aswTripped s.chip j && s.chip.b Reg.ASW_STAT j)) ∧
      logged s.chip t.chip ⟨s.env.time.stamp, srcWord 0x25 0 4, word (2 ^ 31 + (k.val + 1) * 2 ^ 28)⟩ ∧ onlyChip s t ∧ sameRegs (logRegs
      ++ (List.range 16).map Reg.ASW_CH_STAT ++ [Reg.ASW_STAT, Reg.ASW_EVT]) s.chip t.chip) ∧
  (∀ (s : State) (k : Fin 3), s.chip.b Reg.ASW_STAT (31 - k.val) = true → (s.chip.setB Reg.ASW_STAT (31 - k.val) false |> aswSupply) =
      false → s.chip.gate = true → ∃ t, exec (.supplyReturn k) s = .next t ∧ t.chip.b Reg.ASW_STAT (31 - k.val) = false ∧ t.chip.b
      Reg.ASW_EVT 6 = true ∧ (∀ j : Fin 16, aswTripped s.chip j = true → aswState t.chip j = aswState s.chip j) ∧ (∀ j : Fin 16,
      aswTripped s.chip j = false → s.chip.fenced 0x70006000 j = false → (s.chip.b (Reg.ASW_CH_CFG j) 31 && fbit s.chip.asw.applied j) =
      false → aswState t.chip j = 0) ∧ (∀ j : Fin 16, aswState s.chip j = 7 → s.chip.fenced 0x70006000 j = false → (s.chip.b
      (Reg.ASW_CH_CFG j) 31 && fbit s.chip.asw.applied j) = true → aswState t.chip j = (if 0 < s.chip.f (Reg.ASW_CH_I2T j) 16 16 then 1
      else 2)) ∧ (∃ en, logged s.chip t.chip en ∧ en.src = srcWord 0x25 0 4) ∧ onlyChip s t ∧ sameRegs (logRegs ++ (List.range 16).map Reg.ASW_CH_STAT
      ++ [Reg.ASW_STAT, Reg.ASW_EVT]) s.chip t.chip) ∧
  (∀ (s : State) (j : Fin 16), aswState s.chip j = 3 → (s.chip.aswCh j).keepTill ≤ s.env.time.up → ∃ t, exec (.keepEnd j) s = .next t ∧
      aswState t.chip j = 7 ∧ t.chip.b Reg.ASW_STAT j = false ∧ t.chip.b Reg.ASW_EVT 5 = true ∧ t.chip.asw = s.chip.asw ∧ onlyChip s t ∧
      sameRegs [Reg.ASW_CH_STAT j, Reg.ASW_STAT, Reg.ASW_EVT] s.chip t.chip)

/-- A keyed SVC_RESTART that no third restart within 60 s forbids restarts the Service region, flagged. Any other key drops the write with KEY_ERR. A
keyed MET_OFFER with a 4 KiB aligned address and a length of 1 to 98,304 sets the state to offered (while an image loads it has no effect: log entry
31); one that breaks a rule ends with IMAGE. MET_WITHDRAW ends an offer that is not loading. An image that fails its checks ends the offer with IMAGE;
a verified one takes the core down and is what it starts next. CONFIRM makes the running slot the confirmed one and ends its trial; a write of BOOT
that names the other slot without its VERIFY is dropped with NOT_VERIFIED, any other takes NEXT, TRIAL and BOOT_TO (of 10 or more: log entry 32). A
trial that is not confirmed in time restarts the Service region, to fall back. Under these conditions alone each of svcRestart, metOffer, metWithdraw,
metImageLoad, bootConfirm, bootNextWrite and bootTimeout answers a next state. -/
def Obligations.UpdatesAndBoot : Prop :=
  (∀ (s : State) (p : Plane) (w : Word), s.chip.svc = true → s.takes p Reg.UPD_CMD (word (0x5A * 256 + 1)) = some w → fget w 8 8 =
      0x5A → fget w 0 4 = 1 → rgnThird s.env .service s.chip = false → ∃ t, exec (.svcRestart p 0x5A) s = .next t ∧ t.chip.rgn .service =
      1 ∧ t.chip.b Reg.UPD_EVT 0 = true ∧ t.chip.b Reg.CHIP_ESC (escBit .service) = true ∧ t.heath = s.heath ∧ t.met = s.met ∧ t.env =
      s.env ∧ t.pending = s.pending) ∧
  (∀ (s : State) (p : Plane) (w : Word) (key : BitVec 8), s.chip.svc = true → s.takes p Reg.UPD_CMD (word (key.toNat * 256 + 2)) =
      some w → fget w 8 8 ≠ 0x5A → ∃ t, exec (.metOffer p key) s = .next t ∧ t.chip = s.chip.setB Reg.UPD_EVT 4 true ∧ onlyChip s t) ∧
  (∀ (s : State) (p : Plane) (w : Word), s.chip.svc = true → s.takes p Reg.UPD_CMD (word (0x5A * 256 + 2)) = some w → fget w 8 8 =
      0x5A → fget w 0 4 = 2 → s.chip.f Reg.UPD_STAT 30 2 ≠ 2 → s.chip.n Reg.UPD_MET_ADDR_LO % 4096 = 0 → 1 ≤ s.chip.n Reg.UPD_MET_LEN ∧
      s.chip.n Reg.UPD_MET_LEN ≤ 98304 → ∃ t, exec (.metOffer p 0x5A) s = .next t ∧ t.chip = s.chip.setF Reg.UPD_STAT 30 2 1 ∧ onlyChip s
      t) ∧
  (∀ (s : State) (p : Plane) (w : Word), s.chip.svc = true → s.takes p Reg.UPD_CMD (word (0x5A * 256 + 2)) = some w → fget w 8 8 =
      0x5A → fget w 0 4 = 2 → s.chip.f Reg.UPD_STAT 30 2 ≠ 2 → s.chip.n Reg.UPD_MET_ADDR_LO % 4096 ≠ 0 ∨ s.chip.n Reg.UPD_MET_LEN = 0 ∨
      98304 < s.chip.n Reg.UPD_MET_LEN → ∃ t, exec (.metOffer p 0x5A) s = .next t ∧ t.chip.f Reg.UPD_STAT 30 2 = 0 ∧ t.chip.f Reg.UPD_STAT
      26 4 = 2 ∧ t.chip.b Reg.UPD_EVT 1 = true ∧ (∃ en, logged s.chip t.chip en ∧ en.detail = word (2 * 2 ^ 28) ∧ en.src = srcWord
      0x28 0 2) ∧ onlyChip s t ∧ sameRegs (logRegs ++ [Reg.UPD_STAT, Reg.UPD_EVT]) s.chip t.chip) ∧
  (∀ (s : State) (p : Plane) (w : Word), s.chip.svc = true → s.takes p Reg.UPD_CMD (word (0x5A * 256 + 3)) = some w → fget w 8 8 =
      0x5A → fget w 0 4 = 3 → s.chip.f Reg.UPD_STAT 30 2 = 1 → ∃ t, exec (.metWithdraw p 0x5A) s = .next t ∧ t.chip.f Reg.UPD_STAT 30 2 =
      0 ∧ t.chip.f Reg.UPD_STAT 26 4 = 3 ∧ t.chip.b Reg.UPD_EVT 1 = true ∧ (∃ en, logged s.chip t.chip en ∧ en.detail = word (3 * 2 ^ 28) ∧ en.src = srcWord 0x28 0 2) ∧ onlyChip s t ∧ sameRegs (logRegs ++ [Reg.UPD_STAT, Reg.UPD_EVT]) s.chip t.chip) ∧
  (∀ (s : State) (p : Plane) (w : Word), s.chip.svc = true → s.takes p Reg.UPD_CMD (word (0x5A * 256 + 3)) = some w → fget w 8 8 =
      0x5A → fget w 0 4 = 3 → s.chip.f Reg.UPD_STAT 30 2 = 2 → ∃ t, exec (.metWithdraw p 0x5A) s = .next t ∧ onlyChip s t ∧ t.chip =
      s.chip) ∧
  (∀ (s : State), s.chip.f Reg.UPD_STAT 30 2 = 2 → s.chip.rgn .metrology = 0 → s.met.st.fwNew = none → ∃ t, exec (.metImageLoad none)
      s = .next t ∧ t.chip.f Reg.UPD_STAT 30 2 = 0 ∧ t.chip.f Reg.UPD_STAT 26 4 = 2 ∧ t.chip.b Reg.UPD_EVT 1 = true ∧ (∃ en, logged s.chip t.chip en ∧ en.detail = word (2 * 2 ^ 28) ∧ en.src = srcWord 0x28 0 2) ∧ onlyChip s t ∧ sameRegs (logRegs ++
      [Reg.UPD_STAT, Reg.UPD_EVT]) s.chip t.chip) ∧
  (∀ (s : State) (x : MetFw × Bool), s.chip.f Reg.UPD_STAT 30 2 = 2 → s.chip.rgn .metrology = 0 → s.met.st.fwNew = none → rgnThird
      s.env .metrology s.chip = false → ∃ t, exec (.metImageLoad (some x)) s = .next t ∧ t.met.st.fwNew = some x ∧ t.chip.rgn .metrology =
      1 ∧ t.met.b Reg.MET_STAT 26 = true ∧ t.met.st.req = none ∧ t.chip.f Reg.UPD_STAT 30 2 = 2 ∧ t.heath = s.heath ∧ t.mem = s.mem ∧
      t.env = s.env ∧ t.pending = s.pending) ∧
  (∀ (s : State) (p : Plane) (v w : Word), s.chip.svc = true → s.takes p Reg.OSP_BOOT (fsetb v 29 true) = some w → fbit w 29 = true → fget w
      31 1 = runSlot s.chip ∨ s.chip.hif.verified.testBit (fget w 31 1) = true → ∃ t, exec (.bootConfirm p v) s = .next t ∧ confSlot t.chip
      = runSlot s.chip ∧ runSlot t.chip = runSlot s.chip ∧ t.chip.f Reg.OSP_BOOT 31 1 = fget w 31 1 ∧ t.chip.b Reg.OSP_BOOT 30 = false ∧
      t.chip.f Reg.OSP_BOOT 0 8 = (if 10 ≤ fget w 0 8 then fget w 0 8 else s.chip.f Reg.OSP_BOOT 0 8) ∧ t.chip.hif =
      { s.chip.hif with trialAt := none } ∧ onlyChip s t ∧ (fsetb v 29 true = w → sameRegs [Reg.OSP_BOOT] s.chip t.chip) ∧ sameRegs (logRegs
      ++ [Reg.OSP_BOOT, Reg.PG_ERR 0x7000D000]) s.chip t.chip) ∧
  (∀ (s : State) (p : Plane) (v w : Word), s.chip.svc = true → s.takes p Reg.OSP_BOOT (fsetb v 29 false) = some w → fbit w 29 = false → fget
      w 31 1 = runSlot s.chip ∨ s.chip.hif.verified.testBit (fget w 31 1) = true → ∃ t, exec (.bootNextWrite p v) s = .next t ∧ t.chip.f
      Reg.OSP_BOOT 31 1 = fget w 31 1 ∧ t.chip.b Reg.OSP_BOOT 30 = fbit w 30 ∧ t.chip.f Reg.OSP_BOOT 0 8 = (if 10 ≤ fget w 0 8 then fget w 0
      8 else s.chip.f Reg.OSP_BOOT 0 8) ∧ confSlot t.chip = confSlot s.chip ∧ runSlot t.chip = runSlot s.chip ∧ t.chip.hif = s.chip.hif ∧
      onlyChip s t ∧ (fsetb v 29 false = w → sameRegs [Reg.OSP_BOOT] s.chip t.chip) ∧ sameRegs (logRegs ++ [Reg.OSP_BOOT, Reg.PG_ERR
      0x7000D000]) s.chip t.chip) ∧
  (∀ (s : State) (p : Plane) (v w : Word), s.chip.svc = true → s.takes p Reg.OSP_BOOT (fsetb v 29 false) = some w → fget w 31 1 ≠ runSlot
      s.chip → s.chip.hif.verified.testBit (fget w 31 1) = false → ∃ t, exec (.bootNextWrite p v) s = .next t ∧ (fsetb v 29 false = w →
      t.chip = s.chip.setB Reg.OSP_BOOT 24 true) ∧ t.chip.rd Reg.OSP_BOOT = s.chip.rd Reg.OSP_BOOT ||| 0x1000000 ∧ t.chip.hif = s.chip.hif ∧
      onlyChip s t ∧ sameRegs (logRegs ++ [Reg.OSP_BOOT, Reg.PG_ERR 0x7000D000]) s.chip t.chip) ∧
  (∀ (s : State), bootDue s.env s.chip = true → rgnThird s.env .service s.chip = false → ∃ t, exec .bootTimeout s = .next t ∧
      t.chip.rgn .service = 1 ∧ t.chip.hif.fallback = true ∧ t.chip.hif.trialAt = none ∧ t.heath = s.heath ∧ t.met = s.met ∧ t.env = s.env
      ∧ t.pending = s.pending)

/-- A command for the slot that does not run starts: BUSY alone is shown, the operation is what FL_ADDR, FL_SRC and LEN say, and a slot to be erased
or programmed is no longer verified. One for the running slot is refused with ACTIVE_SLOT and nothing else. An ERASE that completes leaves its 64 KiB
sector erased and not torn; a PROGRAM has written the bytes of LPDDR4X; every other byte of flash stands. A VERIFY shows whether the slot passes the
checks of a start, and keeps it. An operation that fails, or lies outside the slot (log entry 33), shows ERROR and changes no byte. Only the host
interface's state changes. Under these conditions alone each of flErase, flProgram, flVerify and flashOpComplete answers a next state. -/
def Obligations.FlashOperations : Prop :=
  (∀ (s : State) (p : Plane) (slot : Fin 2), s.chip.svc = true → s.takes p Reg.OSP_FL_CMD (word (2 ^ 28 + slot * 2 ^ 27)) = some (word
      (2 ^ 28 + slot * 2 ^ 27)) → s.chip.hif.op = none → slot.val ≠ runSlot s.chip → ∃ t, exec (.flErase p slot) s = .next t ∧
      t.chip.hif.op = some
      { op := 1, slot := slot, addr := s.chip.n Reg.OSP_FL_ADDR, len := 1, src := s.chip.n Reg.OSP_FL_SRC_LO + 2 ^ 32 * s.chip.n Reg.OSP_FL_SRC_HI }
      ∧ t.chip.hif.verified = s.chip.hif.verified &&& (2 ^ (1 - slot.val)) ∧ t.chip.hif.flash = s.chip.hif.flash ∧ t.chip.rd
      Reg.OSP_FL_STAT = 0x80000000 ∧ onlyChip s t ∧ sameRegs [Reg.OSP_FL_STAT] s.chip t.chip) ∧
  (∀ (s : State) (p : Plane) (slot : Fin 2) (len : BitVec 12), s.chip.svc = true → s.takes p Reg.OSP_FL_CMD (word (2 * 2 ^ 28 + slot *
      2 ^ 27 + len.toNat)) = some (word (2 * 2 ^ 28 + slot * 2 ^ 27 + len.toNat)) → s.chip.hif.op = none → slot.val ≠ runSlot s.chip → ∃
      t, exec (.flProgram p slot len) s = .next t ∧ t.chip.hif.op = some
      { op := 2, slot := slot, addr := s.chip.n Reg.OSP_FL_ADDR, len := len.toNat + 1, src := s.chip.n Reg.OSP_FL_SRC_LO + 2 ^ 32 * s.chip.n Reg.OSP_FL_SRC_HI }
      ∧ t.chip.hif.verified = s.chip.hif.verified &&& (2 ^ (1 - slot.val)) ∧ t.chip.hif.flash = s.chip.hif.flash ∧ t.chip.rd
      Reg.OSP_FL_STAT = 0x80000000 ∧ onlyChip s t ∧ sameRegs [Reg.OSP_FL_STAT] s.chip t.chip) ∧
  (∀ (s : State) (p : Plane) (slot : Fin 2), s.chip.svc = true → s.takes p Reg.OSP_FL_CMD (word (3 * 2 ^ 28 + slot * 2 ^ 27)) = some
      (word (3 * 2 ^ 28 + slot * 2 ^ 27)) → s.chip.hif.op = none → slot.val ≠ runSlot s.chip → ∃ t, exec (.flVerify p slot) s = .next t ∧
      t.chip.hif.op = some
      { op := 3, slot := slot, addr := s.chip.n Reg.OSP_FL_ADDR, len := 1, src := s.chip.n Reg.OSP_FL_SRC_LO + 2 ^ 32 * s.chip.n Reg.OSP_FL_SRC_HI }
      ∧ t.chip.hif.verified = s.chip.hif.verified ∧ t.chip.hif.flash = s.chip.hif.flash ∧ t.chip.rd Reg.OSP_FL_STAT = 0x80000000 ∧
      onlyChip s t ∧ sameRegs [Reg.OSP_FL_STAT] s.chip t.chip) ∧
  (∀ (s : State) (p : Plane) (slot : Fin 2), s.chip.svc = true → s.takes p Reg.OSP_FL_CMD (word (2 ^ 28 + slot * 2 ^ 27)) = some (word
      (2 ^ 28 + slot * 2 ^ 27)) → s.chip.hif.op = none → slot.val = runSlot s.chip → ∃ t, exec (.flErase p slot) s = .next t ∧ t.chip =
      s.chip.setB Reg.OSP_FL_STAT 30 true ∧ onlyChip s t) ∧
  (∀ (s : State) (p : Plane) (slot : Fin 2) (len : BitVec 12), s.chip.svc = true → s.takes p Reg.OSP_FL_CMD (word (2 * 2 ^ 28 + slot *
      2 ^ 27 + len.toNat)) = some (word (2 * 2 ^ 28 + slot * 2 ^ 27 + len.toNat)) → s.chip.hif.op = none → slot.val = runSlot s.chip → ∃
      t, exec (.flProgram p slot len) s = .next t ∧ t.chip = s.chip.setB Reg.OSP_FL_STAT 30 true ∧ onlyChip s t) ∧
  (∀ (s : State) (p : Plane) (slot : Fin 2), s.chip.svc = true → s.takes p Reg.OSP_FL_CMD (word (3 * 2 ^ 28 + slot * 2 ^ 27)) = some
      (word (3 * 2 ^ 28 + slot * 2 ^ 27)) → s.chip.hif.op = none → slot.val = runSlot s.chip → ∃ t, exec (.flVerify p slot) s = .next t ∧
      t.chip = s.chip.setB Reg.OSP_FL_STAT 30 true ∧ onlyChip s t) ∧
  (∀ (s : State) (o : FlashOp) (sig : Bool) (slot : Fin 2), s.chip.hif.op = some o → o.op = 1 → o.slot = slot.val → o.addr < 2 ^ 25 →
      ∃ t, exec (.flashOpComplete true sig) s = .next t ∧ t.chip.hif.op = none ∧ (∀ k : Fin 16, flashByte t.chip.hif slot (o.addr /
      0x10000 * 0x10000 + k) = 0xFF ∧ flashByte t.chip.hif slot (o.addr / 0x10000 * 0x10000 + 0xFFFF - k) = 0xFF) ∧ (∀ a : Fin 64, a.val ∉
      [o.addr / 0x10000] → flashByte t.chip.hif slot (0x10000 * a + 5) = flashByte s.chip.hif slot (0x10000 * a + 5)) ∧ (512 * slot.val +
      o.addr / 0x10000) ∉ t.chip.hif.torn ∧ t.chip.b Reg.OSP_FL_STAT 31 = false ∧ onlyChip s t ∧ sameRegs [Reg.OSP_FL_STAT] s.chip t.chip) ∧
  (∀ (s : State) (o : FlashOp) (sig : Bool), s.chip.hif.op = some o → o.op = 2 → o.addr + o.len ≤ 2 ^ 25 → ∃ t, exec (.flashOpComplete
      true sig) s = .next t ∧ t.chip.hif.op = none ∧ flashTake t.chip.hif o.slot o.addr o.len = memTake s.mem o.src o.len ∧ (∀ k : Fin 64,
      flashByte t.chip.hif o.slot (o.addr + o.len + k) = flashByte s.chip.hif o.slot (o.addr + o.len + k)) ∧ t.chip.b Reg.OSP_FL_STAT 31 =
      false ∧ onlyChip s t ∧ sameRegs [Reg.OSP_FL_STAT] s.chip t.chip) ∧
  (∀ (s : State) (o : FlashOp) (sig : Bool), s.chip.hif.op = some o → o.op = 3 → ∃ t, exec (.flashOpComplete true sig) s = .next t ∧
      t.chip.b Reg.OSP_FL_STAT 29 = bootOk s.chip.hif o.slot sig ∧ t.chip.hif =
      { s.chip.hif with op := none, verified := (if bootOk s.chip.hif o.slot sig then s.chip.hif.verified ||| 2 ^ o.slot else s.chip.hif.verified &&& (2 ^ (1 - o.slot))) }
      ∧ t.chip.b Reg.OSP_FL_STAT 31 = false ∧ onlyChip s t ∧ sameRegs [Reg.OSP_FL_STAT] s.chip t.chip) ∧
  (∀ (s : State) (o : FlashOp) (ok sig : Bool), s.chip.hif.op = some o → ok = false ∨ flFits o = false → ∃ t, exec (.flashOpComplete
      ok sig) s = .next t ∧ t.chip.hif = { s.chip.hif with op := none } ∧ t.chip.b Reg.OSP_FL_STAT 28 = true ∧ t.chip.b Reg.OSP_FL_STAT 31
      = false ∧ onlyChip s t ∧ sameRegs [Reg.OSP_FL_STAT] s.chip t.chip)

/-- While the Service region runs: corrected errors count in CE; an uncorrectable one counts in UE with its address, flag and log entry, memory as it
was. A write of PTP_STEP_NS adds the signed step to the clock; a read of PTP_NOW_NS returns the nanoseconds and latches the seconds for its plane. A
frame on a port that is on with its link up is stamped with the clock and goes in or out. A link change is shown, and logged where LINK changes. An
input's edge is shown and flagged. A due second starts its pulse. A signed answer unlocks a locked port, counted and logged; the end locks it again,
counted and logged, and no core stays halted. A halt request of an unlocked session halts the core, but on an ACTIVE chip is refused and flagged.
Nothing else changes. Under these conditions alone each of ddrEccCe, patrolScrub, ddrEccUe, ptpStep, ptpNowRead, ethFrameReceived, ethFrameSent,
ethLinkChange, gpioEdge, pps, debugUnlock, debugEnd and debugHalt answers a next state. -/
def Obligations.HostEvents : Prop :=
  (∀ (s : State), s.chip.svc = true → ∃ t, exec .ddrEccCe s = .next t ∧ t.chip.f Reg.DDR_ECC 16 16 = min 65535 (s.chip.f Reg.DDR_ECC
      16 16 + 1) ∧ t.chip.f Reg.DDR_ECC 0 16 = s.chip.f Reg.DDR_ECC 0 16 ∧ onlyChip s t ∧ sameRegs [Reg.DDR_ECC] s.chip t.chip) ∧
  (∀ (s : State) (ce : Nat), s.chip.svc = true → ∃ t, exec (.patrolScrub ce) s = .next t ∧ t.chip.f Reg.DDR_ECC 16 16 = min 65535
      (s.chip.f Reg.DDR_ECC 16 16 + ce) ∧ t.chip.f Reg.DDR_ECC 0 16 = s.chip.f Reg.DDR_ECC 0 16 ∧ onlyChip s t ∧ sameRegs [Reg.DDR_ECC]
      s.chip t.chip) ∧
  (∀ (s : State) (a : Nat), s.chip.svc = true → ∃ t, exec (.ddrEccUe a .core) s = .next t ∧ t.chip.f Reg.DDR_ECC 0 16 = min 65535
      (s.chip.f Reg.DDR_ECC 0 16 + 1) ∧ t.chip.rd Reg.DDR_UE_ADDR_LO = word a ∧ t.chip.rd Reg.DDR_UE_ADDR_HI = word (a / 2 ^ 32) ∧
      t.chip.b Reg.DDR_STAT 30 = true ∧ logged s.chip t.chip ⟨s.env.time.stamp, srcWord 0x2A 0 1, word a⟩ ∧ onlyChip s t ∧ sameRegs
      (logRegs ++ [Reg.DDR_ECC, Reg.DDR_STAT, Reg.DDR_UE_ADDR_LO, Reg.DDR_UE_ADDR_HI]) s.chip t.chip) ∧
  (∀ (s : State) (a : Nat) (n : Fin 7), s.canRuns n → canTxRd n (s.can n) ≠ canTxWr n (s.can n) → ∃ t, exec (.ddrEccUe a (.can n)) s =
      .next t ∧ canTxRd n (t.can n) = (canTxRd n (s.can n) + 1) % 128 ∧ (t.can n).b (Reg.CAN_EVT n) 3 = true ∧ (t.can n).f (Reg.CAN_LOST
      n) 0 8 = min 255 ((s.can n).f (Reg.CAN_LOST n) 0 8 + 1) ∧ t.chip.b Reg.DDR_STAT 30 = true ∧ onlyChip s t ∧ sameRegs (logRegs ++
      [Reg.DDR_ECC, Reg.DDR_STAT, Reg.DDR_UE_ADDR_LO, Reg.DDR_UE_ADDR_HI, Reg.CAN_EVT n, Reg.CAN_LOST n, Reg.CAN_HW_IDX n]) s.chip t.chip) ∧
  (∀ (s : State) (p : Plane) (v w : Word), s.chip.svc = true → s.takes p Reg.ETH_PTP_STEP_NS v = some w → ∃ t, exec (.ptpStep p v) s =
      .next t ∧ t.chip.hif =
      { s.chip.hif with ptp := ptpWrap ((s.chip.hif.ptp : Int) + ((s.chip.rd Reg.ETH_PTP_STEP_S).toInt * 1000000000 + w.toInt) * 2 ^ 32) }
      ∧ t.chip.rd Reg.ETH_PTP_STEP_NS = w ∧ onlyChip s t ∧ sameRegs [Reg.ETH_PTP_STEP_NS] s.chip t.chip) ∧
  (∀ (s : State) (p : Plane), s.chip.svc = true → ∃ t, exec (.ptpNowRead p) s = .next t ∧ t.rdata = word (ptpNs s.chip.hif) ∧ tget
      (fun _ => 0) t.chip.hif.ptpNow (planeCode p) = ptpSec s.chip.hif ∧ t.chip.regs = s.chip.regs ∧ t.heath = s.heath ∧ t.met = s.met ∧
      t.mem = s.mem ∧ t.env = s.env ∧ t.pending = s.pending) ∧
  (∀ (s : State) (i : Fin 2) (l : List Byte), ethPasses s.chip i l = true → ∃ t, exec (.ethFrameReceived i l) s = .next t ∧ t.chip.hif
      = { s.chip.hif with rx := { port := i, bytes := l, sec := ptpSec s.chip.hif, ns := ptpNs s.chip.hif } :: s.chip.hif.rx } ∧ onlyChip
      s t ∧ sameRegs [] s.chip t.chip) ∧
  (∀ (s : State) (i : Fin 2) (l : List Byte), ethPasses s.chip i l = true → ∃ t, exec (.ethFrameSent i l) s = .next t ∧ t.chip.hif =
      { s.chip.hif with tx := { port := i, bytes := l, sec := ptpSec s.chip.hif, ns := ptpNs s.chip.hif } :: s.chip.hif.tx } ∧ onlyChip s
      t ∧ sameRegs [] s.chip t.chip) ∧
  (∀ (s : State) (i : Fin 2) (up an rf : Bool) (sp : BitVec 2), s.chip.svc = true → s.chip.b (Reg.ETH_CFG i) 31 = true ∨ up = false →
      ∃ t, exec (.ethLinkChange i up an rf sp) s = .next t ∧ t.chip.b (Reg.ETH_STAT i) 31 = up ∧ t.chip.b (Reg.ETH_STAT i) 30 = an ∧
      t.chip.b (Reg.ETH_STAT i) 29 = rf ∧ t.chip.f (Reg.ETH_STAT i) 0 2 = sp.toNat ∧ (s.chip.b (Reg.ETH_STAT i) 31 ≠ up → logged s.chip t.chip ⟨s.env.time.stamp, srcWord 0x29 i 1, word ((if up then 2 ^ 31 else 0) + i.val)⟩) ∧ (s.chip.b (Reg.ETH_STAT i) 31 = up →
      t.chip.log = s.chip.log) ∧ onlyChip s t ∧ sameRegs (logRegs ++ [Reg.ETH_STAT i]) s.chip t.chip) ∧
  (∀ (s : State) (n : Fin 32) (l : Bool), s.chip.svc = true → s.chip.b Reg.OSP_GPIO_DIR n = false → s.chip.b Reg.OSP_GPIO_IN n ≠ l → ∃
      t, exec (.gpioEdge n l) s = .next t ∧ t.chip.b Reg.OSP_GPIO_IN n = l ∧ t.chip.b Reg.OSP_GPIO_EVT n = true ∧ onlyChip s t ∧ sameRegs
      [Reg.OSP_GPIO_IN, Reg.OSP_GPIO_EVT] s.chip t.chip) ∧
  (∀ (s : State), s.chip.hif.ppsDue = true → ∃ t, exec .pps s = .next t ∧ t.chip.hif =
      { s.chip.hif with ppsDue := false, ppsAt := some s.env.time.up } ∧ onlyChip s t ∧ sameRegs [] s.chip t.chip) ∧
  (∀ (s : State), s.chip.f Reg.OSP_DBG 30 2 = 0 → ∃ t, exec (.debugUnlock true) s = .next t ∧ t.chip.f Reg.OSP_DBG 30 2 = 1 ∧ t.chip.f
      Reg.OSP_DBG 0 16 = min 65535 (s.chip.f Reg.OSP_DBG 0 16 + 1) ∧ logged s.chip t.chip ⟨s.env.time.stamp, srcWord 0x2B 0 2, 1⟩ ∧
      onlyChip s t ∧ sameRegs (logRegs ++ [Reg.OSP_DBG]) s.chip t.chip) ∧
  (∀ (s : State), s.chip.f Reg.OSP_DBG 30 2 ≠ 0 → ∃ t, exec .debugEnd s = .next t ∧ t.chip.f Reg.OSP_DBG 30 2 = 0 ∧ t.chip.hif.halted
      = 0 ∧ t.chip.f Reg.OSP_DBG 0 16 = min 65535 (s.chip.f Reg.OSP_DBG 0 16 + 1) ∧ logged s.chip t.chip ⟨s.env.time.stamp, srcWord 0x2B
      0 2, 0⟩ ∧ onlyChip s t ∧ sameRegs (logRegs ++ [Reg.OSP_DBG]) s.chip t.chip) ∧
  (∀ (s : State) (k : Fin 4), s.chip.f Reg.OSP_DBG 30 2 ≠ 0 → s.chip.role ≠ 1 → ∃ t, exec (.debugHalt k) s = .next t ∧
      t.chip.hif.halted = s.chip.hif.halted ||| 2 ^ k.val ∧ onlyChip s t ∧ sameRegs [] s.chip t.chip) ∧
  (∀ (s : State) (k : Fin 4), s.chip.f Reg.OSP_DBG 30 2 ≠ 0 → s.chip.role = 1 → ∃ t, exec (.debugHalt k) s = .next t ∧ t.chip =
      s.chip.setB Reg.OSP_DBG 29 true ∧ onlyChip s t)

/-- In the reset state the frame, allocation, move, thermal, housekeeping, port, session, pair, network, switch, Ethernet, CAN, Heath and Metrology
registers named hold the nonzero reset values that the register tables of the spec give them; the event log is empty with its index at 0, every galley
slot is free, the Quoin gate is closed, the frame number is 0 and no command waits. -/
def Obligations.ResetValues : Prop :=
  State.reset.chip.rd Reg.FRM_CFG = 0xA0001 ∧
  State.reset.chip.rd Reg.FRM_LEN = 0x61A8 ∧
  State.reset.chip.rd Reg.FRM_CUT_A = 0x17701388 ∧
  State.reset.chip.rd Reg.FRM_CUT_B = 0x55F04268 ∧
  State.reset.chip.rd Reg.FRM_BUDGET = 0x13881770 ∧
  State.reset.chip.rd Reg.ALC_SITE_CFG = 0x7D0 ∧
  State.reset.chip.rd Reg.ALC_GRID_SET = 0xFFFFFFFF ∧
  State.reset.chip.rd Reg.ALC_SAG_CFG = 0x556E6428 ∧
  State.reset.chip.rd Reg.ALC_SAG_NOM = 0x8FC ∧
  State.reset.chip.rd Reg.MOV_CFG = 0x20064 ∧
  State.reset.chip.rd Reg.MOV_TO_A = 0x3200020 ∧
  State.reset.chip.rd Reg.MOV_TO_B = 0x140050 ∧
  State.reset.chip.rd Reg.HKP_DIE_CFG = 0x6E780000 ∧
  State.reset.chip.rd Reg.PRT_TP_GCFG = 0x41048000 ∧
  State.reset.chip.rd Reg.QN_CFG = 0xA ∧
  State.reset.chip.rd Reg.HDG_CFG = 0x380004 ∧
  State.reset.chip.rd Reg.HDG_ROUTE = 0x4280001E ∧
  (∀ j : Fin 2, State.reset.chip.rd (Reg.THM_GCFG j) = 0x8103200) ∧
  (∀ j : Fin 2, State.reset.chip.rd (Reg.SES_PCFG j) = 0x320190) ∧
  (∀ j : Fin 2, State.reset.chip.rd (Reg.SES_SCFG j) = 0x10000064) ∧
  (∀ j : Fin 64, State.reset.chip.rd (Reg.ALC_OUT_CFG j) = 0x100) ∧
  (∀ j : Fin 64, State.reset.chip.rd (Reg.ALC_OUT_RAMP j) = 0x64) ∧
  (∀ j : Fin 64, State.reset.chip.rd (Reg.THM_OVD j) = 0x75300000) ∧
  (∀ j : Fin 64, State.reset.chip.rd (Reg.THM_SHARE j) = 0x80800000) ∧
  (∀ j : Fin 32, State.reset.chip.rd (Reg.PRT_PHY_CFG j) = 0xC00A1804) ∧
  (∀ j : Fin 32, State.reset.chip.rd (Reg.PRT_PHY_TRAIN j) = 0xFFFF) ∧
  (∀ j : Fin 16, State.reset.chip.rd (Reg.ASW_CH_CFG j) = 0xFA00) ∧
  (∀ j : Fin 16, State.reset.chip.rd (Reg.ASW_CH_I2T j) = 0x5DC) ∧
  (∀ j : Fin 2, State.reset.chip.rd (Reg.ETH_CFG j) = 0x20000002) ∧
  (∀ c : Fin 7, State.reset.chip.rd (Reg.CAN_CTL c) = 0x3E8 ∧ State.reset.chip.rd (Reg.CAN_NBT c) = 0x07F3F3E0 ∧ State.reset.chip.rd (Reg.CAN_STAT c) = 0xC0000000) ∧
  State.reset.heath.rd Reg.HTH_CFG = 0x64 ∧
  State.reset.heath.rd Reg.SFN_CFG = 0x5300 ∧
  State.reset.heath.rd (Reg.CAN_STAT 7) = 0xC0000000 ∧
  State.reset.met.rd Reg.MET_CFG = 0x320032 ∧
  State.reset.met.rd Reg.MET_BAL_CFG = 0xA141E00 ∧
  State.reset.met.rd Reg.MET_BAK_CFG = 0x8000000A ∧
  State.reset.met.rd Reg.TRF_DEM_CFG = 0x2 ∧
  State.reset.met.rd Reg.TRF_BILL_CFG = 0x41000000 ∧
  State.reset.met.rd Reg.TRF_TIME_CFG = 0x3C07D0 ∧
  State.reset.chip.log = [] ∧ State.reset.chip.rd Reg.CHIP_LOG_WR = 0 ∧ (∀ k : Fin 4, State.reset.chip.slotState k = 0) ∧ State.reset.chip.b Reg.QN_STAT 28 = false ∧ State.reset.env.time.frameNo = 0 ∧ State.reset.pending = []
end

