-- ==== Sys2Proof/Laws/Maps.lean ====
section
/-! SUPPORT. The laws of sparse tables and of fields in a word: a read after a write, the canonical form kept, a field read after a
field set. -/
namespace Sys2Proof.Machine

/-! ### Tables -/

theorem tget_tdrop_same {α : Type} (d : Nat → α) (m : List (Nat × α)) (k : Nat) : tget d (tdrop m k) k = d k := by
  induction m with
  | nil => rfl
  | cons x t ih =>
    obtain ⟨a, v⟩ := x
    by_cases h : a = k
    · simpa [tdrop, h] using ih
    · have : tdrop ((a, v) :: t) k = (a, v) :: tdrop t k := by simp [tdrop, h]
      simp [this, tget, h, ih]

theorem tget_tdrop_ne {α : Type} (d : Nat → α) (m : List (Nat × α)) {k j : Nat} (hj : j ≠ k) : tget d (tdrop m k) j = tget d m j := by
  induction m with
  | nil => rfl
  | cons x t ih =>
    obtain ⟨a, v⟩ := x
    by_cases h : a = k
    · have : tdrop ((a, v) :: t) k = tdrop t k := by simp [tdrop, h]
      rw [this, ih]; simp [tget, h, Ne.symm hj]
    · have : tdrop ((a, v) :: t) k = (a, v) :: tdrop t k := by simp [tdrop, h]
      simp only [this, tget, ih]

theorem tget_tins_ne {α : Type} (d : Nat → α) (m : List (Nat × α)) {k j : Nat} (v : α) (hj : j ≠ k) :
    tget d (tins m k v) j = tget d m j := by
  induction m with
  | nil => simp [tins, tget, Ne.symm hj]
  | cons x t ih =>
    obtain ⟨a, w⟩ := x
    unfold tins
    split
    · simp [tget, Ne.symm hj]
    · simp only [tget, ih]

theorem tget_tins_same {α : Type} (d : Nat → α) (m : List (Nat × α)) (k : Nat) (v : α) :
    tget d (tins (tdrop m k) k v) k = v := by
  induction m with
  | nil => simp [tdrop, tins, tget]
  | cons x t ih =>
    obtain ⟨a, w⟩ := x
    by_cases h : a = k
    · have : tdrop ((a, w) :: t) k = tdrop t k := by simp [tdrop, h]
      rw [this, ih]
    · have : tdrop ((a, w) :: t) k = (a, w) :: tdrop t k := by simp [tdrop, h]
      rw [this]; unfold tins
      split
      · simp [tget]
      · simp [tget, h, ih]

/-- A read of the key that was set gives the value set. -/
@[simp] theorem tget_tset_same {α : Type} [DecidableEq α] (d : Nat → α) (m : List (Nat × α)) (k : Nat) (v : α) :
    tget d (tset d m k v) k = v := by
  unfold tset
  split
  · rw [tget_tdrop_same]; exact Eq.symm ‹_›
  · exact tget_tins_same d m k v

/-- A read of another key gives what it gave before. -/
theorem tget_tset_ne {α : Type} [DecidableEq α] (d : Nat → α) (m : List (Nat × α)) {k j : Nat} (v : α) (hj : j ≠ k) :
    tget d (tset d m k v) j = tget d m j := by
  unfold tset
  split
  · exact tget_tdrop_ne d m hj
  · rw [tget_tins_ne d _ v hj, tget_tdrop_ne d m hj]

theorem tget_tset {α : Type} [DecidableEq α] (d : Nat → α) (m : List (Nat × α)) (k j : Nat) (v : α) :
    tget d (tset d m k v) j = if j = k then v else tget d m j := by
  by_cases h : j = k
  · subst h; simp
  · simp [h, tget_tset_ne]

@[simp] theorem tget_nil {α : Type} (d : Nat → α) (k : Nat) : tget d [] k = d k := rfl

theorem twfFrom_mono {α : Type} [DecidableEq α] {d : Nat → α} {m : List (Nat × α)} {lo hi : Nat} (h : lo ≤ hi)
    (hw : twfFrom d hi m = true) : twfFrom d lo m = true := by
  cases m with
  | nil => rfl
  | cons x t =>
    obtain ⟨a, v⟩ := x
    simp only [twfFrom, Bool.and_eq_true, decide_eq_true_eq] at hw ⊢
    exact ⟨⟨le_trans h hw.1.1, hw.1.2⟩, hw.2⟩

theorem twfFrom_tdrop {α : Type} [DecidableEq α] {d : Nat → α} (m : List (Nat × α)) (lo k : Nat)
    (hw : twfFrom d lo m = true) : twfFrom d lo (tdrop m k) = true := by
  induction m generalizing lo with
  | nil => rfl
  | cons x t ih =>
    obtain ⟨a, v⟩ := x
    simp only [twfFrom, Bool.and_eq_true, decide_eq_true_eq] at hw
    by_cases h : a = k
    · have : tdrop ((a, v) :: t) k = tdrop t k := by simp [tdrop, h]
      rw [this]
      exact twfFrom_mono (Nat.le_succ_of_le hw.1.1) (ih _ hw.2)
    · have : tdrop ((a, v) :: t) k = (a, v) :: tdrop t k := by simp [tdrop, h]
      rw [this]
      simp only [twfFrom, Bool.and_eq_true, decide_eq_true_eq]
      exact ⟨hw.1, ih _ hw.2⟩

theorem twfFrom_tins {α : Type} [DecidableEq α] {d : Nat → α} (m : List (Nat × α)) (lo k : Nat) (v : α) (hk : lo ≤ k)
    (hv : v ≠ d k) (hw : twfFrom d lo (tdrop m k) = true) : twfFrom d lo (tins (tdrop m k) k v) = true := by
  induction m generalizing lo with
  | nil => simp [tdrop, tins, twfFrom, hk, hv]
  | cons x t ih =>
    obtain ⟨a, w⟩ := x
    by_cases h : a = k
    · have : tdrop ((a, w) :: t) k = tdrop t k := by simp [tdrop, h]
      rw [this] at hw ⊢
      exact ih _ hk hw
    · have e : tdrop ((a, w) :: t) k = (a, w) :: tdrop t k := by simp [tdrop, h]
      rw [e] at hw ⊢
      simp only [twfFrom, Bool.and_eq_true, decide_eq_true_eq] at hw
      unfold tins
      split
      · rename_i hka
        simp only [twfFrom, Bool.and_eq_true, decide_eq_true_eq, Bool.not_eq_true']
        refine ⟨⟨hk, by simpa using hv⟩, ⟨Nat.succ_le_of_lt hka, by simpa using hw.1.2⟩, hw.2⟩
      · rename_i hka
        simp only [twfFrom, Bool.and_eq_true, decide_eq_true_eq]
        exact ⟨hw.1, ih _ (by omega) hw.2⟩

/-- Setting a key keeps the canonical form. -/
theorem twf_tset {α : Type} [DecidableEq α] {d : Nat → α} {m : List (Nat × α)} (k : Nat) (v : α) (hw : twf d m = true) :
    twf d (tset d m k v) = true := by
  unfold twf tset at *
  split
  · exact twfFrom_tdrop m 0 k hw
  · exact twfFrom_tins m 0 k v (Nat.zero_le _) ‹_› (twfFrom_tdrop m 0 k hw)

/-! ### Fields of a word -/

theorem fmask_bit (lo w i : Nat) (hi : i < 32) : (fmask lo w).getLsbD i = (decide (lo ≤ i) && decide (i < lo + w)) := by
  simp only [fmask, BitVec.getLsbD_ofNat, hi, decide_true, Bool.true_and, Nat.testBit_shiftLeft, Nat.testBit_two_pow_sub_one]
  by_cases h : lo ≤ i
  · have e : (i - lo < w) = (i < lo + w) := by apply propext; omega
    simp [h, e]
  · simp [h]

theorem fset_bit (v : Word) (lo w x i : Nat) (hi : i < 32) :
    (fset v lo w x).getLsbD i = if lo ≤ i ∧ i < lo + w then x.testBit (i - lo) else v.getLsbD i := by
  simp only [fset, BitVec.getLsbD_or, BitVec.getLsbD_and, BitVec.getLsbD_not, hi, decide_true, Bool.true_and, fmask_bit,
    BitVec.getLsbD_ofNat, Nat.testBit_shiftLeft, Nat.testBit_mod_two_pow]
  by_cases h : lo ≤ i
  · by_cases h2 : i < lo + w
    · have : i - lo < w := by omega
      simp [h, h2, this]
    · have : ¬ i - lo < w := by omega
      simp [h, h2, this]
  · simp [h]

theorem fget_testBit (v : Word) (lo w i : Nat) : (fget v lo w).testBit i = (decide (i < w) && v.getLsbD (lo + i)) := by
  simp [fget, Nat.testBit_mod_two_pow, Nat.testBit_shiftRight, BitVec.getLsbD]

theorem fget_lt (v : Word) (lo w : Nat) : fget v lo w < 2 ^ w := Nat.mod_lt _ (Nat.two_pow_pos w)

/-- A field reads what it was set to. -/
theorem fget_fset_same (v : Word) (lo w x : Nat) (h : lo + w ≤ 32) : fget (fset v lo w x) lo w = x % 2 ^ w := by
  apply Nat.eq_of_testBit_eq
  intro i
  rw [fget_testBit, Nat.testBit_mod_two_pow]
  by_cases hi : i < w
  · rw [fset_bit _ _ _ _ _ (by omega)]; simp [hi]
  · simp [hi]

/-- A field apart from the one set reads as before. -/
theorem fget_fset_ne (v : Word) (lo w x lo' w' : Nat) (h : lo' + w' ≤ lo ∨ lo + w ≤ lo') :
    fget (fset v lo w x) lo' w' = fget v lo' w' := by
  apply Nat.eq_of_testBit_eq
  intro i
  rw [fget_testBit, fget_testBit]
  by_cases hi : i < w'
  · by_cases h3 : lo' + i < 32
    · rw [fset_bit _ _ _ _ _ h3]
      have : ¬ (lo ≤ lo' + i ∧ lo' + i < lo + w) := by omega
      simp [hi, this]
    · have h4 := BitVec.getLsbD_of_ge (fset v lo w x) (lo' + i) (by omega)
      have h5 := BitVec.getLsbD_of_ge v (lo' + i) (by omega)
      simp [h4, h5]
  · simp [hi]

/-- A bit of a word with a field set. -/
theorem fbit_fset (v : Word) (lo w x i : Nat) (hi : i < 32) :
    fbit (fset v lo w x) i = if lo ≤ i ∧ i < lo + w then x.testBit (i - lo) else fbit v i := fset_bit v lo w x i hi

/-- A bit of a word with a bit set. -/
theorem fbit_fsetb (v : Word) (i j : Nat) (b : Bool) (hj : j < 32) : fbit (fsetb v i b) j = if j = i then b else fbit v j := by
  unfold fsetb
  rw [fbit_fset _ _ _ _ _ hj]
  by_cases h : j = i
  · subst h; cases b <;> simp
  · have : ¬ (i ≤ j ∧ j < i + 1) := by omega
    rw [if_neg this, if_neg h]

/-- A bit set reads as set. -/
theorem fbit_fsetb_same (v : Word) (i : Nat) (b : Bool) (hi : i < 32) : fbit (fsetb v i b) i = b := by
  rw [fbit_fsetb _ _ _ _ hi]; simp

/-- A field apart from the bit set reads as before. -/
theorem fget_fsetb_ne (v : Word) (i : Nat) (b : Bool) (lo w : Nat) (h : i < lo ∨ lo + w ≤ i) :
    fget (fsetb v i b) lo w = fget v lo w := fget_fset_ne _ _ _ _ _ _ (by omega)

/-- A bit apart from the field set reads as before. -/
theorem fbit_fset_ne (v : Word) (lo w x i : Nat) (h : i < lo ∨ lo + w ≤ i) : fbit (fset v lo w x) i = fbit v i := by
  by_cases hi : i < 32
  · rw [fbit_fset _ _ _ _ _ hi]; have : ¬ (lo ≤ i ∧ i < lo + w) := by omega
    simp [this]
  · simp only [fbit]; rw [BitVec.getLsbD_of_ge _ _ (by omega), BitVec.getLsbD_of_ge _ _ (by omega)]

end Sys2Proof.Machine
end

