-- ==== Sys2Proof/Laws/Regs.lean ====
section
/-! SUPPORT. Registers read after they are written, in the three region tables. -/
namespace Sys2Proof.Machine

theorem rget_rset (m : RegTable) (a b : Nat) (v : Word) : rget (rset m a v) b = if b = a then v else rget m b := tget_tset _ _ _ _ _

@[simp] theorem Chip.rd_wr_same (c : Chip) (a : Nat) (v : Word) : (c.wr a v).rd a = v := by simp [Chip.rd, Chip.wr, rget_rset]
theorem Chip.rd_wr (c : Chip) (a b : Nat) (v : Word) : (c.wr a v).rd b = if b = a then v else c.rd b := rget_rset _ _ _ _
theorem Chip.rd_wr_ne (c : Chip) {a b : Nat} (v : Word) (h : b ≠ a) : (c.wr a v).rd b = c.rd b := by simp [Chip.rd_wr, h]
@[simp] theorem Heath.rd_wr_same (c : Heath) (a : Nat) (v : Word) : (c.wr a v).rd a = v := by simp [Heath.rd, Heath.wr, rget_rset]
theorem Heath.rd_wr (c : Heath) (a b : Nat) (v : Word) : (c.wr a v).rd b = if b = a then v else c.rd b := rget_rset _ _ _ _
theorem Heath.rd_wr_ne (c : Heath) {a b : Nat} (v : Word) (h : b ≠ a) : (c.wr a v).rd b = c.rd b := by simp [Heath.rd_wr, h]
@[simp] theorem Met.rd_wr_same (c : Met) (a : Nat) (v : Word) : (c.wr a v).rd a = v := by simp [Met.rd, Met.wr, rget_rset]
theorem Met.rd_wr (c : Met) (a b : Nat) (v : Word) : (c.wr a v).rd b = if b = a then v else c.rd b := rget_rset _ _ _ _
theorem Met.rd_wr_ne (c : Met) {a b : Nat} (v : Word) (h : b ≠ a) : (c.wr a v).rd b = c.rd b := by simp [Met.rd_wr, h]

/-! ### Fields and bits of a chip register -/

theorem Chip.rd_setF (c : Chip) (a b lo w x : Nat) : (c.setF a lo w x).rd b = if b = a then fset (c.rd a) lo w x else c.rd b := Chip.rd_wr _ _ _ _
theorem Chip.rd_setF_ne (c : Chip) {a b lo w x : Nat} (h : b ≠ a) : (c.setF a lo w x).rd b = c.rd b := Chip.rd_wr_ne _ _ h
theorem Chip.rd_setB (c : Chip) (a b i : Nat) (x : Bool) : (c.setB a i x).rd b = if b = a then fsetb (c.rd a) i x else c.rd b := Chip.rd_wr _ _ _ _
theorem Chip.rd_setB_ne (c : Chip) {a b i : Nat} {x : Bool} (h : b ≠ a) : (c.setB a i x).rd b = c.rd b := Chip.rd_wr_ne _ _ h
theorem Chip.f_setF_same (c : Chip) (a lo w x : Nat) (h : lo + w ≤ 32) : (c.setF a lo w x).f a lo w = x % 2 ^ w := by
  simp [Chip.f, Chip.setF, fget_fset_same _ _ _ _ h]
theorem Chip.f_setF_apart (c : Chip) (a lo w x lo' w' : Nat) (h : lo' + w' ≤ lo ∨ lo + w ≤ lo') : (c.setF a lo w x).f a lo' w' = c.f a lo' w' := by
  simp [Chip.f, Chip.setF, fget_fset_ne _ _ _ _ _ _ h]
theorem Chip.f_setF_ne (c : Chip) {a b : Nat} (lo w x lo' w' : Nat) (h : b ≠ a) : (c.setF a lo w x).f b lo' w' = c.f b lo' w' := by
  simp [Chip.f, Chip.rd_setF_ne _ h]
theorem Chip.f_setB_ne (c : Chip) {a b : Nat} (i : Nat) (x : Bool) (lo w : Nat) (h : b ≠ a) : (c.setB a i x).f b lo w = c.f b lo w := by
  simp [Chip.f, Chip.rd_setB_ne _ h]
theorem Chip.f_setB_apart (c : Chip) (a i : Nat) (x : Bool) (lo w : Nat) (h : i < lo ∨ lo + w ≤ i) : (c.setB a i x).f a lo w = c.f a lo w := by
  simp [Chip.f, Chip.setB, fget_fsetb_ne _ _ _ _ _ h]
theorem Chip.b_setB_same (c : Chip) (a i : Nat) (x : Bool) (h : i < 32) : (c.setB a i x).b a i = x := by
  simp [Chip.b, Chip.setB, fbit_fsetb_same _ _ _ h]
theorem Chip.b_setB_apart (c : Chip) (a i j : Nat) (x : Bool) (h : j ≠ i) : (c.setB a i x).b a j = c.b a j := by
  simp only [Chip.b, Chip.setB, Chip.rd_wr_same, fsetb]
  exact fbit_fset_ne _ _ _ _ _ (by omega)
theorem Chip.b_setB_ne (c : Chip) {a b : Nat} (i j : Nat) (x : Bool) (h : b ≠ a) : (c.setB a i x).b b j = c.b b j := by
  simp [Chip.b, Chip.rd_setB_ne _ h]
theorem Chip.b_setF_ne (c : Chip) {a b : Nat} (lo w x j : Nat) (h : b ≠ a) : (c.setF a lo w x).b b j = c.b b j := by
  simp [Chip.b, Chip.rd_setF_ne _ h]
theorem Chip.b_setF_apart (c : Chip) (a lo w x j : Nat) (h : j < lo ∨ lo + w ≤ j) : (c.setF a lo w x).b a j = c.b a j := by
  simp [Chip.b, Chip.setF, fbit_fset_ne _ _ _ _ _ h]
theorem Chip.f_wr_ne (c : Chip) {a b : Nat} (v : Word) (lo w : Nat) (h : b ≠ a) : (c.wr a v).f b lo w = c.f b lo w := by
  simp [Chip.f, Chip.rd_wr_ne _ _ h]
theorem Chip.b_wr_ne (c : Chip) {a b : Nat} (v : Word) (i : Nat) (h : b ≠ a) : (c.wr a v).b b i = c.b b i := by
  simp [Chip.b, Chip.rd_wr_ne _ _ h]

/-! ### Of a Heath or a Metrology register -/

theorem Heath.rd_setF (c : Heath) (a b lo w x : Nat) : (c.setF a lo w x).rd b = if b = a then fset (c.rd a) lo w x else c.rd b := Heath.rd_wr _ _ _ _
theorem Heath.rd_setB (c : Heath) (a b i : Nat) (x : Bool) : (c.setB a i x).rd b = if b = a then fsetb (c.rd a) i x else c.rd b := Heath.rd_wr _ _ _ _
theorem Met.rd_setF (c : Met) (a b lo w x : Nat) : (c.setF a lo w x).rd b = if b = a then fset (c.rd a) lo w x else c.rd b := Met.rd_wr _ _ _ _
theorem Met.rd_setB (c : Met) (a b i : Nat) (x : Bool) : (c.setB a i x).rd b = if b = a then fsetb (c.rd a) i x else c.rd b := Met.rd_wr _ _ _ _

/-- A word is its number modulo 2^32. -/
theorem toNat_word (n : Nat) : (word n).toNat = n % 2 ^ 32 := by simp [word]

end Sys2Proof.Machine
end

