-- ==== Sys2Proof/Laws/State.lean ====
section
/-! SUPPORT. One lemma for each field and each update of the state, so that no proof unfolds a record update. -/
namespace Sys2Proof.Machine

/-! ### Effects on one region of the state -/

@[simp] theorem onChip_pending (f : Env → Chip → Chip) (s : State) : (onChip f s).pending = s.pending := rfl
@[simp] theorem onChip_rdata (f : Env → Chip → Chip) (s : State) : (onChip f s).rdata = s.rdata := rfl
@[simp] theorem onChip_mem (f : Env → Chip → Chip) (s : State) : (onChip f s).mem = s.mem := rfl
@[simp] theorem onChip_env (f : Env → Chip → Chip) (s : State) : (onChip f s).env = s.env := rfl
@[simp] theorem onChip_heath (f : Env → Chip → Chip) (s : State) : (onChip f s).heath = s.heath := rfl
@[simp] theorem onChip_met (f : Env → Chip → Chip) (s : State) : (onChip f s).met = s.met := rfl
@[simp] theorem onChip_chip (f : Env → Chip → Chip) (s : State) : (onChip f s).chip = f s.env s.chip := rfl
@[simp] theorem onHeath_pending (f : Env → Heath → Heath × List LogReq) (s : State) : (onHeath f s).pending = s.pending := rfl
@[simp] theorem onHeath_rdata (f : Env → Heath → Heath × List LogReq) (s : State) : (onHeath f s).rdata = s.rdata := rfl
@[simp] theorem onHeath_mem (f : Env → Heath → Heath × List LogReq) (s : State) : (onHeath f s).mem = s.mem := rfl
@[simp] theorem onHeath_env (f : Env → Heath → Heath × List LogReq) (s : State) : (onHeath f s).env = s.env := rfl
@[simp] theorem onHeath_met (f : Env → Heath → Heath × List LogReq) (s : State) : (onHeath f s).met = s.met := rfl
@[simp] theorem onMet_pending (f : Env → Met → Met × List LogReq) (s : State) : (onMet f s).pending = s.pending := rfl
@[simp] theorem onMet_rdata (f : Env → Met → Met × List LogReq) (s : State) : (onMet f s).rdata = s.rdata := rfl
@[simp] theorem onMet_mem (f : Env → Met → Met × List LogReq) (s : State) : (onMet f s).mem = s.mem := rfl
@[simp] theorem onMet_env (f : Env → Met → Met × List LogReq) (s : State) : (onMet f s).env = s.env := rfl
@[simp] theorem onMet_heath (f : Env → Met → Met × List LogReq) (s : State) : (onMet f s).heath = s.heath := rfl
theorem onHeath_heath (f : Env → Heath → Heath × List LogReq) (s : State) :
    (onHeath f s).heath = { (f s.env s.heath).1 with kept := (s.chip.putOrKeep (f s.env s.heath).1.kept ((f s.env s.heath).2.map (·.entry s.env))).2 } := rfl
theorem onMet_met (f : Env → Met → Met × List LogReq) (s : State) :
    (onMet f s).met = { (f s.env s.met).1 with kept := (s.chip.putOrKeep (f s.env s.met).1.kept ((f s.env s.met).2.map (·.entry s.env))).2 } := rfl
theorem onHeath_chip (f : Env → Heath → Heath × List LogReq) (s : State) :
    (onHeath f s).chip = (s.chip.putOrKeep (f s.env s.heath).1.kept ((f s.env s.heath).2.map (·.entry s.env))).1 := rfl
theorem onMet_chip (f : Env → Met → Met × List LogReq) (s : State) :
    (onMet f s).chip = (s.chip.putOrKeep (f s.env s.met).1.kept ((f s.env s.met).2.map (·.entry s.env))).1 := rfl
@[simp] theorem onChipMem_pending (f : Env → Chip × List Host.Cell → Chip × List Host.Cell) (s : State) : (onChipMem f s).pending = s.pending := rfl
@[simp] theorem onChipMem_rdata (f : Env → Chip × List Host.Cell → Chip × List Host.Cell) (s : State) : (onChipMem f s).rdata = s.rdata := rfl
@[simp] theorem onChipMem_env (f : Env → Chip × List Host.Cell → Chip × List Host.Cell) (s : State) : (onChipMem f s).env = s.env := rfl
@[simp] theorem onChipMem_heath (f : Env → Chip × List Host.Cell → Chip × List Host.Cell) (s : State) : (onChipMem f s).heath = s.heath := rfl
@[simp] theorem onChipMem_met (f : Env → Chip × List Host.Cell → Chip × List Host.Cell) (s : State) : (onChipMem f s).met = s.met := rfl
@[simp] theorem onChipMem_mem (f : Env → Chip × List Host.Cell → Chip × List Host.Cell) (s : State) : (onChipMem f s).mem = (f s.env (s.chip, s.mem)).2 := rfl
@[simp] theorem onChipMem_chip (f : Env → Chip × List Host.Cell → Chip × List Host.Cell) (s : State) : (onChipMem f s).chip = (f s.env (s.chip, s.mem)).1 := rfl
@[simp] theorem advance_pending (n : Nat) (s : State) : (s.advance n).pending = s.pending := rfl
@[simp] theorem reach_pending (n : Nat) (s : State) : (s.reach n).pending = s.pending := rfl
@[simp] theorem advance_rdata (n : Nat) (s : State) : (s.advance n).rdata = s.rdata := rfl
@[simp] theorem reach_rdata (n : Nat) (s : State) : (s.reach n).rdata = s.rdata := rfl
@[simp] theorem advance_mem (n : Nat) (s : State) : (s.advance n).mem = s.mem := rfl
@[simp] theorem reach_mem (n : Nat) (s : State) : (s.reach n).mem = s.mem := rfl
@[simp] theorem advance_heath (n : Nat) (s : State) : (s.advance n).heath = s.heath := rfl
@[simp] theorem reach_heath (n : Nat) (s : State) : (s.reach n).heath = s.heath := rfl
@[simp] theorem advance_met (n : Nat) (s : State) : (s.advance n).met = s.met := rfl
@[simp] theorem reach_met (n : Nat) (s : State) : (s.reach n).met = s.met := rfl
@[simp] theorem advance_part (n : Nat) (s : State) : (s.advance n).env.part = s.env.part := rfl
@[simp] theorem advance_up (n : Nat) (s : State) : (s.advance n).env.time.up = s.env.time.up + n := rfl
@[simp] theorem advance_frameNo (n : Nat) (s : State) : (s.advance n).env.time.frameNo = s.env.time.frameNo := rfl

/-! ### Updates of the chip -/

@[simp] theorem Chip.wr_image (c : Chip) (a : Nat) (v : Word) : (c.wr a v).image = c.image := rfl
@[simp] theorem Chip.wr_log (c : Chip) (a : Nat) (v : Word) : (c.wr a v).log = c.log := rfl
@[simp] theorem Chip.wr_snaps (c : Chip) (a : Nat) (v : Word) : (c.wr a v).snaps = c.snaps := rfl
@[simp] theorem Chip.wr_now (c : Chip) (a : Nat) (v : Word) : (c.wr a v).now = c.now := rfl
@[simp] theorem Chip.wr_frm (c : Chip) (a : Nat) (v : Word) : (c.wr a v).frm = c.frm := rfl
@[simp] theorem Chip.wr_gal (c : Chip) (a : Nat) (v : Word) : (c.wr a v).gal = c.gal := rfl
@[simp] theorem Chip.wr_flt (c : Chip) (a : Nat) (v : Word) : (c.wr a v).flt = c.flt := rfl
@[simp] theorem Chip.wr_img (c : Chip) (a : Nat) (v : Word) : (c.wr a v).img = c.img := rfl
@[simp] theorem Chip.wr_alc (c : Chip) (a : Nat) (v : Word) : (c.wr a v).alc = c.alc := rfl
@[simp] theorem Chip.wr_mov (c : Chip) (a : Nat) (v : Word) : (c.wr a v).mov = c.mov := rfl
@[simp] theorem Chip.wr_cen (c : Chip) (a : Nat) (v : Word) : (c.wr a v).cen = c.cen := rfl
@[simp] theorem Chip.wr_drawn (c : Chip) (a : Nat) (v : Word) : (c.wr a v).drawn = c.drawn := rfl
@[simp] theorem Chip.wr_thm (c : Chip) (a : Nat) (v : Word) : (c.wr a v).thm = c.thm := rfl
@[simp] theorem Chip.wr_thmKept (c : Chip) (a : Nat) (v : Word) : (c.wr a v).thmKept = c.thmKept := rfl
@[simp] theorem Chip.wr_hkp (c : Chip) (a : Nat) (v : Word) : (c.wr a v).hkp = c.hkp := rfl
@[simp] theorem Chip.wr_phy (c : Chip) (a : Nat) (v : Word) : (c.wr a v).phy = c.phy := rfl
@[simp] theorem Chip.wr_tp (c : Chip) (a : Nat) (v : Word) : (c.wr a v).tp = c.tp := rfl
@[simp] theorem Chip.wr_ses (c : Chip) (a : Nat) (v : Word) : (c.wr a v).ses = c.ses := rfl
@[simp] theorem Chip.wr_cry (c : Chip) (a : Nat) (v : Word) : (c.wr a v).cry = c.cry := rfl
@[simp] theorem Chip.wr_pair (c : Chip) (a : Nat) (v : Word) : (c.wr a v).pair = c.pair := rfl
@[simp] theorem Chip.wr_bnd (c : Chip) (a : Nat) (v : Word) : (c.wr a v).bnd = c.bnd := rfl
@[simp] theorem Chip.wr_own (c : Chip) (a : Nat) (v : Word) : (c.wr a v).own = c.own := rfl
@[simp] theorem Chip.wr_sent (c : Chip) (a : Nat) (v : Word) : (c.wr a v).sent = c.sent := rfl
@[simp] theorem Chip.wr_can (c : Chip) (a : Nat) (v : Word) : (c.wr a v).can = c.can := rfl
@[simp] theorem Chip.wr_hdg (c : Chip) (a : Nat) (v : Word) : (c.wr a v).hdg = c.hdg := rfl
@[simp] theorem Chip.wr_pwm (c : Chip) (a : Nat) (v : Word) : (c.wr a v).pwm = c.pwm := rfl
@[simp] theorem Chip.wr_asw (c : Chip) (a : Nat) (v : Word) : (c.wr a v).asw = c.asw := rfl
@[simp] theorem Chip.wr_pwr (c : Chip) (a : Nat) (v : Word) : (c.wr a v).pwr = c.pwr := rfl
@[simp] theorem Chip.wr_hif (c : Chip) (a : Nat) (v : Word) : (c.wr a v).hif = c.hif := rfl
@[simp] theorem Chip.setF_image (c : Chip) (a lo w x : Nat) : (c.setF a lo w x).image = c.image := rfl
@[simp] theorem Chip.setF_log (c : Chip) (a lo w x : Nat) : (c.setF a lo w x).log = c.log := rfl
@[simp] theorem Chip.setF_snaps (c : Chip) (a lo w x : Nat) : (c.setF a lo w x).snaps = c.snaps := rfl
@[simp] theorem Chip.setF_now (c : Chip) (a lo w x : Nat) : (c.setF a lo w x).now = c.now := rfl
@[simp] theorem Chip.setF_frm (c : Chip) (a lo w x : Nat) : (c.setF a lo w x).frm = c.frm := rfl
@[simp] theorem Chip.setF_gal (c : Chip) (a lo w x : Nat) : (c.setF a lo w x).gal = c.gal := rfl
@[simp] theorem Chip.setF_flt (c : Chip) (a lo w x : Nat) : (c.setF a lo w x).flt = c.flt := rfl
@[simp] theorem Chip.setF_img (c : Chip) (a lo w x : Nat) : (c.setF a lo w x).img = c.img := rfl
@[simp] theorem Chip.setF_alc (c : Chip) (a lo w x : Nat) : (c.setF a lo w x).alc = c.alc := rfl
@[simp] theorem Chip.setF_mov (c : Chip) (a lo w x : Nat) : (c.setF a lo w x).mov = c.mov := rfl
@[simp] theorem Chip.setF_cen (c : Chip) (a lo w x : Nat) : (c.setF a lo w x).cen = c.cen := rfl
@[simp] theorem Chip.setF_drawn (c : Chip) (a lo w x : Nat) : (c.setF a lo w x).drawn = c.drawn := rfl
@[simp] theorem Chip.setF_thm (c : Chip) (a lo w x : Nat) : (c.setF a lo w x).thm = c.thm := rfl
@[simp] theorem Chip.setF_thmKept (c : Chip) (a lo w x : Nat) : (c.setF a lo w x).thmKept = c.thmKept := rfl
@[simp] theorem Chip.setF_hkp (c : Chip) (a lo w x : Nat) : (c.setF a lo w x).hkp = c.hkp := rfl
@[simp] theorem Chip.setF_phy (c : Chip) (a lo w x : Nat) : (c.setF a lo w x).phy = c.phy := rfl
@[simp] theorem Chip.setF_tp (c : Chip) (a lo w x : Nat) : (c.setF a lo w x).tp = c.tp := rfl
@[simp] theorem Chip.setF_ses (c : Chip) (a lo w x : Nat) : (c.setF a lo w x).ses = c.ses := rfl
@[simp] theorem Chip.setF_cry (c : Chip) (a lo w x : Nat) : (c.setF a lo w x).cry = c.cry := rfl
@[simp] theorem Chip.setF_pair (c : Chip) (a lo w x : Nat) : (c.setF a lo w x).pair = c.pair := rfl
@[simp] theorem Chip.setF_bnd (c : Chip) (a lo w x : Nat) : (c.setF a lo w x).bnd = c.bnd := rfl
@[simp] theorem Chip.setF_own (c : Chip) (a lo w x : Nat) : (c.setF a lo w x).own = c.own := rfl
@[simp] theorem Chip.setF_sent (c : Chip) (a lo w x : Nat) : (c.setF a lo w x).sent = c.sent := rfl
@[simp] theorem Chip.setF_can (c : Chip) (a lo w x : Nat) : (c.setF a lo w x).can = c.can := rfl
@[simp] theorem Chip.setF_hdg (c : Chip) (a lo w x : Nat) : (c.setF a lo w x).hdg = c.hdg := rfl
@[simp] theorem Chip.setF_pwm (c : Chip) (a lo w x : Nat) : (c.setF a lo w x).pwm = c.pwm := rfl
@[simp] theorem Chip.setF_asw (c : Chip) (a lo w x : Nat) : (c.setF a lo w x).asw = c.asw := rfl
@[simp] theorem Chip.setF_pwr (c : Chip) (a lo w x : Nat) : (c.setF a lo w x).pwr = c.pwr := rfl
@[simp] theorem Chip.setF_hif (c : Chip) (a lo w x : Nat) : (c.setF a lo w x).hif = c.hif := rfl
@[simp] theorem Chip.setB_image (c : Chip) (a i : Nat) (x : Bool) : (c.setB a i x).image = c.image := rfl
@[simp] theorem Chip.setB_log (c : Chip) (a i : Nat) (x : Bool) : (c.setB a i x).log = c.log := rfl
@[simp] theorem Chip.setB_snaps (c : Chip) (a i : Nat) (x : Bool) : (c.setB a i x).snaps = c.snaps := rfl
@[simp] theorem Chip.setB_now (c : Chip) (a i : Nat) (x : Bool) : (c.setB a i x).now = c.now := rfl
@[simp] theorem Chip.setB_frm (c : Chip) (a i : Nat) (x : Bool) : (c.setB a i x).frm = c.frm := rfl
@[simp] theorem Chip.setB_gal (c : Chip) (a i : Nat) (x : Bool) : (c.setB a i x).gal = c.gal := rfl
@[simp] theorem Chip.setB_flt (c : Chip) (a i : Nat) (x : Bool) : (c.setB a i x).flt = c.flt := rfl
@[simp] theorem Chip.setB_img (c : Chip) (a i : Nat) (x : Bool) : (c.setB a i x).img = c.img := rfl
@[simp] theorem Chip.setB_alc (c : Chip) (a i : Nat) (x : Bool) : (c.setB a i x).alc = c.alc := rfl
@[simp] theorem Chip.setB_mov (c : Chip) (a i : Nat) (x : Bool) : (c.setB a i x).mov = c.mov := rfl
@[simp] theorem Chip.setB_cen (c : Chip) (a i : Nat) (x : Bool) : (c.setB a i x).cen = c.cen := rfl
@[simp] theorem Chip.setB_drawn (c : Chip) (a i : Nat) (x : Bool) : (c.setB a i x).drawn = c.drawn := rfl
@[simp] theorem Chip.setB_thm (c : Chip) (a i : Nat) (x : Bool) : (c.setB a i x).thm = c.thm := rfl
@[simp] theorem Chip.setB_thmKept (c : Chip) (a i : Nat) (x : Bool) : (c.setB a i x).thmKept = c.thmKept := rfl
@[simp] theorem Chip.setB_hkp (c : Chip) (a i : Nat) (x : Bool) : (c.setB a i x).hkp = c.hkp := rfl
@[simp] theorem Chip.setB_phy (c : Chip) (a i : Nat) (x : Bool) : (c.setB a i x).phy = c.phy := rfl
@[simp] theorem Chip.setB_tp (c : Chip) (a i : Nat) (x : Bool) : (c.setB a i x).tp = c.tp := rfl
@[simp] theorem Chip.setB_ses (c : Chip) (a i : Nat) (x : Bool) : (c.setB a i x).ses = c.ses := rfl
@[simp] theorem Chip.setB_cry (c : Chip) (a i : Nat) (x : Bool) : (c.setB a i x).cry = c.cry := rfl
@[simp] theorem Chip.setB_pair (c : Chip) (a i : Nat) (x : Bool) : (c.setB a i x).pair = c.pair := rfl
@[simp] theorem Chip.setB_bnd (c : Chip) (a i : Nat) (x : Bool) : (c.setB a i x).bnd = c.bnd := rfl
@[simp] theorem Chip.setB_own (c : Chip) (a i : Nat) (x : Bool) : (c.setB a i x).own = c.own := rfl
@[simp] theorem Chip.setB_sent (c : Chip) (a i : Nat) (x : Bool) : (c.setB a i x).sent = c.sent := rfl
@[simp] theorem Chip.setB_can (c : Chip) (a i : Nat) (x : Bool) : (c.setB a i x).can = c.can := rfl
@[simp] theorem Chip.setB_hdg (c : Chip) (a i : Nat) (x : Bool) : (c.setB a i x).hdg = c.hdg := rfl
@[simp] theorem Chip.setB_pwm (c : Chip) (a i : Nat) (x : Bool) : (c.setB a i x).pwm = c.pwm := rfl
@[simp] theorem Chip.setB_asw (c : Chip) (a i : Nat) (x : Bool) : (c.setB a i x).asw = c.asw := rfl
@[simp] theorem Chip.setB_pwr (c : Chip) (a i : Nat) (x : Bool) : (c.setB a i x).pwr = c.pwr := rfl
@[simp] theorem Chip.setB_hif (c : Chip) (a i : Nat) (x : Bool) : (c.setB a i x).hif = c.hif := rfl
@[simp] theorem Chip.sat_image (c : Chip) (a lo w x : Nat) : (c.sat a lo w x).image = c.image := rfl
@[simp] theorem Chip.sat_log (c : Chip) (a lo w x : Nat) : (c.sat a lo w x).log = c.log := rfl
@[simp] theorem Chip.sat_snaps (c : Chip) (a lo w x : Nat) : (c.sat a lo w x).snaps = c.snaps := rfl
@[simp] theorem Chip.sat_now (c : Chip) (a lo w x : Nat) : (c.sat a lo w x).now = c.now := rfl
@[simp] theorem Chip.sat_frm (c : Chip) (a lo w x : Nat) : (c.sat a lo w x).frm = c.frm := rfl
@[simp] theorem Chip.sat_gal (c : Chip) (a lo w x : Nat) : (c.sat a lo w x).gal = c.gal := rfl
@[simp] theorem Chip.sat_flt (c : Chip) (a lo w x : Nat) : (c.sat a lo w x).flt = c.flt := rfl
@[simp] theorem Chip.sat_img (c : Chip) (a lo w x : Nat) : (c.sat a lo w x).img = c.img := rfl
@[simp] theorem Chip.sat_alc (c : Chip) (a lo w x : Nat) : (c.sat a lo w x).alc = c.alc := rfl
@[simp] theorem Chip.sat_mov (c : Chip) (a lo w x : Nat) : (c.sat a lo w x).mov = c.mov := rfl
@[simp] theorem Chip.sat_cen (c : Chip) (a lo w x : Nat) : (c.sat a lo w x).cen = c.cen := rfl
@[simp] theorem Chip.sat_drawn (c : Chip) (a lo w x : Nat) : (c.sat a lo w x).drawn = c.drawn := rfl
@[simp] theorem Chip.sat_thm (c : Chip) (a lo w x : Nat) : (c.sat a lo w x).thm = c.thm := rfl
@[simp] theorem Chip.sat_thmKept (c : Chip) (a lo w x : Nat) : (c.sat a lo w x).thmKept = c.thmKept := rfl
@[simp] theorem Chip.sat_hkp (c : Chip) (a lo w x : Nat) : (c.sat a lo w x).hkp = c.hkp := rfl
@[simp] theorem Chip.sat_phy (c : Chip) (a lo w x : Nat) : (c.sat a lo w x).phy = c.phy := rfl
@[simp] theorem Chip.sat_tp (c : Chip) (a lo w x : Nat) : (c.sat a lo w x).tp = c.tp := rfl
@[simp] theorem Chip.sat_ses (c : Chip) (a lo w x : Nat) : (c.sat a lo w x).ses = c.ses := rfl
@[simp] theorem Chip.sat_cry (c : Chip) (a lo w x : Nat) : (c.sat a lo w x).cry = c.cry := rfl
@[simp] theorem Chip.sat_pair (c : Chip) (a lo w x : Nat) : (c.sat a lo w x).pair = c.pair := rfl
@[simp] theorem Chip.sat_bnd (c : Chip) (a lo w x : Nat) : (c.sat a lo w x).bnd = c.bnd := rfl
@[simp] theorem Chip.sat_own (c : Chip) (a lo w x : Nat) : (c.sat a lo w x).own = c.own := rfl
@[simp] theorem Chip.sat_sent (c : Chip) (a lo w x : Nat) : (c.sat a lo w x).sent = c.sent := rfl
@[simp] theorem Chip.sat_can (c : Chip) (a lo w x : Nat) : (c.sat a lo w x).can = c.can := rfl
@[simp] theorem Chip.sat_hdg (c : Chip) (a lo w x : Nat) : (c.sat a lo w x).hdg = c.hdg := rfl
@[simp] theorem Chip.sat_pwm (c : Chip) (a lo w x : Nat) : (c.sat a lo w x).pwm = c.pwm := rfl
@[simp] theorem Chip.sat_asw (c : Chip) (a lo w x : Nat) : (c.sat a lo w x).asw = c.asw := rfl
@[simp] theorem Chip.sat_pwr (c : Chip) (a lo w x : Nat) : (c.sat a lo w x).pwr = c.pwr := rfl
@[simp] theorem Chip.sat_hif (c : Chip) (a lo w x : Nat) : (c.sat a lo w x).hif = c.hif := rfl
@[simp] theorem Chip.wrap_image (c : Chip) (a lo w x : Nat) : (c.wrap a lo w x).image = c.image := rfl
@[simp] theorem Chip.wrap_log (c : Chip) (a lo w x : Nat) : (c.wrap a lo w x).log = c.log := rfl
@[simp] theorem Chip.wrap_snaps (c : Chip) (a lo w x : Nat) : (c.wrap a lo w x).snaps = c.snaps := rfl
@[simp] theorem Chip.wrap_now (c : Chip) (a lo w x : Nat) : (c.wrap a lo w x).now = c.now := rfl
@[simp] theorem Chip.wrap_frm (c : Chip) (a lo w x : Nat) : (c.wrap a lo w x).frm = c.frm := rfl
@[simp] theorem Chip.wrap_gal (c : Chip) (a lo w x : Nat) : (c.wrap a lo w x).gal = c.gal := rfl
@[simp] theorem Chip.wrap_flt (c : Chip) (a lo w x : Nat) : (c.wrap a lo w x).flt = c.flt := rfl
@[simp] theorem Chip.wrap_img (c : Chip) (a lo w x : Nat) : (c.wrap a lo w x).img = c.img := rfl
@[simp] theorem Chip.wrap_alc (c : Chip) (a lo w x : Nat) : (c.wrap a lo w x).alc = c.alc := rfl
@[simp] theorem Chip.wrap_mov (c : Chip) (a lo w x : Nat) : (c.wrap a lo w x).mov = c.mov := rfl
@[simp] theorem Chip.wrap_cen (c : Chip) (a lo w x : Nat) : (c.wrap a lo w x).cen = c.cen := rfl
@[simp] theorem Chip.wrap_drawn (c : Chip) (a lo w x : Nat) : (c.wrap a lo w x).drawn = c.drawn := rfl
@[simp] theorem Chip.wrap_thm (c : Chip) (a lo w x : Nat) : (c.wrap a lo w x).thm = c.thm := rfl
@[simp] theorem Chip.wrap_thmKept (c : Chip) (a lo w x : Nat) : (c.wrap a lo w x).thmKept = c.thmKept := rfl
@[simp] theorem Chip.wrap_hkp (c : Chip) (a lo w x : Nat) : (c.wrap a lo w x).hkp = c.hkp := rfl
@[simp] theorem Chip.wrap_phy (c : Chip) (a lo w x : Nat) : (c.wrap a lo w x).phy = c.phy := rfl
@[simp] theorem Chip.wrap_tp (c : Chip) (a lo w x : Nat) : (c.wrap a lo w x).tp = c.tp := rfl
@[simp] theorem Chip.wrap_ses (c : Chip) (a lo w x : Nat) : (c.wrap a lo w x).ses = c.ses := rfl
@[simp] theorem Chip.wrap_cry (c : Chip) (a lo w x : Nat) : (c.wrap a lo w x).cry = c.cry := rfl
@[simp] theorem Chip.wrap_pair (c : Chip) (a lo w x : Nat) : (c.wrap a lo w x).pair = c.pair := rfl
@[simp] theorem Chip.wrap_bnd (c : Chip) (a lo w x : Nat) : (c.wrap a lo w x).bnd = c.bnd := rfl
@[simp] theorem Chip.wrap_own (c : Chip) (a lo w x : Nat) : (c.wrap a lo w x).own = c.own := rfl
@[simp] theorem Chip.wrap_sent (c : Chip) (a lo w x : Nat) : (c.wrap a lo w x).sent = c.sent := rfl
@[simp] theorem Chip.wrap_can (c : Chip) (a lo w x : Nat) : (c.wrap a lo w x).can = c.can := rfl
@[simp] theorem Chip.wrap_hdg (c : Chip) (a lo w x : Nat) : (c.wrap a lo w x).hdg = c.hdg := rfl
@[simp] theorem Chip.wrap_pwm (c : Chip) (a lo w x : Nat) : (c.wrap a lo w x).pwm = c.pwm := rfl
@[simp] theorem Chip.wrap_asw (c : Chip) (a lo w x : Nat) : (c.wrap a lo w x).asw = c.asw := rfl
@[simp] theorem Chip.wrap_pwr (c : Chip) (a lo w x : Nat) : (c.wrap a lo w x).pwr = c.pwr := rfl
@[simp] theorem Chip.wrap_hif (c : Chip) (a lo w x : Nat) : (c.wrap a lo w x).hif = c.hif := rfl
@[simp] theorem Chip.onAlc_alc (c : Chip) (f : AlcSt → AlcSt) : (c.onAlc f).alc = f c.alc := rfl
@[simp] theorem Chip.onAlc_regs (c : Chip) (f : AlcSt → AlcSt) : (c.onAlc f).regs = c.regs := rfl
@[simp] theorem Chip.onAlc_log (c : Chip) (f : AlcSt → AlcSt) : (c.onAlc f).log = c.log := rfl
@[simp] theorem Chip.onAlc_rd (c : Chip) (f : AlcSt → AlcSt) : (c.onAlc f).rd = c.rd := rfl
@[simp] theorem Chip.onCen_cen (c : Chip) (f : CenSt → CenSt) : (c.onCen f).cen = f c.cen := rfl
@[simp] theorem Chip.onCen_regs (c : Chip) (f : CenSt → CenSt) : (c.onCen f).regs = c.regs := rfl
@[simp] theorem Chip.onCen_log (c : Chip) (f : CenSt → CenSt) : (c.onCen f).log = c.log := rfl
@[simp] theorem Chip.onCen_rd (c : Chip) (f : CenSt → CenSt) : (c.onCen f).rd = c.rd := rfl
@[simp] theorem Chip.onHif_hif (c : Chip) (f : HostSt → HostSt) : (c.onHif f).hif = f c.hif := rfl
@[simp] theorem Chip.onHif_regs (c : Chip) (f : HostSt → HostSt) : (c.onHif f).regs = c.regs := rfl
@[simp] theorem Chip.onHif_log (c : Chip) (f : HostSt → HostSt) : (c.onHif f).log = c.log := rfl
@[simp] theorem Chip.onHif_rd (c : Chip) (f : HostSt → HostSt) : (c.onHif f).rd = c.rd := rfl
@[simp] theorem Chip.onFrm_frm (c : Chip) (f : FrameSt → FrameSt) : (c.onFrm f).frm = f c.frm := rfl
@[simp] theorem Chip.onFrm_regs (c : Chip) (f : FrameSt → FrameSt) : (c.onFrm f).regs = c.regs := rfl
@[simp] theorem Chip.onFrm_log (c : Chip) (f : FrameSt → FrameSt) : (c.onFrm f).log = c.log := rfl
@[simp] theorem Chip.onFrm_rd (c : Chip) (f : FrameSt → FrameSt) : (c.onFrm f).rd = c.rd := rfl
@[simp] theorem Chip.onGal_gal (c : Chip) (f : Galley → Galley) : (c.onGal f).gal = f c.gal := rfl
@[simp] theorem Chip.onGal_regs (c : Chip) (f : Galley → Galley) : (c.onGal f).regs = c.regs := rfl
@[simp] theorem Chip.onGal_log (c : Chip) (f : Galley → Galley) : (c.onGal f).log = c.log := rfl
@[simp] theorem Chip.onGal_rd (c : Chip) (f : Galley → Galley) : (c.onGal f).rd = c.rd := rfl
@[simp] theorem Chip.onHdg_hdg (c : Chip) (f : HdgSt → HdgSt) : (c.onHdg f).hdg = f c.hdg := rfl
@[simp] theorem Chip.onHdg_regs (c : Chip) (f : HdgSt → HdgSt) : (c.onHdg f).regs = c.regs := rfl
@[simp] theorem Chip.onHdg_log (c : Chip) (f : HdgSt → HdgSt) : (c.onHdg f).log = c.log := rfl
@[simp] theorem Chip.onHdg_rd (c : Chip) (f : HdgSt → HdgSt) : (c.onHdg f).rd = c.rd := rfl
@[simp] theorem Chip.onMov_mov (c : Chip) (f : MovSt → MovSt) : (c.onMov f).mov = f c.mov := rfl
@[simp] theorem Chip.onMov_regs (c : Chip) (f : MovSt → MovSt) : (c.onMov f).regs = c.regs := rfl
@[simp] theorem Chip.onMov_log (c : Chip) (f : MovSt → MovSt) : (c.onMov f).log = c.log := rfl
@[simp] theorem Chip.onMov_rd (c : Chip) (f : MovSt → MovSt) : (c.onMov f).rd = c.rd := rfl
@[simp] theorem Chip.onPwr_pwr (c : Chip) (f : PowerSt → PowerSt) : (c.onPwr f).pwr = f c.pwr := rfl
@[simp] theorem Chip.onPwr_regs (c : Chip) (f : PowerSt → PowerSt) : (c.onPwr f).regs = c.regs := rfl
@[simp] theorem Chip.onPwr_log (c : Chip) (f : PowerSt → PowerSt) : (c.onPwr f).log = c.log := rfl
@[simp] theorem Chip.onPwr_rd (c : Chip) (f : PowerSt → PowerSt) : (c.onPwr f).rd = c.rd := rfl
@[simp] theorem Chip.onPair_pair (c : Chip) (f : PairSt → PairSt) : (c.onPair f).pair = f c.pair := rfl
@[simp] theorem Chip.onPair_regs (c : Chip) (f : PairSt → PairSt) : (c.onPair f).regs = c.regs := rfl
@[simp] theorem Chip.onPair_log (c : Chip) (f : PairSt → PairSt) : (c.onPair f).log = c.log := rfl
@[simp] theorem Chip.onPair_rd (c : Chip) (f : PairSt → PairSt) : (c.onPair f).rd = c.rd := rfl
@[simp] theorem Chip.onImg_img (c : Chip) (f : Image → Image) : (c.onImg f).img = f c.img := rfl
@[simp] theorem Chip.onImg_regs (c : Chip) (f : Image → Image) : (c.onImg f).regs = c.regs := rfl
@[simp] theorem Chip.onImg_log (c : Chip) (f : Image → Image) : (c.onImg f).log = c.log := rfl
@[simp] theorem Chip.onImg_rd (c : Chip) (f : Image → Image) : (c.onImg f).rd = c.rd := rfl
@[simp] theorem Chip.setPhy_regs (c : Chip) (k : Nat) (x : PhySt) : (c.setPhy k x).regs = c.regs := rfl
@[simp] theorem Chip.setPhy_log (c : Chip) (k : Nat) (x : PhySt) : (c.setPhy k x).log = c.log := rfl
@[simp] theorem Chip.setPhy_rd (c : Chip) (k : Nat) (x : PhySt) : (c.setPhy k x).rd = c.rd := rfl
@[simp] theorem Chip.phyOf_setPhy (c : Chip) (k : Nat) (x : PhySt) : (c.setPhy k x).phyOf k = x := tget_tset_same _ _ _ _
theorem Chip.phyOf_setPhy_ne (c : Chip) {k j : Nat} (x : PhySt) (h : j ≠ k) : (c.setPhy k x).phyOf j = c.phyOf j := tget_tset_ne _ _ _ h
@[simp] theorem Chip.setTp_regs (c : Chip) (k : Nat) (x : TpSt) : (c.setTp k x).regs = c.regs := rfl
@[simp] theorem Chip.setTp_log (c : Chip) (k : Nat) (x : TpSt) : (c.setTp k x).log = c.log := rfl
@[simp] theorem Chip.setTp_rd (c : Chip) (k : Nat) (x : TpSt) : (c.setTp k x).rd = c.rd := rfl
@[simp] theorem Chip.tpOf_setTp (c : Chip) (k : Nat) (x : TpSt) : (c.setTp k x).tpOf k = x := tget_tset_same _ _ _ _
theorem Chip.tpOf_setTp_ne (c : Chip) {k j : Nat} (x : TpSt) (h : j ≠ k) : (c.setTp k x).tpOf j = c.tpOf j := tget_tset_ne _ _ _ h
@[simp] theorem Chip.setPwmCh_regs (c : Chip) (k : Nat) (x : PwmCh) : (c.setPwmCh k x).regs = c.regs := rfl
@[simp] theorem Chip.setPwmCh_log (c : Chip) (k : Nat) (x : PwmCh) : (c.setPwmCh k x).log = c.log := rfl
@[simp] theorem Chip.setPwmCh_rd (c : Chip) (k : Nat) (x : PwmCh) : (c.setPwmCh k x).rd = c.rd := rfl
@[simp] theorem Chip.pwmCh_setPwmCh (c : Chip) (k : Nat) (x : PwmCh) : (c.setPwmCh k x).pwmCh k = x := tget_tset_same _ _ _ _
theorem Chip.pwmCh_setPwmCh_ne (c : Chip) {k j : Nat} (x : PwmCh) (h : j ≠ k) : (c.setPwmCh k x).pwmCh j = c.pwmCh j := tget_tset_ne _ _ _ h
@[simp] theorem Chip.setSes_regs (c : Chip) (k : Nat) (x : SesOut) : (c.setSes k x).regs = c.regs := rfl
@[simp] theorem Chip.setSes_log (c : Chip) (k : Nat) (x : SesOut) : (c.setSes k x).log = c.log := rfl
@[simp] theorem Chip.setSes_rd (c : Chip) (k : Nat) (x : SesOut) : (c.setSes k x).rd = c.rd := rfl
@[simp] theorem Chip.sesOf_setSes (c : Chip) (k : Nat) (x : SesOut) : (c.setSes k x).sesOf k = x := tget_tset_same _ _ _ _
theorem Chip.sesOf_setSes_ne (c : Chip) {k j : Nat} (x : SesOut) (h : j ≠ k) : (c.setSes k x).sesOf j = c.sesOf j := tget_tset_ne _ _ _ h
@[simp] theorem Chip.setSlot_regs (c : Chip) (k : Nat) (x : GalSlot) : (c.setSlot k x).regs = c.regs := rfl
@[simp] theorem Chip.setSlot_log (c : Chip) (k : Nat) (x : GalSlot) : (c.setSlot k x).log = c.log := rfl
@[simp] theorem Chip.setSlot_rd (c : Chip) (k : Nat) (x : GalSlot) : (c.setSlot k x).rd = c.rd := rfl
@[simp] theorem Chip.slot_setSlot (c : Chip) (k : Nat) (x : GalSlot) : (c.setSlot k x).slot k = x := tget_tset_same _ _ _ _
theorem Chip.slot_setSlot_ne (c : Chip) {k j : Nat} (x : GalSlot) (h : j ≠ k) : (c.setSlot k x).slot j = c.slot j := tget_tset_ne _ _ _ h
@[simp] theorem Chip.setAswCh_regs (c : Chip) (k : Nat) (x : AswCh) : (c.setAswCh k x).regs = c.regs := rfl
@[simp] theorem Chip.setAswCh_log (c : Chip) (k : Nat) (x : AswCh) : (c.setAswCh k x).log = c.log := rfl
@[simp] theorem Chip.setAswCh_rd (c : Chip) (k : Nat) (x : AswCh) : (c.setAswCh k x).rd = c.rd := rfl
@[simp] theorem Chip.aswCh_setAswCh (c : Chip) (k : Nat) (x : AswCh) : (c.setAswCh k x).aswCh k = x := tget_tset_same _ _ _ _
theorem Chip.aswCh_setAswCh_ne (c : Chip) {k j : Nat} (x : AswCh) (h : j ≠ k) : (c.setAswCh k x).aswCh j = c.aswCh j := tget_tset_ne _ _ _ h
@[simp] theorem Chip.setHdgPeer_regs (c : Chip) (k : Nat) (x : HdgPeer) : (c.setHdgPeer k x).regs = c.regs := rfl
@[simp] theorem Chip.setHdgPeer_log (c : Chip) (k : Nat) (x : HdgPeer) : (c.setHdgPeer k x).log = c.log := rfl
@[simp] theorem Chip.setHdgPeer_rd (c : Chip) (k : Nat) (x : HdgPeer) : (c.setHdgPeer k x).rd = c.rd := rfl
@[simp] theorem Chip.hdgPeer_setHdgPeer (c : Chip) (k : Nat) (x : HdgPeer) : (c.setHdgPeer k x).hdgPeer k = x := tget_tset_same _ _ _ _
theorem Chip.hdgPeer_setHdgPeer_ne (c : Chip) {k j : Nat} (x : HdgPeer) (h : j ≠ k) : (c.setHdgPeer k x).hdgPeer j = c.hdgPeer j := tget_tset_ne _ _ _ h
@[simp] theorem Chip.setSnap_regs (c : Chip) (k : Nat) (x : SnapPlane) : (c.setSnap k x).regs = c.regs := rfl
@[simp] theorem Chip.setSnap_log (c : Chip) (k : Nat) (x : SnapPlane) : (c.setSnap k x).log = c.log := rfl
@[simp] theorem Chip.setSnap_rd (c : Chip) (k : Nat) (x : SnapPlane) : (c.setSnap k x).rd = c.rd := rfl
@[simp] theorem Chip.snap_setSnap (c : Chip) (k : Nat) (x : SnapPlane) : (c.setSnap k x).snap k = x := tget_tset_same _ _ _ _
theorem Chip.snap_setSnap_ne (c : Chip) {k j : Nat} (x : SnapPlane) (h : j ≠ k) : (c.setSnap k x).snap j = c.snap j := tget_tset_ne _ _ _ h
@[simp] theorem Chip.setThmOut_regs (c : Chip) (k : Nat) (x : ThmOut) : (c.setThmOut k x).regs = c.regs := rfl
@[simp] theorem Chip.setThmOut_log (c : Chip) (k : Nat) (x : ThmOut) : (c.setThmOut k x).log = c.log := rfl
@[simp] theorem Chip.setThmOut_rd (c : Chip) (k : Nat) (x : ThmOut) : (c.setThmOut k x).rd = c.rd := rfl
@[simp] theorem Chip.thmOut_setThmOut (c : Chip) (k : Nat) (x : ThmOut) : (c.setThmOut k x).thmOut k = x := tget_tset_same _ _ _ _
theorem Chip.thmOut_setThmOut_ne (c : Chip) {k j : Nat} (x : ThmOut) (h : j ≠ k) : (c.setThmOut k x).thmOut j = c.thmOut j := tget_tset_ne _ _ _ h
@[simp] theorem Met.onSt_st (m : Met) (f : MetSt → MetSt) : (m.onSt f).st = f m.st := rfl
@[simp] theorem Met.onSt_rd (m : Met) (f : MetSt → MetSt) : (m.onSt f).rd = m.rd := rfl
@[simp] theorem Heath.onSt_st (h : Heath) (f : HthSt → HthSt) : (h.onSt f).st = f h.st := rfl
@[simp] theorem Heath.onSt_rd (h : Heath) (f : HthSt → HthSt) : (h.onSt f).rd = h.rd := rfl

end Sys2Proof.Machine
end

