-- ==== Sys2Proof/Laws/Mem.lean ====
section
/-! SUPPORT. Memory: a read after a write, and the canonical form kept by every memory operation. -/
namespace Sys2Proof.Machine

@[simp] theorem memGet_memSet_same (m : List Host.Cell) (a : Nat) (v : Byte) : memGet (memSet m a v) a = v := tget_tset_same _ _ _ _
theorem memGet_memSet_ne (m : List Host.Cell) {a b : Nat} (v : Byte) (h : b ≠ a) : memGet (memSet m a v) b = memGet m b :=
  tget_tset_ne _ _ _ h

theorem memWf_memSet {m : List Host.Cell} (a : Nat) (v : Byte) (h : memWf m = true) : memWf (memSet m a v) = true := twf_tset a v h

theorem memWf_memPut (l : List Byte) {m : List Host.Cell} (a : Nat) (h : memWf m = true) : memWf (memPut m a l) = true := by
  induction l generalizing m a with
  | nil => exact h
  | cons b t ih => exact ih _ (memWf_memSet a b h)

theorem memWf_memWrWord {m : List Host.Cell} (a : Nat) (v : Word) (h : memWf m = true) : memWf (memWrWord m a v) = true :=
  memWf_memPut _ a h

theorem memWf_memWrWords (l : List Word) {m : List Host.Cell} (a : Nat) (h : memWf m = true) : memWf (memWrWords m a l) = true := by
  induction l generalizing m a with
  | nil => exact h
  | cons b t ih => exact ih _ (memWf_memWrWord a b h)

/-- Bytes outside those put read as before. -/
theorem memGet_memPut_out (l : List Byte) (m : List Host.Cell) (a b : Nat) (h : b < a ∨ a + l.length ≤ b) :
    memGet (memPut m a l) b = memGet m b := by
  induction l generalizing m a with
  | nil => rfl
  | cons x t ih =>
    simp only [List.length_cons] at h
    rw [memPut, ih _ _ (by omega), memGet_memSet_ne _ _ (by omega)]

/-- A byte put reads as put. -/
theorem memGet_memPut_in (l : List Byte) (m : List Host.Cell) (a i : Nat) (h : i < l.length) :
    memGet (memPut m a l) (a + i) = l[i] := by
  induction l generalizing m a i with
  | nil => simp at h
  | cons x t ih =>
    cases i with
    | zero => rw [memPut, memGet_memPut_out _ _ _ _ (by omega)]; simp
    | succ j =>
      have e : a + (j + 1) = a + 1 + j := by omega
      rw [memPut, e, ih _ _ j (by simpa using h)]; rfl

end Sys2Proof.Machine
end

