-- ==== Sys2Proof/Laws/Ops.lean ====
section
/-! SUPPORT. What the shared operations can do: the event log and the error flags change their own words and nothing else. -/
namespace Sys2Proof.Machine

/-! ### The event log -/

/-- An entry stands at its place in the ring, and LOG_WR has moved on. -/
theorem Chip.put_entry (c : Chip) (en : LogEntry) :
    logAt (c.put en).log (c.logNext en) = en ∧ (c.put en).rd Reg.CHIP_LOG_WR = word (c.n Reg.CHIP_LOG_WR + 1) := by
  constructor
  · simp [Chip.put, logAt]
  · simp only [Chip.put, Chip.rd_wr_same]

/-- An entry that no stored one of its cycle ranks below goes to the place that LOG_WR names. -/
theorem logPlace_last (log : List (Nat × LogEntry)) (en : LogEntry) (n w : Nat)
    (h : ∀ k, logBefore en (logAt log k) = false) : logPlace log en n w = w := by
  cases n with
  | zero => rfl
  | succ n => simp [logPlace, h]

/-- An entry that goes to the end of the ring leaves every other place as it was. -/
theorem Chip.put_others (c : Chip) (en : LogEntry) (k : Nat) (hp : c.logNext en = c.n Reg.CHIP_LOG_WR)
    (h : k ≠ c.n Reg.CHIP_LOG_WR % 4096) :
    tget (fun _ => ({} : LogEntry)) (c.put en).log k = tget (fun _ => ({} : LogEntry)) c.log k := by
  simp [Chip.put, hp, tget_tset_ne, h]

theorem Chip.put_rd_ne (c : Chip) (en : LogEntry) {a : Nat} (h : a ≠ Reg.CHIP_LOG_WR) : (c.put en).rd a = c.rd a := by
  simp only [Chip.put, Chip.rd_wr_ne _ _ h]; rfl

/-- An entry is put while the Control region runs, and lost and counted while it does not (R169). -/
theorem Chip.putAt_cases (c : Chip) (en : LogEntry) :
    (c.ctl = true ∧ c.putAt en = c.put en) ∨ (c.ctl = false ∧ c.putAt en = c.sat Reg.CHIP_LOG_LOST 0 16 1) := by
  unfold Chip.putAt
  cases h : c.ctl <;> simp

theorem Chip.putAt_rd_ne (c : Chip) (en : LogEntry) {a : Nat} (h : a ≠ Reg.CHIP_LOG_WR) (h' : a ≠ Reg.CHIP_LOG_LOST) :
    (c.putAt en).rd a = c.rd a := by
  rcases c.putAt_cases en with ⟨_, e⟩ | ⟨_, e⟩
  · rw [e, Chip.put_rd_ne _ _ h]
  · rw [e]; exact Chip.rd_wr_ne _ _ h'

theorem Chip.log1_rd_ne (c : Chip) (e : Env) (t i k d : Nat) {a : Nat} (h : a ≠ Reg.CHIP_LOG_WR) (h' : a ≠ Reg.CHIP_LOG_LOST) :
    (c.log1 e t i k d).rd a = c.rd a := Chip.putAt_rd_ne _ _ h h'

/-- While the Control region runs an entry of the present cycle stands at its place in the ring (R30, R167). -/
theorem Chip.log1_entry (c : Chip) (e : Env) (t i k d : Nat) (h : c.ctl = true) :
    logAt (c.log1 e t i k d).log (c.logNext ⟨e.time.stamp, srcWord t i k, word d⟩) = ⟨e.time.stamp, srcWord t i k, word d⟩ := by
  simp only [Chip.log1, Chip.putAt, h, if_true]; exact (Chip.put_entry _ _).1

@[simp] theorem Chip.put_image (c : Chip) (en : LogEntry) : (c.put en).image = c.image := rfl
@[simp] theorem Chip.putAt_image (c : Chip) (en : LogEntry) : (c.putAt en).image = c.image := by unfold Chip.putAt; split <;> rfl
@[simp] theorem Chip.log1_image (c : Chip) (e : Env) (t i k d : Nat) : (c.log1 e t i k d).image = c.image := Chip.putAt_image _ _
@[simp] theorem Chip.put_snaps (c : Chip) (en : LogEntry) : (c.put en).snaps = c.snaps := rfl
@[simp] theorem Chip.putAt_snaps (c : Chip) (en : LogEntry) : (c.putAt en).snaps = c.snaps := by unfold Chip.putAt; split <;> rfl
@[simp] theorem Chip.log1_snaps (c : Chip) (e : Env) (t i k d : Nat) : (c.log1 e t i k d).snaps = c.snaps := Chip.putAt_snaps _ _
@[simp] theorem Chip.put_now (c : Chip) (en : LogEntry) : (c.put en).now = c.now := rfl
@[simp] theorem Chip.putAt_now (c : Chip) (en : LogEntry) : (c.putAt en).now = c.now := by unfold Chip.putAt; split <;> rfl
@[simp] theorem Chip.log1_now (c : Chip) (e : Env) (t i k d : Nat) : (c.log1 e t i k d).now = c.now := Chip.putAt_now _ _
@[simp] theorem Chip.put_frm (c : Chip) (en : LogEntry) : (c.put en).frm = c.frm := rfl
@[simp] theorem Chip.putAt_frm (c : Chip) (en : LogEntry) : (c.putAt en).frm = c.frm := by unfold Chip.putAt; split <;> rfl
@[simp] theorem Chip.log1_frm (c : Chip) (e : Env) (t i k d : Nat) : (c.log1 e t i k d).frm = c.frm := Chip.putAt_frm _ _
@[simp] theorem Chip.put_gal (c : Chip) (en : LogEntry) : (c.put en).gal = c.gal := rfl
@[simp] theorem Chip.putAt_gal (c : Chip) (en : LogEntry) : (c.putAt en).gal = c.gal := by unfold Chip.putAt; split <;> rfl
@[simp] theorem Chip.log1_gal (c : Chip) (e : Env) (t i k d : Nat) : (c.log1 e t i k d).gal = c.gal := Chip.putAt_gal _ _
@[simp] theorem Chip.put_flt (c : Chip) (en : LogEntry) : (c.put en).flt = c.flt := rfl
@[simp] theorem Chip.putAt_flt (c : Chip) (en : LogEntry) : (c.putAt en).flt = c.flt := by unfold Chip.putAt; split <;> rfl
@[simp] theorem Chip.log1_flt (c : Chip) (e : Env) (t i k d : Nat) : (c.log1 e t i k d).flt = c.flt := Chip.putAt_flt _ _
@[simp] theorem Chip.put_img (c : Chip) (en : LogEntry) : (c.put en).img = c.img := rfl
@[simp] theorem Chip.putAt_img (c : Chip) (en : LogEntry) : (c.putAt en).img = c.img := by unfold Chip.putAt; split <;> rfl
@[simp] theorem Chip.log1_img (c : Chip) (e : Env) (t i k d : Nat) : (c.log1 e t i k d).img = c.img := Chip.putAt_img _ _
@[simp] theorem Chip.put_alc (c : Chip) (en : LogEntry) : (c.put en).alc = c.alc := rfl
@[simp] theorem Chip.putAt_alc (c : Chip) (en : LogEntry) : (c.putAt en).alc = c.alc := by unfold Chip.putAt; split <;> rfl
@[simp] theorem Chip.log1_alc (c : Chip) (e : Env) (t i k d : Nat) : (c.log1 e t i k d).alc = c.alc := Chip.putAt_alc _ _
@[simp] theorem Chip.put_mov (c : Chip) (en : LogEntry) : (c.put en).mov = c.mov := rfl
@[simp] theorem Chip.putAt_mov (c : Chip) (en : LogEntry) : (c.putAt en).mov = c.mov := by unfold Chip.putAt; split <;> rfl
@[simp] theorem Chip.log1_mov (c : Chip) (e : Env) (t i k d : Nat) : (c.log1 e t i k d).mov = c.mov := Chip.putAt_mov _ _
@[simp] theorem Chip.put_cen (c : Chip) (en : LogEntry) : (c.put en).cen = c.cen := rfl
@[simp] theorem Chip.putAt_cen (c : Chip) (en : LogEntry) : (c.putAt en).cen = c.cen := by unfold Chip.putAt; split <;> rfl
@[simp] theorem Chip.log1_cen (c : Chip) (e : Env) (t i k d : Nat) : (c.log1 e t i k d).cen = c.cen := Chip.putAt_cen _ _
@[simp] theorem Chip.put_drawn (c : Chip) (en : LogEntry) : (c.put en).drawn = c.drawn := rfl
@[simp] theorem Chip.putAt_drawn (c : Chip) (en : LogEntry) : (c.putAt en).drawn = c.drawn := by unfold Chip.putAt; split <;> rfl
@[simp] theorem Chip.log1_drawn (c : Chip) (e : Env) (t i k d : Nat) : (c.log1 e t i k d).drawn = c.drawn := Chip.putAt_drawn _ _
@[simp] theorem Chip.put_thm (c : Chip) (en : LogEntry) : (c.put en).thm = c.thm := rfl
@[simp] theorem Chip.putAt_thm (c : Chip) (en : LogEntry) : (c.putAt en).thm = c.thm := by unfold Chip.putAt; split <;> rfl
@[simp] theorem Chip.log1_thm (c : Chip) (e : Env) (t i k d : Nat) : (c.log1 e t i k d).thm = c.thm := Chip.putAt_thm _ _
@[simp] theorem Chip.put_thmKept (c : Chip) (en : LogEntry) : (c.put en).thmKept = c.thmKept := rfl
@[simp] theorem Chip.putAt_thmKept (c : Chip) (en : LogEntry) : (c.putAt en).thmKept = c.thmKept := by unfold Chip.putAt; split <;> rfl
@[simp] theorem Chip.log1_thmKept (c : Chip) (e : Env) (t i k d : Nat) : (c.log1 e t i k d).thmKept = c.thmKept := Chip.putAt_thmKept _ _
@[simp] theorem Chip.put_hkp (c : Chip) (en : LogEntry) : (c.put en).hkp = c.hkp := rfl
@[simp] theorem Chip.putAt_hkp (c : Chip) (en : LogEntry) : (c.putAt en).hkp = c.hkp := by unfold Chip.putAt; split <;> rfl
@[simp] theorem Chip.log1_hkp (c : Chip) (e : Env) (t i k d : Nat) : (c.log1 e t i k d).hkp = c.hkp := Chip.putAt_hkp _ _
@[simp] theorem Chip.put_phy (c : Chip) (en : LogEntry) : (c.put en).phy = c.phy := rfl
@[simp] theorem Chip.putAt_phy (c : Chip) (en : LogEntry) : (c.putAt en).phy = c.phy := by unfold Chip.putAt; split <;> rfl
@[simp] theorem Chip.log1_phy (c : Chip) (e : Env) (t i k d : Nat) : (c.log1 e t i k d).phy = c.phy := Chip.putAt_phy _ _
@[simp] theorem Chip.put_tp (c : Chip) (en : LogEntry) : (c.put en).tp = c.tp := rfl
@[simp] theorem Chip.putAt_tp (c : Chip) (en : LogEntry) : (c.putAt en).tp = c.tp := by unfold Chip.putAt; split <;> rfl
@[simp] theorem Chip.log1_tp (c : Chip) (e : Env) (t i k d : Nat) : (c.log1 e t i k d).tp = c.tp := Chip.putAt_tp _ _
@[simp] theorem Chip.put_ses (c : Chip) (en : LogEntry) : (c.put en).ses = c.ses := rfl
@[simp] theorem Chip.putAt_ses (c : Chip) (en : LogEntry) : (c.putAt en).ses = c.ses := by unfold Chip.putAt; split <;> rfl
@[simp] theorem Chip.log1_ses (c : Chip) (e : Env) (t i k d : Nat) : (c.log1 e t i k d).ses = c.ses := Chip.putAt_ses _ _
@[simp] theorem Chip.put_cry (c : Chip) (en : LogEntry) : (c.put en).cry = c.cry := rfl
@[simp] theorem Chip.putAt_cry (c : Chip) (en : LogEntry) : (c.putAt en).cry = c.cry := by unfold Chip.putAt; split <;> rfl
@[simp] theorem Chip.log1_cry (c : Chip) (e : Env) (t i k d : Nat) : (c.log1 e t i k d).cry = c.cry := Chip.putAt_cry _ _
@[simp] theorem Chip.put_pair (c : Chip) (en : LogEntry) : (c.put en).pair = c.pair := rfl
@[simp] theorem Chip.putAt_pair (c : Chip) (en : LogEntry) : (c.putAt en).pair = c.pair := by unfold Chip.putAt; split <;> rfl
@[simp] theorem Chip.log1_pair (c : Chip) (e : Env) (t i k d : Nat) : (c.log1 e t i k d).pair = c.pair := Chip.putAt_pair _ _
@[simp] theorem Chip.put_bnd (c : Chip) (en : LogEntry) : (c.put en).bnd = c.bnd := rfl
@[simp] theorem Chip.put_own (c : Chip) (en : LogEntry) : (c.put en).own = c.own := rfl
@[simp] theorem Chip.put_sent (c : Chip) (en : LogEntry) : (c.put en).sent = c.sent := rfl
@[simp] theorem Chip.putAt_bnd (c : Chip) (en : LogEntry) : (c.putAt en).bnd = c.bnd := by unfold Chip.putAt; split <;> rfl
@[simp] theorem Chip.putAt_own (c : Chip) (en : LogEntry) : (c.putAt en).own = c.own := by unfold Chip.putAt; split <;> rfl
@[simp] theorem Chip.putAt_sent (c : Chip) (en : LogEntry) : (c.putAt en).sent = c.sent := by unfold Chip.putAt; split <;> rfl
@[simp] theorem Chip.log1_bnd (c : Chip) (e : Env) (t i k d : Nat) : (c.log1 e t i k d).bnd = c.bnd := Chip.putAt_bnd _ _
@[simp] theorem Chip.log1_own (c : Chip) (e : Env) (t i k d : Nat) : (c.log1 e t i k d).own = c.own := Chip.putAt_own _ _
@[simp] theorem Chip.log1_sent (c : Chip) (e : Env) (t i k d : Nat) : (c.log1 e t i k d).sent = c.sent := Chip.putAt_sent _ _
@[simp] theorem Chip.put_can (c : Chip) (en : LogEntry) : (c.put en).can = c.can := rfl
@[simp] theorem Chip.putAt_can (c : Chip) (en : LogEntry) : (c.putAt en).can = c.can := by unfold Chip.putAt; split <;> rfl
@[simp] theorem Chip.log1_can (c : Chip) (e : Env) (t i k d : Nat) : (c.log1 e t i k d).can = c.can := Chip.putAt_can _ _
@[simp] theorem Chip.put_hdg (c : Chip) (en : LogEntry) : (c.put en).hdg = c.hdg := rfl
@[simp] theorem Chip.putAt_hdg (c : Chip) (en : LogEntry) : (c.putAt en).hdg = c.hdg := by unfold Chip.putAt; split <;> rfl
@[simp] theorem Chip.log1_hdg (c : Chip) (e : Env) (t i k d : Nat) : (c.log1 e t i k d).hdg = c.hdg := Chip.putAt_hdg _ _
@[simp] theorem Chip.put_pwm (c : Chip) (en : LogEntry) : (c.put en).pwm = c.pwm := rfl
@[simp] theorem Chip.putAt_pwm (c : Chip) (en : LogEntry) : (c.putAt en).pwm = c.pwm := by unfold Chip.putAt; split <;> rfl
@[simp] theorem Chip.log1_pwm (c : Chip) (e : Env) (t i k d : Nat) : (c.log1 e t i k d).pwm = c.pwm := Chip.putAt_pwm _ _
@[simp] theorem Chip.put_asw (c : Chip) (en : LogEntry) : (c.put en).asw = c.asw := rfl
@[simp] theorem Chip.putAt_asw (c : Chip) (en : LogEntry) : (c.putAt en).asw = c.asw := by unfold Chip.putAt; split <;> rfl
@[simp] theorem Chip.log1_asw (c : Chip) (e : Env) (t i k d : Nat) : (c.log1 e t i k d).asw = c.asw := Chip.putAt_asw _ _
@[simp] theorem Chip.put_pwr (c : Chip) (en : LogEntry) : (c.put en).pwr = c.pwr := rfl
@[simp] theorem Chip.putAt_pwr (c : Chip) (en : LogEntry) : (c.putAt en).pwr = c.pwr := by unfold Chip.putAt; split <;> rfl
@[simp] theorem Chip.log1_pwr (c : Chip) (e : Env) (t i k d : Nat) : (c.log1 e t i k d).pwr = c.pwr := Chip.putAt_pwr _ _
@[simp] theorem Chip.put_hif (c : Chip) (en : LogEntry) : (c.put en).hif = c.hif := rfl
@[simp] theorem Chip.putAt_hif (c : Chip) (en : LogEntry) : (c.putAt en).hif = c.hif := by unfold Chip.putAt; split <;> rfl
@[simp] theorem Chip.log1_hif (c : Chip) (e : Env) (t i k d : Nat) : (c.log1 e t i k d).hif = c.hif := Chip.putAt_hif _ _

/-! ### Error flags -/

theorem Chip.perr_rd (c : Chip) (e : Env) (page i : Nat) : ∃ d : Chip,
    (c.perr e page i = d ∨ ∃ t n, c.perr e page i = d.log1 e t n 0xF1 (2 ^ i)) ∧ d = c.setB (Reg.PG_ERR page) i true := by
  refine ⟨_, ?_, rfl⟩
  unfold Chip.perr
  dsimp only
  split
  · split
    · exact .inr ⟨_, _, rfl⟩
    · exact .inl rfl
  · exact .inl rfl

/-- A flag that the hardware sets reads as set. -/
theorem Chip.perr_set (c : Chip) (e : Env) (page i : Nat) (hi : i < 32) (h : Reg.PG_ERR page ≠ Reg.CHIP_LOG_WR)
    (h' : Reg.PG_ERR page ≠ Reg.CHIP_LOG_LOST) : (c.perr e page i).b (Reg.PG_ERR page) i = true := by
  obtain ⟨d, hd, rfl⟩ := c.perr_rd e page i
  rcases hd with hd | ⟨t, n, hd⟩
  · rw [hd, Chip.b_setB_same _ _ _ _ hi]
  · rw [hd]; simp only [Chip.b]; rw [Chip.log1_rd_ne _ _ _ _ _ _ h h']; exact Chip.b_setB_same _ _ _ _ hi

theorem Chip.perr_rd_ne (c : Chip) (e : Env) (page i : Nat) {a : Nat} (h0 : a ≠ Reg.PG_ERR page) (h : a ≠ Reg.CHIP_LOG_WR)
    (h' : a ≠ Reg.CHIP_LOG_LOST) : (c.perr e page i).rd a = c.rd a := by
  obtain ⟨d, hd, rfl⟩ := c.perr_rd e page i
  rcases hd with hd | ⟨t, n, hd⟩
  · rw [hd, Chip.rd_setB_ne _ h0]
  · rw [hd, Chip.log1_rd_ne _ _ _ _ _ _ h h', Chip.rd_setB_ne _ h0]

@[simp] theorem Chip.perr_image (c : Chip) (e : Env) (page i : Nat) : (c.perr e page i).image = c.image := by
  obtain ⟨d, hd, rfl⟩ := c.perr_rd e page i
  rcases hd with hd | ⟨t, n, hd⟩ <;> simp [hd]
@[simp] theorem Chip.perr_snaps (c : Chip) (e : Env) (page i : Nat) : (c.perr e page i).snaps = c.snaps := by
  obtain ⟨d, hd, rfl⟩ := c.perr_rd e page i
  rcases hd with hd | ⟨t, n, hd⟩ <;> simp [hd]
@[simp] theorem Chip.perr_now (c : Chip) (e : Env) (page i : Nat) : (c.perr e page i).now = c.now := by
  obtain ⟨d, hd, rfl⟩ := c.perr_rd e page i
  rcases hd with hd | ⟨t, n, hd⟩ <;> simp [hd]
@[simp] theorem Chip.perr_frm (c : Chip) (e : Env) (page i : Nat) : (c.perr e page i).frm = c.frm := by
  obtain ⟨d, hd, rfl⟩ := c.perr_rd e page i
  rcases hd with hd | ⟨t, n, hd⟩ <;> simp [hd]
@[simp] theorem Chip.perr_gal (c : Chip) (e : Env) (page i : Nat) : (c.perr e page i).gal = c.gal := by
  obtain ⟨d, hd, rfl⟩ := c.perr_rd e page i
  rcases hd with hd | ⟨t, n, hd⟩ <;> simp [hd]
@[simp] theorem Chip.perr_flt (c : Chip) (e : Env) (page i : Nat) : (c.perr e page i).flt = c.flt := by
  obtain ⟨d, hd, rfl⟩ := c.perr_rd e page i
  rcases hd with hd | ⟨t, n, hd⟩ <;> simp [hd]
@[simp] theorem Chip.perr_img (c : Chip) (e : Env) (page i : Nat) : (c.perr e page i).img = c.img := by
  obtain ⟨d, hd, rfl⟩ := c.perr_rd e page i
  rcases hd with hd | ⟨t, n, hd⟩ <;> simp [hd]
@[simp] theorem Chip.perr_alc (c : Chip) (e : Env) (page i : Nat) : (c.perr e page i).alc = c.alc := by
  obtain ⟨d, hd, rfl⟩ := c.perr_rd e page i
  rcases hd with hd | ⟨t, n, hd⟩ <;> simp [hd]
@[simp] theorem Chip.perr_mov (c : Chip) (e : Env) (page i : Nat) : (c.perr e page i).mov = c.mov := by
  obtain ⟨d, hd, rfl⟩ := c.perr_rd e page i
  rcases hd with hd | ⟨t, n, hd⟩ <;> simp [hd]
@[simp] theorem Chip.perr_cen (c : Chip) (e : Env) (page i : Nat) : (c.perr e page i).cen = c.cen := by
  obtain ⟨d, hd, rfl⟩ := c.perr_rd e page i
  rcases hd with hd | ⟨t, n, hd⟩ <;> simp [hd]
@[simp] theorem Chip.perr_drawn (c : Chip) (e : Env) (page i : Nat) : (c.perr e page i).drawn = c.drawn := by
  obtain ⟨d, hd, rfl⟩ := c.perr_rd e page i
  rcases hd with hd | ⟨t, n, hd⟩ <;> simp [hd]
@[simp] theorem Chip.perr_thm (c : Chip) (e : Env) (page i : Nat) : (c.perr e page i).thm = c.thm := by
  obtain ⟨d, hd, rfl⟩ := c.perr_rd e page i
  rcases hd with hd | ⟨t, n, hd⟩ <;> simp [hd]
@[simp] theorem Chip.perr_thmKept (c : Chip) (e : Env) (page i : Nat) : (c.perr e page i).thmKept = c.thmKept := by
  obtain ⟨d, hd, rfl⟩ := c.perr_rd e page i
  rcases hd with hd | ⟨t, n, hd⟩ <;> simp [hd]
@[simp] theorem Chip.perr_hkp (c : Chip) (e : Env) (page i : Nat) : (c.perr e page i).hkp = c.hkp := by
  obtain ⟨d, hd, rfl⟩ := c.perr_rd e page i
  rcases hd with hd | ⟨t, n, hd⟩ <;> simp [hd]
@[simp] theorem Chip.perr_phy (c : Chip) (e : Env) (page i : Nat) : (c.perr e page i).phy = c.phy := by
  obtain ⟨d, hd, rfl⟩ := c.perr_rd e page i
  rcases hd with hd | ⟨t, n, hd⟩ <;> simp [hd]
@[simp] theorem Chip.perr_tp (c : Chip) (e : Env) (page i : Nat) : (c.perr e page i).tp = c.tp := by
  obtain ⟨d, hd, rfl⟩ := c.perr_rd e page i
  rcases hd with hd | ⟨t, n, hd⟩ <;> simp [hd]
@[simp] theorem Chip.perr_ses (c : Chip) (e : Env) (page i : Nat) : (c.perr e page i).ses = c.ses := by
  obtain ⟨d, hd, rfl⟩ := c.perr_rd e page i
  rcases hd with hd | ⟨t, n, hd⟩ <;> simp [hd]
@[simp] theorem Chip.perr_cry (c : Chip) (e : Env) (page i : Nat) : (c.perr e page i).cry = c.cry := by
  obtain ⟨d, hd, rfl⟩ := c.perr_rd e page i
  rcases hd with hd | ⟨t, n, hd⟩ <;> simp [hd]
@[simp] theorem Chip.perr_pair (c : Chip) (e : Env) (page i : Nat) : (c.perr e page i).pair = c.pair := by
  obtain ⟨d, hd, rfl⟩ := c.perr_rd e page i
  rcases hd with hd | ⟨t, n, hd⟩ <;> simp [hd]
@[simp] theorem Chip.perr_bnd (c : Chip) (e : Env) (page i : Nat) : (c.perr e page i).bnd = c.bnd := by
  obtain ⟨d, hd, rfl⟩ := c.perr_rd e page i
  rcases hd with hd | ⟨t, n, hd⟩ <;> simp [hd]
@[simp] theorem Chip.perr_own (c : Chip) (e : Env) (page i : Nat) : (c.perr e page i).own = c.own := by
  obtain ⟨d, hd, rfl⟩ := c.perr_rd e page i
  rcases hd with hd | ⟨t, n, hd⟩ <;> simp [hd]
@[simp] theorem Chip.perr_sent (c : Chip) (e : Env) (page i : Nat) : (c.perr e page i).sent = c.sent := by
  obtain ⟨d, hd, rfl⟩ := c.perr_rd e page i
  rcases hd with hd | ⟨t, n, hd⟩ <;> simp [hd]
@[simp] theorem Chip.perr_can (c : Chip) (e : Env) (page i : Nat) : (c.perr e page i).can = c.can := by
  obtain ⟨d, hd, rfl⟩ := c.perr_rd e page i
  rcases hd with hd | ⟨t, n, hd⟩ <;> simp [hd]
@[simp] theorem Chip.perr_hdg (c : Chip) (e : Env) (page i : Nat) : (c.perr e page i).hdg = c.hdg := by
  obtain ⟨d, hd, rfl⟩ := c.perr_rd e page i
  rcases hd with hd | ⟨t, n, hd⟩ <;> simp [hd]
@[simp] theorem Chip.perr_pwm (c : Chip) (e : Env) (page i : Nat) : (c.perr e page i).pwm = c.pwm := by
  obtain ⟨d, hd, rfl⟩ := c.perr_rd e page i
  rcases hd with hd | ⟨t, n, hd⟩ <;> simp [hd]
@[simp] theorem Chip.perr_asw (c : Chip) (e : Env) (page i : Nat) : (c.perr e page i).asw = c.asw := by
  obtain ⟨d, hd, rfl⟩ := c.perr_rd e page i
  rcases hd with hd | ⟨t, n, hd⟩ <;> simp [hd]
@[simp] theorem Chip.perr_pwr (c : Chip) (e : Env) (page i : Nat) : (c.perr e page i).pwr = c.pwr := by
  obtain ⟨d, hd, rfl⟩ := c.perr_rd e page i
  rcases hd with hd | ⟨t, n, hd⟩ <;> simp [hd]
@[simp] theorem Chip.perr_hif (c : Chip) (e : Env) (page i : Nat) : (c.perr e page i).hif = c.hif := by
  obtain ⟨d, hd, rfl⟩ := c.perr_rd e page i
  rcases hd with hd | ⟨t, n, hd⟩ <;> simp [hd]

/-! ### Entries of Heath and Metrology -/

theorem Chip.putOrKeep_rd_ne (l : List LogEntry) (c : Chip) (kept : List LogEntry) {a : Nat} (h : a ≠ Reg.CHIP_LOG_WR)
    (h' : a ≠ Reg.CHIP_LOG_LOST) : (c.putOrKeep kept l).1.rd a = c.rd a := by
  induction l generalizing c kept with
  | nil => rfl
  | cons x t ih =>
    unfold Chip.putOrKeep
    split
    · rw [ih, Chip.put_rd_ne _ _ h]
    · split
      · exact ih _ _
      · rw [ih]; exact Chip.rd_wr_ne _ _ h'

@[simp] theorem Chip.putOrKeep_image (l : List LogEntry) (c : Chip) (kept : List LogEntry) : (c.putOrKeep kept l).1.image = c.image := by
  induction l generalizing c kept with
  | nil => rfl
  | cons x t ih => unfold Chip.putOrKeep; split; · simp [ih]
                   split <;> simp [ih]
@[simp] theorem Chip.putOrKeep_snaps (l : List LogEntry) (c : Chip) (kept : List LogEntry) : (c.putOrKeep kept l).1.snaps = c.snaps := by
  induction l generalizing c kept with
  | nil => rfl
  | cons x t ih => unfold Chip.putOrKeep; split; · simp [ih]
                   split <;> simp [ih]
@[simp] theorem Chip.putOrKeep_now (l : List LogEntry) (c : Chip) (kept : List LogEntry) : (c.putOrKeep kept l).1.now = c.now := by
  induction l generalizing c kept with
  | nil => rfl
  | cons x t ih => unfold Chip.putOrKeep; split; · simp [ih]
                   split <;> simp [ih]
@[simp] theorem Chip.putOrKeep_frm (l : List LogEntry) (c : Chip) (kept : List LogEntry) : (c.putOrKeep kept l).1.frm = c.frm := by
  induction l generalizing c kept with
  | nil => rfl
  | cons x t ih => unfold Chip.putOrKeep; split; · simp [ih]
                   split <;> simp [ih]
@[simp] theorem Chip.putOrKeep_gal (l : List LogEntry) (c : Chip) (kept : List LogEntry) : (c.putOrKeep kept l).1.gal = c.gal := by
  induction l generalizing c kept with
  | nil => rfl
  | cons x t ih => unfold Chip.putOrKeep; split; · simp [ih]
                   split <;> simp [ih]
@[simp] theorem Chip.putOrKeep_flt (l : List LogEntry) (c : Chip) (kept : List LogEntry) : (c.putOrKeep kept l).1.flt = c.flt := by
  induction l generalizing c kept with
  | nil => rfl
  | cons x t ih => unfold Chip.putOrKeep; split; · simp [ih]
                   split <;> simp [ih]
@[simp] theorem Chip.putOrKeep_img (l : List LogEntry) (c : Chip) (kept : List LogEntry) : (c.putOrKeep kept l).1.img = c.img := by
  induction l generalizing c kept with
  | nil => rfl
  | cons x t ih => unfold Chip.putOrKeep; split; · simp [ih]
                   split <;> simp [ih]
@[simp] theorem Chip.putOrKeep_alc (l : List LogEntry) (c : Chip) (kept : List LogEntry) : (c.putOrKeep kept l).1.alc = c.alc := by
  induction l generalizing c kept with
  | nil => rfl
  | cons x t ih => unfold Chip.putOrKeep; split; · simp [ih]
                   split <;> simp [ih]
@[simp] theorem Chip.putOrKeep_mov (l : List LogEntry) (c : Chip) (kept : List LogEntry) : (c.putOrKeep kept l).1.mov = c.mov := by
  induction l generalizing c kept with
  | nil => rfl
  | cons x t ih => unfold Chip.putOrKeep; split; · simp [ih]
                   split <;> simp [ih]
@[simp] theorem Chip.putOrKeep_cen (l : List LogEntry) (c : Chip) (kept : List LogEntry) : (c.putOrKeep kept l).1.cen = c.cen := by
  induction l generalizing c kept with
  | nil => rfl
  | cons x t ih => unfold Chip.putOrKeep; split; · simp [ih]
                   split <;> simp [ih]
@[simp] theorem Chip.putOrKeep_drawn (l : List LogEntry) (c : Chip) (kept : List LogEntry) : (c.putOrKeep kept l).1.drawn = c.drawn := by
  induction l generalizing c kept with
  | nil => rfl
  | cons x t ih => unfold Chip.putOrKeep; split; · simp [ih]
                   split <;> simp [ih]
@[simp] theorem Chip.putOrKeep_thm (l : List LogEntry) (c : Chip) (kept : List LogEntry) : (c.putOrKeep kept l).1.thm = c.thm := by
  induction l generalizing c kept with
  | nil => rfl
  | cons x t ih => unfold Chip.putOrKeep; split; · simp [ih]
                   split <;> simp [ih]
@[simp] theorem Chip.putOrKeep_thmKept (l : List LogEntry) (c : Chip) (kept : List LogEntry) : (c.putOrKeep kept l).1.thmKept = c.thmKept := by
  induction l generalizing c kept with
  | nil => rfl
  | cons x t ih => unfold Chip.putOrKeep; split; · simp [ih]
                   split <;> simp [ih]
@[simp] theorem Chip.putOrKeep_hkp (l : List LogEntry) (c : Chip) (kept : List LogEntry) : (c.putOrKeep kept l).1.hkp = c.hkp := by
  induction l generalizing c kept with
  | nil => rfl
  | cons x t ih => unfold Chip.putOrKeep; split; · simp [ih]
                   split <;> simp [ih]
@[simp] theorem Chip.putOrKeep_phy (l : List LogEntry) (c : Chip) (kept : List LogEntry) : (c.putOrKeep kept l).1.phy = c.phy := by
  induction l generalizing c kept with
  | nil => rfl
  | cons x t ih => unfold Chip.putOrKeep; split; · simp [ih]
                   split <;> simp [ih]
@[simp] theorem Chip.putOrKeep_tp (l : List LogEntry) (c : Chip) (kept : List LogEntry) : (c.putOrKeep kept l).1.tp = c.tp := by
  induction l generalizing c kept with
  | nil => rfl
  | cons x t ih => unfold Chip.putOrKeep; split; · simp [ih]
                   split <;> simp [ih]
@[simp] theorem Chip.putOrKeep_ses (l : List LogEntry) (c : Chip) (kept : List LogEntry) : (c.putOrKeep kept l).1.ses = c.ses := by
  induction l generalizing c kept with
  | nil => rfl
  | cons x t ih => unfold Chip.putOrKeep; split; · simp [ih]
                   split <;> simp [ih]
@[simp] theorem Chip.putOrKeep_cry (l : List LogEntry) (c : Chip) (kept : List LogEntry) : (c.putOrKeep kept l).1.cry = c.cry := by
  induction l generalizing c kept with
  | nil => rfl
  | cons x t ih => unfold Chip.putOrKeep; split; · simp [ih]
                   split <;> simp [ih]
@[simp] theorem Chip.putOrKeep_pair (l : List LogEntry) (c : Chip) (kept : List LogEntry) : (c.putOrKeep kept l).1.pair = c.pair := by
  induction l generalizing c kept with
  | nil => rfl
  | cons x t ih => unfold Chip.putOrKeep; split; · simp [ih]
                   split <;> simp [ih]
@[simp] theorem Chip.putOrKeep_bnd (l : List LogEntry) (c : Chip) (kept : List LogEntry) : (c.putOrKeep kept l).1.bnd = c.bnd := by
  induction l generalizing c kept with
  | nil => rfl
  | cons x t ih => unfold Chip.putOrKeep; split; · simp [ih]
                   split <;> simp [ih]
@[simp] theorem Chip.putOrKeep_own (l : List LogEntry) (c : Chip) (kept : List LogEntry) : (c.putOrKeep kept l).1.own = c.own := by
  induction l generalizing c kept with
  | nil => rfl
  | cons x t ih => unfold Chip.putOrKeep; split; · simp [ih]
                   split <;> simp [ih]
@[simp] theorem Chip.putOrKeep_sent (l : List LogEntry) (c : Chip) (kept : List LogEntry) : (c.putOrKeep kept l).1.sent = c.sent := by
  induction l generalizing c kept with
  | nil => rfl
  | cons x t ih => unfold Chip.putOrKeep; split; · simp [ih]
                   split <;> simp [ih]
@[simp] theorem Chip.putOrKeep_can (l : List LogEntry) (c : Chip) (kept : List LogEntry) : (c.putOrKeep kept l).1.can = c.can := by
  induction l generalizing c kept with
  | nil => rfl
  | cons x t ih => unfold Chip.putOrKeep; split; · simp [ih]
                   split <;> simp [ih]
@[simp] theorem Chip.putOrKeep_hdg (l : List LogEntry) (c : Chip) (kept : List LogEntry) : (c.putOrKeep kept l).1.hdg = c.hdg := by
  induction l generalizing c kept with
  | nil => rfl
  | cons x t ih => unfold Chip.putOrKeep; split; · simp [ih]
                   split <;> simp [ih]
@[simp] theorem Chip.putOrKeep_pwm (l : List LogEntry) (c : Chip) (kept : List LogEntry) : (c.putOrKeep kept l).1.pwm = c.pwm := by
  induction l generalizing c kept with
  | nil => rfl
  | cons x t ih => unfold Chip.putOrKeep; split; · simp [ih]
                   split <;> simp [ih]
@[simp] theorem Chip.putOrKeep_asw (l : List LogEntry) (c : Chip) (kept : List LogEntry) : (c.putOrKeep kept l).1.asw = c.asw := by
  induction l generalizing c kept with
  | nil => rfl
  | cons x t ih => unfold Chip.putOrKeep; split; · simp [ih]
                   split <;> simp [ih]
@[simp] theorem Chip.putOrKeep_pwr (l : List LogEntry) (c : Chip) (kept : List LogEntry) : (c.putOrKeep kept l).1.pwr = c.pwr := by
  induction l generalizing c kept with
  | nil => rfl
  | cons x t ih => unfold Chip.putOrKeep; split; · simp [ih]
                   split <;> simp [ih]
@[simp] theorem Chip.putOrKeep_hif (l : List LogEntry) (c : Chip) (kept : List LogEntry) : (c.putOrKeep kept l).1.hif = c.hif := by
  induction l generalizing c kept with
  | nil => rfl
  | cons x t ih => unfold Chip.putOrKeep; split; · simp [ih]
                   split <;> simp [ih]

end Sys2Proof.Machine
end

