-- ==== Sys2Proof/Tests/Slice0.lean ====
section
/-! SUPPORT. The model's own tests: a term that each check of well-formedness refuses, and for each statement a state and operands
that meet its hypotheses. -/
namespace Sys2Proof.Tests
open Sys2Proof.Machine
set_option Elab.async false
set_option linter.unusedVariables false

/-- The reset state with changed registers and parts of the chip. -/
def chipWith (f : Chip → Chip) : State := { State.reset with chip := f State.reset.chip }
/-- The reset state with a changed Heath region. -/
def heathWith (f : Heath → Heath) : State := { State.reset with heath := f State.reset.heath }
/-- The reset state with a changed Metrology region. -/
def metWith (f : Met → Met) : State := { State.reset with met := f State.reset.met }
/-- A state at a count of FCLK cycles since power-on. -/
def atUp (n : Nat) (s : State) : State := { s with env := { s.env with time := { s.env.time with up := n } } }
/-- An upward bundle as two lanes carry it, complete at cycle 100. -/
def upWire (start term : BitVec 64) (w : List (BitVec 64)) : UpBundle :=
  let l := bundleSlots true start term w
  { d0 := { blocks := laneSend 0 (l.map (fun x => x.getD 0 (0, 0))) }, d1 := { blocks := laneSend 0 (l.map (fun x => x.getD 1 (0, 0))) },
    cycle := 100 }
/-- The page at a base. -/
def pg (a : Nat) : Page := (pageAt a).getD ⟨0, .chip, 0, 0, 0, 0, 0⟩
/-- The register at an address of a page. -/
def rg (page a : Nat) : RegDesc := ((regAt (pg page) a).map (·.1)).getD galErr
/-- Flash whose slot 0 holds an image of no bytes for one management core (R727, R733). -/
def bootFlash : List (Nat × Byte) :=
  [(0, 0x49), (1, 0x5A), (2, 0x54), (3, 0x4F), (8, 0), (9, 0), (10, 0), (11, 0), (12, 2), (13, 0), (14, 0), (15, 0), (16, 0), (17, 0), (18, 0), (19, 0)]
/-- The Service region restarting with that flash. -/
def booting : State := chipWith (fun c => (c.setRgn .service 1).onHif (fun h => { h with flash := bootFlash }))
/-- The reset state at a cycle of its frame. -/
def atCycle (n : Nat) (s : State) : State := { s with env := { s.env with time := { s.env.time with offset := n } } }

theorem test_step_front : ({ State.reset with pending := [.pps] } : State).pending = .pps :: [] := by decide

theorem test_idle_quiet : let s : State := chipWith (fun c => ((c.setRgn .control 2).setRgn .service 2).setRgn .heath 2)
    s.pending = [] ∧ (ownEvents s).all (fun i => !isDue s i) = true := by decide +kernel
theorem test_idle_due : State.reset.pending = [] ∧ (ownEvents State.reset).any (isDue State.reset) = true := by decide +kernel

theorem test_mem_ok : ({ State.reset with mem := memPut [] 4096 [1, 0, 2] } : State).memOk := by decide +kernel

/-- The reset state after `k` cuts of its frame. -/
def afterCuts (k : Nat) : State := chipWith (fun c => c.onFrm (fun f => { f with phase := k }))

theorem test_hyp_frameBoundaryTime :
    (let s : State := afterCuts 5; (s.chip.ctl = true) ∧ (s.chip.frm.phase = 5) ∧ (s.chip.flt.held = []) ∧ (s.env.time.offset ≤
      s.env.time.len)) ∧
    (let s : State := atCycle 25000 (afterCuts 5); (s.chip.ctl = true) ∧ (s.chip.frm.phase = 5) ∧ (s.chip.flt.held = []) ∧
      (s.env.time.offset ≤ s.env.time.len)) := by
  decide +kernel

theorem test_cuts_down : (chipWith (fun c => c.setRgn .control 1)).chip.ctl = false := by decide +kernel

theorem test_hyp_frameCuts_1 :
    (let s : State := State.reset; (s.chip.ctl = true) ∧ (s.chip.frm.phase = 0) ∧ (s.env.time.offset ≤ s.chip.cuts.cut)) ∧
    (let s : State := atCycle 5000 State.reset; (s.chip.ctl = true) ∧ (s.chip.frm.phase = 0) ∧ (s.env.time.offset ≤ s.chip.cuts.cut)) ∧
    (let s : State := afterCuts 1; (s.chip.ctl = true) ∧ (s.chip.frm.phase = 1) ∧ (s.env.time.offset ≤ s.chip.cuts.solve)) ∧
    (let s : State := atCycle 6000 (afterCuts 1); (s.chip.ctl = true) ∧ (s.chip.frm.phase = 1) ∧ (s.env.time.offset ≤
      s.chip.cuts.solve)) := by
  decide +kernel
theorem test_hyp_frameCuts_2 :
    (let s : State := afterCuts 2; (s.chip.ctl = true) ∧ (s.chip.frm.phase = 2) ∧ (s.env.time.offset ≤ s.chip.cuts.emit)) ∧
    (let s : State := atCycle 17000 (afterCuts 2); (s.chip.ctl = true) ∧ (s.chip.frm.phase = 2) ∧ (s.env.time.offset ≤
      s.chip.cuts.emit)) ∧
    (let s : State := afterCuts 3; (s.chip.ctl = true) ∧ (s.chip.frm.phase = 3) ∧ (s.env.time.offset ≤ s.chip.cuts.mirror)) ∧
    (let s : State := atCycle 22000 (afterCuts 3); (s.chip.ctl = true) ∧ (s.chip.frm.phase = 3) ∧ (s.env.time.offset ≤
      s.chip.cuts.mirror)) := by
  decide +kernel
theorem test_hyp_frameCuts_3 :
    (let s : State := afterCuts 4; (s.chip.ctl = true) ∧ (s.chip.frm.phase = 4) ∧ (s.env.time.offset ≤ s.chip.cuts.mirror + 1000)) ∧
    (let s : State := atCycle 23000 (afterCuts 4); (s.chip.ctl = true) ∧ (s.chip.frm.phase = 4) ∧ (s.env.time.offset ≤
      s.chip.cuts.mirror + 1000)) := by
  decide +kernel

theorem test_hyp_fsyncEdges_1 :
    (let s : State := chipWith (fun c => c.onFrm (fun f => { f with wmode := 1 })); let cyc : Nat := 0; (s.chip.ctl = true) ∧ (cyc <
      2500) ∧ (cyc + 2500 < s.env.time.len) ∧ (s.chip.frm.wmode ≠ 0) ∧ (s.chip.frm.winEdge = false) ∧ (s.chip.role = 0)) ∧
    (let s : State := chipWith (fun c => c.onFrm (fun f => { f with wmode := 2 })); let cyc : Nat := 2499; (s.chip.ctl = true) ∧ (cyc <
      2500) ∧ (cyc + 2500 < s.env.time.len) ∧ (s.chip.frm.wmode ≠ 0) ∧ (s.chip.frm.winEdge = false) ∧ (s.chip.role = 0)) ∧
    (let s : State := chipWith (fun c => c.onFrm (fun f => { f with wmode := 1, winEdge := true })); let cyc : Nat := 7; (s.chip.ctl =
      true) ∧ (cyc < 2500) ∧ (cyc + 2500 < s.env.time.len) ∧ (s.chip.frm.wmode ≠ 0) ∧ (s.chip.frm.winEdge = true)) ∧
    (let s : State := chipWith (fun c => c.wr Reg.FRM_CFG 0x11); let cyc : Nat := 2500; (s.chip.ctl = true) ∧ (2500 ≤ cyc) ∧ (cyc + 2500
      < s.env.time.len) ∧ (syncMode s.chip ≠ 0) ∧ (s.chip.frm.prelock = false)) := by
  decide +kernel
theorem test_hyp_fsyncEdges_2 :
    (let s : State := chipWith (fun c => (c.wr Reg.FRM_CFG 0x11).setB Reg.FRM_STAT 31 true); let cyc : Nat := 22499; (s.chip.ctl = true)
      ∧ (2500 ≤ cyc) ∧ (cyc + 2500 < s.env.time.len) ∧ (syncMode s.chip ≠ 0) ∧ (s.chip.frm.prelock = false)) := by
  decide +kernel

theorem test_hyp_lockRules_1 :
    (let s : State := chipWith (fun c => c.onFrm (fun f => { f with wmode := 1, winClosed := false })); (s.chip.ctl = true) ∧
      (s.chip.frm.phase = 0) ∧ (s.chip.frm.wmode ≠ 0) ∧ (s.chip.frm.winClosed = false) ∧ (s.chip.frm.winEdge = false) ∧ (s.env.time.offset ≤
      2500)) ∧
    (let s : State := atCycle 2500 (chipWith (fun c => (c.setB Reg.FRM_STAT 31 true).onFrm (fun f =>
      { f with wmode := 1, winClosed := false }))); (s.chip.ctl = true) ∧ (s.chip.frm.phase = 0) ∧ (s.chip.frm.wmode ≠ 0) ∧
      (s.chip.frm.winClosed = false) ∧ (s.chip.frm.winEdge = false) ∧ (s.env.time.offset ≤ 2500)) ∧
    (let s : State := chipWith (fun c => c.setF Reg.FRM_STAT 8 5 16); (s.chip.ctl = true) ∧ (frmLocked s.chip = false) ∧ (lockRun s.chip =
      16)) ∧
    (let s : State := chipWith (fun c => (c.setB Reg.FRM_STAT 31 true).onFrm (fun f => { f with missRun := 4 })); (s.chip.ctl = true) ∧
      (frmLocked s.chip = true) ∧ (4 ≤ s.chip.frm.missRun)) := by
  decide +kernel
theorem test_hyp_lockRules_2 :
    (let s : State := chipWith (fun c => c.onFrm (fun f => { f with fsyncOut := true })); (s.chip.ctl = true) ∧ (s.chip.frm.phase = 0) ∧
      (s.chip.frm.fsyncOut = true) ∧ (100 * s.chip.f Reg.FRM_CFG 16 8 < s.chip.cuts.cut)) := by
  decide +kernel

theorem test_hyp_timeWords :
    (let s : State := State.reset; (s.chip.ctl = true)) := by
  decide +kernel

theorem test_hyp_enginesComplete :
    (let s : State := chipWith (fun c => c.onFrm (fun f => { f with solving := true })); (s.chip.ctl = true) ∧ (s.chip.frm.solving =
      true) ∧ (s.chip.frm.alcDone = false)) ∧
    (let s : State := chipWith (fun c => c.onFrm (fun f => { f with solving := true })); (s.chip.ctl = true) ∧ (s.chip.frm.solving =
      true) ∧ (s.chip.frm.alcDone = false)) ∧
    (let s : State := chipWith (fun c => (c.onFrm (fun f => { f with solving := true, alcDone := true })).setF Reg.FRM_STAT 0 8 2);
      (s.chip.ctl = true) ∧ (s.chip.frm.solving = true) ∧ (s.chip.frm.alcDone = true) ∧ (s.chip.frm.cenDone = false)) ∧
    (let s : State := chipWith (fun c => ((c.onFrm (fun f => { f with solving := true, alcDone := true })).onPair (fun p => { p with skip := true })));
      (s.chip.ctl = true) ∧ (s.chip.frm.solving = true) ∧ (s.chip.frm.alcDone = true) ∧ (s.chip.frm.cenDone = false)) := by
  decide +kernel

theorem test_hyp_frozenGrants_1 :
    (let s : State := chipWith (fun c => c.onFrm (fun f => { f with freezeDue := true })); (s.chip.ctl = true) ∧ (s.chip.frm.freezeDue =
      true) ∧ (frmFrozen s.chip = false) ∧ (s.env.time.offset < s.chip.cuts.solve)) ∧
    (let s : State := atCycle 5999 (chipWith (fun c => c.onFrm (fun f => { f with freezeDue := true }))); (s.chip.ctl = true) ∧
      (s.chip.frm.freezeDue = true) ∧ (frmFrozen s.chip = false) ∧ (s.env.time.offset < s.chip.cuts.solve)) ∧
    (let s : State := chipWith (fun c => (c.setB Reg.FRM_STAT 30 true).setF Reg.FRM_STAT 16 7 64); (s.chip.ctl = true) ∧ (frmFrozen
      s.chip = true) ∧ (s.chip.b Reg.FRM_STAT 29 = false) ∧ (64 ≤ s.chip.f Reg.FRM_STAT 16 7)) ∧
    (let s : State := chipWith (fun c => (c.setB Reg.FRM_STAT 30 true).onFrm (fun f => { f with frozenOvr := 16 })); (s.chip.ctl = true)
      ∧ (frmFrozen s.chip = true) ∧ (16 ≤ s.chip.frm.frozenOvr)) := by
  decide +kernel
theorem test_hyp_frozenGrants_2 :
    (let s : State := chipWith (fun c => c.onFrm (fun f => { f with anchorDue := true })); (s.chip.ctl = true) ∧ (s.chip.frm.anchorDue =
      true)) := by
  decide +kernel

theorem test_hyp_registerWriteChecks :
    (let s : State := State.reset; let p : Plane := .data; let a : Nat := Reg.SNP_LOG_DETAIL 1; let v : Word := 0x12345678;
      let g : Page := pg 0x40003000; let d : RegDesc := rg 0x40003000 (Reg.SNP_LOG_DETAIL 1); let j : Nat := 1; (s.reaches a = true) ∧ (a
      % 4 = 0) ∧ (placeOf s.env.part a = .reg g d j) ∧ (g.owner < 3) ∧ (s.chip.ownerOk g a p = true) ∧ (s.cellFenced g a = false) ∧ (s.holds a = false) ∧
      (d.acc = .rw) ∧ (writeHook p a (v &&& ~~~ word d.rsv) = none)) ∧
    (let s : State := State.reset; let a : Nat := Reg.SNP_LOG_DETAIL 1 + 2; let size : Nat := 2; let g : Page := pg 0x40003000;
      let d : RegDesc := rg 0x40003000 (Reg.SNP_LOG_DETAIL 1); let j : Nat := 1; (s.reaches a = true) ∧ (placeOf s.env.part (a / 4 * 4) =
      .reg g d j) ∧ (size ≠ 4 ∨ a % 4 ≠ 0) ∧ (regionOf g.base = .control)) ∧
    (let s : State := State.reset; let p : Plane := .control; let a : Nat := Reg.SNP_LOG_DETAIL 1; let g : Page := pg 0x40003000;
      let d : RegDesc := rg 0x40003000 (Reg.SNP_LOG_DETAIL 1); let j : Nat := 1; (s.reaches a = true) ∧ (a % 4 = 0) ∧ (placeOf s.env.part
      a = .reg g d j) ∧ (g.owner < 3) ∧ (regionOf g.base = .control) ∧ (s.chip.ownerOk g a p = false)) ∧
    (let s : State := chipWith (fun c => c.wr Reg.CHIP_DROP_INFO 5); let a : Nat := Reg.CHIP_DROP_INFO; let x : ReadAt := { addr := a, size := 2 };
      let g : Page := pg 0x40000000; let d : RegDesc := rg 0x40000000 Reg.CHIP_DROP_INFO; let j : Nat := 0; (x.addr = a) ∧ (placeOf s.env.part
      (a / 4 * 4) = .reg g d j) ∧ (d.acc = .rc) ∧ (s.reaches a = true)) ∧
    (let s : State := chipWith (fun c => { c with flt := { c.flt with held := [0x40003000] } }); let p : Plane := .data; let a : Nat := Reg.SNP_LOG_DETAIL 1;
      let g : Page := pg 0x40003000; let d : RegDesc := rg 0x40003000 (Reg.SNP_LOG_DETAIL 1); let j : Nat := 1; (s.reaches a = true) ∧ (a
      % 4 = 0) ∧ (placeOf s.env.part a = .reg g d j) ∧ (g.owner < 3) ∧ (s.chip.ownerOk g a p = true) ∧ (s.cellFenced g a = false) ∧
      (s.holds a = true) ∧ (d.acc = .rw)) := by
  decide +kernel

theorem test_hyp_unmappedAccess :
    (let s : State := chipWith (fun c => { c with flt := { c.flt with dropAt := some (0, 3) } }); let p : Plane := .data; let a : Nat := 0x4F000002;
      (pageAt (a / 4 * 4) = none) ∧ (windowAt (a / 4 * 4) = none) ∧ (∀ x ∈ s.chip.flt.dropAt, x.1 = s.env.time.up → x.2 ≤ requesterRank p)) ∧
    (let s : State := State.reset; let p : Plane := .heath; let a : Nat := 0x4F000000; (pageAt (a / 4 * 4) = none) ∧ (windowAt (a / 4 * 4)
      = none) ∧ (∀ x ∈ s.chip.flt.dropAt, x.1 = s.env.time.up → x.2 ≤ requesterRank p)) ∧
    (let s : State := chipWith (fun c => { c with flt := { c.flt with dropAt := some (0, 3) } }); let p : Plane := .metrology; let a : Nat := 0;
      let q : Nat × Nat := (0, 3); (pageAt (a / 4 * 4) = none) ∧ (windowAt (a / 4 * 4) = none) ∧ (s.chip.flt.dropAt = some q) ∧ (q.1 =
      s.env.time.up) ∧ (requesterRank p < q.2)) := by
  decide +kernel

theorem test_hyp_snapshotHolds_1 :
    (let s : State := State.reset; let p : Plane := .control; (s.chip.ctl = true) ∧ (planeCode p < 3) ∧ (s.chip.fenced 0x40003000
      (planeCode p) = false) ∧ (snapHeld s.chip (planeCode p) = false)) ∧
    (let s : State := chipWith (fun c => c.setB (Reg.SNP_HOLD 2) 1 true); let p : Plane := .management; (s.chip.ctl = true) ∧ (planeCode
      p < 3) ∧ (s.chip.fenced 0x40003000 (planeCode p) = false) ∧ (snapHeld s.chip (planeCode p) = false)) ∧
    (let s : State := chipWith (fun c => c.setB (Reg.SNP_HOLD 1) 0 true); let p : Plane := .data; (s.chip.ctl = true) ∧ (planeCode p <
      3) ∧ (s.chip.fenced 0x40003000 (planeCode p) = false) ∧ (snapHeld s.chip (planeCode p) = true)) ∧
    (let s : State := chipWith (fun c => (c.setB (Reg.SNP_HOLD 0) 0 true).setSnap 0 { c.snap 0 with age := 8 });
      let p : Plane := .control; (s.chip.ctl = true) ∧ (planeCode p < 3) ∧ (snapHeld s.chip (planeCode p) = true) ∧ (8 ≤ (s.chip.snap
      (planeCode p)).age)) := by
  decide +kernel
theorem test_hyp_snapshotHolds_2 :
    (let s : State := State.reset; let p : Plane := .management; let v : Word := 239; (s.chip.ctl = true) ∧ (planeCode p < 3) ∧
      (s.chip.fenced 0x40003000 (planeCode p) = false) ∧ (v.toNat < 240)) ∧
    (let s : State := State.reset; let p : Plane := .data; let v : Word := 0; (s.chip.ctl = true) ∧ (planeCode p < 3) ∧ (s.chip.fenced
      0x40003000 (planeCode p) = false) ∧ (v.toNat < 240)) ∧
    (let s : State := State.reset; let p : Plane := .management; let v : Word := 0x1F0; (s.chip.ctl = true) ∧ (planeCode p < 3) ∧
      (s.chip.fenced 0x40003000 (planeCode p) = false) ∧ (240 ≤ fget v 0 8)) := by
  decide +kernel

theorem test_hyp_galleyCommands_1 :
    (let s : State := State.reset; let p : Plane := .control; let k : Fin 4 := 0; (s.chip.ctl = true) ∧ (((planeCode p = k.val ∧ k.val < 3)
      ∨ (k = 3 ∧ planeCode p < 3 ∧ ¬ (1 ≤ s.chip.slotState 3 ∧ s.chip.slotState 3 ≤ 4)))) ∧ (s.chip.fenced 0x40002000 k = false) ∧ (¬ (1 ≤
      s.chip.slotState k ∧ s.chip.slotState k ≤ 4)) ∧ (s.chip.openSlot p = none) ∧ (¬ (s.chip.roleIs 2 = true ∧ k ≠ 2))) ∧
    (let s : State := State.reset; let p : Plane := .management; let k : Fin 4 := 3; (s.chip.ctl = true) ∧ (((planeCode p = k.val ∧ k.val <
      3) ∨ (k = 3 ∧ planeCode p < 3 ∧ ¬ (1 ≤ s.chip.slotState 3 ∧ s.chip.slotState 3 ≤ 4)))) ∧ (s.chip.fenced 0x40002000 k = false) ∧ (¬ (1
      ≤ s.chip.slotState k ∧ s.chip.slotState k ≤ 4)) ∧ (s.chip.openSlot p = none) ∧ (¬ (s.chip.roleIs 2 = true ∧ k ≠ 2))) ∧
    (let s : State := chipWith (fun c => c.setF (Reg.GAL_STATE 1) 28 4 4); let p : Plane := .data; let k : Fin 4 := 1; (s.chip.ctl = true) ∧
      (planeCode p = k.val) ∧ (k.val < 3) ∧ (s.chip.fenced 0x40002000 k = false) ∧ (1 ≤ s.chip.slotState k) ∧ (s.chip.slotState k ≤ 4)) ∧
    (let s : State := chipWith (fun c => c.setF (Reg.GAL_STATE 0) 28 4 1); let p : Plane := .control; let k : Fin 4 := 0; (s.chip.ctl =
      true) ∧ (planeCode p = k.val) ∧ (k.val < 3) ∧ (s.chip.fenced 0x40002000 k = false) ∧ (s.chip.slotState k = 1 ∨ s.chip.slotState k = 3)
      ∧ ((∀ j ∈ s.chip.gal.queue, s.chip.gal.came.contains (j, s.env.time.up) = true → slotRank j ≤ slotRank k))) := by
  decide +kernel
theorem test_hyp_galleyCommands_2 :
    (let s : State := chipWith (fun c => c.setF (Reg.GAL_STATE 2) 28 4 3); let p : Plane := .management; let k : Fin 4 := 2; (s.chip.ctl =
      true) ∧ (planeCode p = k.val) ∧ (k.val < 3) ∧ (s.chip.fenced 0x40002000 k = false) ∧ (s.chip.slotState k = 1 ∨ s.chip.slotState k = 3)
      ∧ ((∀ j ∈ s.chip.gal.queue, s.chip.gal.came.contains (j, s.env.time.up) = true → slotRank j ≤ slotRank k))) ∧
    (let s : State := chipWith (fun c => c.setF (Reg.GAL_STATE 0) 28 4 1); let p : Plane := .control; let k : Fin 4 := 0; (s.chip.ctl =
      true) ∧ (planeCode p = k.val) ∧ (k.val < 3) ∧ (s.chip.fenced 0x40002000 k = false) ∧ (s.chip.slotState k = 1 ∨ s.chip.slotState k = 3)
      ∧ ((∀ j ∈ s.chip.gal.queue, s.chip.gal.came.contains (j, s.env.time.up) = true → slotRank j ≤ slotRank k))) ∧
    (let s : State := chipWith (fun c => c.setF (Reg.GAL_STATE 2) 28 4 3); let p : Plane := .management; let k : Fin 4 := 2; (s.chip.ctl =
      true) ∧ (planeCode p = k.val) ∧ (k.val < 3) ∧ (s.chip.fenced 0x40002000 k = false) ∧ (s.chip.slotState k = 1 ∨ s.chip.slotState k = 3)
      ∧ ((∀ j ∈ s.chip.gal.queue, s.chip.gal.came.contains (j, s.env.time.up) = true → slotRank j ≤ slotRank k))) ∧
    (let s : State := chipWith (fun c => (c.setF (Reg.GAL_STATE 0) 28 4 2).onGal (fun g => { g with queue := [0] })); let p : Plane :=
      .control; let k : Fin 4 := 0; (s.chip.ctl = true) ∧ (planeCode p = k.val) ∧ (k.val < 3) ∧ (s.chip.fenced 0x40002000 k = false) ∧ (1 ≤
      s.chip.slotState k) ∧ (s.chip.slotState k ≤ 3) ∧ (s.chip.gal.accepted.contains k.val = false)) := by
  decide +kernel
theorem test_hyp_galleyCommands_3 :
    (let s : State := State.reset; let p : Plane := .data; let k : Fin 4 := 1; (s.chip.ctl = true) ∧ (planeCode p = k.val) ∧ (k.val < 3) ∧
      (s.chip.fenced 0x40002000 k = false)) ∧
    (let s : State := chipWith (fun c => (c.setF (Reg.GAL_STATE 0) 28 4 1).onGal (fun g => { g with queue := [2], came := [(2, 0)] })); let
      p : Plane := .control; let k : Fin 4 := 0; let j : Nat := 2; (s.chip.ctl = true) ∧ (planeCode p = k.val) ∧ (k.val < 3) ∧
      (s.chip.fenced 0x40002000 k = false) ∧ (s.chip.slotState k = 1 ∨ s.chip.slotState k = 3) ∧ (s.chip.gal.queue = [j]) ∧
      (s.chip.gal.came.contains (j, s.env.time.up) = true) ∧ (slotRank k < slotRank j)) := by
  decide +kernel

theorem test_hyp_galleyStaging_1 :
    (let s : State := chipWith (fun c => c.wr (Reg.GAL_STATE 0) 0x10000001); let p : Plane := .control; let a : Nat := Reg.FRM_CFG; let k :
      Nat := 0; let g : Page := pg 0x40001000; let d : RegDesc := rg 0x40001000 Reg.FRM_CFG; let j : Nat := 0; (s.chip.ctl = true) ∧ (a % 4
      = 0) ∧ (placeOf s.env.part a = .reg g d j) ∧ (g.owner < 3) ∧ (s.chip.ownerOk g a p = true) ∧ (s.cellFenced g a = false) ∧ (d.acc =
      .rws) ∧ (d.w1c = 0) ∧ (s.chip.openSlot p = some k) ∧ (s.chip.slotState k ≠ 2) ∧ ((s.chip.slot k).list.length < 4096)) ∧
    (let s : State := chipWith (fun c => ((c.setF (Reg.GAL_STATE 0) 28 4 2).setSlot 0 { pass := 1 }).onGal (fun g =>
      { g with queue := [0] })); let k : Nat := 0; let l : List Nat := []; (s.chip.ctl = true) ∧ (s.chip.gal.queue = k :: l) ∧ (k < 4) ∧
      ((s.chip.slot k).pass = 1) ∧ (structuralPass s.env s.mem k (commitTarget s.env s.chip) s.chip = none)) ∧
    (let s : State := chipWith (fun c => ((c.setF (Reg.GAL_STATE 1) 28 4 2).setSlot 1 { pass := 2 }).onGal (fun g =>
      { g with queue := [1, 2] })); let k : Nat := 1; let l : List Nat := [2]; (s.chip.ctl = true) ∧ (s.chip.gal.queue = k :: l) ∧ (k < 3) ∧
      ((s.chip.slot k).pass = 2) ∧ (structuralPass s.env s.mem k (commitTarget s.env s.chip) s.chip = none)) ∧
    (let s : State := chipWith (fun c => (((c.setF (Reg.GAL_STATE 0) 28 4 2).setB (Reg.GAL_LIST 0) 31 true).setSlot 0 { pass := 2 }).onGal
      (fun g => { g with queue := [0] })); let k : Nat := 0; let l : List Nat := []; let f : Nat × Nat × Nat := (0x14, 0, 0); (s.chip.ctl =
      true) ∧ (s.chip.gal.queue = k :: l) ∧ (k < 4) ∧ (f.1 < 256) ∧ (structuralPass s.env s.mem k (commitTarget s.env s.chip) s.chip = some
      f)) := by
  decide +kernel
theorem test_hyp_galleyStaging_2 :
    (let s : State := atCycle 23500 (chipWith (fun c => (c.setSlot 1 { verdict := some 0, list := [(Reg.FRM_CFG, 0x00190012)] }).onGal (fun
      g => { g with cut := [1] }))); let k : Nat := 1; (s.chip.ctl = true) ∧ (s.chip.gal.gap = false) ∧ (s.chip.cuts.mirror + 1400 ≤
      s.env.time.offset) ∧ (s.chip.gal.cut.find? (fun k => !(s.chip.slot k).marker) = some k) ∧ (galPassing s.chip k = true)) ∧
    (let s : State := chipWith (fun c => (c.setF Reg.QN_STAT 29 3 1).onGal (fun g => { g with past := true, cut := [3] })); let code : Nat
      := 0; (s.chip.ctl = true) ∧ (s.chip.roleIs 0 = false) ∧ (s.chip.gal.past = true) ∧ (s.chip.gal.cut.contains 3 = true) ∧ ((s.chip.slot
      3).partner = none) ∧ (s.env.time.offset ≤ s.chip.cuts.mirror + 1400)) ∧
    (let c : Chip := (((State.reset.chip.setF Reg.QN_STAT 29 3 2).setF (Reg.GAL_STATE 3) 28 4 4).setSlot 3
      { verdict := some 0, partner := some 29 }).onGal (fun g => { g with past := true, cut := [3] }); let code : Nat := 29; (c.gal.cut =
      [3]) ∧ (c.slotState 3 = 4) ∧ (c.roleIs 0 = false) ∧ ((c.slot 3).verdict = some 0) ∧ ((c.slot 3).partner = some code) ∧ (0 < code) ∧
      (code < 256)) := by
  decide +kernel

theorem test_hyp_parityHandling_1 :
    (let s : State := State.reset; let w : ParWord := .word Reg.FRM_CFG; (pageRuns' s (parPage w) = true) ∧ (replayOf s w = none)) ∧
    (let s : State := State.reset; let w : ParWord := .bundle 31; (pageRuns' s (parPage w) = true) ∧ (replayOf s w = none)) ∧
    (let s : State := setReplay (.word Reg.FRM_CFG) (some {}) State.reset; let w : ParWord := .word Reg.FRM_CFG; let r : Replay := {};
      (replayOf s w = some r) ∧ (r.scrub = false)) ∧
    (let s : State := setReplay (.word 0x50000040) (some { tries := 1 }) State.reset; let w : ParWord := .word 0x50000040;
      let r : Replay := { tries := 1 }; (replayOf s w = some r) ∧ (r.scrub = false)) := by
  decide +kernel
theorem test_hyp_parityHandling_2 :
    (let s : State := setReplay (.bundle 3) (some {}) State.reset; let w : ParWord := .bundle 3; let r : Replay := {}; (replayOf s w =
      some r) ∧ (r.scrub = false) ∧ (r.tries = 0)) ∧
    (let s : State := onChip (fun _ c => c.setTp 3 { c.tpOf 3 with done := true }) (setReplay (.bundle 3) (some { tries := 1 }) State.reset);
      let n : Fin 32 := 3; let r : Replay := { tries := 1 }; (replayOf s (.bundle n) = some r) ∧ (r.scrub = false) ∧ (1 ≤ r.tries) ∧
      ((s.chip.tpOf n).done = true) ∧ (s.chip.frm.phase = 0)) ∧
    (let s : State := setReplay (.word Reg.FRM_CFG) (some { tries := 1 }) State.reset; let a : Nat := Reg.FRM_CFG;
      let r : Replay := { tries := 1 }; (replayOf s (.word a) = some r) ∧ (r.scrub = false) ∧ (1 ≤ r.tries) ∧ (classOf (.word a) =
      .config)) ∧
    (let s : State := onChip (fun _ c => { c with image := [(Reg.FRM_CFG, 0x190012)] }) (setReplay (.word Reg.FRM_CFG) (some { tries := 2, scrub := true }) State.reset);
      let a : Nat := Reg.FRM_CFG; let v : Word := 0x190012; let r : Replay := { tries := 2, scrub := true };
      (replayOf s (.word a) = some r) ∧ (r.scrub = true) ∧ (scrubValue (.word a) r s = some v) ∧ (a ≠ Reg.PG_ERR (parPage (.word a))) ∧ (a ≠
      Reg.PG_ERRCNT (parPage (.word a))) ∧ (a ≠ Reg.CHIP_LOG_WR) ∧ (a ≠ Reg.CHIP_LOG_LOST)) := by
  decide +kernel
theorem test_hyp_parityHandling_3 :
    (let s : State := chipWith (fun c => { c with flt := { c.flt with wreplays := [(Reg.FRM_CFG, 1)] } }); let a : Nat := Reg.FRM_CFG;
      (tget (fun _ => 0) s.chip.flt.wreplays a ≠ 0)) ∧
    (let s : State := setReplay (.hid (.loop 1023 7)) (some { tries := 2, scrub := true, supplied := some 5 }) State.reset; let n : Fin 1024 := 1023;
      let i : Fin 8 := 7; let v : Word := 5; let r : Replay := { tries := 2, scrub := true, supplied := some 5 };
      (replayOf s (.hid (.loop n i)) = some r) ∧ (r.scrub = true) ∧ (r.supplied = some v)) ∧
    (let s : State := setReplay (.hid .arbiter) (some { tries := 1 }) State.reset; let r : Replay := { tries := 1 };
      (replayOf s (.hid .arbiter) = some r) ∧ (r.scrub = false) ∧ (1 ≤ r.tries)) := by
  decide +kernel

theorem test_hyp_blockRestarts_1 :
    (let s : State := State.reset; let page : Nat := 0x40001000; let g : Page := pg 0x40001000; (pageAt page = some g) ∧ (g.base = page) ∧
      (pageRuns' s page = true) ∧ (s.chip.flt.held.contains page = false) ∧ ((recentRestarts s page).length < 2)) ∧
    (let s : State := State.reset; let page : Nat := 0x50004000; let g : Page := pg 0x50004000; (pageAt page = some g) ∧ (g.base = page) ∧
      (pageRuns' s page = true) ∧ (s.chip.flt.held.contains page = false) ∧ ((recentRestarts s page).length < 2)) ∧
    (let s : State := State.reset; let p : Plane := .control; let page : Nat := 0x40001000; let v : Word := 0x1FFFF;
      let g : Page := pg 0x40001000; (pageAt page = some g) ∧ (g.base = page) ∧ (pagePresent s.env.part g = true) ∧ (g.owner < 3) ∧ (planeCode p = g.owner) ∧
      (pageRuns' s page = true) ∧ (v &&& 0x7FFE0000 = 0) ∧ (fbit v 31 = false) ∧ (s.chip.flt.held.contains page = false)) ∧
    (let s : State := State.reset; let p : Plane := .management; let page : Nat := 0x40000000; let v : Word := 0;
      let g : Page := pg 0x40000000; (pageAt page = some g) ∧ (g.base = page) ∧ (pagePresent s.env.part g = true) ∧ (g.owner < 3) ∧ (planeCode p = g.owner) ∧
      (pageRuns' s page = true) ∧ (v &&& 0x7FFE0000 = 0) ∧ (fbit v 31 = false) ∧ (s.chip.flt.held.contains page = false)) := by
  decide +kernel
theorem test_hyp_blockRestarts_2 :
    (let s : State := State.reset; let p : Plane := .control; let page : Nat := 0x40001000; let v : Word := 0x80000000;
      let g : Page := pg 0x40001000; (pageAt page = some g) ∧ (g.base = page) ∧ (pagePresent s.env.part g = true) ∧ (g.owner < 3) ∧ (planeCode p = g.owner) ∧
      (pageRuns' s page = true) ∧ (v &&& 0x7FFE0000 = 0) ∧ (fbit v 31 = true) ∧ (s.chip.flt.held.contains page = false) ∧ ((recentRestarts s
      page).length < 2) ∧ (g.kind ≠ .gal)) ∧
    (let s : State := chipWith (fun c => { c with flt := { c.flt with held := [0x40001000] } }); let page : Nat := 0x40001000;
      (s.chip.flt.held.contains page = true) ∧ (pageAt page ≠ none) ∧ (page % 4096 = 0) ∧ ((∀ x ∈ s.chip.flt.waitW, homePage x.2.1 ≠ some
      page))) ∧
    (let s : State := chipWith (fun c => { c with flt := { c.flt with held := [0x40001000, 0x70005000] } }); let page : Nat := 0x70005000;
      (s.chip.flt.held.contains page = true) ∧ (pageAt page ≠ none) ∧ (page % 4096 = 0) ∧ ((∀ x ∈ s.chip.flt.waitW, homePage x.2.1 ≠ some
      page))) ∧
    (let s : State := { afterCuts 5 with chip := { (afterCuts 5).chip with flt := { (afterCuts 5).chip.flt with held := [0x40001000] } } };
      let page : Nat := 0x40001000; (s.chip.flt.held.contains page = true) ∧ (pageAt page ≠ none) ∧ (regionOf page = .control) ∧ (s.chip.ctl
      = true) ∧ (s.chip.frm.phase = 5) ∧ (s.env.time.offset < s.env.time.len)) ∧
    (let s : State := chipWith (fun c => { c with flt := { c.flt with blockLog := [(0x40001000, 0), (0x40001000, 0)] } }); let page : Nat :=
      0x40001000; let g : Page := pg 0x40001000; (pageAt page = some g) ∧ (pageRuns' s page = true) ∧ (s.chip.flt.held.contains page =
      false) ∧ (2 ≤ (recentRestarts s page).length) ∧ (rgnThird s.env (regionOf page) s.chip = false)) ∧
    (let s : State := chipWith (fun c => { c with flt := { c.flt with blockLog := [(0x70005000, 0), (0x70005000, 0)] } }); let page : Nat :=
      0x70005000; let g : Page := pg 0x70005000; (pageAt page = some g) ∧ (pageRuns' s page = true) ∧ (s.chip.flt.held.contains page =
      false) ∧ (2 ≤ (recentRestarts s page).length) ∧ (rgnThird s.env (regionOf page) s.chip = false)) ∧
    (let s : State := State.reset; let p : Plane := .management; let page : Nat := 0x40002000; let v : Word := 0x80000000;
      let g : Page := pg 0x40002000; (pageAt page = some g) ∧ (g.base = page) ∧ (pagePresent s.env.part g = true) ∧ (g.kind = .gal) ∧ (planeCode p =
      g.owner) ∧ (pageRuns' s page = true) ∧ (v &&& 0x7FFE0000 = 0) ∧ (fbit v 31 = true) ∧ (s.chip.flt.held.contains page = false) ∧
      ((recentRestarts s page).length < 2)) ∧
    (let s : State :=
      { afterCuts 5 with env := { (afterCuts 5).env with time := { (afterCuts 5).env.time with offset := (afterCuts 5).env.time.len - 1 } }, chip := { (afterCuts 5).chip with flt := { (afterCuts 5).chip.flt with held := [0x70005000] } } };
      let page : Nat := 0x70005000; (blockFailDue s page = true) ∧ (pageAt page ≠ none) ∧ (s.chip.rgn (regionOf page) = 0) ∧ (rgnThird s.env
      (regionOf page) s.chip = false)) ∧
    (let s : State :=
      { afterCuts 5 with env := { (afterCuts 5).env with time := { (afterCuts 5).env.time with offset := (afterCuts 5).env.time.len - 1 } }, chip := { (afterCuts 5).chip with flt := { (afterCuts 5).chip.flt with held := [0x60003000] } } };
      let page : Nat := 0x60003000; (blockFailDue s page = true) ∧ (pageAt page ≠ none) ∧ (s.chip.rgn (regionOf page) = 0) ∧ (rgnThird s.env
      (regionOf page) s.chip = false)) ∧
    (let s : State := State.reset; let page : Nat := 0x40001000; (s.chip.flt.held.contains page = false)) := by
  decide +kernel

theorem test_hyp_regionRestarts_1 :
    (let s : State := State.reset; let r : Region := .control; (s.chip.rgn r = 0) ∧ (rgnThird s.env r s.chip = false)) ∧
    (let s : State := State.reset; let r : Region := .service; (s.chip.rgn r = 0) ∧ (rgnThird s.env r s.chip = false)) ∧
    (let s : State := State.reset; let r : Region := .heath; (s.chip.rgn r = 0) ∧ (rgnThird s.env r s.chip = false)) ∧
    (let s : State := State.reset; let r : Region := .metrology; (s.chip.rgn r = 0) ∧ (rgnThird s.env r s.chip = false)) := by
  decide +kernel
theorem test_hyp_regionRestarts_2 :
    (let s : State := chipWith (fun c => { c with flt := { c.flt with rgnLog := [(1, 0), (1, 0)] } }); let r : Region := .service;
      (s.chip.rgn r = 0) ∧ (rgnThird s.env r s.chip = true)) ∧
    (let s : State := chipWith (fun c => { c with flt := { c.flt with rgnLog := [(2, 0), (2, 0)] } }); let r : Region := .heath;
      (s.chip.rgn r = 0) ∧ (rgnThird s.env r s.chip = true)) ∧
    (let s : State := State.reset; let r : Region := .control; (s.chip.rgn r = 0) ∧ (rgnThird s.env r s.chip = false)) ∧
    (let s : State := State.reset; let r : Region := .service; (s.chip.rgn r = 0) ∧ (rgnThird s.env r s.chip = false)) := by
  decide +kernel
theorem test_hyp_regionRestarts_3 :
    (let s : State := State.reset; let r : Region := .heath; (s.chip.rgn r = 0) ∧ (rgnThird s.env r s.chip = false)) ∧
    (let s : State := State.reset; let r : Region := .metrology; (s.chip.rgn r = 0) ∧ (rgnThird s.env r s.chip = false)) ∧
    (let s : State := let s := chipWith (fun c => { c.setRgn .service 1 with flt := { c.flt with rgnAt := [(1, 0)] } }); { s with env := { s.env with time := { s.env.time with up := 400000000 } } };
      let r : Region := .service; (timeoutDue s r = true)) ∧
    (let s : State := let s := chipWith (fun c => { (c.setRgn .service 2).setRgn .control 2 with flt := { c.flt with chipFaultAt := some 0 } }); { s with env := { s.env with time := { s.env.time with up := 20000000 } } };
      (chipRestartDue s = true)) := by
  decide +kernel

theorem test_hyp_regionStarts_1 :
    (let s : State := chipWith (fun c => c.setRgn .control 1); (s.chip.rgn .control = 1)) ∧
    (let s : State := chipWith (fun c => c.setRgn .control 1); (s.chip.rgn .control = 1)) ∧
    (let s : State := booting; let sigA : Bool := true; let sigB : Bool := true; (s.chip.rgn .service = 1) ∧ ((bootSlot sigA sigB
      s.chip).isSome = true)) ∧
    (let s : State := booting; let sigA : Bool := true; let sigB : Bool := false; (s.chip.rgn .service = 1) ∧ ((bootSlot sigA sigB
      s.chip).isSome = true)) := by
  decide +kernel
theorem test_hyp_regionStarts_2 :
    (let s : State := booting; (s.chip.rgn .service = 1)) ∧
    (let s : State := chipWith (fun c => c.setRgn .heath 1); (s.chip.rgn .heath = 1) ∧ (vddaGood s.chip = true)) ∧
    (let s : State := chipWith (fun c => c.setRgn .control 1); (s.chip.rgn .control = 1)) ∧
    (let s : State := booting; let sigA : Bool := true; let sigB : Bool := false; (s.chip.rgn .service = 1) ∧ ((bootSlot sigA sigB
      s.chip).isSome = true)) := by
  decide +kernel
theorem test_hyp_regionStarts_3 :
    (let s : State := chipWith (fun c => c.setRgn .heath 1); (s.chip.rgn .heath = 1) ∧ (vddaGood s.chip = true)) ∧
    (let s : State := chipWith (fun c => c.setRgn .metrology 1); (s.chip.rgn .metrology = 1) ∧ (s.met.st.fwNew = none)) := by
  decide +kernel

theorem test_hyp_suppliesAndResets_1 :
    (let s : State := State.reset; let r : Fin 4 := 0; (s.chip.pwr.rails.testBit r.val = false)) ∧
    (let s : State := State.reset; let r : Fin 4 := 3; (s.chip.pwr.rails.testBit r.val = false)) ∧
    (let s : State := chipWith (fun c => c.onPwr (fun p => { p with rails := 4 })); let r : Fin 4 := 2; (s.chip.pwr.rails.testBit r.val
      = true) ∧ (r.val ≠ 3)) ∧
    (let s : State := chipWith (fun c => c.onPwr (fun p => { p with rails := 15 })); let r : Fin 4 := 0; (s.chip.pwr.rails.testBit r.val
      = true) ∧ (r.val ≠ 3)) := by
  decide +kernel
theorem test_hyp_suppliesAndResets_2 :
    (let s : State := chipWith (fun c => (c.onPwr (fun p => { p with rails := 8 })).setRgn .heath 2); (s.chip.pwr.rails.testBit 3 =
      true) ∧ (s.chip.rgn .heath = 2)) ∧
    (let s : State := State.reset; (s.chip.pwr.rails = 0) ∧ (s.chip.pwr.rstLow = false) ∧ (s.chip.pwr.on = false)) ∧
    (let s : State := { State.reset with env := { State.reset.env with part := { variant := .v5120N } } }; (s.chip.pwr.rails = 0) ∧
      (s.chip.pwr.rstLow = false) ∧ (s.chip.pwr.on = false)) ∧
    (let s : State := chipWith (fun c => c.onPwr (fun p => { p with on := true, held := true })); (s.chip.pwr.on = true) ∧
      (s.chip.pwr.held = true) ∧ (startFree s.chip = true)) := by
  decide +kernel
theorem test_hyp_suppliesAndResets_3 :
    (let s : State := State.reset; (s.chip.pwr.rstLow = false)) ∧
    (let s : State := chipWith (fun c => c.onPwr (fun p => { p with on := true, held := true, rstLow := true })); (s.chip.pwr.rstLow =
      true) ∧ (s.chip.pwr.on = true) ∧ (s.chip.pwr.rails = 0) ∧ (s.chip.hkp.dieSd = false) ∧ (s.chip.b Reg.CHIP_ESC 5 = false)) ∧
    (let s : State := State.reset; let p : Plane := .management; let v : Word := 0xA501; (s.chip.svc = true) ∧ (p = .management) ∧ (v =
      0xA501)) ∧
    (let s : State := State.reset; let p : Plane := .management; let v : Word := 0xA401; (s.chip.svc = true) ∧ (p = .management) ∧ (v
      &&& 0xFFFF00FE = 0) ∧ (v ≠ 0xA501)) := by
  decide +kernel
theorem test_hyp_suppliesAndResets_4 :
    (let s : State := State.reset; let p : Plane := .management; let v : Word := 0xA500; (s.chip.svc = true) ∧ (p = .management) ∧ (v
      &&& 0xFFFF00FE = 0) ∧ (v ≠ 0xA501)) := by
  decide +kernel

theorem test_hyp_axisCommands_1 :
    (let s : State := chipWith (fun c => (((c.setB (Reg.CEN_AX_CFG 7) 31 true).setF (Reg.CEN_AX_STAT 7) 28 4 0).setAxis 7 { cmd := 1, tgt := 0 }));
      let a : Fin 8 := 7; (s.env.part.hasAxes = true) ∧ (s.chip.b (Reg.CEN_AX_CFG a) 31 = true) ∧ ((s.chip.axis a).cmd = 1) ∧
      (s.chip.cen.res = none) ∧ (axState s.chip a = 0) ∧ (s.chip.b (Reg.CEN_AX_STAT a) 22 = false)) ∧
    (let s : State := chipWith (fun c => (((c.setB (Reg.CEN_AX_CFG 7) 31 true).setF (Reg.CEN_AX_STAT 7) 28 4 1).setAxis 7 { cmd := 2, tgt := 0 }));
      let a : Fin 8 := 7; (s.env.part.hasAxes = true) ∧ (s.chip.b (Reg.CEN_AX_CFG a) 31 = true) ∧ ((s.chip.axis a).cmd = 2) ∧
      (s.chip.cen.res = none) ∧ (axState s.chip a = 1 ∨ axState s.chip a = 2) ∧ (axInLimits s.chip a (s.chip.axis a).tgt = true)) ∧
    (let s : State := chipWith (fun c => (((c.setB (Reg.CEN_AX_CFG 7) 31 true).setF (Reg.CEN_AX_STAT 7) 28 4 2).setAxis 7 { cmd := 2, tgt := 0 }));
      let a : Fin 8 := 7; (s.env.part.hasAxes = true) ∧ (s.chip.b (Reg.CEN_AX_CFG a) 31 = true) ∧ ((s.chip.axis a).cmd = 2) ∧
      (s.chip.cen.res = none) ∧ (axState s.chip a = 1 ∨ axState s.chip a = 2) ∧ (axInLimits s.chip a (s.chip.axis a).tgt = true)) ∧
    (let s : State := chipWith (fun c => (((c.setB (Reg.CEN_AX_CFG 7) 31 true).setF (Reg.CEN_AX_STAT 7) 28 4 2).setAxis 7 { cmd := 3, tgt := 0 }));
      let a : Fin 8 := 7; (s.env.part.hasAxes = true) ∧ (s.chip.b (Reg.CEN_AX_CFG a) 31 = true) ∧ ((s.chip.axis a).cmd = 3) ∧
      (s.chip.cen.res = none) ∧ (axState s.chip a = 2)) := by
  decide +kernel
theorem test_hyp_axisCommands_2 :
    (let s : State := chipWith (fun c => (((c.setB (Reg.CEN_AX_CFG 7) 31 true).setF (Reg.CEN_AX_STAT 7) 28 4 1).setAxis 7 { cmd := 4, tgt := 0 }));
      let a : Fin 8 := 7; (s.env.part.hasAxes = true) ∧ (s.chip.b (Reg.CEN_AX_CFG a) 31 = true) ∧ ((s.chip.axis a).cmd = 4) ∧
      (s.chip.cen.res = none) ∧ (axState s.chip a = 1 ∨ axState s.chip a = 2 ∨ axState s.chip a = 3)) ∧
    (let s : State := chipWith (fun c => (((c.setB (Reg.CEN_AX_CFG 7) 31 true).setF (Reg.CEN_AX_STAT 7) 28 4 2).setAxis 7 { cmd := 4, tgt := 0 }));
      let a : Fin 8 := 7; (s.env.part.hasAxes = true) ∧ (s.chip.b (Reg.CEN_AX_CFG a) 31 = true) ∧ ((s.chip.axis a).cmd = 4) ∧
      (s.chip.cen.res = none) ∧ (axState s.chip a = 1 ∨ axState s.chip a = 2 ∨ axState s.chip a = 3)) ∧
    (let s : State := chipWith (fun c => (((c.setB (Reg.CEN_AX_CFG 7) 31 true).setF (Reg.CEN_AX_STAT 7) 28 4 3).setAxis 7 { cmd := 4, tgt := 0 }));
      let a : Fin 8 := 7; (s.env.part.hasAxes = true) ∧ (s.chip.b (Reg.CEN_AX_CFG a) 31 = true) ∧ ((s.chip.axis a).cmd = 4) ∧
      (s.chip.cen.res = none) ∧ (axState s.chip a = 1 ∨ axState s.chip a = 2 ∨ axState s.chip a = 3)) ∧
    (let s : State := chipWith (fun c => (((c.setB (Reg.CEN_AX_CFG 7) 31 true).setF (Reg.CEN_AX_STAT 7) 28 4 4).setAxis 7 { cmd := 5, tgt := 0 }));
      let a : Fin 8 := 7; (s.env.part.hasAxes = true) ∧ (s.chip.b (Reg.CEN_AX_CFG a) 31 = true) ∧ ((s.chip.axis a).cmd = 5) ∧
      (s.chip.cen.res = none) ∧ (axState s.chip a = 4)) := by
  decide +kernel
theorem test_hyp_axisCommands_3 :
    (let s : State := chipWith (fun c => (((c.setB (Reg.CEN_AX_CFG 7) 31 true).setF (Reg.CEN_AX_STAT 7) 28 4 0).setAxis 7 { cmd := 3, tgt := 0 }));
      let a : Fin 8 := 7; (s.env.part.hasAxes = true) ∧ (s.chip.b (Reg.CEN_AX_CFG a) 31 = true) ∧ ((s.chip.axis a).cmd = 3) ∧
      (s.chip.cen.res = none) ∧ (axState s.chip a ≠ 2)) ∧
    (let s : State := chipWith (fun c => (((c.setB (Reg.CEN_AX_CFG 7) 31 true).setF (Reg.CEN_AX_STAT 7) 28 4 4).setAxis 7 { cmd := 3, tgt := 0 }));
      let a : Fin 8 := 7; (s.env.part.hasAxes = true) ∧ (s.chip.b (Reg.CEN_AX_CFG a) 31 = true) ∧ ((s.chip.axis a).cmd = 3) ∧
      (s.chip.cen.res = none) ∧ (axState s.chip a ≠ 2)) ∧
    (let s : State := chipWith (fun c => (((c.setB (Reg.CEN_AX_CFG 7) 31 true).setF (Reg.CEN_AX_STAT 7) 28 4 2).setAxis 7 { faultDue := 3 }));
      let a : Fin 8 := 7; (s.env.part.hasAxes = true) ∧ (s.chip.b (Reg.CEN_AX_CFG a) 31 = true) ∧ (s.chip.cen.res = none) ∧ ((s.chip.axis
      a).faultDue ≠ 0) ∧ ((s.chip.axis a).faultDue < 16) ∧ (axState s.chip a ≠ 0) ∧ (axState s.chip a ≠ 4)) := by
  decide +kernel

theorem test_hyp_localInputs_1 :
    (let s : State := chipWith (fun c => (c.wr (Reg.CEN_PIN_CFG 3) 0xC0000000).setB Reg.CEN_IN_STAT 11 true); let n : Fin 4 := 3; let a :
      PinLevel := ⟨true, 9⟩; let b : PinLevel := ⟨false, 9⟩; (s.chip.b (Reg.CEN_PIN_CFG n) 31 = true) ∧ (s.chip.f (Reg.CEN_PIN_CFG n) 29 2 =
      2) ∧ (2 ^ s.chip.f (Reg.CEN_PIN_CFG n) 24 3 ≤ a.stood) ∧ (2 ^ s.chip.f (Reg.CEN_PIN_CFG n) 24 3 ≤ b.stood) ∧ ((a.high ≠ (s.chip.pin
      n).a ∧ b.high = (s.chip.pin n).b) ∨ (a.high = (s.chip.pin n).a ∧ b.high ≠ (s.chip.pin n).b))) ∧
    (let s : State := chipWith (fun c => c.wr (Reg.CEN_PIN_CFG 3) 0xC0000000); let n : Fin 4 := 3; let a : PinLevel := ⟨false, 9⟩; let b :
      PinLevel := ⟨true, 9⟩; (s.chip.b (Reg.CEN_PIN_CFG n) 31 = true) ∧ (s.chip.f (Reg.CEN_PIN_CFG n) 29 2 = 2) ∧ (2 ^ s.chip.f
      (Reg.CEN_PIN_CFG n) 24 3 ≤ a.stood) ∧ (2 ^ s.chip.f (Reg.CEN_PIN_CFG n) 24 3 ≤ b.stood) ∧ ((a.high ≠ (s.chip.pin n).a ∧ b.high =
      (s.chip.pin n).b) ∨ (a.high = (s.chip.pin n).a ∧ b.high ≠ (s.chip.pin n).b))) ∧
    (let s : State := chipWith (fun c => c.wr (Reg.CEN_PIN_CFG 0) 0xC0000000); let n : Fin 4 := 0; let a : PinLevel := ⟨true, 9⟩; let b :
      PinLevel := ⟨true, 9⟩; (s.chip.b (Reg.CEN_PIN_CFG n) 31 = true) ∧ (s.chip.f (Reg.CEN_PIN_CFG n) 29 2 = 2) ∧ (2 ^ s.chip.f
      (Reg.CEN_PIN_CFG n) 24 3 ≤ a.stood) ∧ (2 ^ s.chip.f (Reg.CEN_PIN_CFG n) 24 3 ≤ b.stood) ∧ (a.high ≠ (s.chip.pin n).a) ∧ (b.high ≠
      (s.chip.pin n).b)) ∧
    (let s : State := chipWith (fun c => c.wr (Reg.CEN_PIN_CFG 0) 0x80000000); let n : Fin 4 := 0; let a : PinLevel := ⟨true, 1⟩; let b :
      PinLevel := ⟨true, 0⟩; (s.chip.b (Reg.CEN_PIN_CFG n) 31 = true) ∧ (s.chip.f (Reg.CEN_PIN_CFG n) 29 2 ≠ 2) ∧ ((s.chip.pin n).a = false)
      ∧ (a.high = true) ∧ (2 ^ s.chip.f (Reg.CEN_PIN_CFG n) 24 3 ≤ a.stood)) := by
  decide +kernel
theorem test_hyp_localInputs_2 :
    (let s : State := chipWith (fun c => c.setPin 2 { ill := true }); let n : Fin 4 := 2; ((s.chip.pin n).ill = true)) ∧
    (let s : State := State.reset; (s.chip.ctl = true)) ∧
    (let s : State := chipWith (fun c => c.wr (Reg.CEN_PIN_CFG 3) 0xC7000000); let n : Fin 4 := 3; let a : PinLevel := ⟨true, 127⟩; let b :
      PinLevel := ⟨true, 0⟩; (a.stood < 2 ^ s.chip.f (Reg.CEN_PIN_CFG n) 24 3) ∧ (b.stood < 2 ^ s.chip.f (Reg.CEN_PIN_CFG n) 24 3)) := by
  decide +kernel

theorem test_hyp_stageSwitching_1 :
    (let s : State := chipWith (fun c => ((c.wr (Reg.MOV_SLOT_A 5) (word (2 ^ 31 + 8 * 2 ^ 24 + 2 ^ 15 + 3 * 512 + 70))).wr (Reg.MOV_STG 70)
      (word (2 ^ 31 + 5 * 2 ^ 24 + 8 * 2 ^ 20))).setMovSlot 5 { late := true }); let m : Fin 128 := 5; (s.chip.b (Reg.MOV_SLOT_A m) 31 =
      true) ∧ ((s.chip.movSlot m).late = true) ∧ (s.chip.mov.todo = []) ∧ (slotStep s.chip m = 8)) ∧
    (let s : State := chipWith (fun c => ((c.wr (Reg.MOV_SLOT_A 5) (word (2 ^ 31 + 2 * 2 ^ 24 + 2 ^ 15 + 3 * 512 + 70))).wr (Reg.MOV_STG 70)
      (word (2 ^ 31 + 5 * 2 ^ 24 + 2 * 2 ^ 20))).setMovSlot 5 { late := true }); let m : Fin 128 := 5; (s.chip.b (Reg.MOV_SLOT_A m) 31 =
      true) ∧ ((s.chip.movSlot m).late = true) ∧ (s.chip.mov.todo = []) ∧ (slotStep s.chip m = 2)) ∧
    (let s : State := chipWith (fun c => ((c.wr (Reg.MOV_SLOT_A 5) (word (2 ^ 31 + 5 * 2 ^ 24 + 2 ^ 15 + 3 * 512 + 70))).wr (Reg.MOV_STG 70)
      (word (2 ^ 31 + 5 * 2 ^ 24 + 5 * 2 ^ 20))).setMovSlot 5 { late := true }); let m : Fin 128 := 5; (s.chip.b (Reg.MOV_SLOT_A m) 31 =
      true) ∧ ((s.chip.movSlot m).late = true) ∧ (s.chip.mov.todo = []) ∧ (slotStep s.chip m = 5)) ∧
    (let s : State := chipWith (fun c => ((c.wr (Reg.MOV_SLOT_A 5) (word (2 ^ 31 + 6 * 2 ^ 24 + 2 ^ 15 + 3 * 512 + 70))).wr (Reg.MOV_STG 70)
      (word (2 ^ 31 + 5 * 2 ^ 24 + 6 * 2 ^ 20))).setMovSlot 5 { late := true }); let m : Fin 128 := 5; (s.chip.b (Reg.MOV_SLOT_A m) 31 =
      true) ∧ ((s.chip.movSlot m).late = true) ∧ (s.chip.mov.todo = []) ∧ (slotStep s.chip m = 6 ∨ slotStep s.chip m = 7)) := by
  decide +kernel
theorem test_hyp_stageSwitching_2 :
    (let s : State := chipWith (fun c => ((c.wr (Reg.MOV_SLOT_A 5) (word (2 ^ 31 + 7 * 2 ^ 24 + 2 ^ 15 + 3 * 512 + 70))).wr (Reg.MOV_STG 70)
      (word (2 ^ 31 + 5 * 2 ^ 24 + 7 * 2 ^ 20))).setMovSlot 5 { late := true }); let m : Fin 128 := 5; (s.chip.b (Reg.MOV_SLOT_A m) 31 =
      true) ∧ ((s.chip.movSlot m).late = true) ∧ (s.chip.mov.todo = []) ∧ (slotStep s.chip m = 6 ∨ slotStep s.chip m = 7)) ∧
    (let s : State := chipWith (fun c => ((c.wr (Reg.MOV_SLOT_A 5) (word (2 ^ 31 + 4 * 2 ^ 24 + 2 ^ 15 + 3 * 512 + 70))).wr (Reg.MOV_STG 70)
      (word (2 ^ 31 + 5 * 2 ^ 24 + 4 * 2 ^ 20))).setMovSlot 5 { late := true }); let m : Fin 128 := 5; (s.chip.b (Reg.MOV_SLOT_A m) 31 =
      true) ∧ ((s.chip.movSlot m).late = true) ∧ (s.chip.mov.todo = []) ∧ (slotStep s.chip m = 4 ∨ slotStep s.chip m = 9)) ∧
    (let s : State := chipWith (fun c => ((c.wr (Reg.MOV_SLOT_A 5) (word (2 ^ 31 + 9 * 2 ^ 24 + 2 ^ 15 + 3 * 512 + 70))).wr (Reg.MOV_STG 70)
      (word (2 ^ 31 + 5 * 2 ^ 24 + 9 * 2 ^ 20))).setMovSlot 5 { late := true }); let m : Fin 128 := 5; (s.chip.b (Reg.MOV_SLOT_A m) 31 =
      true) ∧ ((s.chip.movSlot m).late = true) ∧ (s.chip.mov.todo = []) ∧ (slotStep s.chip m = 4 ∨ slotStep s.chip m = 9)) ∧
    (let s : State := chipWith (fun c => c.setStgMov 100 { susp := [15] }); let g : Fin 512 := 100; let k : Nat := 15; let l : List Nat :=
      []; ((s.chip.stgMov g).susp = k :: l) ∧ (k < 16) ∧ (s.chip.mov.todo = [])) := by
  decide +kernel
theorem test_hyp_stageSwitching_3 :
    (let s : State := chipWith (fun c => c.setStgMov 511 { deciding := true, decRun := 15 }); let g : Fin 512 := 511; ((s.chip.stgMov
      g).deciding = true) ∧ (movConf s.chip ≤ (s.chip.stgMov g).decRun) ∧ (s.chip.mov.todo = []) ∧ ((s.chip.stgMov g).want = none)) ∧
    (let s : State := chipWith (fun c => c.setStgMov 511 { deciding := true, decRun := 15, want := some 3 }); let g : Fin 512 := 511; let k
      : Nat := 3; ((s.chip.stgMov g).deciding = true) ∧ (movConf s.chip ≤ (s.chip.stgMov g).decRun) ∧ (s.chip.mov.todo = []) ∧
      ((s.chip.stgMov g).want = some k) ∧ (s.chip.stageFenced g = false)) ∧
    (let s : State := chipWith (fun c => (c.fenceBit (alcPage 511) 63 true).setStgMov 511
      { deciding := true, decRun := 15, want := some 3 }); let g : Fin 512 := 511; let k : Nat := 3; ((s.chip.stgMov g).deciding = true) ∧
      (movConf s.chip ≤ (s.chip.stgMov g).decRun) ∧ (s.chip.mov.todo = []) ∧ ((s.chip.stgMov g).want = some k) ∧ (s.chip.stageFenced g =
      true)) ∧
    (let s : State := chipWith (fun c => (c.setStgMov 100 { susp := [15] }).onMov (fun v => { v with todo := [.mark 100, .own 3] }));
      let g : Fin 512 := 100; let l : List MovTask := [.own 3]; ((s.chip.stgMov g).susp ≠ []) ∧ (s.chip.mov.todo = .mark g :: l)) ∧
    (let s : State := chipWith (fun c => (((c.wr (Reg.MOV_SLOT_A 5) (word (2 ^ 31 + 8 * 2 ^ 24 + 2 ^ 15 + 3 * 512 + 70))).wr (Reg.MOV_STG
      70) (word (2 ^ 31 + 5 * 2 ^ 24 + 8 * 2 ^ 20))).setMovSlot 5 { late := true }).onMov (fun v => { v with todo := [.late 5, .slot 6] }));
      let m : Fin 128 := 5; let l : List MovTask := [.slot 6]; (moveLate s.chip m = true) ∧ (s.chip.mov.todo = .late m :: l)) ∧
    (let s : State := chipWith (fun c => c.setStgMov 511 { deciding := true, decRun := 15 }); let g : Fin 512 := 511; (rejoinDue s.chip g =
      true)) := by
  decide +kernel

theorem test_hyp_sagHold :
    (let s : State := chipWith (fun c => ((c.wr Reg.ALC_SAG_NOM 400).wr Reg.ALC_SAG_CFG 0x5A6E0040).onAlc (fun a => { a with seen := true, mag := 100, first := some 100 }));
      let m : Nat := 100; (s.chip.ctl = true) ∧ (s.chip.alc.sag = false) ∧ (s.chip.alc.first = some m)) ∧
    (let s : State := chipWith (fun c => (c.wr Reg.ALC_SAG_CFG 0x5A6E0040).onAlc (fun a => { a with sag := true, inBand := 64 }));
      (s.chip.ctl = true) ∧ (s.chip.alc.sag = true) ∧ (s.chip.f Reg.ALC_SAG_CFG 0 8 ≤ s.chip.alc.inBand)) ∧
    (let s : State := chipWith (fun c => (c.setB (Reg.CEN_SLOT_CTL 1023) 30 true).setCenSlot 1023 { trip := 2, valid := 64 });
      let k : Fin 1024 := 1023; ((s.chip.cenSlot k).trip = 2) ∧ (s.chip.b (Reg.CEN_SLOT_CTL k) 30 = true) ∧ (64 ≤ (s.chip.cenSlot
      k).valid)) ∧
    (let s : State := chipWith (fun c => (c.setB (Reg.CEN_SLOT_CTL 0) 30 true).setCenSlot 0 { trip := 2, valid := 70 });
      let k : Fin 1024 := 0; ((s.chip.cenSlot k).trip = 2) ∧ (s.chip.b (Reg.CEN_SLOT_CTL k) 30 = true) ∧ (64 ≤ (s.chip.cenSlot k).valid)) := by
  decide +kernel

theorem test_hyp_temperatureEvents_1 :
    (let s : State := chipWith (fun c => c.setThmOut 63 { due := 32 }); let o : Fin 64 := 63; let k : Fin 6 := 5; (s.chip.ctl = true) ∧
      ((s.chip.thmOut o).due.testBit k = true)) ∧
    (let s : State := chipWith (fun c => (c.setB (Reg.THM_OCFG 32) 31 true).setOutIn 32 { missRun := 4 }); let o : Fin 64 := 32; (s.chip.ctl
      = true) ∧ (s.chip.outletFenced o = false) ∧ (4 ≤ (s.chip.outIn o).missRun) ∧ (s.chip.b (Reg.THM_OSTAT o) 28 = false)) ∧
    (let s : State := atUp 1599999 (chipWith (fun c => c.setB (Reg.HKP_CH_CFG 31) 31 true)); let ch : Fin 32 := 31; (vddaGood s.chip = true)
      ∧ (s.chip.b (Reg.HKP_CH_CFG ch) 31 = true) ∧ (ch.val ≠ 3) ∧ (ch.val ≠ 8) ∧ (ch.val ≠ 9) ∧ (hkpTurn s.env ch s.chip = true)) ∧
    (let s : State := chipWith (fun c => c.setB (Reg.HKP_CH_CFG 0) 31 true); let ch : Fin 32 := 0; (vddaGood s.chip = true) ∧ (s.chip.b
      (Reg.HKP_CH_CFG ch) 31 = true) ∧ (ch.val ≠ 3) ∧ (ch.val ≠ 8) ∧ (ch.val ≠ 9) ∧ (hkpTurn s.env ch s.chip = true)) := by
  decide +kernel
theorem test_hyp_temperatureEvents_2 :
    (let s : State := atUp 150000 (chipWith (fun c => (c.setB (Reg.HKP_CH_CFG 3) 31 true).setF (Reg.HKP_CH_VAL 2) 0 24 2001)); let v : Int
      := 1350; (vddaGood s.chip = true) ∧ (s.chip.b (Reg.HKP_CH_CFG 3) 31 = true) ∧ (hkpTurn s.env 3 s.chip = true) ∧ (s.chip.hkp.dieSd =
      false) ∧ (hkpBroken s.chip 2 = true) ∧ (1350 ≤ v) ∧ (v ≤ 2000)) ∧
    (let s : State := atUp 50000 State.reset; let ch : Fin 32 := 0; ((s.env.time.up - s.chip.hkp.start) / 50000 % 32 ≠ ch.val ∨
      (s.env.time.up - s.chip.hkp.start) / 50000 < s.chip.hkp.done)) ∧
    (let s : State := chipWith (fun c => { c with hkp := { c.hkp with done := 1 } }); let ch : Fin 32 := 0; ((s.env.time.up -
      s.chip.hkp.start) / 50000 % 32 ≠ ch.val ∨ (s.env.time.up - s.chip.hkp.start) / 50000 < s.chip.hkp.done)) := by
  decide +kernel

theorem test_hyp_portTraining_1 :
    (let s : State := chipWith (fun c => (c.setB (Reg.PRT_PHY_CFG 31) 31 true)); let n : Fin 32 := 31; (prtLive s.env s.chip n = true) ∧
      ((s.chip.phyOf n).due = true ∨ prtState s.chip n = 0)) ∧
    (let s : State := chipWith (fun c => (((c.setB (Reg.PRT_PHY_CFG 3) 31 true).setF (Reg.PRT_PHY_STAT 3) 29 3 3).setPhy 3
      { due := true })); let n : Fin 32 := 3; (prtLive s.env s.chip n = true) ∧ ((s.chip.phyOf n).due = true ∨ prtState s.chip n = 0)) ∧
    (let s : State := atUp 800000 (chipWith (fun c => (((c.setB (Reg.PRT_PHY_CFG 0) 31 true).setF (Reg.PRT_PHY_STAT 0) 29 3 1).setPhy 0
      { retry := true }))); let n : Fin 32 := 0; (prtLive s.env s.chip n = true) ∧ (prtState s.chip n = 1) ∧ ((s.chip.phyOf n).retry = true)
      ∧ (retryDue s.env s.chip n = true)) ∧
    (let s : State := chipWith (fun c => ((c.setB (Reg.PRT_PHY_CFG 5) 31 true).setF (Reg.PRT_PHY_STAT 5) 29 3 3)); let n : Fin 32 := 5;
      let lane : Fin 2 := 1; let blk : LineBlock := ⟨2, 0, scramble 0 0x1355⟩; (prtLive s.env s.chip n = true) ∧ (blk.kind = .train) ∧
      (prtState s.chip n ≠ 2) ∧ (prtUp s.chip n = false ∨ (prtOut s.chip n lane = false ∧ (prtLanes s.chip n).contains lane.val = true))) := by
  decide +kernel
theorem test_hyp_portTraining_2 :
    (let s : State := chipWith (fun c => ((c.setB (Reg.PRT_PHY_CFG 5) 31 true).setF (Reg.PRT_PHY_STAT 5) 29 3 1)); let n : Fin 32 := 5;
      let lane : Fin 2 := 0; let blk : LineBlock := ⟨2, 7, scramble 7 0x55⟩; (prtLive s.env s.chip n = true) ∧ (blk.kind = .train) ∧
      (prtState s.chip n ≠ 2) ∧ (prtUp s.chip n = false ∨ (prtOut s.chip n lane = false ∧ (prtLanes s.chip n).contains lane.val = true))) ∧
    (let s : State := chipWith (fun c => (((c.setB (Reg.PRT_PHY_CFG 5) 31 true).setF (Reg.PRT_PHY_STAT 5) 29 3 2).setPhy 5
      { d1 := { waiting := true, request := 0x1000 } })); let n : Fin 32 := 5; let lane : Fin 2 := 1; let blk : LineBlock := ⟨2, 0, scramble
      0 0x100000000355⟩; (prtLive s.env s.chip n = true) ∧ (prtState s.chip n = 2) ∧ ((prtLanes s.chip n).contains lane.val = true) ∧
      (blk.kind = .train)) ∧
    (let s : State := chipWith (fun c => (((c.setB (Reg.PRT_PHY_CFG 5) 31 true).setF (Reg.PRT_PHY_STAT 5) 29 3 2).setF (Reg.PRT_PHY_TRAIN 5)
      28 4 1)); let n : Fin 32 := 5; (prtLive s.env s.chip n = true) ∧ (prtState s.chip n = 2) ∧ (s.env.time.up < stepLimit (s.chip.phyOf n)
      1) ∧ (s.chip.f (Reg.PRT_PHY_STAT n) 20 2 = 0) ∧ (s.chip.f (Reg.PRT_PHY_TRAIN n) 28 4 = 1)) ∧
    (let s : State := atUp 338 (chipWith (fun c => (((c.setB (Reg.PRT_PHY_CFG 5) 31 true).setF (Reg.PRT_PHY_STAT 5) 29 3 2).setPhy 5
      { d1 := { step := 2 } }))); let n : Fin 32 := 5; let lane : Fin 2 := 1; (prtLive s.env s.chip n = true) ∧ (prtState s.chip n = 2) ∧
      (s.env.time.up < stepLimit (s.chip.phyOf n) 2) ∧ (s.env.time.up < stepLimit (s.chip.phyOf n) 5) ∧ (s.chip.b (Reg.PRT_PHY_STAT n) (17 +
      2 * lane) = false) ∧ (lockHeld s.env ((s.chip.phyOf n).lane lane) = true) ∧ (((s.chip.phyOf n).lane lane).step = 2)) := by
  decide +kernel
theorem test_hyp_portTraining_3 :
    (let s : State := atUp 676 (chipWith (fun c => (((c.setB (Reg.PRT_PHY_CFG 5) 31 true).setF (Reg.PRT_PHY_STAT 5) 29 3 2).setPhy 5
      { d1 := { step := 3, answAt := some 0 } }))); let n : Fin 32 := 5; let lane : Fin 2 := 1; let h : BitVec 8 := 10; let w : BitVec 8 :=
      24; (prtLive s.env s.chip n = true) ∧ (prtState s.chip n = 2) ∧ (s.env.time.up < stepLimit (s.chip.phyOf n) 5) ∧ (eyeSeen s.env
      ((s.chip.phyOf n).lane lane) = true) ∧ (((s.chip.phyOf n).lane lane).step = 3) ∧ (s.chip.f (Reg.PRT_PHY_CFG n) 16 8 ≤ h.toNat) ∧
      (s.chip.f (Reg.PRT_PHY_CFG n) 8 8 ≤ w.toNat)) ∧
    (let s : State := atUp 676 (chipWith (fun c => (((c.setB (Reg.PRT_PHY_CFG 5) 31 true).setF (Reg.PRT_PHY_STAT 5) 29 3 2).setPhy 5
      { d1 := { step := 3, answAt := some 0, reqs := 63 } }))); let n : Fin 32 := 5; let lane : Fin 2 := 1; let h : BitVec 8 := 10;
      let w : BitVec 8 := 23; (prtLive s.env s.chip n = true) ∧ (prtState s.chip n = 2) ∧ (s.env.time.up < stepLimit (s.chip.phyOf n) 5) ∧
      (eyeSeen s.env ((s.chip.phyOf n).lane lane) = true) ∧ (((s.chip.phyOf n).lane lane).step = 3) ∧ (h.toNat < s.chip.f (Reg.PRT_PHY_CFG
      n) 16 8 ∨ w.toNat < s.chip.f (Reg.PRT_PHY_CFG n) 8 8) ∧ (((s.chip.phyOf n).lane lane).reqs < 64)) ∧
    (let s : State := chipWith (fun c => (((c.setB (Reg.PRT_PHY_CFG 5) 31 true).setF (Reg.PRT_PHY_STAT 5) 29 3 2).setF (Reg.PRT_PHY_TRAIN 5)
      28 4 4)); let n : Fin 32 := 5; let w : BitVec 8 := 8; (prtLive s.env s.chip n = true) ∧ (prtState s.chip n = 2) ∧ (s.env.time.up <
      stepLimit (s.chip.phyOf n) 4) ∧ (s.env.time.up < stepLimit (s.chip.phyOf n) 5) ∧ (w.toNat ≤ 8) ∧ (s.chip.f (Reg.PRT_PHY_TRAIN n) 28 4
      = 4) ∧ (phyBusy s.chip n = false)) ∧
    (let s : State := chipWith (fun c => ((((c.setB (Reg.PRT_PHY_CFG 5) 31 true).setF (Reg.PRT_PHY_STAT 5) 29 3 2).setF (Reg.PRT_PHY_TRAIN
      5) 28 4 5).setPhy 5 { d0 := { step := 4, ready := true } })); let n : Fin 32 := 5; let lane : Fin 2 := 0; (prtLive s.env s.chip n =
      true) ∧ (prtState s.chip n = 2) ∧ (s.env.time.up < stepLimit (s.chip.phyOf n) 5) ∧ (s.chip.f (Reg.PRT_PHY_TRAIN n) 28 4 = 5) ∧
      ((phyPassed s.chip n).all (fun k => ((s.chip.phyOf n).lane k).ready) = true)) := by
  decide +kernel
theorem test_hyp_portTraining_4 :
    (let s : State := chipWith (fun c => ((((c.setB (Reg.PRT_PHY_CFG 5) 31 true).setF (Reg.PRT_PHY_STAT 5) 29 3 2).setF (Reg.PRT_PHY_TRAIN
      5) 28 4 5).setPhy 5 { d0 := { step := 4, ready := true }, d1 := { step := 4, ready := true } })); let n : Fin 32 := 5;
      let lane : Fin 2 := 0; (prtLive s.env s.chip n = true) ∧ (prtState s.chip n = 2) ∧ (s.env.time.up < stepLimit (s.chip.phyOf n) 5) ∧
      (s.chip.f (Reg.PRT_PHY_TRAIN n) 28 4 = 5) ∧ ((phyPassed s.chip n).all (fun k => ((s.chip.phyOf n).lane k).ready) = true)) ∧
    (let s : State := atUp 40000 (chipWith (fun c => (((c.setB (Reg.PRT_PHY_CFG 5) 31 true).setF (Reg.PRT_PHY_STAT 5) 29 3 2).setF
      (Reg.PRT_PHY_TRAIN 5) 28 4 1))); let n : Fin 32 := 5; let step : Nat := 1; (prtLive s.env s.chip n = true) ∧ (prtState s.chip n = 2) ∧
      (stepLimit (s.chip.phyOf n) step ≤ s.env.time.up) ∧ (step = 1 ∨ step = 4 ∨ step = 5) ∧ ((step ≠ 5 → s.chip.f (Reg.PRT_PHY_TRAIN n) 28
      4 = step)) ∧ ((step = 4 → phyBusy s.chip n = false))) ∧
    (let s : State := atUp 10000 (chipWith (fun c => (((c.setB (Reg.PRT_PHY_CFG 5) 31 true).setF (Reg.PRT_PHY_STAT 5) 29 3 2).setF
      (Reg.PRT_PHY_TRAIN 5) 28 4 4))); let n : Fin 32 := 5; let step : Nat := 4; (prtLive s.env s.chip n = true) ∧ (prtState s.chip n = 2) ∧
      (stepLimit (s.chip.phyOf n) step ≤ s.env.time.up) ∧ (step = 1 ∨ step = 4 ∨ step = 5) ∧ ((step ≠ 5 → s.chip.f (Reg.PRT_PHY_TRAIN n) 28
      4 = step)) ∧ ((step = 4 → phyBusy s.chip n = false))) ∧
    (let s : State := atUp 400000 (chipWith (fun c => (((c.setB (Reg.PRT_PHY_CFG 5) 31 true).setF (Reg.PRT_PHY_STAT 5) 29 3 2).setF
      (Reg.PRT_PHY_TRAIN 5) 28 4 3))); let n : Fin 32 := 5; let step : Nat := 5; (prtLive s.env s.chip n = true) ∧ (prtState s.chip n = 2) ∧
      (stepLimit (s.chip.phyOf n) step ≤ s.env.time.up) ∧ (step = 1 ∨ step = 4 ∨ step = 5) ∧ ((step ≠ 5 → s.chip.f (Reg.PRT_PHY_TRAIN n) 28
      4 = step)) ∧ ((step = 4 → phyBusy s.chip n = false))) := by
  decide +kernel
theorem test_hyp_portTraining_5 :
    (let s : State := atUp 40000 (chipWith (fun c => (((c.setB (Reg.PRT_PHY_CFG 5) 31 true).setF (Reg.PRT_PHY_STAT 5) 29 3 2).setPhy 5
      { d1 := { step := 2 }, d0 := { step := 2 } }))); let n : Fin 32 := 5; let lane : Fin 2 := 1; let step : Nat := 2; (prtLive s.env
      s.chip n = true) ∧ (prtState s.chip n = 2) ∧ (prtForced s.chip n = none) ∧ ((step = 2 ∧ ((s.chip.phyOf n).lane lane).step = 2 ∧
      stepLimit (s.chip.phyOf n) 2 ≤ s.env.time.up) ∨ (step = 3 ∧ ((s.chip.phyOf n).lane lane).step = 3 ∧ ((s.chip.phyOf n).lane lane).reqs
      = 64 ∧ eyeSeen s.env ((s.chip.phyOf n).lane lane) = true)) ∧ (2 ≤ ((s.chip.phyOf n).lane (1 - lane.val)).step) ∧ (((s.chip.phyOf
      n).lane (1 - lane.val)).step ≤ 4)) ∧
    (let s : State := atUp 676 (chipWith (fun c => (((c.setB (Reg.PRT_PHY_CFG 5) 31 true).setF (Reg.PRT_PHY_STAT 5) 29 3 2).setPhy 5
      { d1 := { step := 4 }, d0 := { step := 3, reqs := 64, answAt := some 0 } }))); let n : Fin 32 := 5; let lane : Fin 2 := 0;
      let step : Nat := 3; (prtLive s.env s.chip n = true) ∧ (prtState s.chip n = 2) ∧ (prtForced s.chip n = none) ∧ ((step = 2 ∧
      ((s.chip.phyOf n).lane lane).step = 2 ∧ stepLimit (s.chip.phyOf n) 2 ≤ s.env.time.up) ∨ (step = 3 ∧ ((s.chip.phyOf n).lane lane).step
      = 3 ∧ ((s.chip.phyOf n).lane lane).reqs = 64 ∧ eyeSeen s.env ((s.chip.phyOf n).lane lane) = true)) ∧ (2 ≤ ((s.chip.phyOf n).lane (1 -
      lane.val)).step) ∧ (((s.chip.phyOf n).lane (1 - lane.val)).step ≤ 4)) ∧
    (let s : State := atUp 39999 State.reset; let n : Fin 32 := 5; let step : Nat := 2; (step ≠ 3) ∧ (s.env.time.up < stepLimit
      (s.chip.phyOf n) step)) := by
  decide +kernel

theorem test_hyp_portLanes_1 :
    (let s : State := chipWith (fun c => ((c.setB (Reg.PRT_PHY_CFG 7) 31 true).setF (Reg.PRT_PHY_STAT 7) 29 3 3)); let n : Fin 34 := 7;
      let m : LineMon := {}; (m.back = false) ∧ (prtLive s.env s.chip n = true) ∧ (prtUp s.chip n = true)) ∧
    (let s : State := chipWith (fun c => ((c.setB (Reg.PRT_PHY_CFG 7) 31 true).setF (Reg.PRT_PHY_STAT 7) 29 3 4)); let n : Fin 34 := 7;
      let m : LineMon := {}; (m.back = false) ∧ (prtLive s.env s.chip n = true) ∧ (prtUp s.chip n = true)) ∧
    (let s : State := chipWith (fun c => ((c.setB (Reg.PRT_PHY_CFG 7) 31 true).setF (Reg.PRT_PHY_STAT 7) 29 3 3)); let n : Fin 34 := 7;
      let m : LineMon := {}; (m.back = false) ∧ (prtLive s.env s.chip n = true) ∧ (prtUp s.chip n = true)) ∧
    (let s : State := chipWith (fun c => ((c.setB (Reg.PRT_PHY_CFG 7) 31 true).setF (Reg.PRT_PHY_STAT 7) 29 3 4)); let n : Fin 34 := 7;
      let m : LineMon := {}; (m.back = false) ∧ (prtLive s.env s.chip n = true) ∧ (prtUp s.chip n = true)) := by
  decide +kernel
theorem test_hyp_portLanes_2 :
    (let s : State := chipWith (fun c => ((c.setB (Reg.PRT_PHY_CFG 7) 31 true).setF (Reg.PRT_PHY_STAT 7) 29 3 3)); let n : Fin 34 := 7;
      let k : Fin 2 := 1; let m : LineMon := {}; (m.back = false) ∧ (prtLive s.env s.chip n = true) ∧ (prtState s.chip n = 3) ∧
      ((s.chip.phyOf n).rejoin.all (fun x => x.1 != s.env.time.up) = true) ∧ (prtOut s.chip n k = false) ∧ ((prtLanes s.chip n).contains
      k.val = true)) ∧
    (let s : State := chipWith (fun c => (((c.setB (Reg.PRT_PHY_CFG 7) 31 true).setF (Reg.PRT_PHY_STAT 7) 29 3 4).setB (Reg.PRT_PHY_STAT 7)
      8 true)); let n : Fin 34 := 7; let k : Fin 2 := 1; let m : LineMon := {}; (m.back = false) ∧ (prtLive s.env s.chip n = true) ∧
      (prtState s.chip n = 4) ∧ (prtOut s.chip n k = false) ∧ ((prtLanes s.chip n).contains k.val = true)) ∧
    (let s : State := chipWith (fun c => (((c.setB (Reg.PRT_PHY_CFG 7) 31 true).setF (Reg.PRT_PHY_STAT 7) 29 3 3).setPhy 7
      { d1 := { badAt := List.replicate 16 0 } })); let n : Fin 34 := 7; let k : Fin 2 := 1; let m : LineMon := {}; (m.back = false) ∧
      (s.chip.b (Reg.PRT_PHY_STAT n) (16 + 2 * k) = false) ∧ (lockGone s.env ((s.chip.phyOf n).lane k) = true) ∧ (prtLive s.env s.chip n =
      true) ∧ (prtState s.chip n = 3) ∧ ((s.chip.phyOf n).rejoin.all (fun x => x.1 != s.env.time.up) = true) ∧ (prtOut s.chip n k = false) ∧
      ((prtLanes s.chip n).contains k.val = true)) ∧
    (let s : State := chipWith (fun c => ((((c.setB (Reg.PRT_PHY_CFG 7) 31 true).setF (Reg.PRT_PHY_STAT 7) 29 3 4).setB (Reg.PRT_PHY_STAT 7)
      8 true).setPhy 7 { d1 := { badAt := List.replicate 16 0 } })); let n : Fin 34 := 7; let k : Fin 2 := 1; let m : LineMon := {}; (m.back
      = false) ∧ (s.chip.b (Reg.PRT_PHY_STAT n) (16 + 2 * k) = false) ∧ (lockGone s.env ((s.chip.phyOf n).lane k) = true) ∧ (prtLive s.env
      s.chip n = true) ∧ (prtState s.chip n = 4) ∧ (prtOut s.chip n k = false) ∧ ((prtLanes s.chip n).contains k.val = true)) := by
  decide +kernel
theorem test_hyp_portLanes_3 :
    (let s : State := chipWith (fun c => ((c.setB (Reg.PRT_PHY_CFG 30) 31 true).setF (Reg.PRT_PHY_STAT 30) 29 3 1)); let n : Fin 34 := 30;
      let b : BadBlock := ⟨30, 0, ⟨3, 0, 0⟩⟩; (b.port = n) ∧ (b.blk.kind = .bad) ∧ (prtLive s.env s.chip n = true)) ∧
    (let s : State := chipWith (fun c => ((c.setB (Reg.PRT_PHY_CFG 30) 31 true).setF (Reg.PRT_PHY_STAT 30) 29 3 1)); let n : Fin 34 := 30;
      let b : BadBlock := ⟨30, 1, ⟨2, 5, scramble 5 0x77⟩⟩; (b.port = n) ∧ (b.blk.kind = .bad) ∧ (prtLive s.env s.chip n = true)) ∧
    (let b : BadBlock := ⟨3, 0, ⟨2, 0, scramble 0 0x1E⟩⟩; (b.blk.kind ≠ .bad)) ∧
    (let s : State := chipWith (fun c => ((c.setB (Reg.PRT_PHY_CFG 7) 31 true).setF (Reg.PRT_PHY_STAT 7) 29 3 3)); let n : Fin 32 := 7;
      let blk : LineBlock := ⟨2, 0, scramble 0 0x266⟩; (prtLive s.env s.chip n = true) ∧ (prtUp s.chip n = true) ∧ (blk.kind = .status) ∧
      (blk.payload.getLsbD 10 = false)) := by
  decide +kernel
theorem test_hyp_portLanes_4 :
    (let s : State := chipWith (fun c => ((c.setB (Reg.PRT_PHY_CFG 7) 31 true).setF (Reg.PRT_PHY_STAT 7) 29 3 3)); let n : Fin 32 := 7;
      let blk : LineBlock := ⟨2, 0, scramble 0 0x466⟩; (prtLive s.env s.chip n = true) ∧ (blk.kind = .status) ∧ (blk.payload.getLsbD 10 =
      true)) ∧
    (let s : State := chipWith (fun c => ((c.setB (Reg.PRT_PHY_CFG 7) 31 true).setF (Reg.PRT_PHY_STAT 7) 29 3 1)); let n : Fin 32 := 7;
      let blk : LineBlock := ⟨2, 0, scramble 0 0x466⟩; (prtLive s.env s.chip n = true) ∧ (blk.kind = .status) ∧ (blk.payload.getLsbD 10 =
      true)) ∧
    (let s : State := atUp 346031 (chipWith (fun c => (((c.setB (Reg.PRT_PHY_CFG 7) 31 true).setF (Reg.PRT_PHY_STAT 7) 29 3 4).setB
      (Reg.PRT_PHY_STAT 7) 9 true))); let n : Fin 34 := 7; let x : LaneEye := ⟨1, 10, 24⟩; let k : Nat := 1; (x.lane.val = k) ∧
      (laneRejoinDue s.env s.chip n x = true) ∧ (((s.chip.phyOf n).lane (1 - k)).exAt ≠ some s.env.time.up) ∧ (prtLive s.env s.chip n =
      true) ∧ (prtState s.chip n = 4) ∧ (prtOut s.chip n k = true) ∧ (s.chip.b (Reg.PRT_PHY_CFG n) 30 = true) ∧ (prtForced s.chip n = none)
      ∧ (((s.chip.phyOf n).lane k).flap = false)) ∧
    (let s : State := atUp 346030 State.reset; let n : Fin 34 := 4; let x : LaneEye := ⟨0, 10, 24⟩; (n.val < 32) ∧ (laneRejoinDue s.env
      s.chip n x = false)) := by
  decide +kernel
theorem test_hyp_portLanes_5 :
    (let s : State := atUp 2000 (chipWith (fun c => (((c.setB (Reg.PRT_PHY_CFG 7) 31 true).setF (Reg.PRT_PHY_STAT 7) 29 3 3).setB
      (Reg.PRT_PHY_STAT 7) 17 true))); let n : Fin 34 := 7; let k : Fin 2 := 0; let m : LineMon := { back := true }; (prtLive s.env s.chip n
      = true) ∧ (m.back = true) ∧ (s.chip.b (Reg.PRT_PHY_STAT n) (17 + 2 * k) = true) ∧ (tget (fun _ => 0) (s.chip.phyOf n).monAt (17 + 2 *
      k) + 2000 ≤ s.env.time.up)) := by
  decide +kernel

theorem test_hyp_upwardTransport_1 :
    (let s : State := chipWith (fun c => ((c.setF (Reg.PRT_PHY_STAT 6) 29 3 3).wr (Reg.PRT_MAP 6) 0x20000002).setB Reg.PRT_LOST 6 true);
      let n : Fin 32 := 6; let b : UpBundle := upWire (0x2800000000000) (BitVec.ofNat 64 ((blocksCrc [(0x72100 : BitVec 64),
      (0x9000000000005 : BitVec 64)]).toNat * 2 ^ 32)) [0x72100, 0x9000000000005]; let recs : List TpWords := []; (s.chip.ctl = true) ∧
      (n.val < s.env.part.ports) ∧ (prtUp s.chip n = true) ∧ (s.chip.portFenced n = false) ∧ (bundleClean s.chip n b = true) ∧ (b.whole =
      true) ∧ (b.blocks.length = dget b.start 48 16) ∧ (2 ≤ b.blocks.length) ∧ (b.start.getLsbD 47 = true) ∧ (dget b.term 32 32 = (blocksCrc
      b.blocks).toNat) ∧ (dget (b.blocks.getD 0 0) 32 32 = s.env.time.frameNo.toNat % 2 ^ 32) ∧ (s.env.time.frameNo.toNat % 2 ^ 32 ≠
      0xFFFFFFFF) ∧ (bundleLate s.chip b = false) ∧ ((s.chip.tpOf n).done = false) ∧ (mapClass s.chip n ≠ 0) ∧ (dget (b.blocks.getD 0 0) 13
      3 = mapClass s.chip n) ∧ (tpRecords b.blocks.length (b.blocks.drop 2) = some recs)) ∧
    (let s : State := chipWith (fun c => ((c.setF (Reg.PRT_PHY_STAT 6) 29 3 3).wr (Reg.PRT_MAP 6) 0x20000002).setB Reg.PRT_LOST 6 true);
      let n : Fin 32 := 6; let b : UpBundle := upWire (0x2800000000000) (BitVec.ofNat 64 ((blocksCrc [(0x72100 : BitVec 64),
      (0x9000000000005 : BitVec 64)]).toNat * 2 ^ 32)) [0x72100, 0x9000000000005]; (s.chip.ctl = true) ∧ (n.val < s.env.part.ports) ∧ (prtUp
      s.chip n = true) ∧ (s.chip.portFenced n = false) ∧ (bundleClean s.chip n b = true) ∧ (b.whole = true) ∧ (b.blocks.length = dget
      b.start 48 16) ∧ (2 ≤ b.blocks.length) ∧ (b.start.getLsbD 47 = true) ∧ (dget b.term 32 32 = (blocksCrc b.blocks).toNat) ∧
      (b.blocks.length = 2)) ∧
    (let s : State := chipWith (fun c => ((c.setF (Reg.PRT_PHY_STAT 6) 29 3 3).wr (Reg.PRT_MAP 6) 0x20000002).setB Reg.PRT_LOST 6 true);
      let n : Fin 32 := 6; let b : UpBundle := upWire (0x2800000000000) (BitVec.ofNat 64 ((blocksCrc [(0x72100 : BitVec 64),
      (0x9000000000005 : BitVec 64)]).toNat * 2 ^ 32 + 2 ^ 40)) [0x72100, 0x9000000000005]; (s.chip.ctl = true) ∧ (n.val < s.env.part.ports)
      ∧ (prtUp s.chip n = true) ∧ (s.chip.portFenced n = false) ∧ (bundleClean s.chip n b = true) ∧ (b.whole = true) ∧ (b.blocks.length =
      dget b.start 48 16) ∧ (2 ≤ b.blocks.length) ∧ (b.start.getLsbD 47 = true) ∧ (dget b.term 32 32 ≠ (blocksCrc b.blocks).toNat) ∧
      (bundleLate s.chip b = false)) ∧
    (let s : State := chipWith (fun c => ((c.setF (Reg.PRT_PHY_STAT 6) 29 3 3).wr (Reg.PRT_MAP 6) 0x20000002).setB Reg.PRT_LOST 6 true);
      let n : Fin 32 := 6; let b : UpBundle := upWire (0x2800000000000) (BitVec.ofNat 64 ((blocksCrc [(0x4d00072100 : BitVec 64),
      (0x9000000000005 : BitVec 64)]).toNat * 2 ^ 32)) [0x4d00072100, 0x9000000000005]; (s.chip.ctl = true) ∧ (n.val < s.env.part.ports) ∧
      (prtUp s.chip n = true) ∧ (s.chip.portFenced n = false) ∧ (bundleClean s.chip n b = true) ∧ (b.whole = true) ∧ (b.blocks.length = dget
      b.start 48 16) ∧ (2 ≤ b.blocks.length) ∧ (b.start.getLsbD 47 = true) ∧ (dget b.term 32 32 = (blocksCrc b.blocks).toNat) ∧ (dget
      (b.blocks.getD 0 0) 32 32 ≠ s.env.time.frameNo.toNat % 2 ^ 32) ∧ (dget (b.blocks.getD 0 0) 32 32 ≠ 0xFFFFFFFF) ∧ (bundleLate s.chip b
      = false)) := by
  decide +kernel
theorem test_hyp_upwardTransport_2 :
    (let s : State := chipWith (fun c => (c.wr (Reg.PRT_MAP 6) 0x20000002).setF (Reg.PRT_TP_STAT 6) 8 8 4); let n : Fin 32 := 6; (s.chip.ctl
      = true) ∧ (mapClass s.chip n ≠ 0) ∧ (4 ≤ missRun s.chip n) ∧ (s.chip.b Reg.PRT_LOST n = false)) ∧
    (let s : State := chipWith (fun c => (((c.wr (Reg.PRT_MAP 6) 0x20000002).setF (Reg.PRT_TP_STAT 6) 8 8 15).wr (Reg.ALC_STG_IN 0)
      0x80000010).wr (Reg.ALC_STG_IN 1) 0xC0000010); let n : Fin 32 := 6; let i : Nat := 1; (s.chip.ctl = true) ∧ (mapClass s.chip n = 1) ∧
      (s.chip.f Reg.PRT_TP_GCFG 28 4 ≤ missRun s.chip n) ∧ (i < mapCount s.chip n)) ∧
    (let s : State := let s := chipWith (fun c => c.setTp 6 { tx := [{ times := 1 }, {}] });
      { s with env := { s.env with time := { s.env.time with frameNo := 20 } } }; let n : Fin 32 := 6; let r : TpRec := { times := 1 };
      (s.chip.ctl = true) ∧ (tunStale s.env s.chip n = some r) ∧ (r.times ≤ s.chip.f Reg.PRT_TP_GCFG 12 4)) ∧
    (let s : State := let s := chipWith (fun c => c.setTp 6 { tx := [{ times := 17 }, {}] });
      { s with env := { s.env with time := { s.env.time with frameNo := 20 } } }; let n : Fin 32 := 6; let r : TpRec := { times := 17 };
      (s.chip.ctl = true) ∧ (tunStale s.env s.chip n = some r) ∧ (s.chip.f Reg.PRT_TP_GCFG 12 4 < r.times)) := by
  decide +kernel

theorem test_hyp_sessionCommands_latched :
    (let c := (((State.reset.chip.setF (Reg.SES_STATE 9) 28 4 1).setSes 9 { cmd := 1 })); sesRefused c 9 (c.sesOf 9).cmd = false ∧ (c.sesOf 9).cmd = 1 ∧ sesState c 9 = 1) ∧
    (let c := (((State.reset.chip.setF (Reg.SES_STATE 9) 28 4 4).setSes 9 { cmd := 4 })); sesRefused c 9 (c.sesOf 9).cmd = true) := by
  decide +kernel

theorem test_hyp_sessionCommands_1 :
    (let s : State := State.reset; let p : Plane := .data; let o : Fin 64 := 63; (s.chip.svc = true) ∧ (s.takes p (Reg.SES_CMD o) 1 =
      some 1)) ∧
    (let s : State := State.reset; let p : Plane := .data; let o : Fin 64 := 63; (s.chip.svc = true) ∧ (s.takes p (Reg.SES_CMD o) 2 =
      some 2)) ∧
    (let s : State := State.reset; let p : Plane := .data; let o : Fin 64 := 63; (s.chip.svc = true) ∧ (s.takes p (Reg.SES_CMD o) 3 =
      some 3)) ∧
    (let s : State := State.reset; let p : Plane := .data; let o : Fin 64 := 63; (s.chip.svc = true) ∧ (s.takes p (Reg.SES_CMD o) 4 =
      some 4)) := by
  decide +kernel
theorem test_hyp_sessionCommands_2 :
    (let s : State := State.reset; let p : Plane := .data; let o : Fin 64 := 63; (s.chip.svc = true) ∧ (s.takes p (Reg.SES_CMD o) 5 =
      some 5)) ∧
    (let s : State := State.reset; let p : Plane := .data; let o : Fin 64 := 63; (s.chip.svc = true) ∧ (s.takes p (Reg.SES_CMD o) 6 =
      some 6)) ∧
    (let s : State := State.reset; let p : Plane := .data; let o : Fin 64 := 0; let v : Word := 0x80000005; (s.chip.svc = true) ∧
      (s.takes p (Reg.SES_CREDIT_SET o) v = some v) ∧ (s.reaches (Reg.SES_CREDIT_SET o) = true)) ∧
    (let s : State := chipWith (fun c => c.wr (Reg.SES_CREDIT 40) 0xFFFFFFFF); let p : Plane := .data; let o : Fin 64 := 40;
      let v : Word := 0xC0000005; (s.chip.svc = true) ∧ (s.takes p (Reg.SES_CREDIT_SET o) v = some v) ∧ (s.reaches (Reg.SES_CREDIT_SET o)
      = true)) := by
  decide +kernel
theorem test_hyp_sessionCommands_3 :
    (let s : State := chipWith (fun c => c.setF (Reg.SES_TUN 5) 26 6 3); let p : Plane := .data; let o : Fin 64 := 5;
      let v : Word := 0x0E000000; (s.chip.svc = true) ∧ (s.takes p (Reg.SES_TUN_SW o) v = some v) ∧ ((fget v 26 6 + 64 - s.chip.f
      (Reg.SES_TUN_SW o) 26 6) % 64 ≤ (s.chip.f (Reg.SES_TUN o) 26 6 + 64 - s.chip.f (Reg.SES_TUN_SW o) 26 6) % 64) ∧ ((fget v 20 6 + 64 -
      s.chip.f (Reg.SES_TUN_SW o) 20 6) % 64 + (s.chip.f (Reg.SES_TUN_SW o) 20 6 + 64 - s.chip.f (Reg.SES_TUN o) 20 6) % 64 ≤ 32)) := by
  decide +kernel

theorem test_hyp_sessionEvents_1 :
    (let s : State := chipWith (fun c => ((c.wr (Reg.PRT_MAP 6) 0x40000004).setF (Reg.SES_STATE 3) 28 4 5).setSes 3 { dis := 70000 });
      let o : Fin 64 := 3; (s.chip.svc = true) ∧ (s.chip.ctl = true) ∧ ((outletPort s.env.part s.chip o).isSome = true) ∧ (sesDisagrees
      s.chip o = true) ∧ (sesState s.chip o ≠ 8)) ∧
    (let s : State := chipWith (fun c => (c.wr (Reg.SES_STATE 60) 0x6000FFFF).setSes 60 { iso := true }); let o : Fin 64 := 60; (s.chip.svc
      = true) ∧ (sesState s.chip o = 6) ∧ ((s.chip.sesOf o).iso = true) ∧ (s.chip.f (Reg.SES_SCFG (o / 32)) 24 8 ≤ s.chip.f (Reg.SES_STATE
      o) 0 16)) ∧
    (let s : State := chipWith (fun c => c.wr (Reg.SES_TIMER 0) 0xC0000000); let o : Fin 64 := 0; (s.chip.svc = true) ∧ (s.chip.b
      (Reg.SES_TIMER o) 31 = true) ∧ (s.chip.f (Reg.SES_TIMER o) 0 24 = 0)) ∧
    (let s : State := State.reset; (s.chip.svc = true)) := by
  decide +kernel
theorem test_hyp_sessionEvents_2 :
    (let s : State := chipWith (fun c => { c with cry := { rings := [(2, [{ fills := some 7 }, {}])] } }); let k : Fin 4 := 2;
      let j : CryJob := { fills := some 7 }; let l : List CryJob := [{}]; (s.chip.svc = true)) ∧
    (let s : State := chipWith (fun c => { c with cry := { rings := [(2, [{ fills := some 7 }, {}])] } }); let k : Fin 4 := 2;
      let j : CryJob := { fills := some 7 }; let l : List CryJob := [{}]; (s.chip.svc = true) ∧ (s.chip.cry.ring k = j :: l)) := by
  decide +kernel

/-- A stream block of one sample of 2 V and 3 A for the frame 0 with SEQ 9, its check word right or not (R424). -/
def oneSample (good : Bool) : List Byte :=
  let le (n : Nat) : List Byte := (List.range 4).map (fun k => BitVec.ofNat 8 (n / 256 ^ k))
  le (2 ^ 24 + 1) ++ le 9 ++ le 0 ++ le 0 ++ le (3000 * 65536) ++ le (2000 * 256) ++ List.replicate 248 0 ++
    le (if good then 2104433787 else 7) ++ le 0 ++ List.replicate 16 0
/-- The CRC-32 with its value settled byte by byte, as the kernel evaluates it best. -/
def crcIn : List Byte → Word → Word
  | [], c => c
  | b :: t, c => if crcRByte 0xEDB88320 c b = 0 then crcIn t 0 else crcIn t (crcRByte 0xEDB88320 c b)
theorem crcIn_eq (l : List Byte) (c : Word) : crcIn l c = l.foldl (crcRByte 0xEDB88320) c := by
  induction l generalizing c with
  | nil => rfl
  | cons b t ih =>
    simp only [crcIn, List.foldl_cons, ih]
    split
    · rename_i h; rw [h]
    · rfl
theorem crc32_settled (l : List Byte) : crc32 l = ~~~ crcIn l 0xFFFFFFFF := by rw [crcIn_eq]; rfl

theorem test_hyp_metrologySampling_1 :
    (let s : State := metWith (fun m => ((eachBelow 8 (fun j m => ((m.wr (Reg.MET_CCFG j) 0x80000000).wr (Reg.MET_CGAIN j) 0x1000000).wr
      (Reg.MET_CRATIO j) 1000) m)).onSt (fun t => { t with on := true })); (s.env.part.hasMet = true) ∧ (metCounts s.met = true) ∧
      (s.met.st.epochDue = false) ∧ (s.met.st.settleDue = false)) ∧
    (let s : State := metWith (fun m => (m).onSt (fun t => { t with on := true, eng := { t.eng with zc := { since := 800 } } })); (metCounts
      s.met = true) ∧ (s.met.b Reg.MET_STAT 30 = false) ∧ ((if s.met.b Reg.MET_CFG 31 then 667 else 800) ≤ s.met.st.eng.zc.since)) ∧
    (let s : State := metWith (fun m => (((m.wr (Reg.MET_MCFG 5) 0x80000000).wr (Reg.MET_GAIN_V 5) 0x1000000).wr (Reg.MET_GAIN_I 5)
      0x1000000).onSt (fun t => { t with on := true, keyed := [5], inbox := [(4, []), (5, oneSample false)] })); let o : Fin 64 := 5;
      let b : List Byte := oneSample false; let q : List (Nat × List Byte) := [(4, [])]; (inboxTake o s.met.st.inbox = (some b, q)) ∧
      (metCounts s.met = true) ∧ (s.met.st.epochDue = false) ∧ (s.met.st.settleDue = false) ∧ (blkForm b = true) ∧ ((crc32 (b.take
      0x110)).toNat ≠ blkWord b 0x110)) ∧
    (let s : State := metWith (fun m => (((m.wr (Reg.MET_MCFG 5) 0x80000000).wr (Reg.MET_GAIN_V 5) 0x1000000).wr (Reg.MET_GAIN_I 5)
      0x1000000).onSt (fun t => { t with on := true, keyed := [5], inbox := [(4, []), (5, oneSample true)] })); let o : Fin 64 := 5;
      let b : List Byte := oneSample true; let q : List (Nat × List Byte) := [(4, [])]; (inboxTake o s.met.st.inbox = (some b, q)) ∧
      (metCounts s.met = true) ∧ (s.met.st.epochDue = false) ∧ (s.met.st.settleDue = false) ∧ (blkForm b = true) ∧ ((crc32 (b.take
      0x110)).toNat = blkWord b 0x110) ∧ (blkWord b 0 / 65536 % 256 = s.met.f (Reg.MET_MCFG o) 16 8) ∧ (s.met.st.keyed.contains o = true) ∧
      (blkWord b 8 = s.env.time.frameNo.toNat % 2 ^ 32) ∧ (s.met.b (Reg.MET_MCFG o) 31 = true) ∧ (metFenced s.met o = false) ∧ ((s.met.acc
      o).fresh = true)) := by
  simp only [crc32_settled]
  decide +kernel
theorem test_hyp_metrologySampling_2 :
    (let s : State := metWith (fun m => (((m.wr (Reg.MET_MCFG 5) 0x80000000).wr (Reg.MET_GAIN_V 5) 0x1000000).wr (Reg.MET_GAIN_I 5)
      0x1000000).onSt (fun t => { t with on := true, keyed := [5], inbox := [(4, []), (5, oneSample true)] })); let o : Fin 64 := 5;
      let b : List Byte := oneSample true; let q : List (Nat × List Byte) := [(4, [])]; (inboxTake o s.met.st.inbox = (some b, q)) ∧
      (metCounts s.met = true) ∧ (s.met.st.epochDue = false) ∧ (s.met.st.settleDue = false) ∧ (blkForm b = true) ∧ ((crc32 (b.take
      0x110)).toNat = blkWord b 0x110) ∧ (blkWord b 0 / 65536 % 256 = s.met.f (Reg.MET_MCFG o) 16 8) ∧ (s.met.st.keyed.contains o = true) ∧
      (blkWord b 8 = s.env.time.frameNo.toNat % 2 ^ 32) ∧ (s.met.b (Reg.MET_MCFG o) 31 = true) ∧ (metFenced s.met o = false) ∧ ((s.met.acc
      o).fresh = true) ∧ (blkCount b = 1) ∧ (s.met.st.eng.closed = none) ∧ (s.met.st.eng.first ≤ s.env.time.frameNo.toNat)) ∧
    (let s : State := metWith (fun m => (m.setAcc 63 { diff := 801 }).onSt (fun t => { t with on := true })); let o : Fin 64 := 63;
      (s.met.st.on = true) ∧ (800 ≤ (s.met.acc o).diff) ∧ ((s.met.acc o).taken = false)) := by
  simp only [crc32_settled]
  decide +kernel

theorem test_hyp_legalTimeAndRecords_1 :
    (let s : State := metWith (fun m => (m).onSt (fun t => { t with on := true, epochDue := true })); (metCounts s.met = true) ∧
      (s.met.st.epochDue = true)) ∧
    (let s : State := metWith (fun m => (m.setAcc 64 { sum := 700000000000 }).onSt (fun t =>
      { t with on := true, settleDue := true, eng := { t.eng with closed := some { len := 4000000 } } })); let z : MetClosed :=
      { len := 4000000 }; (metCounts s.met = true) ∧ (s.met.st.settleDue = true) ∧ (s.met.st.eng.closed = some z)) ∧
    (let s : State := metWith (fun m => (m).onSt (fun t => { t with on := true, ckDue := some { seq := 4 } })); let g : MetImage :=
      { seq := 4 }; (s.met.st.ckDue = some g)) ∧
    (let s : State := metWith (fun m => (m.setB Reg.TRF_TIME_STAT 30 true).onSt (fun t =>
      { t with on := true, time := { t.time with lc := 9000, utc := 5000, slew := some (-4, 3000) } })); let d : Int := -4; let f : Nat :=
      3000; (s.met.st.time.slew = some (d, f)) ∧ (d.natAbs * 1000 ≤ metLc s.env s.met - f)) := by
  decide +kernel
theorem test_hyp_legalTimeAndRecords_2 :
    (let s : State := metWith (fun m => (m).onSt (fun t => { t with on := true, unsigned := [(3, List.replicate 128 6), (4, [1, 4])] }));
      let no : Nat := 3; let w : List Word := List.replicate 128 6; let q : List (Nat × List Word) := [(4, [1, 4])]; (s.met.st.unsigned =
      (no, w) :: q) ∧ (96 ≤ w.length) ∧ (s.met.st.on = true) ∧ (s.chip.rgn .metrology = 0)) ∧
    (let s : State := metWith (fun m => (m).onSt (fun t => { t with on := true, perPend := [[5, 0]] })); let w : List Word := [5, 0];
      (s.met.st.perPend = [w]) ∧ (0 < recFree s.met) ∧ (s.met.st.on = true) ∧ (s.chip.rgn .metrology = 0)) ∧
    (let s : State := State.reset; (s.env.part.hasMet = true)) ∧
    (let s : State := { State.reset with env := { State.reset.env with part := { State.reset.env.part with variant := .v5120N } } };
      (s.env.part.hasMet = false)) := by
  decide +kernel

theorem test_hyp_metrologySupply_1 :
    (let s : State := metWith (fun m => (m).onSt (fun t => { t with on := true })); (metCounts s.met = true)) ∧
    (let s : State := metWith (fun m => (m).onSt (fun t => { t with on := true, epochDue := true })); (metCounts s.met = true)) ∧
    (let s : State := metWith (fun m => (m).onSt (fun t => { t with on := true, saving := some { seq := 8 } }));
      let g : MetImage := { seq := 8 }; (s.met.st.saving = some g)) ∧
    (let s : State := metWith (fun m => (m.setB Reg.MET_STAT 27 true).onSt (fun t => { t with on := true })); (s.met.st.on = true) ∧
      (s.met.b Reg.MET_STAT 27 = true) ∧ (s.met.st.offAt = none)) := by
  decide +kernel
theorem test_hyp_metrologySupply_2 :
    (let s : State := let s := metWith (fun m => (m.setB Reg.MET_STAT 27 true).onSt (fun t => { t with on := true, offAt := some 5 })); { s with env := { s.env with time := { s.env.time with up := 2000005 } } };
      let n : Nat := 5; (s.met.st.on = true) ∧ (s.met.b Reg.MET_STAT 27 = true) ∧ (s.met.st.saving = none) ∧ (s.met.st.offAt = some n) ∧
      (n + 2000000 ≤ s.env.time.up)) ∧
    (let s : State := State.reset; (s.env.part.hasMet = true) ∧ (s.met.st.on = false) ∧ (s.chip.pwr.rails.testBit 3 = false)) ∧
    (let s : State := metWith (fun m => m.onSt (fun t => { t with images := [(1, { seq := 3 })] })); (s.env.part.hasMet = true) ∧
      (s.met.st.on = false) ∧ (s.chip.pwr.rails.testBit 3 = false)) ∧
    (let s : State := metWith (fun m => (m).onSt (fun t => { t with on := true, inbox := [(0, [1])] })); (s.env.part.hasMet = true) ∧
      (s.met.st.bakFrom = none)) := by
  decide +kernel
theorem test_hyp_metrologySupply_3 :
    (let s : State := metWith (fun m => (m.wr Reg.MET_BAK_CFG 0x80000005).onSt (fun t => { t with bakFrom := some 7 }));
      let n : Nat := 7; (s.met.st.bakFrom = some n) ∧ (s.met.st.lost = false)) ∧
    (let s : State := metWith (fun m => m.onSt (fun t => { t with bakFrom := some 7 })); let n : Nat := 7; (s.met.st.bakFrom = some n)) ∧
    (let s : State := metWith (fun m => m.onSt (fun t => { t with bakFrom := some 7 })); let n : Nat := 7; (s.met.st.bakFrom = some n)) ∧
    (let s : State := metWith (fun m => (m).onSt (fun t => { t with on := true })); let b : Bool := true; (s.env.part.hasMet = true) ∧
      (s.met.b Reg.MET_SEAL 31 ≠ b)) := by
  decide +kernel
theorem test_hyp_metrologySupply_4 :
    (let s : State := metWith (fun m => (m.setB Reg.MET_SEAL 31 true).onSt (fun t => { t with on := true })); let b : Bool := false;
      (s.env.part.hasMet = true) ∧ (s.met.b Reg.MET_SEAL 31 ≠ b)) := by
  decide +kernel

theorem test_hyp_sealedRequests_1 :
    (let s : State :=
      { metWith (fun m => (m.setB Reg.MET_SEAL 31 true).onSt (fun t => { t with on := true })) with chip := (State.reset.chip.wr Reg.CHIP_SEAL_ADDR (word Reg.MET_BAK_CFG)).wr (Reg.CHIP_SEAL_DATA 0) 0x80000005 };
      let p : Plane := .management; let n : Fin 16 := 0; let tag : BitVec 16 := 0x1234; (s.takes p Reg.CHIP_SEAL_CMD (word (1 * 2 ^ 28 +
      n.val * 2 ^ 24 + tag.toNat)) = some (word (1 * 2 ^ 28 + n.val * 2 ^ 24 + tag.toNat))) ∧ (s.env.part.hasMet = true) ∧ (s.chip.b
      Reg.CHIP_SEAL_STAT 31 = false) ∧ (s.chip.rgn .metrology = 0) ∧ (s.met.st.on = true) ∧ (sealWriteCode s (sealWords s n) = 0)) ∧
    (let s : State :=
      { metWith (fun m => (m).onSt (fun t => { t with on := true })) with chip := (State.reset.chip.wr Reg.CHIP_SEAL_ADDR (word Reg.MET_BAK_CFG)).wr (Reg.CHIP_SEAL_DATA 0) 0x80000005 };
      let p : Plane := .management; let n : Fin 16 := 0; let tag : BitVec 16 := 0x1234; (s.takes p Reg.CHIP_SEAL_CMD (word (1 * 2 ^ 28 +
      n.val * 2 ^ 24 + tag.toNat)) = some (word (1 * 2 ^ 28 + n.val * 2 ^ 24 + tag.toNat))) ∧ (s.env.part.hasMet = true) ∧ (s.chip.b
      Reg.CHIP_SEAL_STAT 31 = false) ∧ (s.chip.rgn .metrology = 0) ∧ (s.met.st.on = true) ∧ (sealWriteCode s (sealWords s n) ≠ 0)) ∧
    (let s : State :=
      { metWith (fun m => (m).onSt (fun t => { t with on := true })) with chip := State.reset.chip.wr (Reg.CHIP_SEAL_DATA 0) 1700000000 };
      let p : Plane := .management; let tag : BitVec 16 := 7; (s.takes p Reg.CHIP_SEAL_CMD (word (2 * 2 ^ 28 + 0 * 2 ^ 24 + tag.toNat)) =
      some (word (2 * 2 ^ 28 + 0 * 2 ^ 24 + tag.toNat))) ∧ (s.env.part.hasMet = true) ∧ (s.chip.b Reg.CHIP_SEAL_STAT 31 = false) ∧
      (s.chip.rgn .metrology = 0) ∧ (s.met.st.on = true) ∧ (dataClear 2 (fun k => s.chip.rd (Reg.CHIP_SEAL_DATA k)) = true)) ∧
    (let s : State := { metWith (fun m => (m).onSt (fun t => { t with on := true })) with chip := State.reset.chip }; let p : Plane :=
      .management; let tag : BitVec 16 := 9; (s.takes p Reg.CHIP_SEAL_CMD (word (3 * 2 ^ 28 + 0 * 2 ^ 24 + tag.toNat)) = some (word (3 * 2 ^
      28 + 0 * 2 ^ 24 + tag.toNat))) ∧ (s.env.part.hasMet = true) ∧ (s.chip.b Reg.CHIP_SEAL_STAT 31 = false) ∧ (s.chip.rgn .metrology = 0) ∧
      (s.met.st.on = true) ∧ (dataClear 3 (fun k => s.chip.rd (Reg.CHIP_SEAL_DATA k)) = true)) := by
  decide +kernel
theorem test_hyp_sealedRequests_2 :
    (let s : State :=
      { metWith (fun m => (m).onSt (fun t => { t with on := true })) with chip := State.reset.chip.wr (Reg.CHIP_SEAL_DATA 15) 1 };
      let p : Plane := .management; let tag : BitVec 16 := 9; (s.takes p Reg.CHIP_SEAL_CMD (word (3 * 2 ^ 28 + 0 * 2 ^ 24 + tag.toNat)) =
      some (word (3 * 2 ^ 28 + 0 * 2 ^ 24 + tag.toNat))) ∧ (s.env.part.hasMet = true) ∧ (s.chip.b Reg.CHIP_SEAL_STAT 31 = false) ∧
      (s.chip.rgn .metrology = 0) ∧ (s.met.st.on = true) ∧ (dataClear 3 (fun k => s.chip.rd (Reg.CHIP_SEAL_DATA k)) = false)) ∧
    (let s : State :=
      { metWith (fun m => (m.wr (Reg.MET_MCFG 5) 0x80000000).onSt (fun t => { t with on := true })) with chip := State.reset.chip.wr (Reg.CHIP_SEAL_DATA 0) 5 };
      let p : Plane := .management; let tag : BitVec 16 := 1; (s.takes p Reg.CHIP_SEAL_CMD (word (4 * 2 ^ 28 + 0 * 2 ^ 24 + tag.toNat)) =
      some (word (4 * 2 ^ 28 + 0 * 2 ^ 24 + tag.toNat))) ∧ (s.env.part.hasMet = true) ∧ (s.chip.b Reg.CHIP_SEAL_STAT 31 = false) ∧
      (s.chip.rgn .metrology = 0) ∧ (s.met.st.on = true) ∧ (dataClear 4 (fun k => s.chip.rd (Reg.CHIP_SEAL_DATA k)) = true) ∧ (beginCode
      s.env.part s.met (s.chip.rd (Reg.CHIP_SEAL_DATA 0)) = 0)) ∧
    (let s : State :=
      { metWith (fun m => (m.wr (Reg.MET_MCFG 5) 0x80000000).onSt (fun t => { t with on := true, eng := { t.eng with sess := [(5, { phase := 3 })] } })) with chip := State.reset.chip.wr (Reg.CHIP_SEAL_DATA 0) 5 };
      let p : Plane := .management; let tag : BitVec 16 := 1; (s.takes p Reg.CHIP_SEAL_CMD (word (5 * 2 ^ 28 + 0 * 2 ^ 24 + tag.toNat)) =
      some (word (5 * 2 ^ 28 + 0 * 2 ^ 24 + tag.toNat))) ∧ (s.env.part.hasMet = true) ∧ (s.chip.b Reg.CHIP_SEAL_STAT 31 = false) ∧
      (s.chip.rgn .metrology = 0) ∧ (s.met.st.on = true) ∧ (dataClear 5 (fun k => s.chip.rd (Reg.CHIP_SEAL_DATA k)) = true) ∧ (endCode
      s.env.part s.met (s.chip.rd (Reg.CHIP_SEAL_DATA 0)) = 0)) ∧
    (let s : State :=
      { metWith (fun m => (m.wr Reg.TRF_LOG_NO 1).onSt (fun t => { t with on := true, mlog := [(0, [1, 2, 3, 4, 5, 6, 7, 8])] })) with chip := State.reset.chip.wr (Reg.CHIP_SEAL_DATA 0) 0x20000000 };
      let p : Plane := .management; let tag : BitVec 16 := 1; let w : List Word := [1, 2, 3, 4, 5, 6, 7, 8]; let k : Nat := 7; (s.takes p
      Reg.CHIP_SEAL_CMD (word (6 * 2 ^ 28 + 0 * 2 ^ 24 + tag.toNat)) = some (word (6 * 2 ^ 28 + 0 * 2 ^ 24 + tag.toNat))) ∧
      (s.env.part.hasMet = true) ∧ (s.chip.b Reg.CHIP_SEAL_STAT 31 = false) ∧ (s.chip.rgn .metrology = 0) ∧ (s.met.st.on = true) ∧
      (dataClear 6 (fun k => s.chip.rd (Reg.CHIP_SEAL_DATA k)) = true) ∧ (s.chip.rd (Reg.CHIP_SEAL_DATA 0) = 0x20000000) ∧ (selectFind s.met
      2 (s.chip.n (Reg.CHIP_SEAL_DATA 1)) = some w) ∧ (k < w.length) ∧ (w.length ≤ 128)) := by
  decide +kernel
theorem test_hyp_sealedRequests_3 :
    (let s : State := { metWith (fun m => (m).onSt (fun t => { t with on := true })) with chip := State.reset.chip }; let p : Plane :=
      .management; let tag : BitVec 16 := 9; (s.takes p Reg.CHIP_SEAL_CMD (word (7 * 2 ^ 28 + 0 * 2 ^ 24 + tag.toNat)) = some (word (7 * 2 ^
      28 + 0 * 2 ^ 24 + tag.toNat))) ∧ (s.env.part.hasMet = true) ∧ (s.chip.b Reg.CHIP_SEAL_STAT 31 = false) ∧ (s.chip.rgn .metrology = 0) ∧
      (s.met.st.on = true) ∧ (dataClear 7 (fun k => s.chip.rd (Reg.CHIP_SEAL_DATA k)) = true) ∧ (66 ≤ recFree s.met)) ∧
    (let s : State :=
      { metWith (fun m => m.onSt (fun t => { t with on := true, req := some { op := 3, tag := 77, code := 6 } })) with chip := State.reset.chip.setB Reg.CHIP_SEAL_STAT 31 true };
      let q : MetReq := { op := 3, tag := 77, code := 6 }; (s.met.st.req = some q) ∧ (s.met.st.epochDue = false) ∧ (s.met.st.settleDue =
      false)) ∧
    (let s : State :=
      { metWith (fun m => m.onSt (fun t => { t with on := true, req := some { op := 3, tag := 77, code := 6 } })) with chip := State.reset.chip.setB Reg.CHIP_SEAL_STAT 31 true };
      let q : MetReq := { op := 3, tag := 77, code := 6 }; ((metAtOnce s).met.st.req = some q)) := by
  decide +kernel

theorem test_hyp_heathInputs_1 :
    (let s : State := State.reset; (hthOn s = true)) ∧
    (let s : State := heathWith (fun h => h.onCh 0 (HthCh.onIn 3 (fun x => { x with b := { diff := 3000, raw := true } })));
      let i : Fin 2 := 0; let j : Fin 16 := 3; let b : Bool := true; (hthOn s = true) ∧ (legDue s.heath i j b = true)) ∧
    (let s : State := heathWith (fun h => h.onCh 1 (HthCh.onIn 9 (fun x => { x with dis := 50000 }))); let i : Fin 2 := 1;
      let j : Fin 16 := 9; (hthOn s = true) ∧ (disDue s.heath i j = true) ∧ (((s.heath.ch i).inp j).fault = 0)) ∧
    (let s : State := atUp 15000000 (heathWith (fun h => h.setB (Reg.HTH_TP_CFG 11) 31 true)); let n : Fin 4 := 3; (hthOn s = true) ∧
      (pulseDue s.env s.heath n = true)) := by
  decide +kernel
theorem test_hyp_heathInputs_2 :
    (let s : State := heathWith (fun h => h.onCh 0 (HthCh.onIn 0 (fun x => { x with b := { fail := true } }))); let i : Fin 2 := 0;
      let j : Fin 16 := 0; let b : Bool := true; (hthOn s = true) ∧ ((((s.heath.ch i).inp j).leg b).fail = true) ∧ (((s.heath.ch i).inp
      j).fault = 0)) ∧
    (let s : State := heathWith (fun h => h.onCh 0 (HthCh.onRst 1 (fun x => { x with fell := some 1000 }))); let i : Fin 2 := 0;
      let r : Fin 2 := 1; let d : Nat := 1000; (hthOn s = true) ∧ (((s.heath.ch i).rin r).fell = some d) ∧ (1000 ≤ d) ∧ (d ≤ 60000)) ∧
    (let s : State := heathWith (fun h => h.onCh 1 (HthCh.onRst 0 (fun x => { x with fell := some 60000 }))); let i : Fin 2 := 1;
      let r : Fin 2 := 0; let d : Nat := 60000; (hthOn s = true) ∧ (((s.heath.ch i).rin r).fell = some d) ∧ (1000 ≤ d) ∧ (d ≤ 60000)) ∧
    (let s : State := heathWith (fun h => h.onCh 0 (HthCh.onRst 1 (fun x => { x with fell := some 999 }))); let i : Fin 2 := 0;
      let r : Fin 2 := 1; let d : Nat := 999; (hthOn s = true) ∧ (((s.heath.ch i).rin r).fell = some d) ∧ (d < 1000)) := by
  decide +kernel
theorem test_hyp_heathInputs_3 :
    (let s : State := heathWith (fun h => h.onCh 0 (HthCh.onRst 1 (fun x => { x with lvl := true, high := 60001 })));
      let i : Fin 2 := 0; let r : Fin 2 := 1; (hthOn s = true) ∧ (stuckDue s.heath i r = true)) := by
  decide +kernel

theorem test_hyp_heathFunctions_1 :
    (let s : State := heathWith (fun h => ((h.wr (Reg.HTH_FN_CFG 5) 0x10000001).wr (Reg.HTH_FN_IN 5) 3).onCh 0 (HthCh.onFn 5 (fun f => { f with st := 2 })));
      let i : Fin 2 := 0; let k : Fin 16 := 5; let j : Nat := 3; (hthOn s = true) ∧ (hthCfg s.heath = false) ∧ (fnKind s.heath k ≠ 0) ∧
      ((fnInputs s.heath k).contains (false, j) = true) ∧ (inLegs s.heath (s.heath.ch i) j ≠ (true, true)) ∧ (j < 16)) ∧
    (let s : State := heathWith (fun h => h.setB Reg.HTH_STAT 31 true); let n : Fin 8 := 7; (hthOn s = true) ∧ (hthCfg s.heath = true ∨
      hthSd s = true ∨ (fnsOf s.heath n = [] ∧ (List.range 16).all (fun k => fnLock s.heath k != some n.val) = true) ∨ s.heath.f
      (Reg.HTH_OUT_STAT n) 26 2 ≠ 0)) ∧
    (let s : State := chipWith (fun c => { c with hkp := { c.hkp with dieSd := true } }); let n : Fin 8 := 0; (hthOn s = true) ∧ (hthCfg
      s.heath = true ∨ hthSd s = true ∨ (fnsOf s.heath n = [] ∧ (List.range 16).all (fun k => fnLock s.heath k != some n.val) = true) ∨
      s.heath.f (Reg.HTH_OUT_STAT n) 26 2 ≠ 0)) ∧
    (let s : State := State.reset; let n : Fin 8 := 3; (hthOn s = true) ∧ (hthCfg s.heath = true ∨ hthSd s = true ∨ (fnsOf s.heath n =
      [] ∧ (List.range 16).all (fun k => fnLock s.heath k != some n.val) = true) ∨ s.heath.f (Reg.HTH_OUT_STAT n) 26 2 ≠ 0)) := by
  decide +kernel
theorem test_hyp_heathFunctions_2 :
    (let s : State := heathWith (fun h => ((h.wr (Reg.HTH_FN_CFG 5) 0x20000002).wr (Reg.HTH_FN_IN 5) 0x0403).onCh 0 (HthCh.onFn 5 (fun f => { f with lockN := 50000 })));
      let i : Fin 2 := 0; let k : Fin 16 := 5; (hthOn s = true) ∧ (lockDue s.heath i k = true)) ∧
    (let s : State := heathWith (fun h => ((h.wr (Reg.HTH_FN_CFG 5) 0x12000001).wr (Reg.HTH_FN_OUT 5) 2).onCh 0 (fun c => { c.onFn 5 (fun f => { f with dly := some 99 }) with sw := 2 }));
      let i : Fin 2 := 0; let k : Fin 16 := 5; let n : Fin 8 := 1; (hthOn s = true) ∧ (dlyDue s.heath i k = true) ∧ (((s.heath.ch i).fn
      k).st ≠ 2) ∧ (fnKind s.heath k ≠ 0) ∧ (s.heath.b (Reg.HTH_FN_OUT k) n = true) ∧ ((List.range 16).all (fun m => fnLock s.heath m !=
      some n.val) = true)) ∧
    (let s : State := { heathWith (fun h => h.onCh 0 (HthCh.onFn 5 (fun f => { f with unlN := some 200000 }))) with chip := State.reset.chip.wr Reg.CHIP_HTH_REQ 32 };
      let i : Fin 2 := 0; let k : Fin 16 := 5; (hthOn s = true) ∧ (unlDue s.heath i k = true) ∧ (s.chip.b Reg.CHIP_HTH_REQ k = true)) ∧
    (let s : State := heathWith (fun h => h.onCh 0 (HthCh.onFn 5 (fun f => { f with win := some 2000 }))); let i : Fin 2 := 0;
      let k : Fin 16 := 5; (hthOn s = true) ∧ (syncDue s.heath i k = true)) := by
  decide +kernel
theorem test_hyp_heathFunctions_3 :
    (let s : State := heathWith (fun h => (h.setB (Reg.HTH_OUT_CFG 4) 31 true).setB (Reg.HTH_OUT_STAT 4) 31 true); let n : Fin 8 := 4;
      (hthOn s = true) ∧ (s.heath.b (Reg.HTH_OUT_CFG n) 31 = true) ∧ (s.heath.b (Reg.HTH_OUT_STAT n) 31 = true)) ∧
    (let s : State := State.reset; (hthOn s = true)) ∧
    (let s : State := State.reset; let n : Fin 8 := 7; let trip : Bool := true; (hthOn s = true) ∧ (s.heath.f (Reg.HTH_OUT_STAT n) 26 2
      = 0) ∧ (trip = true ∨ 5 ≤ tget (fun _ => 0) s.heath.st.amps n)) ∧
    (let s : State := heathWith (fun h => h.onSt (fun t => { t with amps := [(2, 5)] })); let n : Fin 8 := 2; let trip : Bool := false;
      (hthOn s = true) ∧ (s.heath.f (Reg.HTH_OUT_STAT n) 26 2 = 0) ∧ (trip = true ∨ 5 ≤ tget (fun _ => 0) s.heath.st.amps n)) := by
  decide +kernel
theorem test_hyp_heathFunctions_4 :
    (let s : State := heathWith (fun h => h.onSt (fun t => { t with rbHigh := [(2, 41)] })); let n : Fin 8 := 2; (hthOn s = true) ∧
      (shortDue s.heath n = true)) ∧
    (let s : State := State.reset; let p : Plane := .management; let v : Word := 0x21; let w : Word := 0x21; (s.takes p Reg.CHIP_HTH_REQ
      v = some w) ∧ (v = w)) := by
  decide +kernel

theorem test_hyp_heathNetworksAndFaults_1 :
    (let s : State := heathWith (fun h => h.onCh 1 (fun c => { c with silent := 4, sw := 3 })); let i : Fin 2 := 1; (hthOn s = true) ∧
      (rgnThird s.env .heath s.chip = false) ∧ (beatDue s.heath i = true)) ∧
    (let s : State := heathWith (fun h => h.onSt (fun t => { t with differ := 9 })); (hthOn s = true) ∧ (rgnThird s.env .heath s.chip =
      false) ∧ (9 ≤ s.heath.st.differ)) ∧
    (let s : State := State.reset; (hthOn s = true) ∧ (rgnThird s.env .heath s.chip = false)) ∧
    (let s : State := State.reset; (hthOn s = true) ∧ (rgnThird s.env .heath s.chip = false)) := by
  decide +kernel
theorem test_hyp_heathNetworksAndFaults_2 :
    (let s : State := State.reset; (hthOn s = true) ∧ (teleHeld s.heath = false)) ∧
    (let s : State := heathWith (fun h => h.onSt (fun t => { t with states := 1 })); (hthOn s = true) ∧ (teleHeld s.heath = true)) ∧
    (let s : State := heathWith (fun h => { h.wr (Reg.CAN_HW_IDX 7) 0x10000 with sram := memWrWords [] 8 ([word (0x103 * 2 ^ 18), word (24 * 2 ^ 16)] ++ [word (2 ^ 28 + 2 ^ 27 + 2 ^ 16 + 0x77), 5, 100, 0xFFFE0001, 0, teleCrc [word (2 ^ 28 + 2 ^ 27 + 2 ^ 16 + 0x77), 5, 100, 0xFFFE0001, 0]]) });
      (hthOn s = true) ∧ (s.heath.f (Reg.CAN_SW_IDX 7) 16 13 ≠ s.heath.f (Reg.CAN_HW_IDX 7) 16 13)) ∧
    (let s : State := State.reset; (hthOn s = true) ∧ (s.heath.f (Reg.CAN_SW_IDX 7) 16 13 = s.heath.f (Reg.CAN_HW_IDX 7) 16 13)) := by
  decide +kernel
theorem test_hyp_heathNetworksAndFaults_3 :
    (let s : State := heathWith (fun h => { ((h.wr (Reg.CAN_HW_IDX 7) 0x10000).wr (Reg.SFN_SRC 3) 0x80000077) with sram := memWrWords [] 8 ([word (0x103 * 2 ^ 18), word (24 * 2 ^ 16)] ++ [word (2 ^ 28 + 2 ^ 27 + 2 ^ 16 + 0x77), 5, 100, 0xFFFE0001, 0, teleCrc [word (2 ^ 28 + 2 ^ 27 + 2 ^ 16 + 0x77), 5, 100, 0xFFFE0001, 0]]) });
      let i : Fin 32 := 3;
      let l : List Word := [word (2 ^ 28 + 2 ^ 27 + 2 ^ 16 + 0x77), 5, 100, 0xFFFE0001, 0, teleCrc [word (2 ^ 28 + 2 ^ 27 + 2 ^ 16 + 0x77), 5, 100, 0xFFFE0001, 0]];
      (hthOn s = true) ∧ (s.heath.f (Reg.CAN_SW_IDX 7) 16 13 ≠ s.heath.f (Reg.CAN_HW_IDX 7) 16 13) ∧ (fget (memWord s.heath.sram (80 *
      (s.heath.f (Reg.CAN_SW_IDX 7) 16 13 % 4096) + 8)) 18 11 = 0x100 + i.val) ∧ (l = (List.range (fget (memWord s.heath.sram (80 *
      (s.heath.f (Reg.CAN_SW_IDX 7) 16 13 % 4096) + 12)) 16 7 / 4)).map (fun k => memWord s.heath.sram (80 * (s.heath.f (Reg.CAN_SW_IDX 7)
      16 13 % 4096) + 16 + 4 * k))) ∧ (teleCheck s.env s.heath 1 (some i.val) false l = 0) ∧ (fget (l.getD 0 0) 28 4 = 1)) ∧
    (let s : State := let s := heathWith (fun h => (h.wr (Reg.SFN_SRC 3) 0x80000077).setNet 1 3 { at' := some 5, lost := false }); { s with env := { s.env with time := { s.env.time with up := 2000005 } } };
      let i : Fin 32 := 3; let b : Bool := true; (hthOn s = true) ∧ (srcOn s.heath i = true) ∧ ((s.heath.net (if b then 1 else 0) i).lost
      = false) ∧ (netGone s.env (s.heath.net (if b then 1 else 0) i) = true)) := by
  decide +kernel

/-- Heath in configuration mode with legal bit timing staged for controller 7. -/
def configuring : Heath := (State.reset.heath.setB Reg.HTH_STAT 31 true).onSt (fun t =>
  { t with staged := [(Reg.CAN_NBT 7, word (56 * 2 ^ 19 + 21 * 2 ^ 12 + 10 * 2 ^ 5)), (Reg.CAN_DBT 7, word (10 * 2 ^ 22 + 3 * 2 ^ 18 + 2 ^ 14))] })
/-- The same with a word in SCC_DATA0. -/
def committing (x : Word) : State :=
  { State.reset with heath := configuring, chip := { State.reset.chip with regs := (Reg.CHIP_SCC_DATA 0, x) :: State.reset.chip.regs } }

theorem committing_rgn (x : Word) : (committing x).chip.rd Reg.CHIP_RGN_STAT = State.reset.chip.rd Reg.CHIP_RGN_STAT := rfl
theorem committing_stat (x : Word) : (committing x).chip.rd Reg.CHIP_SCC_STAT = State.reset.chip.rd Reg.CHIP_SCC_STAT := rfl
theorem committing_data (x : Word) : (committing x).chip.rd (Reg.CHIP_SCC_DATA 0) = x := by simp [committing, Chip.rd, rget, tget]
theorem test_hyp_safetyConfiguration_commit (x : Word) :
    (committing x).takes .management Reg.CHIP_SCC_CMD (word (3 * 2 ^ 28 + 0 * 2 ^ 24 + 5)) = some (word (3 * 2 ^ 28 + 0 * 2 ^ 24 + 5)) := rfl
theorem test_hyp_safetyConfiguration_runs (x : Word) : hthOn (committing x) = true ∧ (committing x).chip.b Reg.CHIP_SCC_STAT 31 = false := by
  have h : hthOn State.reset = true ∧ State.reset.chip.b Reg.CHIP_SCC_STAT 31 = false := by decide +kernel
  unfold hthOn Chip.rgn Chip.f Chip.b at *
  rw [committing_rgn, committing_stat]; exact h
theorem test_hyp_safetyConfiguration_mode : hthCfg configuring = true ∧ configuring.st.prog = [] := by decide +kernel
theorem test_hyp_safetyConfiguration_crc :
    (committing (cfgCrc configuring)).chip.rd (Reg.CHIP_SCC_DATA 0) = cfgCrc (committing (cfgCrc configuring)).heath := committing_data _
theorem test_hyp_safetyConfiguration_fails :
    cfgFails State.reset.env.part (cfgAfter configuring) ++ canInUse configuring (cfgAfter configuring) = [] := by decide +kernel

theorem test_hyp_safetyConfiguration_1 :
    (let s : State := State.reset; let p : Plane := .management; let tag : BitVec 16 := 7; (s.takes p Reg.CHIP_SCC_CMD (word (1 * 2 ^ 28
      + 0 * 2 ^ 24 + tag.toNat)) = some (word (1 * 2 ^ 28 + 0 * 2 ^ 24 + tag.toNat))) ∧ (hthOn s = true) ∧ (s.chip.b Reg.CHIP_SCC_STAT 31
      = false) ∧ (s.chip.rd (Reg.CHIP_SCC_DATA 0) = s.heath.rd Reg.HTH_CFG_CRC)) ∧
    (let s : State := { heathWith (fun h => h.setB Reg.HTH_STAT 31 true) with chip := (State.reset.chip.wr Reg.CHIP_SCC_ADDR (word (Reg.HTH_IN_CFG 2))).wr (Reg.CHIP_SCC_DATA 0) 0x40000000 };
      let p : Plane := .management; let tag : BitVec 16 := 7; let r : RegDesc := (hthCfgReg (Reg.HTH_IN_CFG 2)).getD galErr; (s.takes p
      Reg.CHIP_SCC_CMD (word (2 * 2 ^ 28 + 0 * 2 ^ 24 + tag.toNat)) = some (word (2 * 2 ^ 28 + 0 * 2 ^ 24 + tag.toNat))) ∧ (hthOn s =
      true) ∧ (s.chip.b Reg.CHIP_SCC_STAT 31 = false) ∧ (hthCfg s.heath = true) ∧ (s.chip.n Reg.CHIP_SCC_ADDR % 4 = 0) ∧ (hthCfgReg
      (s.chip.n Reg.CHIP_SCC_ADDR) = some r) ∧ (s.chip.rd (Reg.CHIP_SCC_DATA 0) &&& word r.rsv = 0) ∧ (s.chip.n Reg.CHIP_SCC_ADDR ≠
      Reg.SFN_CFG)) ∧
    (let s : State := { heathWith (fun h => h.setB Reg.HTH_STAT 31 true) with chip := State.reset.chip }; let p : Plane := .management;
      let tag : BitVec 16 := 7; (s.takes p Reg.CHIP_SCC_CMD (word (4 * 2 ^ 28 + 0 * 2 ^ 24 + tag.toNat)) = some (word (4 * 2 ^ 28 + 0 * 2
      ^ 24 + tag.toNat))) ∧ (hthOn s = true) ∧ (s.chip.b Reg.CHIP_SCC_STAT 31 = false) ∧ (hthCfg s.heath = true) ∧ (s.chip.rd
      (Reg.CHIP_SCC_DATA 0) = s.heath.rd Reg.HTH_CFG_CRC)) ∧
    (let s : State := committing 0; let p : Plane := .management; let tag : BitVec 16 := 7; (s.takes p Reg.CHIP_SCC_CMD (word (5 * 2 ^
      28 + 0 * 2 ^ 24 + tag.toNat)) = some (word (5 * 2 ^ 28 + 0 * 2 ^ 24 + tag.toNat))) ∧ (hthOn s = true) ∧ (s.chip.b Reg.CHIP_SCC_STAT
      31 = false) ∧ (hthCfg s.heath = true)) := by
  decide +kernel
theorem test_hyp_safetyConfiguration_2 :
    (let s : State := { heathWith (fun h => h.setB Reg.HTH_STAT 31 true) with chip := State.reset.chip.wr Reg.CHIP_SCC_ADDR 65534 };
      let p : Plane := .management; let n : Fin 16 := 1; let tag : BitVec 16 := 7; let k : Nat := 1; (s.takes p Reg.CHIP_SCC_CMD (word (6
      * 2 ^ 28 + n.val * 2 ^ 24 + tag.toNat)) = some (word (6 * 2 ^ 28 + n.val * 2 ^ 24 + tag.toNat))) ∧ (hthOn s = true) ∧ (s.chip.b
      Reg.CHIP_SCC_STAT 31 = false) ∧ (hthCfg s.heath = true) ∧ (s.chip.n Reg.CHIP_SCC_ADDR + n.val + 1 ≤ 65536) ∧ (k ≤ n.val)) ∧
    (let s : State := heathWith (fun h => h.onSt (fun t => { t with req := some (2, 9, 4) })); let op : Nat := 2; let tag : Nat := 9;
      let code : Nat := 4; (s.heath.st.req = some (op, tag, code)) ∧ (s.heath.st.ending = false)) ∧
    (let s : State := committing 0; (hthOn s = true) ∧ (hthCfg s.heath = true) ∧ (s.heath.st.req = none)) := by
  decide +kernel

/-- A standby whose link is up, with changes. -/
def follower (f : Chip → Chip) : State := chipWith (fun c => f ((c.setF Reg.QN_STAT 29 3 2).setF Reg.MIR_STAT 29 3 3))
/-- A chip in a pair role, with changes. -/
def inRole (r : Nat) (f : Chip → Chip) : State := chipWith (fun c => f (c.setF Reg.QN_STAT 29 3 r))

theorem test_hyp_quoinAndRoles_1 :
    (let s : State := inRole 0 (fun c => { c with pwr := { c.pwr with quoinB := false } }); let b : Bool := true; (s.chip.ctl = true) ∧
      (s.chip.role = 0) ∧ (s.chip.pwr.quoinB ≠ b)) ∧
    (let s : State := inRole 2 (fun c => ({ c with pwr := { c.pwr with quoinB := true } }).setB Reg.QN_STAT 25 true); (s.chip.ctl =
      true) ∧ (s.chip.svc = true) ∧ (s.chip.role = 2) ∧ (s.chip.pwr.quoinB = true) ∧ (s.chip.pair.low = false)) ∧
    (let s : State := inRole 1 (fun c => ({ ((c.setB Reg.QN_STAT 28 true).setB Reg.QN_STAT 27 false) with pwr := { c.pwr with quoinB := false } }).onPair (fun p => { p with low := true }));
      (s.chip.ctl = true) ∧ (s.chip.role = 1) ∧ (s.chip.pwr.quoinB = false) ∧ (s.chip.pair.low = true) ∧ (s.chip.gate = true) ∧
      (s.chip.pri = false)) ∧
    (let s : State := let s := inRole 2 (fun c => (c.setB Reg.QN_STAT 28 false).onPair (fun p => { p with low := true, bothAt := some 1 })); { s with env := { s.env with time := { s.env.time with up := 65 } } };
      (ownDue s.env s.chip = true) ∧ (swapTake s.env s.chip = false)) := by
  decide +kernel
theorem test_hyp_quoinAndRoles_2 :
    (let s : State := let s := inRole 3 (fun c => (c.setB Reg.QN_STAT 28 false).onPair (fun p => { p with low := true, bothAt := some 1 })); { s with env := { s.env with time := { s.env.time with up := 65 } } };
      (ownDue s.env s.chip = true) ∧ (swapTake s.env s.chip = false)) ∧
    (let s : State := inRole 2 (fun c => c.onPair (fun p => { p with wait := some 0 })); (s.chip.ctl = true) ∧ (s.chip.role = 2) ∧
      (s.chip.pair.wait = some 0)) ∧
    (let s : State := let s := inRole 3 (fun c => c.setB Reg.QN_STAT 25 false); { s with env := { s.env with time := { s.env.time with up := 600000000 } } };
      (coldDue s.env s.chip = true)) ∧
    (let s : State := inRole 4 (fun c => c); let p : Plane := .control; let v : Word := 1; (s.chip.ctl = true) ∧ (s.takes p Reg.QN_CTRL
      v = some v) ∧ (fbit v 0 = true) ∧ (s.chip.role = 3 ∨ s.chip.role = 4) ∧ (rgnThird s.env .control s.chip = false)) := by
  decide +kernel
theorem test_hyp_quoinAndRoles_3 :
    (let s : State := inRole 3 (fun c => c); let p : Plane := .control; let v : Word := 1; (s.chip.ctl = true) ∧ (s.takes p Reg.QN_CTRL
      v = some v) ∧ (fbit v 0 = true) ∧ (s.chip.role = 3 ∨ s.chip.role = 4) ∧ (rgnThird s.env .control s.chip = false)) ∧
    (let s : State := let s := inRole 1 (fun c => ((c.setF Reg.QN_PARTNER 29 3 2).wr Reg.QN_SWAP_AT 9).onPair (fun p => { p with low := true, equal := true })); { s with env := { s.env with time := { s.env.time with offset := 46000, frameNo := 9 } } };
      (swapDue s.env s.chip = true)) := by
  decide +kernel

theorem test_hyp_outputComparison_1 :
    (let s : State := atCycle 46000 (inRole 1 (fun c => (c.setF Reg.QN_STAT 8 8 3).onPair (fun p => { p with mine := some { ports := [1] }, theirs := some { ports := [1] } })));
      let a : CmpSet := { ports := [1] }; let b : CmpSet := { ports := [1] }; (cmpDue s.env s.chip = true) ∧ (s.chip.pair.mine = some a) ∧
      (s.chip.pair.theirs = some b) ∧ (cmpTakes s.chip = true) ∧ (swapHere s.env s.chip = false) ∧ (a = b)) ∧
    (let s : State := atCycle 46000 (inRole 1 (fun c => c.onPair (fun p => { p with mine := some { ports := [1, 2] }, theirs := some { ports := [1] } })));
      let a : CmpSet := { ports := [1, 2] }; let b : CmpSet := { ports := [1] }; (cmpDue s.env s.chip = true) ∧ (s.chip.pair.mine = some
      a) ∧ (s.chip.pair.theirs = some b) ∧ (cmpTakes s.chip = true) ∧ (swapHere s.env s.chip = false) ∧ (a ≠ b)) ∧
    (let s : State := inRole 2 (fun c => c.setF Reg.QN_STAT 8 8 2); (testDue s.env s.chip = true)) ∧
    (let s : State := atCycle 46000 (inRole 1 (fun c => (c.wr Reg.QN_ST_RES 0x90000100).onPair (fun p => { p with testing := true, low := true })));
      (s.chip.ctl = true) ∧ (s.chip.pair.testing = true) ∧ (s.chip.role = 1 ∨ s.chip.role = 2) ∧ (s.chip.cuts.mirror + 2000 ≤
      s.env.time.offset) ∧ (s.chip.f Reg.QN_ST_RES 30 2 = 2) ∧ (s.chip.f Reg.QN_ST_RES 28 2 = 1)) := by
  decide +kernel
theorem test_hyp_outputComparison_2 :
    (let s : State := atCycle 46000 (inRole 2 (fun c => (c.wr Reg.QN_ST_RES 0x90000100).onPair (fun p => { p with testing := true })));
      (s.chip.ctl = true) ∧ (s.chip.pair.testing = true) ∧ (s.chip.role = 1 ∨ s.chip.role = 2) ∧ (s.chip.cuts.mirror + 2000 ≤
      s.env.time.offset) ∧ (s.chip.f Reg.QN_ST_RES 30 2 = 2) ∧ (s.chip.f Reg.QN_ST_RES 28 2 = 1)) ∧
    (let s : State := atCycle 46000 (inRole 2 (fun c => (c.wr Reg.QN_ST_RES 0x80000100).onPair (fun p => { p with testing := true })));
      (s.chip.ctl = true) ∧ (s.chip.pair.testing = true) ∧ (s.chip.role = 1 ∨ s.chip.role = 2) ∧ (s.chip.cuts.mirror + 2000 ≤
      s.env.time.offset) ∧ (s.chip.f Reg.QN_ST_RES 28 2 = 0)) ∧
    (let s : State := inRole 2 (fun c => c.setF Reg.QN_STAT 8 8 64); (divergeDue s.chip = true)) ∧
    (let s : State := inRole 2 (fun c => (c.setF Reg.QN_STAT 8 8 64).onPair (fun p => { p with diverged := some 0 })); (divergeDue
      s.chip = true)) := by
  decide +kernel
theorem test_hyp_outputComparison_3 :
    (let s : State := inRole 1 (fun c => c.setF Reg.QN_STAT 8 8 64); (divergeDue s.chip = true)) ∧
    (let s : State := inRole 3 (fun c => (c.setF Reg.QN_STAT 0 4 1).setF Reg.MIR_STAT 29 3 3); (s.chip.ctl = true) ∧ (s.chip.role = 3) ∧
      (joinStep s.chip = 1 ∨ joinStep s.chip = 2 ∨ joinStep s.chip = 3 ∨ joinStep s.chip = 6) ∧ (joinDone s.chip none = true)) ∧
    (let s : State := inRole 3 (fun c => ((c.setF Reg.QN_STAT 0 4 3).setF Reg.MIR_STAT 29 3 4).setB Reg.MIR_STAT 28 true); (s.chip.ctl =
      true) ∧ (s.chip.role = 3) ∧ (joinStep s.chip = 1 ∨ joinStep s.chip = 2 ∨ joinStep s.chip = 3 ∨ joinStep s.chip = 6) ∧ (joinDone
      s.chip none = true)) ∧
    (let s : State := inRole 3 (fun c => c.setF Reg.QN_STAT 0 4 7); (s.chip.ctl = true) ∧ (s.chip.role = 3) ∧ (joinStep s.chip = 7)) := by
  decide +kernel

theorem test_hyp_mirrorLink_1 :
    (let s : State := follower (fun c => c.onPair (fun p => { p with helloOk := true, inLine := 9 })); (mirHeeds s.chip = true)) ∧
    (let s : State := inRole 3 (fun c => c); let h : MirHello :=
      { variant := 0x51008E20, size := 0x02004000, layout := 1, pri := true, mode := true, serial := 5, cfgCrc := 77, lanes := 13 };
      (s.chip.ctl = true) ∧ (s.chip.role ≠ 0) ∧ (mirUp s.chip = false) ∧ (3 ≤ ((List.range 4).filter (fun k => h.lanes.getLsbD k)).length)) ∧
    (let s : State := atCycle 40000 (follower (fun c => c)); let rtt : Nat := 30; (mirFollows s.chip = true) ∧ ((bndError s.env.time rtt).2
      = true)) ∧
    (let s : State := atCycle 20 (follower (fun c => c)); let rtt : Nat := 30; (mirFollows s.chip = true) ∧ ((bndError s.env.time rtt).2 =
      false)) := by
  decide +kernel
theorem test_hyp_mirrorLink_2 :
    (let s : State := follower (fun c => c.onPair (fun p => { p with inLine := 16, bnd := some (70, 8000, 2) })); let b : Nat × Nat × Int :=
      (70, 8000, 2); (alignDue s.chip = true) ∧ (s.chip.pair.bnd = some b) ∧ (s.chip.pair.bndPull = none)) ∧
    (let s : State := follower (fun c => c); (mirFollows s.chip = true) ∧ (mirShadows s.chip = true) ∧ (s.env.time.offset <
      s.chip.cuts.solve) ∧ (s.chip.pair.imgGot = false)) ∧
    (let s : State := follower (fun c => c.onPair (fun p => { p with differ := [(30, 16)] })); let n : Fin 32 := 30; (inDiffDue s.chip n =
      true)) ∧
    (let s : State := follower (fun c => (c.setB Reg.MIR_IN_DIFF 3 true).onPair (fun p => { p with agree := [(3, 16)] })); let n : Fin 32 :=
      3; (inDiffDue s.chip n = true)) ∧
    (let s : State := inRole 2 (fun c => eachBelow 4 (fun k c => c.setB (Reg.MIR_LANE k) 31 true) (c.setF Reg.MIR_STAT 29 3 3));
      let n : Fin 34 := 33; let k : Fin 2 := 1; let j : Nat := 3; let m : LineMon := {}; (32 ≤ n.val) ∧ (mirLaneNo n k = j) ∧ (m.back =
      false) ∧ (mirRuns s.chip = true) ∧ (s.chip.f Reg.MIR_STAT 29 3 = 3) ∧ (mirIn s.chip = 4) ∧ ((s.chip.phyOf 32).rejoin.all (fun x => x.1
      != s.env.time.up) = true)) ∧
    (let s : State := atUp 346040 (inRole 2 (fun c => (eachBelow 3 (fun k c => c.setB (Reg.MIR_LANE k) 31 true) (c.setF Reg.MIR_STAT 29 3
      4)))); let n : Fin 34 := 32; let k : Fin 2 := 1; let j : Nat := 1; let m : LineMon := {}; (32 ≤ n.val) ∧ (mirLaneNo n k = j) ∧ (m.back
      = false) ∧ (mirRuns s.chip = true) ∧ (mirUp s.chip = true) ∧ (mirIn s.chip = 3) ∧ (s.chip.b (Reg.MIR_LANE j) 31 = true)) ∧
    (let s : State := inRole 2 (fun c => eachBelow 4 (fun k c => c.setB (Reg.MIR_LANE k) 31 true) ((c.setF Reg.MIR_STAT 29 3 3).setPhy 33
      { d0 := { badAt := List.replicate 16 0 } })); let n : Fin 34 := 33; let k : Fin 2 := 0; let j : Nat := 2; let m : LineMon := {}; (32 ≤
      n.val) ∧ (mirLaneNo n k = j) ∧ (m.back = false) ∧ (mirRuns s.chip = true) ∧ (s.chip.f Reg.MIR_STAT 29 3 = 3) ∧ (mirIn s.chip = 4) ∧
      ((s.chip.phyOf 32).rejoin.all (fun x => x.1 != s.env.time.up) = true) ∧ (s.chip.b (Reg.MIR_LANE j) 29 = false) ∧ (lockGone s.env
      ((s.chip.phyOf n).lane k) = true)) ∧
    (let s : State := inRole 2 (fun c => eachBelow 4 (fun k c => c.setB (Reg.MIR_LANE k) 31 true) (c.setF Reg.MIR_STAT 29 3 3));
      let n : Fin 34 := 32; let m : LineMon := {}; (32 ≤ n.val) ∧ (m.back = false) ∧ (mirRuns s.chip = true) ∧ (mirUp s.chip = true)) ∧
    (let s : State := atUp 346040 (inRole 2 (fun c => (eachBelow 3 (fun k c => c.setB (Reg.MIR_LANE k) 31 true) (c.setF Reg.MIR_STAT 29 3
      4)))); let n : Fin 34 := 33; let x : LaneEye := ⟨1, 40, 30⟩; let j : Nat := 3; (32 ≤ n.val) ∧ (mirLaneNo n x.lane = j) ∧ (mirRejoinDue
      s.env s.chip n x = true) ∧ (mirIn s.chip = 3)) ∧
    (let s : State := inRole 2 (fun c => eachBelow 4 (fun k c => c.setB (Reg.MIR_LANE k) 31 true) (c.setF Reg.MIR_STAT 29 3 3));
      let n : Fin 34 := 33; let x : LaneEye := ⟨1, 40, 30⟩; (32 ≤ n.val) ∧ (mirRejoinDue s.env s.chip n x = false)) ∧
    (let s : State := inRole 2 (fun c => eachBelow 4 (fun k c => c.setB (Reg.MIR_LANE k) 31 true) (c.setF Reg.MIR_STAT 29 3 3));
      let b : BadBlock := ⟨33, 0, ⟨3, 0, 0⟩⟩; let j : Nat := 2; (32 ≤ b.port.val) ∧ (mirLaneNo b.port b.lane = j) ∧ (b.blk.kind = .bad) ∧
      (mirRuns s.chip = true)) ∧
    (let s : State := atUp 346040 (inRole 2 (fun c => (eachBelow 3 (fun k c => c.setB (Reg.MIR_LANE k) 31 true) ((c.setF Reg.MIR_STAT 29 3
      4).setB (Reg.MIR_LANE 3) 30 true)))); let n : Fin 34 := 33; let k : Fin 2 := 1; let j : Nat := 3; let m : LineMon := { back := true };
      (32 ≤ n.val) ∧ (mirLaneNo n k = j) ∧ (m.back = true) ∧ (mirRuns s.chip = true) ∧ (s.chip.b (Reg.MIR_LANE j) 30 = true) ∧ (tget (fun _
      => 0) (s.chip.phyOf n).monAt (17 + 2 * k) + 2000 ≤ s.env.time.up)) := by
  decide +kernel

theorem test_hyp_mirrorItems_1 :
    (let s : State := follower (fun c => c); (mirHeeds s.chip = true)) ∧
    (let s : State := follower (fun c => c); (mirFollows s.chip = true)) ∧
    (let s : State := follower (fun c => c); (mirHeeds s.chip = true)) ∧
    (let s : State := follower (fun c => c); let k : Fin 4 := 3; (mirFollows s.chip = true) ∧ (k ≠ 2)) := by
  decide +kernel
theorem test_hyp_mirrorItems_2 :
    (let s : State := follower (fun c => c); let k : Fin 4 := 0; let place : Nat := 2; (mirFollows s.chip = true) ∧ (k ≠ 2) ∧ ((s.chip.slot
      k).list.length ≠ place)) ∧
    (let s : State := follower (fun c => c.setF (Reg.GAL_STATE 0) 28 4 1); let k : Fin 4 := 0; let place : Nat := 0; (mirFollows s.chip =
      true) ∧ (k ≠ 2) ∧ ((s.chip.slot k).list.length = place) ∧ (place < 4096) ∧ (s.chip.slotState k ≠ 2)) ∧
    (let s : State := follower (fun c => c); let level : BitVec 8 := 255; (mirFollows s.chip = true) ∧ (s.chip.svc = true) ∧ (level =
      ckptLevel s.chip)) ∧
    (let s : State := follower (fun c => c); let frame : BitVec 48 := 0; (mirFollows s.chip = true) ∧ (frame = s.env.time.frameNo) ∧
      (s.env.time.offset ≤ s.chip.cuts.mirror)) := by
  decide +kernel
theorem test_hyp_mirrorItems_3 :
    (let s : State := follower (fun c => c); (mirHeeds s.chip = true)) ∧
    (let s : State := follower (fun c => { c with flt := { c.flt with replays := [(Reg.FRM_CFG, { tries := 2, scrub := true })] } });
      let a : Nat := Reg.FRM_CFG; let r : Replay := { tries := 2, scrub := true }; (mirHeeds s.chip = true) ∧ (tget (fun _ => ({} : Replay))
      s.chip.flt.replays a = r) ∧ (r.scrub = true)) ∧
    (let s : State := inRole 1 (fun c => c.setF Reg.MIR_STAT 29 3 3); (mirHeeds s.chip = true) ∧ (s.chip.role = 1) ∧ (s.chip.svc = true)) ∧
    (let s : State := inRole 1 (fun c => { c.setF Reg.MIR_STAT 29 3 4 with pair := { c.pair with written := 3, acked := 2 } }); (mirHeeds
      s.chip = true) ∧ (s.chip.role = 1) ∧ (s.chip.pair.acked < s.chip.pair.written)) ∧
    (let s : State := follower (fun c => { c with pair := { c.pair with keyed := true } }); (mirHeeds s.chip = true) ∧ (s.chip.pair.keyed =
      true)) ∧
    (let c : Chip := (State.reset.chip.wr (Reg.PRT_MAP 6) 0x40000002).setF (Reg.SES_TUN_SW 0) 20 6 1; let n : Nat := 6; let q : Nat × Nat ×
      Nat := (0, 0, 0); (tunNext c n = some q)) := by
  decide +kernel

theorem test_hyp_canReception_1 :
    (let s : State := chipWith (fun q => { q with regs := rset (rset (q.regs) (Reg.CAN_CTL 2) 0x80000000) (Reg.CAN_STAT 2) 0 });
      let c : Fin 8 := 2; let x : CanRx := ⟨5, 0x04000000, false, false, false, false, false, 8, [1, 2, 3], false, 119⟩; (s.canRuns c) ∧
      (canEn c (s.can c) = true) ∧ (canActive c (s.can c) = true) ∧ (c.val = 7 → canSafeId x = true) ∧ (x.parity = false) ∧ ((canRxWr c
      (s.can c) + 8192 - canRxRd c (s.can c)) % 8192 ≠ 4096)) ∧
    (let s : State := heathWith (fun h => { h with regs := rset (rset (rset (rset (h.regs) (Reg.CAN_CTL 7) 0x80000000) (Reg.CAN_STAT 7) 0) (Reg.CAN_HW_IDX 7) 0x1FFF0000) (Reg.CAN_SW_IDX 7) 0x1FFE0000 });
      let c : Fin 8 := 7; let x : CanRx := ⟨5, 0x04000000, false, false, false, false, false, 8, [1, 2, 3], false, 119⟩; (s.canRuns c) ∧
      (canEn c (s.can c) = true) ∧ (canActive c (s.can c) = true) ∧ (c.val = 7 → canSafeId x = true) ∧ (x.parity = false) ∧ ((canRxWr c
      (s.can c) + 8192 - canRxRd c (s.can c)) % 8192 ≠ 4096)) ∧
    (let s : State := chipWith (fun q => { q with regs := rset (rset (rset (q.regs) (Reg.CAN_CTL 6) 0x80000000) (Reg.CAN_STAT 6) 0) (Reg.CAN_HW_IDX 6) 0x10000000 });
      let c : Fin 8 := 6; let x : CanRx := ⟨5, 0x04000000, false, false, false, false, false, 8, [1, 2, 3], false, 119⟩; (s.canRuns c) ∧
      (canEn c (s.can c) = true) ∧ (canActive c (s.can c) = true) ∧ (c.val = 7 → canSafeId x = true) ∧ (x.parity = false) ∧ ((canRxWr c
      (s.can c) + 8192 - canRxRd c (s.can c)) % 8192 = 4096)) ∧
    (let s : State := heathWith (fun h => { h with regs := rset (rset (rset (h.regs) (Reg.CAN_CTL 7) 0x80000000) (Reg.CAN_STAT 7) 0) (Reg.CAN_HW_IDX 7) 0x10000000 });
      let c : Fin 8 := 7; let x : CanRx := ⟨5, 0x04000000, false, false, false, false, false, 8, [1, 2, 3], false, 119⟩; (s.canRuns c) ∧
      (canEn c (s.can c) = true) ∧ (canActive c (s.can c) = true) ∧ (c.val = 7 → canSafeId x = true) ∧ (x.parity = false) ∧ ((canRxWr c
      (s.can c) + 8192 - canRxRd c (s.can c)) % 8192 = 4096)) := by
  decide +kernel
theorem test_hyp_canReception_2 :
    (let s : State := chipWith (fun q => { q with regs := rset (rset (q.regs) (Reg.CAN_CTL 0) 0x80000000) (Reg.CAN_STAT 0) 0 });
      let c : Fin 8 := 0; let x : CanRx := ⟨5, 0x04000000, false, false, false, false, false, 8, [1, 2, 3], true, 119⟩; (s.canRuns c) ∧
      (canEn c (s.can c) = true) ∧ (canActive c (s.can c) = true) ∧ (c.val = 7 → canSafeId x = true) ∧ (x.parity = true)) ∧
    (let s : State := heathWith (fun h => { h with regs := rset (rset (h.regs) (Reg.CAN_CTL 7) 0x80000000) (Reg.CAN_STAT 7) 0 });
      let x : CanRx := ⟨5, 0x04800000, false, false, false, false, false, 8, [1, 2, 3], false, 119⟩; (s.canRuns 7) ∧ (canEn 7 (s.can 7) =
      true) ∧ (canActive 7 (s.can 7) = true) ∧ (canSafeId x = false)) ∧
    (let s : State := heathWith (fun h => { h with regs := rset (rset (h.regs) (Reg.CAN_CTL 7) 0x80000000) (Reg.CAN_STAT 7) 0 });
      let x : CanRx := ⟨5, 0x04000000, true, false, false, false, false, 8, [1, 2, 3], false, 119⟩; (s.canRuns 7) ∧ (canEn 7 (s.can 7) =
      true) ∧ (canActive 7 (s.can 7) = true) ∧ (canSafeId x = false)) := by
  decide +kernel

theorem test_hyp_canSending_1 :
    (let s : State :=
      { chipWith (fun q => { q with regs := rset (rset (rset (rset (q.regs) (Reg.CAN_CTL 3) 0x80000000) (Reg.CAN_STAT 3) 0) (Reg.CAN_SW_IDX 3) 1) (Reg.CAN_ECNT 3) 7 }) with mem := memWrWord [] (0x17000C) 0x04081234 };
      let c : Fin 8 := 3; (s.canRuns c) ∧ (canEn c (s.can c) = true) ∧ (canActive c (s.can c) = true) ∧ (canLom c (s.can c) = false) ∧
      ((s.can c).st.last = false) ∧ (canTxRd c (s.can c) ≠ canTxWr c (s.can c)) ∧ ((s.can c).st.aborted = none) ∧ (canEntryOk (memWord
      (s.can c).mem (canFifo (s.can c) (canTxRd c (s.can c)) + 12)) = true) ∧ ((s.can c).b (Reg.CAN_CTL c) 28 = false)) ∧
    (let s : State := heathWith (fun h =>
      { h with regs := rset (rset (rset (h.regs) (Reg.CAN_CTL 7) 0x80000000) (Reg.CAN_STAT 7) 0) (Reg.CAN_SW_IDX 7) 1, sram := memWrWord h.sram 0x5000C 0x04081234 });
      let c : Fin 8 := 7; (s.canRuns c) ∧ (canEn c (s.can c) = true) ∧ (canActive c (s.can c) = true) ∧ (canLom c (s.can c) = false) ∧
      ((s.can c).st.last = false) ∧ (canTxRd c (s.can c) ≠ canTxWr c (s.can c)) ∧ ((s.can c).st.aborted = none) ∧ (canEntryOk (memWord
      (s.can c).mem (canFifo (s.can c) (canTxRd c (s.can c)) + 12)) = true) ∧ ((s.can c).b (Reg.CAN_CTL c) 28 = false)) ∧
    (let s : State :=
      { chipWith (fun q => { q with regs := rset (rset (rset (rset (q.regs) (Reg.CAN_CTL 3) 0x80000000) (Reg.CAN_STAT 3) 0) (Reg.CAN_SW_IDX 3) 1) (Reg.CAN_CTL 3) 0x90000000 }) with mem := memWrWord [] (0x17000C) 0x04081234 };
      let c : Fin 8 := 3; (s.canRuns c) ∧ (canEn c (s.can c) = true) ∧ (canActive c (s.can c) = true) ∧ (canLom c (s.can c) = false) ∧
      ((s.can c).st.last = false) ∧ (canTxRd c (s.can c) ≠ canTxWr c (s.can c)) ∧ ((s.can c).st.aborted = none) ∧ (canEntryOk (memWord
      (s.can c).mem (canFifo (s.can c) (canTxRd c (s.can c)) + 12)) = true) ∧ ((s.can c).b (Reg.CAN_CTL c) 28 = true) ∧ ((canRxWr c (s.can
      c) + 8192 - canRxRd c (s.can c)) % 8192 ≠ 4096)) ∧
    (let s : State := heathWith (fun h =>
      { h with regs := rset (rset (rset (rset (h.regs) (Reg.CAN_CTL 7) 0x80000000) (Reg.CAN_STAT 7) 0) (Reg.CAN_SW_IDX 7) 1) (Reg.CAN_CTL 7) 0x90000000, sram := memWrWord h.sram 0x5000C 0x04081234 });
      let c : Fin 8 := 7; (s.canRuns c) ∧ (canEn c (s.can c) = true) ∧ (canActive c (s.can c) = true) ∧ (canLom c (s.can c) = false) ∧
      ((s.can c).st.last = false) ∧ (canTxRd c (s.can c) ≠ canTxWr c (s.can c)) ∧ ((s.can c).st.aborted = none) ∧ (canEntryOk (memWord
      (s.can c).mem (canFifo (s.can c) (canTxRd c (s.can c)) + 12)) = true) ∧ ((s.can c).b (Reg.CAN_CTL c) 28 = true) ∧ ((canRxWr c (s.can
      c) + 8192 - canRxRd c (s.can c)) % 8192 ≠ 4096)) := by
  decide +kernel
theorem test_hyp_canSending_2 :
    (let s : State :=
      { chipWith (fun q => { q with regs := rset (rset (rset (q.regs) (Reg.CAN_CTL 1) 0x80000000) (Reg.CAN_STAT 1) 0) (Reg.CAN_SW_IDX 1) 1 }) with mem := memWrWord [] (0xB000C) 0x64081234 };
      let c : Fin 8 := 1; (s.canRuns c) ∧ (canEn c (s.can c) = true) ∧ (canActive c (s.can c) = true) ∧ (canLom c (s.can c) = false) ∧
      (canTxRd c (s.can c) ≠ canTxWr c (s.can c)) ∧ ((s.can c).st.aborted = none) ∧ (canEntryOk (memWord (s.can c).mem (canFifo (s.can c)
      (canTxRd c (s.can c)) + 12)) = false) ∧ (canFirst c (s.can c) (canTxRd c (s.can c)) = canTxWr c (s.can c))) ∧
    (let s : State := heathWith (fun h =>
      { h with regs := rset (rset (rset (h.regs) (Reg.CAN_CTL 7) 0x80000000) (Reg.CAN_STAT 7) 0) (Reg.CAN_SW_IDX 7) 1, sram := memWrWord h.sram 0x5000C 0x04071234 });
      let c : Fin 8 := 7; (s.canRuns c) ∧ (canEn c (s.can c) = true) ∧ (canActive c (s.can c) = true) ∧ (canLom c (s.can c) = false) ∧
      (canTxRd c (s.can c) ≠ canTxWr c (s.can c)) ∧ ((s.can c).st.aborted = none) ∧ (canEntryOk (memWord (s.can c).mem (canFifo (s.can c)
      (canTxRd c (s.can c)) + 12)) = false) ∧ (canFirst c (s.can c) (canTxRd c (s.can c)) = canTxWr c (s.can c))) ∧
    (let s : State := chipWith (fun q =>
      { q with regs := rset (rset (rset (rset (q.regs) (Reg.CAN_CTL 4) 0x80000000) (Reg.CAN_STAT 4) 0) (Reg.CAN_SW_IDX 4) 1) (Reg.CAN_ECNT 4) 250 });
      let c : Fin 8 := 4; let x : CanErr := ⟨true, false, false, 2, false, 8, 0⟩; (s.canRuns c) ∧ (canActive c (s.can c) = true) ∧ (canLom c
      (s.can c) = false) ∧ ((s.can c).st.last = false) ∧ (x.tx = true) ∧ (x.lost = false) ∧ (x.pxe = false) ∧ (canTxRd c (s.can c) ≠ canTxWr
      c (s.can c)) ∧ ((s.can c).st.aborted = none)) ∧
    (let s : State := heathWith (fun h =>
      { h with regs := rset (rset (rset (rset (h.regs) (Reg.CAN_CTL 7) 0x80000000) (Reg.CAN_STAT 7) 0) (Reg.CAN_SW_IDX 7) 1) (Reg.CAN_CTL 7) 0xA0000000 });
      let c : Fin 8 := 7; let x : CanErr := ⟨true, false, false, 2, true, 8, 0⟩; (s.canRuns c) ∧ (canActive c (s.can c) = true) ∧ (canLom c
      (s.can c) = false) ∧ ((s.can c).st.last = false) ∧ (x.tx = true) ∧ (x.lost = false) ∧ (x.pxe = false) ∧ (canTxRd c (s.can c) ≠ canTxWr
      c (s.can c)) ∧ ((s.can c).st.aborted = none)) := by
  decide +kernel
theorem test_hyp_canSending_3 :
    (let s : State := chipWith (fun q =>
      { q with regs := rset (rset (rset (rset (q.regs) (Reg.CAN_CTL 4) 0x80000000) (Reg.CAN_STAT 4) 0) (Reg.CAN_SW_IDX 4) 1) (Reg.CAN_CTL 4) 0xA0000000 });
      let c : Fin 8 := 4; let x : CanErr := ⟨true, true, false, 0, false, 0, 0⟩; (s.canRuns c) ∧ (canActive c (s.can c) = true) ∧ (x.pxe =
      false) ∧ (x.tx = true) ∧ (x.lost = true) ∧ ((s.can c).st.last = false) ∧ ((s.can c).b (Reg.CAN_CTL c) 29 = true) ∧ (canTxRd c (s.can
      c) ≠ canTxWr c (s.can c)) ∧ ((s.can c).st.aborted = none)) ∧
    (let s : State := heathWith (fun h =>
      { h with regs := rset (rset (rset (rset (h.regs) (Reg.CAN_CTL 7) 0x80000000) (Reg.CAN_STAT 7) 0) (Reg.CAN_SW_IDX 7) 1) (Reg.CAN_CTL 7) 0xA0000000 });
      let c : Fin 8 := 7; let x : CanErr := ⟨true, true, false, 0, false, 0, 0⟩; (s.canRuns c) ∧ (canActive c (s.can c) = true) ∧ (x.pxe =
      false) ∧ (x.tx = true) ∧ (x.lost = true) ∧ ((s.can c).st.last = false) ∧ ((s.can c).b (Reg.CAN_CTL c) 29 = true) ∧ (canTxRd c (s.can
      c) ≠ canTxWr c (s.can c)) ∧ ((s.can c).st.aborted = none)) ∧
    (let s : State := chipWith (fun q =>
      { q with regs := rset (rset (rset (q.regs) (Reg.CAN_CTL 5) 0x80000000) (Reg.CAN_STAT 5) 0) (Reg.CAN_SW_IDX 5) 3 }); let p : Plane :=
      .data; let c : Fin 8 := 5; (s.canRuns c) ∧ (s.takes p (Reg.CAN_CMD c) 2 = some 2)) ∧
    (let s : State := heathWith (fun h =>
      { h with regs := rset (rset (rset (h.regs) (Reg.CAN_CTL 7) 0x80000000) (Reg.CAN_STAT 7) 0) (Reg.CAN_SW_IDX 7) 3 }); let p : Plane :=
      .heath; let c : Fin 8 := 7; (s.canRuns c) ∧ (s.takes p (Reg.CAN_CMD c) 2 = some 2)) ∧
    (let s : State :=
      { chipWith (fun q => { q with regs := rset (rset (rset (q.regs) (Reg.CAN_CTL 3) 0x80000000) (Reg.CAN_STAT 3) 0) (Reg.CAN_SW_IDX 3) 2 }) with mem := memWrWord (memWrWord [] (0x17000C) 0x64081234) (0x17005C) 0x04081235 };
      let c : Fin 8 := 3; let j : Nat := 1; (s.canRuns c) ∧ (canEn c (s.can c) = true) ∧ (canActive c (s.can c) = true) ∧ (canLom c (s.can
      c) = false) ∧ ((s.can c).st.last = false) ∧ (canTxRd c (s.can c) ≠ canTxWr c (s.can c)) ∧ ((s.can c).st.aborted = none) ∧ (canFirst c
      (s.can c) (canTxRd c (s.can c)) = j) ∧ (canTxRd c (s.can c) ≠ j) ∧ (j ≠ canTxWr c (s.can c))) := by
  decide +kernel

theorem test_hyp_canConfinement_1 :
    (let s : State := chipWith (fun q =>
      { q with regs := rset (rset (rset (q.regs) (Reg.CAN_CTL 6) 0x80000000) (Reg.CAN_STAT 6) 0) (Reg.CAN_STAT 6) 0x80000000 });
      let p : Plane := .data; let c : Fin 8 := 6; (s.canRuns c) ∧ (s.takes p (Reg.CAN_CMD c) 1 = some 1) ∧ (canState c (s.can c) = 2) ∧
      (c.val ≠ 7)) ∧
    (let s : State := chipWith (fun q => { q with regs := rset (rset (q.regs) (Reg.CAN_CTL 6) 0x80000000) (Reg.CAN_STAT 6) 0 });
      let p : Plane := .data; let c : Fin 8 := 6; (s.canRuns c) ∧ (s.takes p (Reg.CAN_CMD c) 1 = some 1) ∧ (canState c (s.can c) ≠ 2 ∨ c.val
      = 7)) ∧
    (let s : State := heathWith (fun h =>
      { h with regs := rset (rset (rset (h.regs) (Reg.CAN_CTL 7) 0x80000000) (Reg.CAN_STAT 7) 0) (Reg.CAN_STAT 7) 0x80000000 });
      let p : Plane := .heath; let c : Fin 8 := 7; (s.canRuns c) ∧ (s.takes p (Reg.CAN_CMD c) 1 = some 1) ∧ (canState c (s.can c) ≠ 2 ∨
      c.val = 7)) ∧
    (let s : State := atUp 400000 (chipWith (fun q =>
      { q with regs := rset (rset (rset (q.regs) (Reg.CAN_CTL 1) 0x80000002) (Reg.CAN_STAT 1) 0) (Reg.CAN_STAT 1) 0x80000000 }));
      let c : Fin 8 := 1; (s.canRuns c) ∧ (canState c (s.can c) = 2) ∧ ((s.can c).st.boAt + 200000 * (s.can c).f (Reg.CAN_CTL c) 0 16 ≤
      s.env.time.up)) := by
  decide +kernel
theorem test_hyp_canConfinement_2 :
    (let s : State := atUp 400007 (heathWith (fun h =>
      { h with can := { h.can with boAt := 7 }, regs := rset (rset (rset (h.regs) (Reg.CAN_CTL 7) 0x80000002) (Reg.CAN_STAT 7) 0) (Reg.CAN_STAT 7) 0x80000000 }));
      let c : Fin 8 := 7; (s.canRuns c) ∧ (canState c (s.can c) = 2) ∧ ((s.can c).st.boAt + 200000 * (s.can c).f (Reg.CAN_CTL c) 0 16 ≤
      s.env.time.up)) ∧
    (let s : State := chipWith (fun q =>
      { q with regs := rset (rset (rset (rset (q.regs) (Reg.CAN_CTL 1) 0x80000000) (Reg.CAN_STAT 1) 0) (Reg.CAN_STAT 1) 0xB0000000) (Reg.CAN_ECNT 1) 0x55AA });
      let c : Fin 8 := 1; (s.canRuns c) ∧ (canState c (s.can c) = 2) ∧ ((s.can c).b (Reg.CAN_STAT c) 28 = true)) ∧
    (let s : State := heathWith (fun h =>
      { h with regs := rset (rset (rset (h.regs) (Reg.CAN_CTL 7) 0x80000000) (Reg.CAN_STAT 7) 0) (Reg.CAN_STAT 7) 0xB0000000 });
      let c : Fin 8 := 7; (s.canRuns c) ∧ (canState c (s.can c) = 2) ∧ ((s.can c).b (Reg.CAN_STAT c) 28 = true)) ∧
    (let s : State := chipWith (fun q =>
      { q with regs := rset (rset (rset (q.regs) (Reg.CAN_CTL 1) 0x80000000) (Reg.CAN_STAT 1) 0) (Reg.CAN_STAT 1) 0xC0000000 });
      let c : Fin 8 := 1; (s.canRuns c) ∧ (canEn c (s.can c) = true) ∧ (canState c (s.can c) = 3)) := by
  decide +kernel
theorem test_hyp_canConfinement_3 :
    (let s : State := heathWith (fun h =>
      { h with regs := rset (rset (rset (h.regs) (Reg.CAN_CTL 7) 0x80000000) (Reg.CAN_STAT 7) 0) (Reg.CAN_STAT 7) 0xC0000000 });
      let c : Fin 8 := 7; (s.canRuns c) ∧ (canEn c (s.can c) = true) ∧ (canState c (s.can c) = 3)) ∧
    (let s : State := chipWith (fun q =>
      { q with regs := rset (rset (rset (q.regs) (Reg.CAN_CTL 1) 0x80000000) (Reg.CAN_STAT 1) 0) (Reg.CAN_HW_IDX 1) 0x00050000 });
      let p : Plane := .data; let c : Fin 8 := 1; let v : Word := 0x00030002; let w : Word := 0x00030002; (s.canRuns c) ∧ (s.takes p
      (Reg.CAN_SW_IDX c) v = some w)) ∧
    (let s : State := heathWith (fun h => { h with regs := rset (rset (h.regs) (Reg.CAN_CTL 7) 0x80000000) (Reg.CAN_STAT 7) 0 });
      let p : Plane := .heath; let c : Fin 8 := 7; let v : Word := 0x00030040; let w : Word := 0x00030040; (s.canRuns c) ∧ (s.takes p
      (Reg.CAN_SW_IDX c) v = some w)) ∧
    (let s : State := heathWith (fun h => { h with regs := rset (rset (h.regs) (Reg.CAN_CTL 7) 0x80000000) (Reg.CAN_STAT 7) 0 });
      let p : Plane := .heath; let c : Fin 8 := 7; let v : Word := 0x00000041; let w : Word := 0x00000041; (s.canRuns c) ∧ (s.takes p
      (Reg.CAN_SW_IDX c) v = some w)) := by
  decide +kernel

/-- A chip whose Hedgerow is on, with a mapped ring at 0, changed registers and its own state, over a memory. -/
def hdgWith (l : List (Nat × Word)) (f : HdgSt → HdgSt) (m : List Host.Cell) : State :=
  let s := chipWith (fun c => (l.foldl (fun c x => c.wr x.1 x.2) (c.wr Reg.HDG_CFG 0x80000003)).onHdg f)
  { s with mem := m }
/-- A node table whose entry 3 carries an EUI. -/
def hdgNode3 : List Host.Cell := memWrWord [] 0x40030 0x77

theorem test_hyp_hedgerowSending_1 :
    (let s : State := hdgWith [(Reg.HDG_SW_IDX, 1)] id (memWrWord [] 0x20000 0x10300004); (hdgOn s.env s.chip = true) ∧ (hdgMaySend s.chip =
      true) ∧ (s.chip.hdg.off = false) ∧ (hdgTxRd s.chip ≠ hdgTxWr s.chip) ∧ (s.chip.hdg.waiting = false) ∧ (fget (memWord s.mem (hdgTxAddr
      s.chip)) 28 4 = 1 ∨ fget (memWord s.mem (hdgTxAddr s.chip)) 28 4 = 5) ∧ (fget (memWord s.mem (hdgTxAddr s.chip)) 20 8 ≠ 0xFF)) ∧
    (let s : State := hdgWith [(Reg.HDG_SW_IDX, 1)] id (memWrWord [] 0x20000 0x1FFC0004); (hdgOn s.env s.chip = true) ∧ (hdgMaySend s.chip =
      true) ∧ (s.chip.hdg.off = false) ∧ (hdgTxRd s.chip ≠ hdgTxWr s.chip) ∧ (s.chip.hdg.waiting = false) ∧ (fget (memWord s.mem (hdgTxAddr
      s.chip)) 28 4 = 1 ∨ fget (memWord s.mem (hdgTxAddr s.chip)) 28 4 = 5) ∧ (fget (memWord s.mem (hdgTxAddr s.chip)) 20 8 = 0xFF)) ∧
    (let s : State := hdgWith [(Reg.HDG_SW_IDX, 1)] id (memWrWord [] 0x20000 0x30300004); (hdgOn s.env s.chip = true) ∧ (hdgMaySend s.chip =
      true) ∧ (s.chip.hdg.off = false) ∧ (hdgTxRd s.chip ≠ hdgTxWr s.chip) ∧ (s.chip.hdg.waiting = false) ∧ (fget (memWord s.mem (hdgTxAddr
      s.chip)) 28 4 ≠ 1 ∧ fget (memWord s.mem (hdgTxAddr s.chip)) 28 4 ≠ 5)) ∧
    (let s : State := hdgWith [] (fun h => { h with acks := [3, 4] }) []; let a : Nat := 3; let l : List Nat := [4]; (hdgOn s.env s.chip =
      true) ∧ (hdgMaySend s.chip = true) ∧ (s.chip.hdg.off = false) ∧ (s.chip.hdg.acks = a :: l)) := by
  decide +kernel
theorem test_hyp_hedgerowSending_2 :
    (let s : State := hdgWith [] (fun h => { h with joins := [3, 4] }) []; let a : Nat := 3; let l : List Nat := [4]; (hdgOn s.env s.chip =
      true) ∧ (hdgMaySend s.chip = true) ∧ (s.chip.hdg.off = false) ∧ (s.chip.hdg.joins = a :: l)) ∧
    (let s : State := hdgWith [] (fun h => { h with forwards := [{ type := 1, next := 3 }] }) []; let f : HdgFwd :=
      { type := 1, next := 3 }; let l : List HdgFwd := []; (hdgOn s.env s.chip = true) ∧ (hdgMaySend s.chip = true) ∧ (s.chip.hdg.off =
      false) ∧ (s.chip.hdg.forwards = f :: l)) ∧
    (let s : State := hdgWith [] (fun h => { h with beacon := true }) []; (hdgOn s.env s.chip = true) ∧ (hdgMaySend s.chip = true) ∧
      (s.chip.hdg.off = false) ∧ (s.chip.hdg.beacon = true)) ∧
    (let s : State := atUp 1728005 (hdgWith [(Reg.HDG_SW_IDX, 1)] (fun h => { h with waiting := true, tries := 2, sentAt := 5 }) []);
      (s.chip.hdg.waiting = true) ∧ (s.chip.hdg.sentAt + 6 * 288000 ≤ s.env.time.up) ∧ (s.chip.hdg.tries < s.chip.f Reg.HDG_CFG 0 4)) := by
  decide +kernel
theorem test_hyp_hedgerowSending_3 :
    (let s : State := atUp 1728005 (hdgWith [(Reg.HDG_SW_IDX, 1)] (fun h => { h with waiting := true, tries := 3, sentAt := 5 }) []);
      (s.chip.hdg.waiting = true) ∧ (s.chip.hdg.sentAt + 6 * 288000 ≤ s.env.time.up) ∧ (s.chip.f Reg.HDG_CFG 0 4 ≤ s.chip.hdg.tries)) ∧
    (let s : State := atUp 60000000000 (hdgWith [] id []); (hdgOn s.env s.chip = true) ∧ (hdgMaySend s.chip = true) ∧ (s.chip.hdg.beaconAt +
      hdgPeriod s.chip ≤ s.env.time.up)) ∧
    (let s : State := hdgWith [] id []; (hdgOn s.env s.chip = true) ∧ (s.chip.hdg.off = false)) ∧
    (let s : State := hdgWith [(Reg.HDG_SW_IDX, 1)] id (memWrWord [] 0x20000 0x1FF00004); (hdgOn s.env s.chip = true) ∧ (s.chip.hdg.off =
      false) ∧ (hdgTxRd s.chip ≠ hdgTxWr s.chip) ∧ (s.chip.hdg.waiting = false) ∧ (fget (memWord s.mem (hdgTxAddr s.chip)) 20 8 = 0xFF ∨
      s.chip.f Reg.HDG_CFG 0 4 ≤ s.chip.hdg.tries)) := by
  decide +kernel
theorem test_hyp_hedgerowSending_4 :
    (let s : State := hdgWith [(Reg.HDG_SW_IDX, 1)] id (memWrWord [] 0x20000 0x10300004); (hdgOn s.env s.chip = true) ∧ (s.chip.hdg.off =
      false) ∧ (hdgTxRd s.chip ≠ hdgTxWr s.chip) ∧ (s.chip.hdg.waiting = false) ∧ (fget (memWord s.mem (hdgTxAddr s.chip)) 20 8 ≠ 0xFF) ∧
      (s.chip.hdg.tries < s.chip.f Reg.HDG_CFG 0 4)) ∧
    (let s : State := atUp 200000009 (hdgWith [] (fun h => { h with off := true, offAt := 9 }) []); (s.chip.hdg.off = true) ∧
      (s.chip.hdg.offAt + 200000000 ≤ s.env.time.up)) ∧
    (let s : State := hdgWith [(Reg.HDG_STAT, 0x40000000)] id []; (zcDue s.env s.chip = true)) ∧
    (let s : State := hdgWith [(Reg.HDG_HW_IDX, 0x00050000)] id []; let p : Plane := .management; let v : Word := 0x00030040; let w : Word
      := 0x00030040; (s.takes p Reg.HDG_SW_IDX v = some w)) := by
  decide +kernel
theorem test_hyp_hedgerowSending_5 :
    (let s : State := hdgWith [] id []; let p : Plane := .management; let v : Word := 0x00010041; let w : Word := 0x00010041; (s.takes p
      Reg.HDG_SW_IDX v = some w)) ∧
    (let l : List Byte := [1]; (l ≠ []) ∧ (l.length ≤ 239)) ∧
    (let bits : Nat := 33; let ilv : Nat := 56; (1 ≤ bits) ∧ (1 ≤ ilv)) := by
  decide +kernel

theorem test_hyp_hedgerowReception_1 :
    (let x : HdgRx :=
      { hdr := 5, ctr := 9, tagOk := true, eui := 0, data := [], nbrs := [], route := [], snr := 80, r := some 700, ts := 0x100000005 };
      (hdgCrcOk x.hdr = false)) ∧
    (let s : State := hdgWith [] id hdgNode3; let x : HdgRx :=
      { hdr := 1156303601302472129, ctr := 9, tagOk := true, eui := 0, data := [1, 2, 3, 4], nbrs := [], route := [], snr := 80, r := some 700, ts := 0x100000005 };
      (hdgOn s.env s.chip = true) ∧ (hdgCrcOk x.hdr = true) ∧ (hdgF x 60 4 = 1 ∨ hdgF x 60 4 = 5) ∧ (hdgF x 42 8 = 0) ∧ ((s.chip.hdgPeer
      (hdgF x 50 8)).lastSeq ≠ some (hdgF x 8 4)) ∧ (hdgUsed (s.chip, s.mem) (hdgF x 50 8) = true) ∧ (hdgAuth (hdgEui (s.chip, s.mem) (hdgF
      x 50 8)) x s.chip = true) ∧ (x.route = []) ∧ ((hdgRxWr s.chip + 128 - hdgRxRd s.chip) % 128 ≠ 64)) ∧
    (let s : State := hdgWith [(Reg.HDG_STAT, 0x40000800)] id hdgNode3; let x : HdgRx :=
      { hdr := 5767985544879637871, ctr := 9, tagOk := true, eui := 0, data := [1, 2, 3, 4], nbrs := [], route := [], snr := 80, r := some 700, ts := 0x100000005 };
      (hdgOn s.env s.chip = true) ∧ (hdgCrcOk x.hdr = true) ∧ (hdgF x 60 4 = 1 ∨ hdgF x 60 4 = 5) ∧ (hdgF x 42 8 = 0) ∧ ((s.chip.hdgPeer
      (hdgF x 50 8)).lastSeq ≠ some (hdgF x 8 4)) ∧ (hdgUsed (s.chip, s.mem) (hdgF x 50 8) = true) ∧ (hdgAuth (hdgEui (s.chip, s.mem) (hdgF
      x 50 8)) x s.chip = true) ∧ (x.route = []) ∧ ((hdgRxWr s.chip + 128 - hdgRxRd s.chip) % 128 ≠ 64)) ∧
    (let s : State := hdgWith [] (fun h => { h with peers := [(3, { lastSeq := some 5 })] }) hdgNode3; let x : HdgRx :=
      { hdr := 1156303601302472129, ctr := 9, tagOk := true, eui := 0, data := [], nbrs := [], route := [], snr := 80, r := some 700, ts := 0x100000005 };
      (hdgOn s.env s.chip = true) ∧ (hdgCrcOk x.hdr = true) ∧ (hdgF x 60 4 = 1 ∨ hdgF x 60 4 = 5) ∧ (hdgF x 42 8 = 0) ∧ ((s.chip.hdgPeer
      (hdgF x 50 8)).lastSeq = some (hdgF x 8 4))) := by
  decide +kernel
theorem test_hyp_hedgerowReception_2 :
    (let s : State := hdgWith [] id hdgNode3; let x : HdgRx :=
      { hdr := 1156303601302472129, ctr := 9, tagOk := false, eui := 0, data := [], nbrs := [], route := [], snr := 80, r := some 700, ts := 0x100000005 };
      (hdgOn s.env s.chip = true) ∧ (hdgCrcOk x.hdr = true) ∧ (hdgF x 60 4 = 1 ∨ hdgF x 60 4 = 3 ∨ hdgF x 60 4 = 5) ∧ (hdgF x 42 8 = 0 ∨
      hdgF x 42 8 = 0xFF) ∧ (hdgF x 60 4 = 3 ∨ (s.chip.hdgPeer (hdgF x 50 8)).lastSeq ≠ some (hdgF x 8 4)) ∧ (x.tagOk = false ∨ hdgDecodes x
      = false)) ∧
    (let s : State := hdgWith [(Reg.HDG_SW_IDX, 1)] (fun h => { h with waiting := true, tries := 1 }) (memWrWord hdgNode3 0x20000
      0x10300004); let x : HdgRx :=
      { hdr := 2309225105907221789, ctr := 9, tagOk := true, eui := 0, data := [], nbrs := [], route := [], snr := 80, r := some 700, ts := 0x100000005 };
      (hdgOn s.env s.chip = true) ∧ (hdgCrcOk x.hdr = true) ∧ (hdgF x 60 4 = 2) ∧ (hdgF x 42 8 = 0) ∧ (s.chip.hdg.waiting = true) ∧ (hdgHop
      s.chip (fget (memWord s.mem (hdgTxAddr s.chip)) 20 8) = hdgF x 50 8)) ∧
    (let s : State := hdgWith [] id hdgNode3; let x : HdgRx :=
      { hdr := 4611690415400386569, ctr := 9, tagOk := true, eui := 0x77, data := [], nbrs := [], route := [], snr := 80, r := some 700, ts := 0x100000005 };
      let a : Nat := 3; (hdgOn s.env s.chip = true) ∧ (hdgCrcOk x.hdr = true) ∧ (hdgF x 60 4 = 4) ∧ (hdgAuth x.eui.toNat x s.chip = true) ∧
      (hdgAddrs.find? (fun b => hdgUsed (s.chip, s.mem) b && hdgEui (s.chip, s.mem) b == x.eui.toNat) = some a) ∧ (hdgMaySend s.chip =
      true)) ∧
    (let s : State := hdgWith [] id hdgNode3; let x : HdgRx :=
      { hdr := 4611690415400386569, ctr := 9, tagOk := true, eui := 0x78, data := [], nbrs := [], route := [], snr := 80, r := some 700, ts := 0x100000005 };
      (hdgOn s.env s.chip = true) ∧ (hdgCrcOk x.hdr = true) ∧ (hdgF x 60 4 = 4) ∧ (hdgAuth x.eui.toNat x s.chip = true) ∧ (hdgAddrs.find?
      (fun b => hdgUsed (s.chip, s.mem) b && hdgEui (s.chip, s.mem) b == x.eui.toNat) = none)) := by
  decide +kernel
theorem test_hyp_hedgerowReception_3 :
    (let s : State := hdgWith [(Reg.HDG_ROUTE, 0x00800010)] (fun h => { h with peers := [(3, { snrs := [50], heard := some 0 })] })
      hdgNode3; let x : HdgRx :=
      { hdr := 3463268112374400547, ctr := 9, tagOk := true, eui := 0, data := [], nbrs := [(0, 60)], route := [], snr := 80, r := some 700, ts := 0x100000005 };
      (hdgOn s.env s.chip = true) ∧ (hdgCrcOk x.hdr = true) ∧ (hdgF x 60 4 = 3) ∧ (hdgF x 50 8 ≠ 0) ∧ (hdgUsed (s.chip, s.mem) (hdgF x 50 8)
      = true) ∧ (hdgAuth (hdgEui (s.chip, s.mem) (hdgF x 50 8)) x s.chip = true)) ∧
    (let s : State := hdgWith [] id hdgNode3; let x : HdgRx :=
      { hdr := 1156334387628049765, ctr := 9, tagOk := true, eui := 0, data := [], nbrs := [], route := [], snr := 80, r := some 700, ts := 5 };
      (hdgOn s.env s.chip = true) ∧ (hdgCrcOk x.hdr = true) ∧ (hdgF x 60 4 = 1 ∨ hdgF x 60 4 = 5) ∧ (hdgF x 42 8 ≠ 0 ∧ hdgF x 42 8 ≠ 0xFF)) ∧
    (let s : State := hdgWith [] id hdgNode3; let x : HdgRx :=
      { hdr := 1156303601302472129, ctr := 9, tagOk := true, eui := 0, data := [], nbrs := [], route := [], errs := [9], snr := 80, r := some 700, ts := 0x100000005 };
      (hdgOn s.env s.chip = true) ∧ (hdgCrcOk x.hdr = true) ∧ (hdgF x 60 4 = 1 ∨ hdgF x 60 4 = 3 ∨ hdgF x 60 4 = 5) ∧ (hdgF x 42 8 = 0 ∨
      hdgF x 42 8 = 0xFF) ∧ (hdgF x 60 4 = 3 ∨ (s.chip.hdgPeer (hdgF x 50 8)).lastSeq ≠ some (hdgF x 8 4)) ∧ (x.tagOk = false ∨ hdgDecodes x
      = false)) := by
  decide +kernel

theorem test_hyp_pwmWaveform_1 :
    (let s : State := atUp 1000 (chipWith (fun c =>
      { ([(Reg.PWM_CH_CFG 2, 0xC0000000), (Reg.PWM_CH_STAT 2, 0x20000000), (Reg.PWM_SH_CMP 2, 40), (Reg.PWM_SH_PERIOD 2, 100), (Reg.PWM_ACT_PERIOD 2, 99), (Reg.PWM_CH_CFG 5, 0xD2000000)].foldl (fun (c : Chip) (x : Nat × Word) => c.wr x.1 x.2) c) with pwm := [(2, { at' := 900 })] }));
      let j : Fin 16 := 2; (pwmEn s.chip j = true) ∧ (s.chip.b (Reg.PWM_CH_CFG j) 28 = false) ∧ ((s.chip.pwmCh j).at' + (max 1 (s.chip.f
      (Reg.PWM_ACT_PERIOD j) 0 16) + 1) ≤ s.env.time.up)) ∧
    (let s : State := atUp 1040 (chipWith (fun c =>
      { ([(Reg.PWM_CH_CFG 2, 0xC0000000), (Reg.PWM_CH_DT 2, 9), (Reg.PWM_ACT_CMP 2, 40), (Reg.PWM_ACT_PERIOD 2, 40)].foldl (fun (c : Chip) (x : Nat × Word) => c.wr x.1 x.2) c) with pwm := [(2, { ref := true, at' := 1000 })] }));
      let j : Fin 16 := 2; (pwmEn s.chip j = true) ∧ ((s.chip.pwmCh j).ref = true) ∧ (s.chip.n (Reg.PWM_ACT_CMP j) < pwmLen s.chip j) ∧
      ((s.chip.pwmCh (pwmMaster s.chip j)).at' + s.chip.n (Reg.PWM_ACT_CMP j) ≤ s.env.time.up)) ∧
    (let s : State := atUp 1040 (chipWith (fun c =>
      { ([(Reg.PWM_CH_CFG 13, 0xC0000000), (Reg.QN_STAT, 0x10000000), (Reg.PWM_ACT_CMP 13, 40), (Reg.PWM_ACT_PERIOD 13, 99)].foldl (fun (c : Chip) (x : Nat × Word) => c.wr x.1 x.2) c) with pwm := [(13, { ref := true, at' := 1000 })] }));
      let j : Fin 16 := 13; (pwmEn s.chip j = true) ∧ ((s.chip.pwmCh j).ref = true) ∧ (s.chip.n (Reg.PWM_ACT_CMP j) < pwmLen s.chip j) ∧
      ((s.chip.pwmCh (pwmMaster s.chip j)).at' + s.chip.n (Reg.PWM_ACT_CMP j) ≤ s.env.time.up)) ∧
    (let s : State := atUp 77 (chipWith (fun c =>
      { ([(Reg.PWM_CH_CFG 2, 0xC0000000), (Reg.QN_STAT, 0x10000000)].foldl (fun (c : Chip) (x : Nat × Word) => c.wr x.1 x.2) c) with pwm := [(2, { ref := true, dtPend := 1, dtAt := 77 })] }));
      let j : Fin 16 := 2; ((s.chip.pwmCh j).dtPend ≠ 0) ∧ ((s.chip.pwmCh j).dtAt ≤ s.env.time.up)) := by
  decide +kernel
theorem test_hyp_pwmWaveform_2 :
    (let s : State := atUp 77 (chipWith (fun c =>
      { ([(Reg.PWM_CH_CFG 2, 0xC0300000)].foldl (fun (c : Chip) (x : Nat × Word) => c.wr x.1 x.2) c) with pwm := [(2, { ref := true, dtPend := 2, dtAt := 77 })] }));
      let j : Fin 16 := 2; ((s.chip.pwmCh j).dtPend ≠ 0) ∧ ((s.chip.pwmCh j).dtAt ≤ s.env.time.up)) ∧
    (let s : State := chipWith (fun c =>
      { ([(Reg.PWM_CH_CFG 2, 0xC0000000), (Reg.PWM_CH_CFG 3, 0xE0000000)].foldl (fun (c : Chip) (x : Nat × Word) => c.wr x.1 x.2) c) with pwm := [] });
      let p : Plane := .control; let v : Word := 1; let w : Word := 1; (s.takes p Reg.PWM_LOAD_ALL v = some w) ∧ (fbit w 0 = true)) ∧
    (let s : State := chipWith (fun c => c.wr (Reg.PWM_CH_CFG 3) 0xC0000000); let p : Plane := .control; let j : Fin 16 := 3; let a : Nat := 0x700054CC; let v : Word := 700; let w : Word := 700; ((a = Reg.PWM_SH_PERIOD j ∨ a = Reg.PWM_SH_CMP j)) ∧ (s.chip.b
      (Reg.PWM_CH_CFG j) 29 = false) ∧ (s.takes p a v = some w)) := by
  decide +kernel

theorem test_hyp_pwmTrips_1 :
    (let s : State := chipWith (fun c =>
      { ([(Reg.PWM_TRIP_CFG 5, 0x80000000), (Reg.PWM_CH_CFG 2, 0xC0202000), (Reg.PWM_CH_CFG 3, 0xC0001F00), (Reg.PWM_CH_CFG 15, 0xC0003000)].foldl (fun (c : Chip) (x : Nat × Word) => c.wr x.1 x.2) c) with pwm := [] });
      let x : TripLevel := { input := 5 }; let n : Fin 6 := 5; (x.input = n) ∧ (tripDue s.chip x = true) ∧ ((s.chip.b (Reg.PWM_TRIP_CFG n)
      29 = true → reloadDue s.env s.chip (pwmMaster s.chip (s.chip.f (Reg.PWM_TRIP_CFG n) 24 4)) = false)) ∧ (pwmBlanked s.chip n = false)) ∧
    (let s : State := chipWith (fun c =>
      { ([(Reg.PWM_TRIP_CFG 5, 0xA2000000), (Reg.PWM_CH_CFG 2, 0xC0202000), (Reg.QN_STAT, 0x10000000)].foldl (fun (c : Chip) (x : Nat × Word) => c.wr x.1 x.2) c) with pwm := [(2, { ref := true })] });
      let x : TripLevel := { input := 5 }; let n : Fin 6 := 5; (x.input = n) ∧ (tripDue s.chip x = true) ∧ ((s.chip.b (Reg.PWM_TRIP_CFG n)
      29 = true → reloadDue s.env s.chip (pwmMaster s.chip (s.chip.f (Reg.PWM_TRIP_CFG n) 24 4)) = false)) ∧ (pwmBlanked s.chip n = true)) ∧
    (let s : State := chipWith (fun c =>
      { ([(Reg.PWM_TRIP_CFG 1, 0xA2000000), (Reg.PWM_TRIP_STAT, 0x00020002), (Reg.PWM_CH_CFG 2, 0xC0202200)].foldl (fun (c : Chip) (x : Nat × Word) => c.wr x.1 x.2) c) with pwm := [(2, { late := 2 })] });
      let n : Fin 6 := 1; (s.chip.b (Reg.PWM_TRIP_CFG n) 31 = true) ∧ (s.chip.b (Reg.PWM_TRIP_CFG n) 29 = true) ∧ (s.chip.b
      Reg.PWM_TRIP_STAT n = true) ∧ (pwmBlanked s.chip n = false) ∧ (blankDue s.chip n = true)) ∧
    (let s : State := chipWith (fun c => c.wr (Reg.PWM_TRIP_CFG 2) 0xC0000000); let x : TripLevel := { input := 2 }; (tripActive s.chip x =
      false)) := by
  decide +kernel
theorem test_hyp_pwmTrips_2 :
    (let s : State := chipWith (fun c =>
      { ([(Reg.PWM_CH_STAT 2, 0x80000000), (Reg.PWM_CH_STAT 4, 0x80000000), (Reg.PWM_CH_CFG 4, 0xC0000100), (Reg.PWM_TRIP_CFG 0, 0x80000000), (Reg.PWM_TRIP_STAT, 1)].foldl (fun (c : Chip) (x : Nat × Word) => c.wr x.1 x.2) c) with pwm := [] });
      let p : Plane := .control; let v : Word := 0x14; let w : Word := 0x14; (s.takes p Reg.PWM_TRIP_CLR v = some w)) ∧
    (let s : State := chipWith (fun c => c.wr (Reg.PWM_TRIP_CFG 2) 0x80000004); let x : TripLevel := { input := 2, samples := 3 }; (tripDue
      s.chip x = false)) ∧
    (let s : State := State.reset; let x : TripLevel := { input := 2 }; (tripActive s.chip x = true)) ∧
    (let s : State := atUp 1000 (chipWith (fun c =>
      { ([(Reg.PWM_TRIP_CFG 5, 0xA2000000), (Reg.PWM_CH_CFG 2, 0xC0000000), (Reg.PWM_ACT_PERIOD 2, 99), (Reg.PWM_ACT_CMP 2, 30)].foldl (fun (c : Chip) (x : Nat × Word) => c.wr x.1 x.2) c) with pwm := [(2, { at' := 900 })] }));
      let x : TripLevel := { input := 5 }; let m : Nat := 2; (tripDue s.chip x = true) ∧ (s.chip.b (Reg.PWM_TRIP_CFG x.input) 29 = true) ∧
      (pwmMaster s.chip (s.chip.f (Reg.PWM_TRIP_CFG x.input) 24 4) = m) ∧ (reloadDue s.env s.chip m = true) ∧ (reloadDue s.env (pwmReload
      s.env m s.chip) m = false)) := by
  decide +kernel

theorem test_hyp_switchTrips_1 :
    (let s : State := chipWith (fun c => (fun (d : Chip) => { d with asw := { d.asw with ch := [(15, { instRun := 2 })] } })
      ([(Reg.ASW_CH_STAT 15, 0x40000000)].foldl (fun (c : Chip) (x : Nat × Word) => c.wr x.1 x.2) c)); let j : Fin 16 := 15; (aswInstMet
      s.env s.chip j = true)) ∧
    (let s : State := atUp 9 (chipWith (fun c => (fun (d : Chip) =>
      { d with asw := { d.asw with ch := [(15, { instRun := 2, offAt := some 9 })] } }) ([(Reg.ASW_CH_STAT 15, 0)].foldl (fun (c : Chip) (x
      : Nat × Word) => c.wr x.1 x.2) c))); let j : Fin 16 := 15; (aswInstMet s.env s.chip j = true)) ∧
    (let s : State := chipWith (fun c => (fun (d : Chip) => { d with asw := { d.asw with ch := [(0, { fuse := 1000000000 })] } })
      ([(Reg.ASW_CH_STAT 0, 0x60000000), (Reg.ASW_CH_I2T 0, 1)].foldl (fun (c : Chip) (x : Nat × Word) => c.wr x.1 x.2) c)); let j : Fin 16
      := 0; (aswI2tMet s.env s.chip j = true) ∧ (aswInstMet s.env s.chip j = false)) ∧
    (let s : State := chipWith (fun c => (fun (d : Chip) => { d with asw := { d.asw with ch := [] } }) ([(Reg.ASW_CH_STAT 0,
      0x00000000)].foldl (fun (c : Chip) (x : Nat × Word) => c.wr x.1 x.2) c)); let j : Fin 16 := 0; (aswTripped s.chip j = false)) := by
  decide +kernel
theorem test_hyp_switchTrips_2 :
    (let s : State := chipWith (fun c => (fun (d : Chip) => { d with asw := { d.asw with ch := [] } }) ([(Reg.ASW_CH_STAT 3,
      0xE0000000)].foldl (fun (c : Chip) (x : Nat × Word) => c.wr x.1 x.2) c)); let j : Fin 16 := 3; (aswTripped s.chip j = false)) ∧
    (let s : State := chipWith (fun c => (fun (d : Chip) => { d with asw := { d.asw with ch := [] } }) ([(Reg.ASW_CH_STAT 0, 0x80000000),
      (Reg.ASW_CH_STAT 3, 0xC0000000)].foldl (fun (c : Chip) (x : Nat × Word) => c.wr x.1 x.2) c)); let p : Plane := .control; let v : Word
      := 9; let w : Word := 9; (s.takes p Reg.ASW_CLR v = some w)) ∧
    (let s : State := atUp 1000007 (chipWith (fun c => (fun (d : Chip) =>
      { d with asw := { d.asw with ch := [(4, { inrush := true, onAt := 7 })] } }) ([(Reg.ASW_CH_STAT 4, 0x20000000), (Reg.ASW_CH_I2T 4,
      0x00050000)].foldl (fun (c : Chip) (x : Nat × Word) => c.wr x.1 x.2) c))); let j : Fin 16 := 4; ((s.chip.aswCh j).inrush = true) ∧
      ((s.chip.aswCh j).onAt + 200000 * s.chip.f (Reg.ASW_CH_I2T j) 16 16 ≤ s.env.time.up)) := by
  decide +kernel

theorem test_hyp_switchSupply_1 :
    (let s : State := { (chipWith (fun c => { c with asw := { c.asw with ch := [(3, { samples := [99, 200] })] } })) with env := { State.reset.env with time := { State.reset.env.time with offset := 200000 } } };
      (s.chip.svc = true) ∧ (siteMs s.env ≠ s.chip.asw.rep)) ∧
    (let s : State := chipWith (fun c => (fun (d : Chip) => { d with asw := { d.asw with ch := [(3, { samples := [99, 200], olRun := 10001 })] } }) ([(Reg.ASW_CH_STAT 3, 0x40000000), (Reg.ASW_CH_LIM 3, 0x00640000)].foldl (fun (c : Chip) (x : Nat × Word) => c.wr x.1 x.2) c));
      let j : Fin 16 := 3; (openDue s.chip j = true)) ∧
    (let s : State := chipWith (fun c => (fun (d : Chip) => { d with asw := { d.asw with ch := [] } }) ([(Reg.ASW_CH_STAT 3, 0x80000000)].foldl (fun (c : Chip) (x : Nat × Word) => c.wr x.1 x.2) c));
      let j : Fin 16 := 3; (aswOn s.chip j = false)) ∧
    (let s : State := chipWith (fun c => (fun (d : Chip) => { d with asw := { d.asw with ch := [] } }) ([(Reg.ASW_CH_STAT 3, 0x80000000), (Reg.ASW_CH_STAT 4, 0x40000000), (Reg.ASW_STAT, 16)].foldl (fun (c : Chip) (x : Nat × Word) => c.wr x.1 x.2) c));
      let k : Fin 3 := 2; (s.chip.b Reg.ASW_STAT (31 - k.val) = false)) ∧
    (let s : State := chipWith (fun c => (fun (d : Chip) => { d with asw := { d.asw with applied := 0x18 } }) ([(Reg.QN_STAT, 0x10000000), (Reg.ASW_CH_STAT 3, 0xE0000000), (Reg.ASW_CH_CFG 3, 0x80000000), (Reg.ASW_CH_I2T 3, 0x00050000), (Reg.ASW_CH_STAT 5, 0x80000000), (Reg.ASW_CH_STAT 6, 0xE0000000), (Reg.ASW_STAT, 0x40000000)].foldl (fun (c : Chip) (x : Nat × Word) => c.wr x.1 x.2) c));
      let k : Fin 3 := 1; (s.chip.b Reg.ASW_STAT (31 - k.val) = true) ∧ ((s.chip.setB Reg.ASW_STAT (31 - k.val) false |> aswSupply) =
      false) ∧ (s.chip.gate = true)) := by
  decide +kernel
theorem test_hyp_switchSupply_2 :
    (let s : State := atUp 600 (chipWith (fun c => (fun (d : Chip) => { d with asw := { d.asw with ch := [(3, { keepTill := 600 })] } }) ([(Reg.ASW_CH_STAT 3, 0x60000000)].foldl (fun (c : Chip) (x : Nat × Word) => c.wr x.1 x.2) c)));
      let j : Fin 16 := 3; (aswState s.chip j = 3) ∧ ((s.chip.aswCh j).keepTill ≤ s.env.time.up)) := by
  decide +kernel

/-- A chip with changed registers and host state. -/
def hifWith (l : List (Nat × Word)) (f : HostSt → HostSt) : State := chipWith (fun c => (l.foldl (fun c x => c.wr x.1 x.2) c).onHif f)

theorem test_hyp_updatesAndBoot_1 :
    (let s : State := State.reset; let p : Plane := .management; let w : Word := 0x5A01; (s.chip.svc = true) ∧ (s.takes p Reg.UPD_CMD
      (word (0x5A * 256 + 1)) = some w) ∧ (fget w 8 8 = 0x5A) ∧ (fget w 0 4 = 1) ∧ (rgnThird s.env .service s.chip = false)) ∧
    (let s : State := State.reset; let p : Plane := .management; let w : Word := 0x5B02; let key : BitVec 8 := 0x5B; (s.chip.svc = true)
      ∧ (s.takes p Reg.UPD_CMD (word (key.toNat * 256 + 2)) = some w) ∧ (fget w 8 8 ≠ 0x5A)) ∧
    (let s : State := hifWith [(Reg.UPD_MET_ADDR_LO, 0x3000), (Reg.UPD_MET_LEN, 98304)] id; let p : Plane := .management;
      let w : Word := 0x5A02; (s.chip.svc = true) ∧ (s.takes p Reg.UPD_CMD (word (0x5A * 256 + 2)) = some w) ∧ (fget w 8 8 = 0x5A) ∧ (fget
      w 0 4 = 2) ∧ (s.chip.f Reg.UPD_STAT 30 2 ≠ 2) ∧ (s.chip.n Reg.UPD_MET_ADDR_LO % 4096 = 0) ∧ (1 ≤ s.chip.n Reg.UPD_MET_LEN ∧ s.chip.n
      Reg.UPD_MET_LEN ≤ 98304)) ∧
    (let s : State := hifWith [(Reg.UPD_MET_ADDR_LO, 0x3000), (Reg.UPD_MET_LEN, 98305)] id; let p : Plane := .management;
      let w : Word := 0x5A02; (s.chip.svc = true) ∧ (s.takes p Reg.UPD_CMD (word (0x5A * 256 + 2)) = some w) ∧ (fget w 8 8 = 0x5A) ∧ (fget
      w 0 4 = 2) ∧ (s.chip.f Reg.UPD_STAT 30 2 ≠ 2) ∧ (s.chip.n Reg.UPD_MET_ADDR_LO % 4096 ≠ 0 ∨ s.chip.n Reg.UPD_MET_LEN = 0 ∨ 98304 <
      s.chip.n Reg.UPD_MET_LEN)) := by
  decide +kernel
theorem test_hyp_updatesAndBoot_2 :
    (let s : State := hifWith [(Reg.UPD_MET_ADDR_LO, 0x3001), (Reg.UPD_MET_LEN, 1)] id; let p : Plane := .management;
      let w : Word := 0x5A02; (s.chip.svc = true) ∧ (s.takes p Reg.UPD_CMD (word (0x5A * 256 + 2)) = some w) ∧ (fget w 8 8 = 0x5A) ∧ (fget
      w 0 4 = 2) ∧ (s.chip.f Reg.UPD_STAT 30 2 ≠ 2) ∧ (s.chip.n Reg.UPD_MET_ADDR_LO % 4096 ≠ 0 ∨ s.chip.n Reg.UPD_MET_LEN = 0 ∨ 98304 <
      s.chip.n Reg.UPD_MET_LEN)) ∧
    (let s : State := hifWith [(Reg.UPD_STAT, 0x40000000)] id; let p : Plane := .management; let w : Word := 0x5A03; (s.chip.svc = true)
      ∧ (s.takes p Reg.UPD_CMD (word (0x5A * 256 + 3)) = some w) ∧ (fget w 8 8 = 0x5A) ∧ (fget w 0 4 = 3) ∧ (s.chip.f Reg.UPD_STAT 30 2 =
      1)) ∧
    (let s : State := hifWith [(Reg.UPD_STAT, 0x80000000)] id; let p : Plane := .management; let w : Word := 0x5A03; (s.chip.svc = true)
      ∧ (s.takes p Reg.UPD_CMD (word (0x5A * 256 + 3)) = some w) ∧ (fget w 8 8 = 0x5A) ∧ (fget w 0 4 = 3) ∧ (s.chip.f Reg.UPD_STAT 30 2 =
      2)) ∧
    (let s : State := hifWith [(Reg.UPD_STAT, 0x80000000)] id; (s.chip.f Reg.UPD_STAT 30 2 = 2) ∧ (s.chip.rgn .metrology = 0) ∧
      (s.met.st.fwNew = none)) := by
  decide +kernel
theorem test_hyp_updatesAndBoot_3 :
    (let s : State := hifWith [(Reg.UPD_STAT, 0x80000000)] id; (s.chip.f Reg.UPD_STAT 30 2 = 2) ∧ (s.chip.rgn .metrology = 0) ∧
      (s.met.st.fwNew = none) ∧ (rgnThird s.env .metrology s.chip = false)) ∧
    (let s : State := hifWith [(Reg.OSP_BOOT, 0x5000003C)] (fun h => { h with trialAt := some 3, verified := 2 });
      let p : Plane := .management; let v : Word := 0x8000000A; let w : Word := 0xA000000A; (s.chip.svc = true) ∧ (s.takes p Reg.OSP_BOOT
      (fsetb v 29 true) = some w) ∧ (fbit w 29 = true) ∧ (fget w 31 1 = runSlot s.chip ∨ s.chip.hif.verified.testBit (fget w 31 1) =
      true)) ∧
    (let s : State := hifWith [] (fun h => { h with verified := 2 }); let p : Plane := .management; let v : Word := 0xC0000009;
      let w : Word := 0xC0000009; (s.chip.svc = true) ∧ (s.takes p Reg.OSP_BOOT (fsetb v 29 false) = some w) ∧ (fbit w 29 = false) ∧ (fget
      w 31 1 = runSlot s.chip ∨ s.chip.hif.verified.testBit (fget w 31 1) = true)) ∧
    (let s : State := hifWith [] id; let p : Plane := .management; let v : Word := 0x80000064; let w : Word := 0x80000064; (s.chip.svc =
      true) ∧ (s.takes p Reg.OSP_BOOT (fsetb v 29 false) = some w) ∧ (fget w 31 1 ≠ runSlot s.chip) ∧ (s.chip.hif.verified.testBit (fget w
      31 1) = false)) := by
  decide +kernel
theorem test_hyp_updatesAndBoot_4 :
    (let s : State := let s := hifWith [] (fun h => { h with trialAt := some 0 }); { s with env := { s.env with time := { s.env.time with up := 12000000001 } } };
      (bootDue s.env s.chip = true) ∧ (rgnThird s.env .service s.chip = false)) := by
  decide +kernel

theorem test_hyp_flashOperations_1 :
    (let s : State := hifWith [(Reg.OSP_FL_ADDR, 0x10000)] (fun h => { h with verified := 3 }); let p : Plane := .management;
      let slot : Fin 2 := 1; (s.chip.svc = true) ∧ (s.takes p Reg.OSP_FL_CMD (word (2 ^ 28 + slot * 2 ^ 27)) = some (word (2 ^ 28 + slot *
      2 ^ 27))) ∧ (s.chip.hif.op = none) ∧ (slot.val ≠ runSlot s.chip)) ∧
    (let s : State := hifWith [(Reg.OSP_FL_ADDR, 0x10000), (Reg.OSP_FL_SRC_HI, 8)] (fun h => { h with verified := 3 });
      let p : Plane := .management; let slot : Fin 2 := 1; let len : BitVec 12 := 0xFFF; (s.chip.svc = true) ∧ (s.takes p Reg.OSP_FL_CMD
      (word (2 * 2 ^ 28 + slot * 2 ^ 27 + len.toNat)) = some (word (2 * 2 ^ 28 + slot * 2 ^ 27 + len.toNat))) ∧ (s.chip.hif.op = none) ∧
      (slot.val ≠ runSlot s.chip)) ∧
    (let s : State := hifWith [] (fun h => { h with verified := 3 }); let p : Plane := .management; let slot : Fin 2 := 1; (s.chip.svc =
      true) ∧ (s.takes p Reg.OSP_FL_CMD (word (3 * 2 ^ 28 + slot * 2 ^ 27)) = some (word (3 * 2 ^ 28 + slot * 2 ^ 27))) ∧ (s.chip.hif.op =
      none) ∧ (slot.val ≠ runSlot s.chip)) ∧
    (let s : State := State.reset; let p : Plane := .management; let slot : Fin 2 := 0; (s.chip.svc = true) ∧ (s.takes p Reg.OSP_FL_CMD
      (word (2 ^ 28 + slot * 2 ^ 27)) = some (word (2 ^ 28 + slot * 2 ^ 27))) ∧ (s.chip.hif.op = none) ∧ (slot.val = runSlot s.chip)) := by
  decide +kernel
theorem test_hyp_flashOperations_2 :
    (let s : State := State.reset; let p : Plane := .management; let slot : Fin 2 := 0; let len : BitVec 12 := 7; (s.chip.svc = true) ∧
      (s.takes p Reg.OSP_FL_CMD (word (2 * 2 ^ 28 + slot * 2 ^ 27 + len.toNat)) = some (word (2 * 2 ^ 28 + slot * 2 ^ 27 + len.toNat))) ∧
      (s.chip.hif.op = none) ∧ (slot.val = runSlot s.chip)) ∧
    (let s : State := State.reset; let p : Plane := .management; let slot : Fin 2 := 0; (s.chip.svc = true) ∧ (s.takes p Reg.OSP_FL_CMD
      (word (3 * 2 ^ 28 + slot * 2 ^ 27)) = some (word (3 * 2 ^ 28 + slot * 2 ^ 27))) ∧ (s.chip.hif.op = none) ∧ (slot.val = runSlot
      s.chip)) ∧
    (let s : State := hifWith [] (fun h => { h with op := some { op := 1, slot := 1, addr := 0x20007, len := 1, src := 0 }, torn := [514], flash := [(0x2020000, 7), (0x2030000, 9)] });
      let o : FlashOp := { op := 1, slot := 1, addr := 0x20007, len := 1, src := 0 }; let slot : Fin 2 := 1; (s.chip.hif.op = some o) ∧
      (o.op = 1) ∧ (o.slot = slot.val) ∧ (o.addr < 2 ^ 25)) ∧
    (let s : State := let s := hifWith [] (fun h => { h with op := some { op := 2, slot := 1, addr := 0x20007, len := 3, src := 16 }, flash := [(0x2020000, 7), (0x2020008, 9)] }); { s with mem := [(16, 4), (18, 5)] };
      let o : FlashOp := { op := 2, slot := 1, addr := 0x20007, len := 3, src := 16 }; (s.chip.hif.op = some o) ∧ (o.op = 2) ∧ (o.addr +
      o.len ≤ 2 ^ 25)) := by
  decide +kernel
theorem test_hyp_flashOperations_3 :
    (let s : State := hifWith [] (fun h => { h with flash := bootFlash, op := some { op := 3, slot := 0, addr := 0, len := 1, src := 0 } });
      let o : FlashOp := { op := 3, slot := 0, addr := 0, len := 1, src := 0 }; (s.chip.hif.op = some o) ∧ (o.op = 3)) ∧
    (let s : State := hifWith [] (fun h => { h with op := some { op := 1, slot := 1, addr := 0x2000000, len := 1, src := 0 } });
      let o : FlashOp := { op := 1, slot := 1, addr := 0x2000000, len := 1, src := 0 }; let ok : Bool := true; (s.chip.hif.op = some o) ∧
      (ok = false ∨ flFits o = false)) := by
  decide +kernel

theorem test_hyp_hostEvents_1 :
    (let s : State := State.reset; (s.chip.svc = true)) ∧
    (let s : State := State.reset; (s.chip.svc = true)) ∧
    (let s : State := State.reset; (s.chip.svc = true)) ∧
    (let s : State := hifWith [(Reg.CAN_SW_IDX 4, 2)] id; let n : Fin 7 := 4; (s.canRuns n) ∧ (canTxRd n (s.can n) ≠ canTxWr n (s.can
      n))) := by
  decide +kernel
theorem test_hyp_hostEvents_2 :
    (let s : State := hifWith [(Reg.ETH_PTP_STEP_S, 3)] id; let p : Plane := .management; let v : Word := 0xFFFFFFFF;
      let w : Word := 0xFFFFFFFF; (s.chip.svc = true) ∧ (s.takes p Reg.ETH_PTP_STEP_NS v = some w)) ∧
    (let s : State := hifWith [] (fun h => { h with ptp := 77 * 2 ^ 70 }); (s.chip.svc = true)) ∧
    (let s : State := hifWith [(Reg.ETH_CFG 1, 0xA0000002), (Reg.ETH_STAT 1, 0x80000000)] id; let i : Fin 2 := 1;
      let l : List Byte := [1, 2]; (ethPasses s.chip i l = true)) ∧
    (let s : State := hifWith [(Reg.ETH_CFG 0, 0xA0000002), (Reg.ETH_STAT 0, 0x80000000)] id; let i : Fin 2 := 0;
      let l : List Byte := [1, 2]; (ethPasses s.chip i l = true)) := by
  decide +kernel
theorem test_hyp_hostEvents_3 :
    (let s : State := hifWith [(Reg.ETH_CFG 1, 0xA0000002)] id; let i : Fin 2 := 1; let up : Bool := true; (s.chip.svc = true) ∧
      (s.chip.b (Reg.ETH_CFG i) 31 = true ∨ up = false)) ∧
    (let s : State := State.reset; let n : Fin 32 := 31; let l : Bool := true; (s.chip.svc = true) ∧ (s.chip.b Reg.OSP_GPIO_DIR n =
      false) ∧ (s.chip.b Reg.OSP_GPIO_IN n ≠ l)) ∧
    (let s : State := hifWith [] (fun h => { h with ppsDue := true }); (s.chip.hif.ppsDue = true)) ∧
    (let s : State := State.reset; (s.chip.f Reg.OSP_DBG 30 2 = 0)) := by
  decide +kernel
theorem test_hyp_hostEvents_4 :
    (let s : State := hifWith [(Reg.OSP_DBG, 0x40000001)] (fun h => { h with halted := 3 }); (s.chip.f Reg.OSP_DBG 30 2 ≠ 0)) ∧
    (let s : State := hifWith [(Reg.OSP_DBG, 0x40000001)] id; (s.chip.f Reg.OSP_DBG 30 2 ≠ 0) ∧ (s.chip.role ≠ 1)) ∧
    (let s : State := hifWith [(Reg.OSP_DBG, 0x40000001), (Reg.QN_STAT, 0x20000000)] id; (s.chip.f Reg.OSP_DBG 30 2 ≠ 0) ∧ (s.chip.role
      = 1)) := by
  decide +kernel

/-- One ill-formed command for each check of `Instr.wf`: frame, register and page operands. -/
theorem test_wf_refuses_registers :
    ([.partnerVerdict 256, .fsyncEdge 65536, .parityError (.word 2), .parityReplay (.word 0x100000000) true, .scrubComplete (.word 1) true,
      .fabricWriteReplay 3 0 true, .fabricWriteReplay 0 0x100000000 true, .selfCheckerFault 0x40000010, .selfCheckerFault 0,
      .pgCtrlRestart .control 0x40002004 1, .blockRestartComplete 4, .blockRestartFailed 4, .registerWrite .data 0x100000000 4 0,
      .registerWrite .data 0x40000040 3 0, .unmappedRead .data 0x100000000, .readClear .data ⟨0x100000000, 4⟩, .readClear .data ⟨0x4000005C, 3⟩,
      .galleyStage .control 0x100000000 0] : List Instr).all (fun i => !i.wf) = true := by
  decide +kernel

/-- The same for the links, the samples and the mirror's items. -/
theorem test_wf_refuses_items :
    ([.hkpConversion 0 2147483648, .hkpConversion 0 (-2147483649), .trainingStepDone 0 0 0 0 0, .trainingStepTimeout 0 8 0 true,
      .upwardBundle 0 { d0 := { blocks := List.replicate 1025 (0, 0) } }, .upwardBundle 0 { cycle := 65536 }, .intakeSample [1, 2],
      .backupSample [1], .heathCycle 0 0 [0], .boundaryItem 0 0 (2 ^ 32), .imageItem ⟨{}, [], List.replicate 33 none, []⟩,
      .imageItem ⟨{}, [], [], List.replicate 33 0⟩, .fenceItem [] (List.replicate 513 (0, 0)) [], .galleyItem (.entry 0 4096 0 0),
      .galleyItem (.entry 0 0 2 0), .galleyItem (.verdict 0 256), .sessionItem 0 (.checkpoint (List.replicate 513 0) 0) true,
      .cmpItem { ports := List.replicate 33 0 }, .scrubItem 2 0] : List Instr).all (fun i => !i.wf) = true := by
  decide +kernel

/-- The same for the networks, memory and the host's interfaces. -/
theorem test_wf_refuses_networks :
    ([.canFrameReceived 0 ⟨0, 0, false, false, false, false, false, 0, List.replicate 65 0, false, 119⟩,
      .canFrameReceived 0 ⟨0, 0, false, false, false, false, false, 0, [], false, 118⟩,
      .canFrameReceived 0 ⟨0, 0, false, false, false, false, false, 0, [], false, 128⟩, .canFrameSent 0 0 128,
      .canBusError 0 ⟨true, false, false, 0, false, 9, 0⟩, .canBusError 0 ⟨true, false, false, 0, false, 0, 9⟩,
      .hdgFrameReceived ⟨0, 0, true, 0, List.replicate 1025 0, [], [], [], 0, none, 0⟩,
      .hdgFrameReceived ⟨0, 0, true, 0, [], List.replicate 242 (0, 0), [], [], 0, none, 0⟩,
      .hdgFrameReceived ⟨0, 0, true, 0, [], [], List.replicate 9 0, [], 0, none, 0⟩, .hdgFrameReceived ⟨0, 0, true, 0, [], [], [], [], 256, none, 0⟩,
      .hdgFrameReceived ⟨0, 0, true, 0, [], [], [], List.replicate 6 0, 0, none, 0⟩,
      .ddrEccUe (2 ^ 36) .core, .patrolScrub 65536, .ethFrameReceived 0 (List.replicate 9019 0), .ethFrameSent 0 (List.replicate 9019 0),
      .supervisorSample 0 2147483648 0, .analogueInputConversion 0 (-2147483649), .aswCurrentSample [1]] : List Instr).all (fun i => !i.wf) = true := by
  decide +kernel

/-- Commands at the edges of their ranges are well formed. -/
theorem test_wf_accepts :
    ([.partnerVerdict 255, .parityError (.word 0xFFFFFFFC), .selfCheckerFault 0x40000000, .registerWrite .data 0xFFFFFFFF 1 0, .trainingStepDone 0 7 0 0 0,
      .galleyItem (.entry 3 4095 0x4000C400 1), .canFrameSent 7 0 127, .ddrEccUe (2 ^ 36 - 1) (.eth 1), .tripTherm 15] : List Instr).all (fun i => i.wf) = true := by
  decide +kernel

/-- The impulse response of generators 133 and 171 in octal, constraint length 7 (R638). -/
theorem test_convolutional_code_impulse :
    convEncode [true] = [true, true, false, true, true, true, true, true, false, false, true, false, true, true] := by decide +kernel

/-- The table gives no row bits, so no word spells a command. -/
theorem test_no_word_spells_a_command (n w : Nat) : decodeTableWord n w = none := rfl

/-- The UTC of the month-end example of chapter 14, and the Colophon of its firmware example, as OCMF shows them (R499, R502). -/
theorem test_ocmf_examples :
    ocmfTime (legalStamp 0 1809126000412 true) = "2027-04-30T23:00:00,412+0000 S".toList ∧
    ocmfVersion (Met.wr State.reset.met Reg.TRF_COLO_VER 0x02040011) = "2.4.17".toList ∧
    ocmfCheck (Met.wr State.reset.met (Reg.TRF_COLO_DIG 0) 0xC2079F3A) = "3A9F07C2".toList ∧ ocmfEnergy 1234567890 = "1234.567".toList := by
  decide +kernel

/-- A request in the cycle in which the seal opens sees it closed, and one a cycle later sees it open (R458). -/
theorem test_seal_opens :
    let m := (Met.setB State.reset.met Reg.MET_SEAL 31 true).onSt (fun t => { t with sealUp := some 7 })
    let e (n : Nat) : Env := { State.reset.env with time := { State.reset.env.time with up := n } }
    sealOpen (e 7) m = false ∧ sealOpen (e 8) m = true := by
  decide +kernel

end Sys2Proof.Tests
end

-- The proofs of the frame, of time and of what stands beside them.

section
/-! PROOF. The frame clock: the words that the lock, a missed window, an edge and a pull write, and the commands FSYNC_EDGE, FSYNC_MISS,
LOCK_GAINED, LOCK_LOST and FSYNC_OUT_FALL (ch. 2). -/
open Sys2Proof Sys2Proof.Machine
namespace Sys2Proof.Machine

/-! ### Entries and the Control region -/

theorem Chip.putAt_of_ctl (c : Chip) (en : LogEntry) (h : c.ctl = true) : c.putAt en = c.put en := by
  simp [Chip.putAt, h]

theorem Chip.ctl_of_rd {c d : Chip} (h : d.rd Reg.CHIP_RGN_STAT = c.rd Reg.CHIP_RGN_STAT) : d.ctl = c.ctl := by
  simp [Chip.ctl, Chip.rgn, Chip.f, h]

theorem Chip.ctl_put (c : Chip) (en : LogEntry) : (c.put en).ctl = c.ctl :=
  Chip.ctl_of_rd (Chip.put_rd_ne c en (by decide))

/-! ### Registers -/

theorem Chip.rd_wrap (c : Chip) (a b lo w n : Nat) :
    (c.wrap a lo w n).rd b = if b = a then fset (c.rd a) lo w (c.f a lo w + n) else c.rd b := Chip.rd_wr _ _ _ _
theorem Chip.rd_sat (c : Chip) (a b lo w n : Nat) :
    (c.sat a lo w n).rd b = if b = a then fset (c.rd a) lo w (satAdd w (c.f a lo w) n) else c.rd b := Chip.rd_wr _ _ _ _

/-- A bit set to what it reads leaves the word. -/
theorem fsetb_self (v : Word) (i : Nat) : fsetb v i (fbit v i) = v := by
  apply BitVec.eq_of_getLsbD_eq
  intro j hj
  change fbit _ j = fbit v j
  rw [fbit_fsetb _ _ _ _ hj]
  split
  · subst j; rfl
  · rfl

/-- Another bit than the one set reads as before. -/
theorem fbit_fsetb_ne (v : Word) {i j : Nat} (b : Bool) (h : j ≠ i) : fbit (fsetb v i b) j = fbit v j :=
  fbit_fset_ne _ _ _ _ _ (by omega)

theorem Chip.put_rd_LOG_WR (c : Chip) (en : LogEntry) : (c.put en).rd Reg.CHIP_LOG_WR = c.rd Reg.CHIP_LOG_WR + 1 := by
  rw [(c.put_entry en).2]
  apply BitVec.eq_of_toNat_eq
  simp [toNat_word, Chip.n, BitVec.toNat_add]

/-! ### Entries of the frame engine and the time anchor -/

theorem frmLog_rd_ne (e : Env) (k d : Nat) (c : Chip) {a : Nat} (h : a ∉ logRegs) : (frmLog e k d c).rd a = c.rd a := by
  simp only [List.mem_cons, List.not_mem_nil, or_false, not_or] at h
  exact Chip.log1_rd_ne _ _ _ _ _ _ h.1 h.2

theorem timeAnchor_rd_ne (e : Env) (c : Chip) {a : Nat} (h : a ∉ logRegs) : (timeAnchor e c).rd a = c.rd a := by
  have hlog := frmLog_rd_ne e 0x08 (c.cuts.nom * 65536 + (if frmLocked c then 2 ^ 15 else 0)) c h
  simp only [List.mem_cons, List.not_mem_nil, or_false, not_or] at h
  simp only [timeAnchor, Chip.onFrm_rd, Chip.putAt_rd_ne _ _ h.1 h.2, hlog]

/-- While the Control region runs an anchor stores three entries and loses none. -/
theorem timeAnchor_logRegs (e : Env) (c : Chip) (h : c.ctl = true) :
    (timeAnchor e c).rd Reg.CHIP_LOG_WR = c.rd Reg.CHIP_LOG_WR + 3 ∧ (timeAnchor e c).rd Reg.CHIP_LOG_LOST = c.rd Reg.CHIP_LOG_LOST := by
  simp only [timeAnchor, frmLog, Chip.log1, Chip.onFrm_rd, Chip.putAt_of_ctl, Chip.ctl_put, h, Chip.put_rd_LOG_WR,
    Chip.put_rd_ne _ _ (show Reg.CHIP_LOG_LOST ≠ Reg.CHIP_LOG_WR by decide), and_true, BitVec.add_assoc]
  rfl

/-! ### The lock -/

/-- LOCKED set to what it is does nothing. -/
theorem lockSet_of_eq (e : Env) {b : Bool} {c : Chip} (h : frmLocked c = b) : lockSet e b c = c := by
  simp [lockSet, h]

/-- The words that a change of LOCKED writes beside FRM.STAT (R63, R64). -/
abbrev lockRegs : List Nat := [Reg.FRM_EVT, Reg.FRM_SYNC_CNT_B] ++ logRegs

theorem lockSet_rd_STAT (e : Env) (b : Bool) (c : Chip) : (lockSet e b c).rd Reg.FRM_STAT = fsetb (c.rd Reg.FRM_STAT) 31 b := by
  by_cases h : frmLocked c = b
  · rw [lockSet_of_eq e h, ← h]; exact (fsetb_self _ _).symm
  · simp only [lockSet, h, if_false]
    rw [timeAnchor_rd_ne _ _ (by decide)]
    cases b <;> simp +decide [Chip.rd_wrap, Chip.rd_setB, frmLog_rd_ne]

theorem lockSet_rd_ne (e : Env) (b : Bool) (c : Chip) {a : Nat} (hs : a ≠ Reg.FRM_STAT) (hr : a ∉ lockRegs) : (lockSet e b c).rd a = c.rd a := by
  by_cases h : frmLocked c = b
  · rw [lockSet_of_eq e h]
  · have hl : a ∉ logRegs := fun hm => hr (List.mem_append_right _ hm)
    have he : a ≠ Reg.FRM_EVT ∧ a ≠ Reg.FRM_SYNC_CNT_B := by constructor <;> rintro rfl <;> exact hr (by decide)
    simp only [lockSet, h, if_false]
    rw [timeAnchor_rd_ne _ _ hl]
    cases b <;> simp [Chip.rd_wrap, Chip.rd_setB, frmLog_rd_ne _ _ _ _ hl, he, hs]

/-- LOCKED gained or lost is flagged (R63, R64). -/
theorem lockSet_rd_EVT (e : Env) {b : Bool} {c : Chip} (h : frmLocked c ≠ b) :
    (lockSet e b c).rd Reg.FRM_EVT = fsetb (c.rd Reg.FRM_EVT) (if b then 8 else 7) true := by
  simp only [lockSet, h, if_false]
  rw [timeAnchor_rd_ne _ _ (by decide)]
  cases b <;> simp +decide [Chip.rd_wrap, Chip.rd_setB, frmLog_rd_ne]

/-- A lock that is lost is counted; a gained one is not (R64). -/
theorem lockSet_rd_CNT_B (e : Env) {b : Bool} {c : Chip} (h : frmLocked c ≠ b) :
    (lockSet e b c).rd Reg.FRM_SYNC_CNT_B =
      if b then c.rd Reg.FRM_SYNC_CNT_B else fset (c.rd Reg.FRM_SYNC_CNT_B) 0 16 (c.f Reg.FRM_SYNC_CNT_B 0 16 + 1) := by
  simp only [lockSet, h, if_false]
  rw [timeAnchor_rd_ne _ _ (by decide)]
  cases b <;> simp +decide [Chip.rd_wrap, Chip.rd_setB, frmLog_rd_ne, Chip.f]

/-- A change of LOCKED stores its entry and an anchor, and loses none, while the Control region runs (R74). -/
theorem lockSet_logRegs (e : Env) {b : Bool} {c : Chip} (h : frmLocked c ≠ b) (hctl : c.ctl = true) :
    (lockSet e b c).rd Reg.CHIP_LOG_WR = c.rd Reg.CHIP_LOG_WR + 4 ∧ (lockSet e b c).rd Reg.CHIP_LOG_LOST = c.rd Reg.CHIP_LOG_LOST := by
  have hctl1 : (c.setB Reg.FRM_STAT 31 b).ctl = true := by
    rw [Chip.ctl_of_rd (Chip.rd_setB_ne _ (by decide)), hctl]
  simp only [lockSet, h, if_false]
  have hanchor := timeAnchor_logRegs e
    (if b then (frmLog e 0x06 (if b then 1 else 0) (c.setB Reg.FRM_STAT 31 b)).setB Reg.FRM_EVT 8 true
     else ((frmLog e 0x06 (if b then 1 else 0) (c.setB Reg.FRM_STAT 31 b)).setB Reg.FRM_EVT 7 true).wrap Reg.FRM_SYNC_CNT_B 0 16 1)
    ((Chip.ctl_of_rd (by cases b <;> simp +decide [Chip.rd_wrap, Chip.rd_setB, frmLog_rd_ne])).trans hctl)
  rw [hanchor.1, hanchor.2]
  cases b <;> simp +decide [Chip.rd_wrap, Chip.rd_setB, frmLog, Chip.log1, Chip.putAt_of_ctl _ _ hctl1, Chip.put_rd_LOG_WR,
    Chip.put_rd_ne, BitVec.add_assoc]

/-! ### Time passes within a frame -/

/-- The state at a cycle of the present frame, with the precision-time clock run on. -/
def State.atCycle (s : State) (n : Nat) (h : HostSt) : State :=
  { s with chip := { s.chip with hif := h }
           env := { s.env with time := { s.env.time with offset := max s.env.time.offset n, up := s.env.time.up + (n - s.env.time.offset) } } }

@[simp] theorem State.atCycle_rd (s : State) (n : Nat) (h : HostSt) : (s.atCycle n h).chip.rd = s.chip.rd := rfl
@[simp] theorem State.atCycle_frmLocked (s : State) (n : Nat) (h : HostSt) : frmLocked (s.atCycle n h).chip = frmLocked s.chip := rfl

/-- While the Control region runs, time that passes to a cycle of the frame moves the clocks and nothing else. -/
theorem reach_of_ctl {s : State} (hctl : s.chip.ctl = true) (n : Nat) : ∃ h, s.reach n = s.atCycle n h := by
  have hptp (k : Nat) (c : Chip) : ∃ h, ptpRun k c = { c with hif := h } := by
    unfold ptpRun; split
    · exact ⟨_, rfl⟩
    · exact ⟨c.hif, rfl⟩
  obtain ⟨h, hh⟩ := hptp (n - s.env.time.offset) s.chip
  refine ⟨h, ?_⟩
  have hoff : s.env.time.offset + (n - s.env.time.offset) = max s.env.time.offset n := by omega
  simp only [State.reach, State.advance, onChip, hh, hctl, if_true, hoff]
  rfl

/-! ### A missed window -/

/-- What a window that closed without an edge leaves (R64). -/
def missMark (c : Chip) : Chip :=
  let c1 := ((c.wrap Reg.FRM_SYNC_CNT_A 0 16 1).setB Reg.FRM_EVT 6 true).setF Reg.FRM_SYNC_PHASE 0 16 0x8000
  let c2 := c1.onFrm (fun f => { f with winClosed := true, missRun := if frmLocked c then f.missRun + 1 else 0 })
  if frmLocked c then c2 else c2.setF Reg.FRM_STAT 8 5 0

theorem missMark_rd (c : Chip) (a : Nat) : (missMark c).rd a =
    if a = Reg.FRM_SYNC_CNT_A then fset (c.rd Reg.FRM_SYNC_CNT_A) 0 16 (c.f Reg.FRM_SYNC_CNT_A 0 16 + 1)
    else if a = Reg.FRM_EVT then fsetb (c.rd Reg.FRM_EVT) 6 true
    else if a = Reg.FRM_SYNC_PHASE then fset (c.rd Reg.FRM_SYNC_PHASE) 0 16 0x8000
    else if a = Reg.FRM_STAT then (if frmLocked c then c.rd Reg.FRM_STAT else fset (c.rd Reg.FRM_STAT) 8 5 0)
    else c.rd a := by
  unfold missMark
  by_cases ha : a = Reg.FRM_SYNC_CNT_A ∨ a = Reg.FRM_EVT ∨ a = Reg.FRM_SYNC_PHASE ∨ a = Reg.FRM_STAT
  · rcases ha with rfl | rfl | rfl | rfl <;> split <;> simp +decide [Chip.rd_wrap, Chip.rd_setB, Chip.rd_setF, *]
  · simp only [not_or] at ha
    split <;> simp [Chip.rd_wrap, Chip.rd_setB, Chip.rd_setF, ha]

theorem missMark_rd_STAT (c : Chip) :
    (missMark c).rd Reg.FRM_STAT = if frmLocked c then c.rd Reg.FRM_STAT else fset (c.rd Reg.FRM_STAT) 8 5 0 := by
  simp +decide [missMark_rd]

theorem missMark_frmLocked (c : Chip) : frmLocked (missMark c) = frmLocked c := by
  rw [frmLocked, Chip.b, missMark_rd_STAT]
  split
  · rfl
  · exact fbit_fset_ne _ 8 5 0 31 (by omega)

theorem missMark_lockRun (c : Chip) : lockRun (missMark c) = if frmLocked c then lockRun c else 0 := by
  rw [lockRun, Chip.f, missMark_rd_STAT]
  split
  · rfl
  · exact fget_fset_same _ 8 5 0 (by omega)

theorem missMark_missRun (c : Chip) : (missMark c).frm.missRun = if frmLocked c then c.frm.missRun + 1 else 0 := by
  unfold missMark; split <;> simp [*]

/-- FSYNC_MISS of an open window that has no edge: at its last cycle the miss is marked. -/
theorem exec_fsyncMiss_of_open {s : State} (hctl : s.chip.ctl = true) (hph : s.chip.frm.phase = 0) (hw : s.chip.frm.wmode ≠ 0)
    (hclosed : s.chip.frm.winClosed = false) (hedge : s.chip.frm.winEdge = false) :
    ∃ h, exec .fsyncMiss s = .next (onChip (fun _ => missMark) (s.atCycle 2500 h)) := by
  obtain ⟨h, hr⟩ := reach_of_ctl hctl 2500
  refine ⟨h, ?_⟩
  change execFsyncMiss s = _
  have hdue : missDue (s.atCycle 2500 h).env (s.atCycle 2500 h).chip = true := by
    have hctl' : (s.atCycle 2500 h).chip.ctl = true := hctl
    simp [missDue, hctl']
    simp [State.atCycle, hw, hclosed, hedge]
  simp only [execFsyncMiss, hw, hclosed, hedge, reachIn, hctl, hph, hr, bne_iff_ne, ne_eq, not_false_eq_true, Bool.not_false, Bool.and_true,
    beq_self_eq_true, if_true, onChip, hdue]
  rfl

/-! ### Gaining and losing the lock -/

theorem exec_lockGained_of_due {s : State} (hctl : s.chip.ctl = true) (hlock : frmLocked s.chip = false) (hrun : lockRun s.chip = 16) :
    exec .lockGained s = .next (onChip (fun e c => ((lockSet e true c).setB Reg.FRM_STAT 28 false).onFrm
      (fun f => { f with prelock := false, freeRun := false })) s) := by
  have hdue : gainDue s.chip = true := by simp [gainDue, hctl, hlock, hrun]
  change execLockGained s = _
  simp only [execLockGained, onChip, hdue, if_true]

theorem exec_lockLost_of_due {s : State} (hctl : s.chip.ctl = true) (hlock : frmLocked s.chip = true) (hrun : 4 ≤ s.chip.frm.missRun) :
    exec .lockLost s = .next (onChip lockDrop s) := by
  have hdue : lossDue s.chip = true := by simp [lossDue, hctl, hlock, hrun]
  change execLockLost s = _
  simp only [execLockLost, onChip, hdue, if_true]

/-- LOCKED and LOCK_RUN cleared. -/
theorem lockDrop_rd_STAT (e : Env) (c : Chip) : (lockDrop e c).rd Reg.FRM_STAT = fsetb (fset (c.rd Reg.FRM_STAT) 8 5 0) 31 false := by
  simp [lockDrop, lockSet_rd_STAT, Chip.rd_setF]

theorem lockDrop_rd_ne (e : Env) (c : Chip) {a : Nat} (hs : a ≠ Reg.FRM_STAT) (hr : a ∉ lockRegs) : (lockDrop e c).rd a = c.rd a := by
  simp [lockDrop, lockSet_rd_ne _ _ _ hs hr, Chip.rd_setF_ne _ hs]

theorem frmLocked_setF_run (c : Chip) (n : Nat) : frmLocked (c.setF Reg.FRM_STAT 8 5 n) = frmLocked c :=
  Chip.b_setF_apart _ _ _ _ _ _ (by omega)

/-- FSYNC_OUT falls at its cycle, before the bundle cut-off. -/
theorem exec_fsyncOutFall_of_high {s : State} (hctl : s.chip.ctl = true) (hph : s.chip.frm.phase = 0) (hout : s.chip.frm.fsyncOut = true)
    (hw : 100 * s.chip.f Reg.FRM_CFG 16 8 < s.chip.cuts.cut) :
    ∃ h, exec .fsyncOutFall s = .next (onChip (fun _ c => c.onFrm (fun f => { f with fsyncOut := false })) (s.atCycle (100 * s.chip.f Reg.FRM_CFG 16 8) h)) := by
  obtain ⟨h, hr⟩ := reach_of_ctl hctl (100 * s.chip.f Reg.FRM_CFG 16 8)
  refine ⟨h, ?_⟩
  change execFsyncOutFall s = _
  have hdue : fallDue (s.atCycle (100 * s.chip.f Reg.FRM_CFG 16 8) h).env (s.atCycle (100 * s.chip.f Reg.FRM_CFG 16 8) h).chip = true := by
    have hctl' : (s.atCycle (100 * s.chip.f Reg.FRM_CFG 16 8) h).chip.ctl = true := hctl
    simp only [fallDue, hctl', Bool.true_and, Bool.and_eq_true, decide_eq_true_eq]
    exact ⟨hout, le_max_right _ _⟩
  simp only [execFsyncOutFall, hout, hw, reachIn, hctl, hph, hr, decide_true, Bool.and_true, beq_self_eq_true, if_true, onChip, hdue]

/-! ### Edges of FSYNC -/

/-- What an evaluated edge leaves on the chip beside a pull (R61, R63). -/
def edgeMark (err : Int) (c : Chip) : Chip :=
  let c1 := (c.setF Reg.FRM_SYNC_PHASE 0 16 (err % 65536).toNat).onFrm (fun f => { f with winEdge := true, missRun := 0 })
  if syncMode c = 0 then c1 else c1.setF Reg.FRM_STAT 8 5 (min 16 (lockRun c + 1))
/-- What a pull shows of itself (R62, R74). -/
def pullMark (p : Int) (len : Nat) (c : Chip) : Chip :=
  let pull := signOf 16 (c.f Reg.FRM_SYNC_PHASE 16 16) + p
  ((c.setF Reg.FRM_LEN 16 16 len).setF Reg.FRM_SYNC_PHASE 16 16 (pull % 65536).toNat).onFrm (fun f => { f with pullSum := f.pullSum + p.natAbs })

theorem pullFrame_eq (p : Int) (s : State) :
    pullFrame p s = onChip (fun _ => pullMark p ((s.env.time.len : Int) + p).toNat)
      { s with env := { s.env with time := { s.env.time with len := ((s.env.time.len : Int) + p).toNat } } } := rfl

theorem edgeMark_rd (err : Int) (c : Chip) (a : Nat) : (edgeMark err c).rd a =
    if a = Reg.FRM_SYNC_PHASE then fset (c.rd Reg.FRM_SYNC_PHASE) 0 16 (err % 65536).toNat
    else if a = Reg.FRM_STAT then (if syncMode c = 0 then c.rd Reg.FRM_STAT else fset (c.rd Reg.FRM_STAT) 8 5 (min 16 (lockRun c + 1)))
    else c.rd a := by
  unfold edgeMark
  by_cases ha : a = Reg.FRM_SYNC_PHASE
  · subst ha; split <;> simp +decide [Chip.rd_setF]
  · by_cases hs : a = Reg.FRM_STAT
    · subst hs; split <;> simp +decide [Chip.rd_setF, *]
    · split <;> simp [Chip.rd_setF, ha, hs]

theorem edgeMark_winEdge (err : Int) (c : Chip) : (edgeMark err c).frm.winEdge = true := by
  unfold edgeMark; split <;> rfl

theorem edgeMark_frmLocked (err : Int) (c : Chip) : frmLocked (edgeMark err c) = frmLocked c := by
  simp +decide only [frmLocked, Chip.b, edgeMark_rd, if_false, if_true]
  split
  · rfl
  · exact fbit_fset_ne _ 8 5 _ 31 (by omega)

theorem edgeMark_lockRun (err : Int) (c : Chip) : lockRun (edgeMark err c) = if syncMode c = 0 then lockRun c else min 16 (lockRun c + 1) := by
  simp +decide only [lockRun, Chip.f, edgeMark_rd, if_false, if_true]
  split
  · rfl
  · rw [fget_fset_same _ 8 5 _ (by omega)]; omega

theorem pullMark_rd_ne (p : Int) (len : Nat) (c : Chip) {a : Nat} (h : a ∉ [Reg.FRM_LEN, Reg.FRM_SYNC_PHASE]) :
    (pullMark p len c).rd a = c.rd a := by
  simp only [List.mem_cons, List.not_mem_nil, or_false, not_or] at h
  simp [pullMark, Chip.rd_setF, h]

/-- A pull shows in PULL and leaves ERR. -/
theorem pullMark_err (p : Int) (len : Nat) (c : Chip) : (pullMark p len c).f Reg.FRM_SYNC_PHASE 0 16 = c.f Reg.FRM_SYNC_PHASE 0 16 := by
  simp +decide [pullMark, Chip.f, Chip.rd_setF, fget_fset_ne]

theorem pullOf_natCast (n : Nat) : pullOf n = (min n 250 : Nat) := by
  unfold pullOf; split
  · omega
  · split <;> omega

/-- The first edge in an open window is evaluated; on a SOLO chip the frame is pulled unless it runs free (R61 to R63, R65). -/
theorem exec_fsyncEdge_of_first {s : State} {cyc : Nat} (hctl : s.chip.ctl = true) (hc : cyc < 2500) (hl : cyc + 2500 < s.env.time.len)
    (hw : s.chip.frm.wmode ≠ 0) (hedge : s.chip.frm.winEdge = false) (hrole : s.chip.role = 0) :
    exec (.fsyncEdge cyc) s = .next (if s.chip.frm.freeRun then onChip (fun _ => edgeMark cyc) s
      else pullFrame (min cyc 250 : Nat) (onChip (fun _ => edgeMark cyc) s)) := by
  have hlen : ¬ s.env.time.len ≤ cyc := by omega
  have hown : pullsOwn s.env s.chip = true := by simp [pullsOwn, hrole]
  change execFsyncEdge cyc s = _
  simp only [execFsyncEdge, hctl, hlen, hc, hl, hw, hedge, Bool.not_true, Bool.false_eq_true, or_self, and_self, if_true, if_false, edgeTake, hown,
    Bool.true_and, pullOf_natCast]
  cases s.chip.frm.freeRun <;> rfl

/-- A second edge in the window is an extra one (R61). -/
theorem exec_fsyncEdge_of_second {s : State} {cyc : Nat} (hctl : s.chip.ctl = true) (hc : cyc < 2500) (hl : cyc + 2500 < s.env.time.len)
    (hw : s.chip.frm.wmode ≠ 0) (hedge : s.chip.frm.winEdge = true) :
    exec (.fsyncEdge cyc) s = .next (onChip (fun _ => edgeExtra) s) := by
  have hlen : ¬ s.env.time.len ≤ cyc := by omega
  change execFsyncEdge cyc s = _
  simp only [execFsyncEdge, hctl, hlen, hc, hl, hw, hedge, Bool.not_true, Bool.false_eq_true, or_self, and_self, if_true, if_false]

/-- An edge outside every window, counted before it acts (R65). -/
def edgeLost (e : Env) (c : Chip) : Chip :=
  (lockDrop e ((c.wrap Reg.FRM_SYNC_CNT_A 16 16 1).setB Reg.FRM_EVT 4 true)).onFrm (fun f => { f with freeRun := true })

theorem exec_fsyncEdge_of_outside {s : State} {cyc : Nat} (hctl : s.chip.ctl = true) (hc : 2500 ≤ cyc) (hl : cyc + 2500 < s.env.time.len)
    (hm : syncMode s.chip ≠ 0) (hpre : s.chip.frm.prelock = false) : exec (.fsyncEdge cyc) s = .next (onChip edgeLost s) := by
  have hlen : ¬ s.env.time.len ≤ cyc := by omega
  have hin : ¬ (cyc < 2500 ∧ cyc + 2500 < s.env.time.len) := by omega
  have hearly : ¬ s.env.time.len ≤ cyc + 2500 := by omega
  change execFsyncEdge cyc s = _
  simp only [execFsyncEdge, hctl, hlen, hin, hearly, hm, Bool.not_true, Bool.false_eq_true, or_self, if_false, edgeOutside, hpre]
  rfl

/-- Losing the lock raises its own flag and no other one. -/
theorem lockDrop_b_EVT (e : Env) (c : Chip) {i : Nat} (h : i ≠ 7) : (lockDrop e c).b Reg.FRM_EVT i = c.b Reg.FRM_EVT i := by
  simp only [lockDrop, Chip.b, Chip.onFrm_rd]
  by_cases hl : frmLocked (c.setF Reg.FRM_STAT 8 5 0) = false
  · rw [lockSet_of_eq e hl, Chip.rd_setF_ne _ (by decide)]
  · rw [lockSet_rd_EVT e hl, Chip.rd_setF_ne _ (by decide)]
    exact fbit_fsetb_ne _ _ h

end Sys2Proof.Machine

/-- Settles O12: at each of the four commands the condition of its due event holds, and the words that the event writes read as set. -/
theorem lockRules : Obligations.LockRules := by
  refine ⟨?_, ?_, ?_, ?_⟩
  · intro s hctl hph hw hclosed hedge hoff
    obtain ⟨h, ht⟩ := exec_fsyncMiss_of_open hctl hph hw hclosed hedge
    refine ⟨_, ht, max_eq_right hoff, ?_, ?_, ?_, ?_, ?_, missMark_missRun _, rfl, rfl, rfl, rfl, rfl, ?_⟩
    · simp [Chip.f, missMark_rd, fget_fset_same]
    · simp +decide [Chip.b, missMark_rd, fbit_fsetb_same]
    · simp +decide [Chip.f, missMark_rd, fget_fset_same]
    · exact missMark_frmLocked _
    · exact missMark_lockRun _
    · intro a ha
      simp only [List.mem_cons, List.not_mem_nil, or_false, not_or] at ha
      simp [missMark_rd, ha]
  · intro s hctl hlock hrun
    have hne : frmLocked s.chip ≠ true := by simp [hlock]
    obtain ⟨hwr, hlost⟩ := lockSet_logRegs s.env hne hctl
    refine ⟨_, exec_lockGained_of_due hctl hlock hrun, ?_, ?_, ?_, rfl, rfl, ⟨rfl, rfl, rfl, rfl, rfl, rfl⟩, ?_, ?_⟩
    · simp [frmLocked, Chip.b, Chip.rd_setB, lockSet_rd_STAT, fbit_fsetb]
    · simp [lockRun, Chip.f, Chip.rd_setB, lockSet_rd_STAT, fget_fsetb_ne]
      exact hrun
    · simp +decide [Chip.b, Chip.rd_setB, lockSet_rd_EVT _ hne, fbit_fsetb]
    · simp +decide [Chip.rd_setB, hwr]
    · intro a ha
      simp only [List.mem_cons, List.not_mem_nil, or_false, not_or] at ha
      obtain ⟨hs, he, hw⟩ := ha
      simp only [onChip_chip, Chip.onFrm_rd, Chip.rd_setB_ne _ hs]
      by_cases hl : a ∈ [Reg.FRM_SYNC_CNT_B, Reg.CHIP_LOG_LOST]
      · simp only [List.mem_cons, List.not_mem_nil, or_false] at hl
        rcases hl with rfl | rfl
        · rw [lockSet_rd_CNT_B _ hne, if_pos rfl]
        · exact hlost
      · simp only [List.mem_cons, List.not_mem_nil, or_false, not_or] at hl
        exact lockSet_rd_ne _ _ _ hs (by simp [he, hw, hl])
  · intro s hctl hlock hrun
    have hne : frmLocked (s.chip.setF Reg.FRM_STAT 8 5 0) ≠ false := by rw [frmLocked_setF_run, hlock]; decide
    have hctl' : (s.chip.setF Reg.FRM_STAT 8 5 0).ctl = true := (Chip.ctl_of_rd (Chip.rd_setF_ne _ (by decide))).trans hctl
    refine ⟨_, exec_lockLost_of_due hctl hlock hrun, ?_, ?_, ?_, ?_, ⟨rfl, rfl, rfl, rfl, rfl, rfl⟩, ?_⟩
    · simp [frmLocked, Chip.b, lockDrop_rd_STAT, fbit_fsetb]
    · simp [lockRun, Chip.f, lockDrop_rd_STAT, fget_fsetb_ne, fget_fset_same]
    · simp +decide [Chip.b, lockDrop, lockSet_rd_EVT _ hne, fbit_fsetb]
    · simp +decide [Chip.f, lockDrop, lockSet_rd_CNT_B _ hne, fget_fset_same, Chip.rd_setF]
    · intro a ha
      simp only [List.mem_cons, List.not_mem_nil, or_false, not_or] at ha
      obtain ⟨hs, he, hb, hw⟩ := ha
      by_cases hl : a = Reg.CHIP_LOG_LOST
      · subst hl
        exact (lockSet_logRegs s.env hne hctl').2.trans (Chip.rd_setF_ne _ hs)
      · exact lockDrop_rd_ne _ _ hs (by simp [he, hb, hw, hl])
  · intro s hctl hph hout hw
    obtain ⟨h, ht⟩ := exec_fsyncOutFall_of_high hctl hph hout hw
    exact ⟨_, ht, rfl, rfl, rfl, rfl, rfl, rfl, rfl, fun _ _ => rfl⟩

/-- Settles O11: the three places of an edge are the three branches of FSYNC_EDGE; a pull writes FRM.LEN and PULL beside what the edge itself marks. -/
theorem fsyncEdges : Obligations.FsyncEdges := by
  refine ⟨?_, ?_, ?_⟩
  · intro s cyc hctl hc hl hw hedge hrole
    have herr : (edgeMark cyc s.chip).f Reg.FRM_SYNC_PHASE 0 16 = cyc := by
      simp +decide only [Chip.f, edgeMark_rd, if_true, fget_fset_same]
      omega
    have hsame : ∀ a, a ∉ [Reg.FRM_SYNC_PHASE, Reg.FRM_STAT, Reg.FRM_LEN] → (edgeMark cyc s.chip).rd a = s.chip.rd a := by
      intro a ha
      simp only [List.mem_cons, List.not_mem_nil, or_false, not_or] at ha
      simp [edgeMark_rd, ha]
    refine ⟨_, exec_fsyncEdge_of_first hctl hc hl hw hedge hrole, ?_⟩
    cases hfree : s.chip.frm.freeRun
    · simp only [pullFrame_eq, Bool.false_eq_true, if_false, onChip_chip]
      have hstat := pullMark_rd_ne (min cyc 250 : Nat) (((s.env.time.len : Int) + (min cyc 250 : Nat)).toNat) (edgeMark cyc s.chip)
        (a := Reg.FRM_STAT) (by decide)
      refine ⟨by simp only [onChip_env]; omega, ?_, ?_, edgeMark_winEdge _ _, ?_, rfl, rfl, rfl, rfl, rfl, rfl, ?_⟩
      · exact (pullMark_err _ _ _).trans herr
      · rw [← edgeMark_lockRun cyc]; simp only [lockRun, Chip.f]; exact congrArg (fget · 8 5) hstat
      · rw [← edgeMark_frmLocked cyc s.chip]; simp only [frmLocked, Chip.b]; exact congrArg (fbit · 31) hstat
      · intro a ha
        refine (pullMark_rd_ne _ _ _ ?_).trans (hsame a ha)
        simp only [List.mem_cons, List.not_mem_nil, or_false, not_or] at ha ⊢
        exact ⟨ha.2.2, ha.1⟩
    · exact ⟨rfl, herr, edgeMark_lockRun _ _, edgeMark_winEdge _ _, edgeMark_frmLocked _ _, rfl, rfl, rfl, rfl, rfl, rfl, hsame⟩
  · intro s cyc hctl hc hl hw hedge
    refine ⟨_, exec_fsyncEdge_of_second hctl hc hl hw hedge, ?_, ?_, ⟨rfl, rfl, rfl, rfl, rfl, rfl⟩, ?_⟩
    · exact Chip.b_setB_same _ _ _ _ (by omega)
    · simp +decide [edgeExtra, Chip.f, Chip.rd_setB, Chip.rd_wrap, fget_fset_same]
    · intro a ha
      simp only [List.mem_cons, List.not_mem_nil, or_false, not_or] at ha
      simp [edgeExtra, Chip.rd_setB, Chip.rd_wrap, ha]
  · intro s cyc hctl hc hl hm hpre
    refine ⟨_, exec_fsyncEdge_of_outside hctl hc hl hm hpre, ?_, ?_, ?_, ?_, rfl, ⟨rfl, rfl, rfl, rfl, rfl, rfl⟩, ?_⟩
    · exact (lockDrop_b_EVT _ _ (by decide)).trans (Chip.b_setB_same _ _ _ _ (by omega))
    · simp +decide [edgeLost, Chip.f, lockDrop_rd_ne, Chip.rd_setB, Chip.rd_wrap, fget_fset_same]
    · simp [edgeLost, frmLocked, Chip.b, lockDrop_rd_STAT, fbit_fsetb]
    · simp [edgeLost, lockRun, Chip.f, lockDrop_rd_STAT, fget_fsetb_ne, fget_fset_same]
    · intro a ha
      simp only [List.mem_cons, List.not_mem_nil, or_false, not_or] at ha
      obtain ⟨hna, hnb, hne, hns, hnw, hnl⟩ := ha
      simp [edgeLost, lockDrop_rd_ne _ _ hns (show a ∉ lockRegs by simp [hnb, hne, hnw, hnl]), Chip.rd_setB, Chip.rd_wrap, hna, hne]
end

section
/-! PROOF. The places of the event log's ring, and an anchor in a ring that is full of entries of its own cycle (R30, R74, R167). -/
open Sys2Proof Sys2Proof.Machine
namespace Sys2Proof.Machine

/-! ### Where an entry goes -/

/-- An entry of a stamp that no stored one has goes to the end of the ring. -/
theorem logPlace_of_ts_ne (log : List (Nat × LogEntry)) (en : LogEntry) (n w : Nat)
    (h : ∀ k, (logAt log k).ts ≠ en.ts) : logPlace log en n w = w := by
  cases n with
  | zero => rfl
  | succ n => simp [logPlace, h]

/-- Over a ring of equal entries of its cycle, which rank lower and are none of an anchor, an entry goes back as far as the search does. -/
theorem logPlace_const (log : List (Nat × LogEntry)) (en x : LogEntry) (hall : ∀ k, logAt log k = x)
    (hts : x.ts = en.ts) (hsrc : x.src ≠ srcWord 0x02 0 0x0A) (hb : logBefore en x = true) (n w : Nat) :
    logPlace log en n w = w - n := by
  induction n generalizing w with
  | zero => rfl
  | succ n ih =>
    by_cases hw : 1 ≤ w
    · simp only [logPlace, hall, hsrc, if_false, hw, hts, hb, and_self, if_true, ih]
      omega
    · simp only [logPlace, hall, hsrc, if_false, hw, false_and]
      omega

/-- What holds of the stamp of every stored entry and of a new one holds of every entry of the ring with it. -/
theorem Chip.put_ts (P : BitVec 64 → Prop) (c : Chip) (en : LogEntry) (hc : ∀ k, P (logAt c.log k).ts) (hen : P en.ts) (k : Nat) :
    P (logAt (c.put en).log k).ts := by
  have hset (l : List (Nat × LogEntry)) (j : Nat) (x : LogEntry) (hl : ∀ k, P (logAt l k).ts) (hx : P x.ts) (k : Nat) :
      P (logAt (tset (fun _ => ({} : LogEntry)) l j x) k).ts := by
    unfold logAt; rw [tget_tset]; split
    · exact hx
    · exact hl k
  have hmoved (r : List Nat) (w : Nat) (l : List (Nat × LogEntry)) (hl : ∀ k, P (logAt l k).ts) (k : Nat) :
      P (logAt (r.foldl (fun l i => tset (fun _ => ({} : LogEntry)) l ((w - i) % 4096) (logAt c.log (w - i - 1))) l) k).ts := by
    induction r generalizing l with
    | nil => exact hl k
    | cons i r ih => exact ih _ (hset l _ _ hl (hc _))
  exact hset _ _ _ (hmoved _ _ _ hc) hen k

/-- An entry that goes to the end of the ring is the one change to it. -/
theorem Chip.put_log_of_last (c : Chip) (en : LogEntry) (h : c.logNext en = c.n Reg.CHIP_LOG_WR) :
    (c.put en).log = tset (fun _ => ({} : LogEntry)) c.log (c.n Reg.CHIP_LOG_WR % 4096) en := by
  simp [Chip.put, h]

theorem Chip.put_n_LOG_WR (c : Chip) (en : LogEntry) : (c.put en).n Reg.CHIP_LOG_WR = (c.n Reg.CHIP_LOG_WR + 1) % 2 ^ 32 := by
  rw [Chip.n, (c.put_entry en).2, toNat_word]

/-! ### A ring full of entries of one cycle -/

/-- An entry of the Service region at cycle 2 of frame 0, which ranks below every entry of the frame engine (R30). -/
def lateEntry : LogEntry := ⟨2, srcWord 0x20 0 1, 0⟩
/-- A ring of 4,096 such entries. -/
@[irreducible] def lateRing : List (Nat × LogEntry) := (List.range 4096).map (fun k => (k, lateEntry))

theorem tget_map_range (x : LogEntry) (l : List Nat) (k : Nat) (h : k ∈ l) :
    tget (fun _ => ({} : LogEntry)) (l.map (fun k => (k, x))) k = x := by
  induction l with
  | nil => cases h
  | cons a l ih =>
    by_cases ha : a = k
    · simp [tget, ha]
    · simp only [List.map_cons, tget, ha, if_false]
      exact ih ((List.mem_cons.mp h).resolve_left (Ne.symm ha))

theorem logAt_lateRing (k : Nat) : logAt lateRing k = lateEntry := by
  unfold lateRing
  exact tget_map_range _ _ _ (List.mem_range.mpr (Nat.mod_lt _ (by norm_num)))

/-- Cycle 2 of frame 0, with an anchor due and the ring full of entries of this cycle. -/
def anchorLate : State :=
  { State.reset with
    env := { State.reset.env with time := { State.reset.env.time with offset := 2, bndTime := 1 } }
    chip := { State.reset.chip.wr Reg.CHIP_LOG_WR 4095 with log := lateRing, frm := { State.reset.chip.frm with anchorDue := true } } }

/-- The IEEE 1588 seconds of the last boundary as an anchor shows them (R739). -/
def anchorSecs (c : Chip) : Nat := if c.b Reg.ETH_PTP_CFG 31 then c.n Reg.ETH_BND_S_LO + 2 ^ 32 * (c.n Reg.ETH_BND_S_HI % 65536) else 0
/-- The three entries of an anchor (R74). -/
def anchorEntries (e : Env) (c : Chip) : LogEntry × LogEntry × LogEntry :=
  (⟨e.time.stamp, srcWord 0x02 0 0x08, word (c.cuts.nom * 65536 + (if frmLocked c then 2 ^ 15 else 0))⟩,
   ⟨e.time.bndTime, srcWord 0x02 0 0x09, word c.frm.pullSum⟩,
   ⟨BitVec.ofNat 64 (anchorSecs c), srcWord 0x02 0 0x0A, if c.b Reg.ETH_PTP_CFG 31 then c.rd Reg.ETH_BND_NS else 0⟩)

/-- An anchor while the Control region runs. -/
theorem timeAnchor_of_ctl (e : Env) (c : Chip) (h : c.ctl = true) :
    timeAnchor e c = (((c.put (anchorEntries e c).1).put (anchorEntries e c).2.1).put (anchorEntries e c).2.2).onFrm
      (fun f => { f with pullSum := 0, anchorDue := false }) := by
  have hb (en : LogEntry) (i : Nat) : (c.put en).b Reg.ETH_PTP_CFG i = c.b Reg.ETH_PTP_CFG i := by
    simp only [Chip.b, Chip.put_rd_ne _ _ (show Reg.ETH_PTP_CFG ≠ Reg.CHIP_LOG_WR by decide)]
  simp only [timeAnchor, frmLog, Chip.log1, Chip.putAt_of_ctl, Chip.ctl_put, h]
  rfl

/-- In a ring full of entries of its cycle, the first entry of an anchor goes before all of them, to the oldest place, and the second one overwrites
it: LOG_WR has moved on by 4,096 places from there. -/
theorem Chip.put_three_overwrites (c : Chip) (en1 en2 en3 : LogEntry) (hall : ∀ k, logAt c.log k = lateEntry) (hw : c.n Reg.CHIP_LOG_WR = 4095)
    (h1 : en1.ts = 2) (hb : logBefore en1 lateEntry = true) (h2 : en2.ts = 1) (h3 : en3.ts = 0) :
    logAt (((c.put en1).put en2).put en3).log (c.logNext en1) = en2 := by
  have hp : c.logNext en1 = 0 := by
    rw [Chip.logNext, logPlace_const _ _ lateEntry hall h1.symm (by decide) hb, hw]
  have ts1 (k : Nat) : (logAt (c.put en1).log k).ts = 2 := Chip.put_ts (· = 2) _ _ (fun k => by rw [hall]; rfl) h1 k
  have last2 : (c.put en1).logNext en2 = (c.put en1).n Reg.CHIP_LOG_WR :=
    logPlace_of_ts_ne _ _ _ _ (fun k => by rw [ts1, h2]; decide)
  have ts2 (k : Nat) : (logAt ((c.put en1).put en2).log k).ts ≠ 0 :=
    Chip.put_ts (· ≠ 0) _ _ (fun k => by rw [ts1]; decide) (by rw [h2]; decide) k
  have last3 : ((c.put en1).put en2).logNext en3 = ((c.put en1).put en2).n Reg.CHIP_LOG_WR :=
    logPlace_of_ts_ne _ _ _ _ (fun k => by rw [h3]; exact ts2 k)
  rw [hp, Chip.put_log_of_last _ _ last3, Chip.put_log_of_last _ _ last2]
  simp [Chip.put_n_LOG_WR, hw, logAt, tget_tset]
theorem exec_timeAnchor_of_due {s : State} (h : s.chip.ctl = true) (hd : s.chip.frm.anchorDue = true) :
    exec .timeAnchor s = .next (onChip timeAnchor s) := by
  change Host.Outcome.next (onChip (fun e c => if c.ctl && c.frm.anchorDue then timeAnchor e c else c) s) = _
  simp [onChip, h, hd]

end Sys2Proof.Machine

/-- Refutes O15: where the ring holds 4,096 entries of the anchor's cycle whose region ranks lower, R30 puts the anchor's first entry before all of
them, at the oldest place, and the second entry overwrites it there. -/
theorem not_frozenGrants : ¬ Obligations.FrozenGrants := by
  rintro ⟨-, -, -, hanchor⟩
  have hctl : anchorLate.chip.ctl = true := by decide +kernel
  have hdue : anchorLate.chip.frm.anchorDue = true := rfl
  obtain ⟨t, ht, -, -, -, hlog, -⟩ := hanchor anchorLate hctl hdue
  rw [exec_timeAnchor_of_due hctl hdue] at ht
  cases ht
  rw [logged, onChip_chip, timeAnchor_of_ctl _ _ hctl, Chip.onFrm_log] at hlog
  have hsnd := Chip.put_three_overwrites anchorLate.chip (anchorEntries anchorLate.env anchorLate.chip).1
    (anchorEntries anchorLate.env anchorLate.chip).2.1 (anchorEntries anchorLate.env anchorLate.chip).2.2 logAt_lateRing
    (by decide +kernel) (by decide +kernel) (by decide +kernel) (by decide +kernel) (by decide +kernel)
  exact absurd (hlog.symm.trans hsnd) (by decide +kernel)
end

section
/-! PROOF. A Solve start that finds an evaluation waiting (R222, R223). -/
open Sys2Proof Sys2Proof.Machine
namespace Sys2Proof.Machine
/-- A SOLO chip between its bundle cut-off and its Solve start, whose evaluation waits at the marks of stage 0 with position 0 suspect. -/
def suspectWaits : State :=
  { State.reset with chip := { State.reset.chip with
      frm := { State.reset.chip.frm with phase := 1 }
      mov := { State.reset.chip.mov with todo := [.mark 0], stg := [(0, { susp := [0] })] } } }

end Sys2Proof.Machine

/-- Refutes O10: SOLVE_START first ends the evaluation that still waits (R222), which marks the suspect position in XPT.MARK, so that on a SOLO chip
FRM.USED is not the only register that it changes. -/
theorem not_frameCuts : ¬ Obligations.FrameCuts := by
  rintro ⟨-, hsolve, -⟩
  obtain ⟨t, ht, -, -, -, -, -, -, hsolo⟩ := hsolve suspectWaits (by decide +kernel) rfl (by decide +kernel)
  obtain ⟨-, -, -, -, hregs⟩ := hsolo (by decide +kernel)
  obtain ⟨-, hsame⟩ := hregs (by decide +kernel)
  have hmark : ∀ u, exec .solveStart suspectWaits = .next u → u.chip.b (Reg.XPT_MARK 0) 0 = true := by
    rintro u ⟨⟩
    decide +kernel
  have hold : suspectWaits.chip.b (Reg.XPT_MARK 0) 0 = false := by decide +kernel
  have := hmark t ht
  rw [Chip.b, hsame _ (by decide)] at this
  exact absurd (hold.symm.trans this) (by decide)
end

section
/-! PROOF. The debug port's entries while the Control region is down (R169, R741). -/
open Sys2Proof Sys2Proof.Machine
namespace Sys2Proof.Machine
/-- A part from reset whose Control region restarts, while its Service region runs. -/
def controlRestarting : State := { State.reset with chip := State.reset.chip.setRgn .control 1 }

/-- While the Control region does not run, an entry of a Control or Service unit is counted as lost, and the ring stands (R169). -/
theorem Chip.log1_log_of_down (c : Chip) (e : Env) (t i k d : Nat) (h : c.ctl = false) : (c.log1 e t i k d).log = c.log := by
  simp [Chip.log1, Chip.putAt, h]
theorem debugUnlock_logs_nothing : ∀ t, exec (.debugUnlock true) controlRestarting = .next t → t.chip.log = [] := by
  rintro t ⟨⟩
  change (if _ then Chip.log1 _ _ _ _ _ _ else _).log = []
  split
  · exact Chip.log1_log_of_down _ _ _ _ _ _ (by decide +kernel)
  · rfl
end Sys2Proof.Machine
/-- Refutes O59: while the Control region restarts, the entry of an unlock is counted as lost (R169), so that no place of the ring holds it. -/
theorem not_hostEvents : ¬ Obligations.HostEvents := by
  intro h
  obtain ⟨-, -, -, -, -, -, -, -, -, -, -, hunlock, -⟩ := h
  obtain ⟨t, ht, -, -, hlog, -⟩ := hunlock controlRestarting (by decide +kernel)
  rw [logged, debugUnlock_logs_nothing t ht] at hlog
  exact absurd hlog (by decide +kernel)
end

section
/-! PROOF. The time words, and the reset values of the register tables. -/
open Sys2Proof Sys2Proof.Machine
namespace Sys2Proof.Machine
theorem planeCode_injective : Function.Injective planeCode :=
  Function.LeftInverse.injective (g := planeOf) (fun p => by cases p <;> rfl)

/-- FRM.NOW_LO of an instant (R73). -/
def TimeBase.nowLo (t : TimeBase) : Word := word (t.frameNo.toNat % 65536 * 65536 + t.offset % 65536)
/-- The six time words of an instant (R73). -/
def TimeBase.latch (t : TimeBase) : NowLatch :=
  ⟨t.nowLo, word (t.frameNo.toNat / 65536), word t.site, word (t.site / 2 ^ 32), t.bndTime.setWidth 32, (t.bndTime >>> 32).setWidth 32⟩

theorem execNowLoRead_of_ctl (p : Plane) {s : State} (h : s.chip.ctl = true) :
    exec (.nowLoRead p) s = .next { s with rdata := s.env.time.nowLo, chip := { s.chip with now := tset (fun _ => {}) s.chip.now (planeCode p) s.env.time.latch } } := by
  change Host.Outcome.next (if s.chip.ctl then _ else _) = _
  rw [if_pos h]; rfl
end Sys2Proof.Machine
/-- Settles O13: the latch of the reading plane is set, and the planes' codes differ. -/
theorem timeWords : Obligations.TimeWords := by
  intro s p hctl
  refine ⟨_, execNowLoRead_of_ctl p hctl, rfl, tget_tset_same _ _ _ _, ?_, fun _ _ => rfl, rfl, rfl, rfl, rfl, rfl⟩
  intro q _ hq
  exact tget_tset_ne _ _ _ (planeCode_injective.ne hq)

/-- Settles O60: each register of State.reset reads the reset value of its row of the register map. -/
theorem resetValues : Obligations.ResetValues := by
  unfold Obligations.ResetValues
  decide +kernel
end

section
/-! PROOF. The frame's time at a boundary: Imposition, the pair's part and the opening of the frame leave the clock that the new
frame begins with, and FRAME_BOUNDARY advances it (ch. 2, R69, R70). -/
open Sys2Proof Sys2Proof.Machine
namespace Sys2Proof.Machine

/-- The queue, the part and the time of a state but the length of the present frame, which a pull or a new period changes. -/
def State.clock (s : State) : List Instr × Env := (s.pending, { s.env with time := { s.env.time with len := 0 } })

/-! ### Repeated effects -/

/-- What every effect of a loop leaves, the loop leaves. -/
theorem eachOf_kept {α β γ : Type} {g : α → γ} {l : List β} {f : β → α → α} (hf : ∀ x ∈ l, ∀ a, g (f x a) = g a) (a : α) :
    g (eachOf l f a) = g a := by
  induction l generalizing a with
  | nil => rfl
  | cons x l ih => exact (ih (fun y hy => hf y (List.mem_cons_of_mem x hy)) (f x a)).trans (hf x List.mem_cons_self a)

theorem eachBelow_kept {α γ : Type} {g : α → γ} {n : Nat} {f : Nat → α → α} (hf : ∀ i < n, ∀ a, g (f i a) = g a) (a : α) :
    g (eachBelow n f a) = g a :=
  eachOf_kept (fun i hi => hf i (List.mem_range.mp hi)) a

@[simp] theorem eachOf_clock {β : Type} {f : β → State → State} (hf : ∀ x s, (f x s).clock = s.clock) (l : List β) (s : State) :
    (eachOf l f s).clock = s.clock := eachOf_kept (fun x _ => hf x) s

/-! ### Effects that leave the clock -/

@[simp] theorem onChip_clock (f : Env → Chip → Chip) (s : State) : (onChip f s).clock = s.clock := rfl
@[simp] theorem onMet_clock (f : Env → Met → Met × List LogReq) (s : State) : (onMet f s).clock = s.clock := rfl
@[simp] theorem onChipMem_clock (f : Env → Chip × List Host.Cell → Chip × List Host.Cell) (s : State) : (onChipMem f s).clock = s.clock := rfl
@[simp] theorem commit_clock (s : State) : s.commit.clock = s.clock := rfl

@[simp] theorem onCan_clock (c : Nat) (f : CanV → CanV) (s : State) : (onCan c f s).clock = s.clock := by
  unfold onCan
  by_cases h : c = 7
  · rw [if_pos h, apply_ite State.clock]; exact ite_self _
  · rw [if_neg h, apply_ite State.clock]; exact ite_self _

@[simp] theorem roleSet_clock (r cause : Nat) (s : State) : (roleSet r cause s).clock = s.clock := by
  by_cases h : s.chip.role = r
  · simp [roleSet, h]
  · simp only [roleSet, h, if_false]
    split <;> split <;> rfl

@[simp] theorem pullFrame_clock (p : Int) (s : State) : (pullFrame p s).clock = s.clock := rfl

@[simp] theorem edgeTake_clock (err : Int) (s : State) : (edgeTake err s).clock = s.clock := by
  unfold edgeTake; split <;> rfl

@[simp] theorem frmOpen_clock (mode : Nat) (s : State) : (frmOpen mode s).clock = s.clock := by
  unfold frmOpen
  dsimp only
  split <;> split <;> simp

@[simp] theorem snapCapture_clock (s : State) : (snapCapture s).clock = s.clock := rfl
@[simp] theorem gatherFreeze_clock (s : State) : (gatherFreeze s).clock = s.clock := rfl

@[simp] theorem openFrame_clock (mode : Nat) (pull : Option Int) (s : State) : (openFrame mode pull s).clock = s.clock := by
  cases pull <;> simp [openFrame]

@[simp] theorem cellRestart_clock (page j : Nat) (s : State) : (cellRestart page j s).clock = s.clock := by
  unfold cellRestart
  split
  · rfl
  · split <;> simp

@[simp] theorem imposeUnfence_clock (x : Nat × Nat) (s : State) : (imposeUnfence x s).clock = s.clock := by
  unfold imposeUnfence
  split <;> simp

@[simp] theorem imposedHook_clock (old : RegTable) (all : List (Nat × Word)) (a : Nat) (s : State) :
    (imposedHook old all a s).clock = s.clock := by
  unfold imposedHook
  split
  case h_1 => split <;> rfl
  case h_2 g hg =>
    cases g.kind <;> simp only [apply_ite State.clock, onChip_clock, onCan_clock, ite_self]

@[simp] theorem imposition_clock (s : State) : (imposition s).clock = s.clock := by
  unfold imposition
  dsimp only
  split
  · rfl
  · simp only [onChip_clock, eachOf_clock, imposeUnfence_clock, imposedHook_clock, implies_true]
    rfl

@[simp] theorem pairBoundary_clock (s : State) : (pairBoundary s).clock = s.clock := by
  unfold pairBoundary
  dsimp only
  split
  · rfl
  · rw [onChip_clock]
    simp only [apply_ite State.clock, onChip_clock, roleSet_clock, ite_self]

theorem openFrame_phase (mode : Nat) (pull : Option Int) (s : State) : (openFrame mode pull s).chip.frm.phase = 0 := rfl

/-! ### FRAME_BOUNDARY -/

/-- The clock of the frame that opens: one frame further, at offset 0, with the ended frame's length added to the boundary time (R69, R70). -/
theorem nextFrame_clock (s : State) : (nextFrame s).clock =
    (s.pending, { s.env with time := { s.env.time with
      frameNo := s.env.time.frameNo + 1, offset := 0, bndTime := s.env.time.bndTime + BitVec.ofNat 64 s.env.time.len, len := 0 } }) := rfl

/-- Where the boundary is due, the frame opens after Imposition and the pair's part, from a state with the clock of the next frame. -/
theorem exec_frameBoundary_of_due {s : State} (hctl : s.chip.ctl = true) (hphase : s.chip.frm.phase = 5) (hheld : s.chip.flt.held = []) :
    ∃ mode pull f u, exec .frameBoundary s = .next (openFrame mode pull (pairBoundary (onMet f (imposition u)))) ∧
      u.clock = (nextFrame (s.reach s.env.time.len)).clock := by
  have hdue : (s.chip.ctl && s.chip.frm.phase == 5 && s.chip.flt.held.isEmpty) = true := by simp [hctl, hphase, hheld]
  have hexec : exec .frameBoundary s = .next _ := congrArg Host.Outcome.next (if_pos hdue)
  exact ⟨_, _, _, _, hexec, rfl⟩

end Sys2Proof.Machine

/-- Settles O9: every part of the boundary leaves the clock that `nextFrame` sets. -/
theorem frameBoundaryTime : Obligations.FrameBoundaryTime := by
  refine ⟨fun s hctl hphase hheld hlen => ?_, rfl⟩
  obtain ⟨mode, pull, f, u, hexec, hu⟩ := exec_frameBoundary_of_due hctl hphase hheld
  obtain ⟨h, hreach⟩ := reach_of_ctl hctl s.env.time.len
  have hclock : (openFrame mode pull (pairBoundary (onMet f (imposition u)))).clock = (nextFrame (s.atCycle s.env.time.len h)).clock := by
    simp [hu, hreach]
  obtain ⟨hpend, henv⟩ := Prod.mk.inj hclock
  have htime := congrArg Env.time henv
  exact ⟨_, hexec, congrArg TimeBase.frameNo htime, congrArg TimeBase.offset htime, congrArg TimeBase.bndTime htime, openFrame_phase _ _ _,
    congrArg TimeBase.up htime, (congrArg Env.part henv :), hpend⟩
end

section
/-! PROOF. The engines' completion (ch. 2, R41 to R49): the words and the state of the frame engine that the commit of the Control
Engine's results and the acceptance of move requests leave. -/
open Sys2Proof Sys2Proof.Machine
namespace Sys2Proof.Machine

/-- What a Solve's completion shows in the frame engine: its state, FRM.STAT and FRM.USED. -/
def Chip.solveShown (c : Chip) : FrameSt × Word × Word := (c.frm, c.rd Reg.FRM_STAT, c.rd Reg.FRM_USED)

/-! ### Effects above the frame's page -/

/-- A word above the frame's page is none of the frame engine's. -/
@[simp] theorem Chip.wr_solveShown (c : Chip) {a : Nat} (v : Word) (h : 0x40002000 ≤ a) : (c.wr a v).solveShown = c.solveShown := by
  have hs : Reg.FRM_STAT ≠ a := by unfold Reg.FRM_STAT; omega
  have hu : Reg.FRM_USED ≠ a := by unfold Reg.FRM_USED; omega
  simp [Chip.solveShown, Chip.rd_wr_ne, hs, hu]

@[simp] theorem Chip.setF_solveShown (c : Chip) {a : Nat} (lo w n : Nat) (h : 0x40002000 ≤ a) :
    (c.setF a lo w n).solveShown = c.solveShown := c.wr_solveShown _ h
@[simp] theorem Chip.setB_solveShown (c : Chip) {a : Nat} (i : Nat) (b : Bool) (h : 0x40002000 ≤ a) :
    (c.setB a i b).solveShown = c.solveShown := c.wr_solveShown _ h
@[simp] theorem Chip.sat_solveShown (c : Chip) {a : Nat} (lo w n : Nat) (h : 0x40002000 ≤ a) :
    (c.sat a lo w n).solveShown = c.solveShown := c.wr_solveShown _ h

@[simp] theorem Chip.log1_solveShown (c : Chip) (e : Env) (t i k d : Nat) : (c.log1 e t i k d).solveShown = c.solveShown := by
  simp +decide [Chip.solveShown, Chip.log1_rd_ne]

@[simp] theorem Chip.onMov_solveShown (c : Chip) (f : MovSt → MovSt) : (c.onMov f).solveShown = c.solveShown := rfl
@[simp] theorem Chip.onCen_solveShown (c : Chip) (f : CenSt → CenSt) : (c.onCen f).solveShown = c.solveShown := rfl
@[simp] theorem Chip.setStgMov_solveShown (c : Chip) (s : Nat) (x : StgMov) : (c.setStgMov s x).solveShown = c.solveShown := rfl
@[simp] theorem Chip.setMovSlot_solveShown (c : Chip) (m : Nat) (x : MovSlot) : (c.setMovSlot m x).solveShown = c.solveShown := rfl
@[simp] theorem Chip.setAxis_solveShown (c : Chip) (a : Nat) (x : AxisSt) : (c.setAxis a x).solveShown = c.solveShown := rfl

@[simp] theorem eachOf_solveShown {β : Type} {f : β → Chip → Chip} (hf : ∀ x c, (f x c).solveShown = c.solveShown) (l : List β) (c : Chip) :
    (eachOf l f c).solveShown = c.solveShown := eachOf_kept (fun x _ => hf x) c

/-! ### Move requests -/

/-- MOV.STAT is the only word that a count of the move slots writes. -/
theorem movShow_eq (c : Chip) : ∃ free act, movShow c = (c.setF Reg.MOV_STAT 16 8 free).setF Reg.MOV_STAT 8 8 act := ⟨_, _, rfl⟩

@[simp] theorem movShow_solveShown (c : Chip) : (movShow c).solveShown = c.solveShown := by
  obtain ⟨free, act, h⟩ := movShow_eq c
  simp (disch := (simp only [Reg.MOV_STAT]; omega)) [h]

/-- A step that is entered writes the slot's words A and B and the word of its stage. -/
theorem movEnter_eq (p : Part) (step m : Nat) (c : Chip) : ∃ s v x y, movEnter p step m c =
    ((((c.setF (Reg.MOV_SLOT_A m) 24 4 step).setF (Reg.MOV_STG s) 20 4 step).wr (Reg.MOV_SLOT_B m) v).setStgMov s x).setMovSlot m y :=
  ⟨_, _, _, _, rfl⟩

@[simp] theorem movEnter_solveShown (p : Part) (step m : Nat) (c : Chip) : (movEnter p step m c).solveShown = c.solveShown := by
  obtain ⟨s, v, x, y, h⟩ := movEnter_eq p step m c
  simp (disch := (simp only [Reg.MOV_SLOT_A, Reg.MOV_SLOT_B, Reg.MOV_STG]; omega)) [h]

/-- A move that takes a slot writes the slot's words A and C and the word of its stage, enters its step and is counted. -/
theorem movBegin_eq (e : Env) (m s step : Nat) (src dst : Option Nat) (c : Chip) : ∃ v w, movBegin e m s step src dst c =
    movShow ((movEnter e.part step m ((((((c.wr (Reg.MOV_SLOT_A m) v).wr (Reg.MOV_SLOT_C m) w).setB (Reg.MOV_STG s) 31 true).setF
      (Reg.MOV_STG s) 24 7 m).setF (Reg.MOV_STG s) 20 4 step).setMovSlot m {})).sat Reg.MOV_STAT 0 8 1) := ⟨_, _, rfl⟩

@[simp] theorem movBegin_solveShown (e : Env) (m s step : Nat) (src dst : Option Nat) (c : Chip) :
    (movBegin e m s step src dst c).solveShown = c.solveShown := by
  obtain ⟨v, w, h⟩ := movBegin_eq e m s step src dst c
  simp (disch := (simp only [Reg.MOV_SLOT_A, Reg.MOV_SLOT_C, Reg.MOV_STG, Reg.MOV_STAT]; omega)) [h]

@[simp] theorem movAccept_solveShown (e : Env) (q : MoveReq) (c : Chip) : (movAccept e q c).solveShown = c.solveShown := by
  unfold movAccept
  split
  · exact movBegin_solveShown _ _ _ _ _ _ _
  · exact Chip.setB_solveShown _ _ _ (by decide)

@[simp] theorem acceptMoves_solveShown (e : Env) (c : Chip) : (acceptMoves e c).solveShown = c.solveShown := by
  unfold acceptMoves
  split
  · split <;> simp
  · rfl

/-! ### The Control Engine's results -/

@[simp] theorem cenShow_solveShown (s : Nat) (c : Chip) : (cenShow s c).solveShown = c.solveShown := by
  by_cases h : s % 64 < 32 <;>
  simp (disch := (simp only [Reg.CEN_CLOSED_LO, Reg.CEN_CLOSED_HI, Reg.CEN_TRIP_LO, Reg.CEN_TRIP_HI, Reg.CEN_CAUSE, Reg.CEN_SLOT_OUT]; omega))
    [cenShow, h]

@[simp] theorem axLog_solveShown (e : Env) (a : Nat) (old new : Word) (c : Chip) : (axLog e a old new c).solveShown = c.solveShown := by
  unfold axLog
  split <;> simp

theorem cenCommit_solveShown (e : Env) (c : Chip) : (cenCommit e c).solveShown = c.solveShown := by
  unfold cenCommit
  split
  · rfl
  · refine (eachOf_solveShown cenShow_solveShown _ _).trans ((eachOf_solveShown (fun x c => ?fault) _ _).trans
      ((eachOf_solveShown (fun x c => ?axis) _ _).trans ((eachOf_solveShown (fun x c => ?trip) _ _).trans
      ((eachOf_solveShown (fun s c => ?reclose) _ _).trans ?evt))))
    case fault => split <;> [split <;> rfl; rfl]
    case axis => simp (disch := (simp only [Reg.CEN_AX_STAT, Reg.CEN_AX_PSP]; omega))
    case trip => simp
    case reclose => simp
    case evt => exact Chip.wr_solveShown _ _ (by decide)

/-! ### The completions -/

/-- What ALLOCATOR_COMPLETE shows and starts once it takes place (R45, R268). -/
def alcComplete (e : Env) (used : BitVec 16) (c : Chip) : Chip :=
  let c1 := ((c.onAlc (fun a => { a with res := some (c.alc.run.getD (allocate e.part c)) })).onFrm (fun f => { f with alcDone := true })).setF
    Reg.FRM_USED 0 16 used.toNat
  let c2 := if c.cuts.alc < used.toNat then c1.setB Reg.FRM_EVT 10 true else c1
  c2.onCen (fun z => { z with res := some (cenRun e.part c2) })

theorem alcComplete_rd (e : Env) (used : BitVec 16) (c : Chip) (a : Nat) : (alcComplete e used c).rd a =
    if a = Reg.FRM_USED then fset (c.rd Reg.FRM_USED) 0 16 used.toNat
    else if a = Reg.FRM_EVT ∧ c.cuts.alc < used.toNat then fsetb (c.rd Reg.FRM_EVT) 10 true
    else c.rd a := by
  have hne : Reg.FRM_EVT ≠ Reg.FRM_USED := by decide
  by_cases hlate : c.cuts.alc < used.toNat
  · simp only [alcComplete, hlate, if_true, Chip.onCen_rd, Chip.rd_setB, Chip.rd_setF, Chip.onFrm_rd, Chip.onAlc_rd, and_true]
    by_cases hv : a = Reg.FRM_EVT <;> simp [hv, hne]
  · simp [alcComplete, hlate, Chip.rd_setF]

theorem exec_allocatorComplete_of_solving {s : State} (used : BitVec 16) (hctl : s.chip.ctl = true) (hsolving : s.chip.frm.solving = true)
    (hrun : s.chip.frm.alcDone = false) : exec (.allocatorComplete used) s = .next (onChip (fun e c => alcComplete e used c) s) := by
  change execAllocatorComplete used s = _
  simp [execAllocatorComplete, onChip, alcComplete, hctl, hsolving, hrun]

/-- What the Control Engine's completion shows before its results are committed or dropped (R49). -/
def solveDone (used : BitVec 16) (c : Chip) : Chip :=
  ((c.onFrm (fun f => { f with cenDone := true, frozenOvr := 0 })).setF Reg.FRM_USED 16 16 used.toNat).setF Reg.FRM_STAT 0 8 0

theorem solveDone_rd (used : BitVec 16) (c : Chip) (a : Nat) : (solveDone used c).rd a =
    if a = Reg.FRM_STAT then fset (c.rd Reg.FRM_STAT) 0 8 0
    else if a = Reg.FRM_USED then fset (c.rd Reg.FRM_USED) 16 16 used.toNat
    else c.rd a := by
  have hne : Reg.FRM_STAT ≠ Reg.FRM_USED := by decide
  simp [solveDone, Chip.rd_setF, hne]

/-- What becomes of the results of the Solve: dropped in the frame of a warm takeover, else committed (R226, R267, R596). -/
def solveResults (e : Env) (c : Chip) : Chip :=
  if c.pair.skip then c.onCen (fun z => { z with res := none }) else acceptMoves e (cenCommit e c)

@[simp] theorem solveResults_solveShown (e : Env) (c : Chip) : (solveResults e c).solveShown = c.solveShown := by
  unfold solveResults
  split <;> simp [cenCommit_solveShown]

theorem exec_controlEngineComplete_of_solving {s : State} (used : BitVec 16) (hctl : s.chip.ctl = true)
    (hsolving : s.chip.frm.solving = true) (hdone : s.chip.frm.alcDone = true) (hrun : s.chip.frm.cenDone = false) :
    exec (.controlEngineComplete used) s = .next (onChip (fun e c => solveResults e (solveDone used c)) s) := by
  change execControlEngineComplete used s = _
  simp only [execControlEngineComplete, onChip, hctl, hsolving, hdone, hrun]
  rfl

end Sys2Proof.Machine

/-- Settles O14. -/
theorem enginesComplete : Obligations.EnginesComplete := by
  refine ⟨fun s used hctl hsolving hrun => ?alc, fun s used hctl hsolving hdone hrun => ?cen⟩
  case alc =>
    refine ⟨_, exec_allocatorComplete_of_solving used hctl hsolving hrun, ?_⟩
    have hrd := alcComplete_rd s.env used s.chip
    refine ⟨?done, ?res, rfl, ?used, ?other, fun hlate => ?late, fun htime a ha => ?intime, fun a ha => ?regs, rfl, rfl, rfl, rfl, rfl, rfl⟩
    all_goals simp only [onChip_chip]
    case done => unfold alcComplete; dsimp only; split <;> rfl
    case res => unfold alcComplete; dsimp only; split <;> rfl
    case used => simpa [Chip.f, hrd, fget_fset_same] using used.isLt
    case other => simp [Chip.f, hrd, fget_fset_ne]
    case late => simp +decide [Chip.b, hrd, hlate, fbit_fsetb]
    case intime =>
      simp only [List.mem_singleton] at ha
      simp [hrd, ha, Nat.not_lt.mpr htime]
    case regs =>
      simp only [List.mem_cons, List.not_mem_nil, or_false, not_or] at ha
      simp [hrd, ha]
  case cen =>
    refine ⟨_, exec_controlEngineComplete_of_solving used hctl hsolving hdone hrun, ?_⟩
    have hrd := solveDone_rd used s.chip
    obtain ⟨hfrm, hwords⟩ := Prod.mk.inj (solveResults_solveShown s.env (solveDone used s.chip))
    obtain ⟨hstat, hused⟩ := Prod.mk.inj hwords
    refine ⟨congrArg FrameSt.cenDone hfrm, congrArg FrameSt.frozenOvr hfrm, ?stat, ?used, fun hskip => ?skip, rfl, rfl, rfl, rfl, rfl, rfl⟩
    case stat => simp [Chip.f, hstat, hrd, fget_fset_same]
    case used => simpa +decide [Chip.f, hused, hrd, fget_fset_same] using used.isLt
    case skip =>
      have hdrop : solveResults s.env (solveDone used s.chip) = (solveDone used s.chip).onCen (fun z => { z with res := none }) := if_pos hskip
      refine ⟨?_, fun a ha => ?_⟩
      · rw [onChip_chip, hdrop]; rfl
      · simp only [List.mem_cons, List.not_mem_nil, or_false, not_or] at ha
        simp [hdrop, hrd, ha]
end

section
/-! PROOF. The start of the Control region (ch. 22, R69, R707): from the load of its image on, the start's effects leave CHIP.RGN_STAT
and PWR.STAT as the load left them. -/
open Sys2Proof Sys2Proof.Machine
namespace Sys2Proof.Machine

/-- The words in which a start shows: the regions' states, and the lost image in PWR.STAT. -/
def Chip.startShown (c : Chip) : Word × Word := (c.rd Reg.CHIP_RGN_STAT, c.rd Reg.PWR_STAT)

/-- The address is neither CHIP.RGN_STAT's nor PWR.STAT's. -/
abbrev offStart (a : Nat) : Prop := a ≠ 0x40000048 ∧ a ≠ 0x70008044

/-! ### Effects on words and on what stands beside the registers -/

@[simp] theorem Chip.wr_startShown (c : Chip) {a : Nat} (v : Word) (h : offStart a) : (c.wr a v).startShown = c.startShown := by
  have hr : Reg.CHIP_RGN_STAT ≠ a := h.1.symm
  have hp : Reg.PWR_STAT ≠ a := h.2.symm
  simp [Chip.startShown, Chip.rd_wr_ne, hr, hp]

@[simp] theorem Chip.setF_startShown (c : Chip) {a : Nat} (lo w n : Nat) (h : offStart a) : (c.setF a lo w n).startShown = c.startShown :=
  c.wr_startShown _ h
@[simp] theorem Chip.setB_startShown (c : Chip) {a : Nat} (i : Nat) (b : Bool) (h : offStart a) : (c.setB a i b).startShown = c.startShown :=
  c.wr_startShown _ h
@[simp] theorem Chip.sat_startShown (c : Chip) {a : Nat} (lo w n : Nat) (h : offStart a) : (c.sat a lo w n).startShown = c.startShown :=
  c.wr_startShown _ h

@[simp] theorem Chip.put_startShown (c : Chip) (en : LogEntry) : (c.put en).startShown = c.startShown := by
  simp +decide [Chip.startShown, Chip.put_rd_ne]
@[simp] theorem Chip.log1_startShown (c : Chip) (e : Env) (t i k d : Nat) : (c.log1 e t i k d).startShown = c.startShown := by
  simp +decide [Chip.startShown, Chip.log1_rd_ne]

@[simp] theorem Chip.onFrm_startShown (c : Chip) (f : FrameSt → FrameSt) : (c.onFrm f).startShown = c.startShown := rfl
@[simp] theorem Chip.onGal_startShown (c : Chip) (f : Galley → Galley) : (c.onGal f).startShown = c.startShown := rfl
@[simp] theorem Chip.onAlc_startShown (c : Chip) (f : AlcSt → AlcSt) : (c.onAlc f).startShown = c.startShown := rfl
@[simp] theorem Chip.onImg_startShown (c : Chip) (f : Image → Image) : (c.onImg f).startShown = c.startShown := rfl
@[simp] theorem Chip.onCen_startShown (c : Chip) (f : CenSt → CenSt) : (c.onCen f).startShown = c.startShown := rfl
@[simp] theorem Chip.onPair_startShown (c : Chip) (f : PairSt → PairSt) : (c.onPair f).startShown = c.startShown := rfl
@[simp] theorem Chip.onHdg_startShown (c : Chip) (f : HdgSt → HdgSt) : (c.onHdg f).startShown = c.startShown := rfl
@[simp] theorem Chip.onHif_startShown (c : Chip) (f : HostSt → HostSt) : (c.onHif f).startShown = c.startShown := rfl
@[simp] theorem Chip.onPwr_startShown (c : Chip) (f : PowerSt → PowerSt) : (c.onPwr f).startShown = c.startShown := rfl
@[simp] theorem Chip.setSnap_startShown (c : Chip) (p : Nat) (q : SnapPlane) : (c.setSnap p q).startShown = c.startShown := rfl
@[simp] theorem Chip.setPwmCh_startShown (c : Chip) (j : Nat) (p : PwmCh) : (c.setPwmCh j p).startShown = c.startShown := rfl
@[simp] theorem Chip.setAswCh_startShown (c : Chip) (j : Nat) (a : AswCh) : (c.setAswCh j a).startShown = c.startShown := rfl
@[simp] theorem Chip.setPhy_startShown (c : Chip) (n : Nat) (x : PhySt) : (c.setPhy n x).startShown = c.startShown := rfl
@[simp] theorem Chip.setSes_startShown (c : Chip) (o : Nat) (x : SesOut) : (c.setSes o x).startShown = c.startShown := rfl
@[simp] theorem Chip.setStgMov_startShown (c : Chip) (s : Nat) (x : StgMov) : (c.setStgMov s x).startShown = c.startShown := rfl
@[simp] theorem Chip.setAxis_startShown (c : Chip) (a : Nat) (x : AxisSt) : (c.setAxis a x).startShown = c.startShown := rfl
@[simp] theorem Chip.setPin_startShown (c : Chip) (n : Nat) (x : PinSt) : (c.setPin n x).startShown = c.startShown := rfl
@[simp] theorem Chip.setCenSlot_startShown (c : Chip) (s : Nat) (x : CenSlot) : (c.setCenSlot s x).startShown = c.startShown := rfl

/-! ### Repeated effects -/

theorem eachOf_startShown {β : Type} {l : List β} {f : β → Chip → Chip} (hf : ∀ x ∈ l, ∀ c, (f x c).startShown = c.startShown) (c : Chip) :
    (eachOf l f c).startShown = c.startShown := eachOf_kept hf c

theorem eachBelow_startShown {n : Nat} {f : Nat → Chip → Chip} (hf : ∀ i < n, ∀ c, (f i c).startShown = c.startShown) (c : Chip) :
    (eachBelow n f c).startShown = c.startShown := eachBelow_kept hf c

/-! ### PWM channels and auxiliary switches -/

@[simp] theorem pwmDrive_startShown (c : Chip) (j : Nat) (h l : Bool) : (pwmDrive c j h l).startShown = c.startShown := by
  simp (disch := (simp only [offStart, Reg.PWM_CH_STAT] <;> omega)) [pwmDrive]

@[simp] theorem pwmHoldUpdate_startShown (j : Nat) (c : Chip) : (pwmHoldUpdate j c).startShown = c.startShown := by
  simp (disch := (simp only [offStart, Reg.PWM_CH_STAT] <;> omega)) only [pwmHoldUpdate, apply_ite Chip.startShown,
    pwmDrive_startShown, Chip.setB_startShown, Chip.setPwmCh_startShown, ite_self]

@[simp] theorem pwmShowBlank_startShown (c : Chip) : (pwmShowBlank c).startShown = c.startShown := by
  refine eachBelow_startShown (fun t _ c => ?_) c
  simp (disch := (simp only [offStart, Reg.PWM_TRIP_STAT] <;> omega)) only [apply_ite Chip.startShown,
    Chip.setB_startShown, Chip.setPwmCh_startShown, ite_self]

@[simp] theorem pwmHoldAll_startShown (c : Chip) : (pwmHoldAll c).startShown = c.startShown :=
  (pwmShowBlank_startShown _).trans (eachBelow_startShown (fun j _ c => pwmHoldUpdate_startShown j c) c)

@[simp] theorem aswSetState_startShown (j x : Nat) (c : Chip) : (aswSetState j x c).startShown = c.startShown := by
  simp (disch := (simp only [offStart, Reg.ASW_CH_STAT, Reg.ASW_STAT] <;> omega)) only [aswSetState,
    apply_ite Chip.startShown, Chip.setB_startShown, Chip.setF_startShown, ite_self]

@[simp] theorem aswTurnOn_startShown (e : Env) (j : Nat) (c : Chip) : (aswTurnOn e j c).startShown = c.startShown := by
  unfold aswTurnOn
  split <;> simp

@[simp] theorem aswTrip_startShown (e : Env) (j cause : Nat) (c : Chip) : (aswTrip e j cause c).startShown = c.startShown := by
  simp (disch := (simp only [offStart, Reg.ASW_EVT, Reg.ASW_CH_CNT] <;> omega)) [aswTrip]

@[simp] theorem aswTurnOff_startShown (e : Env) (j : Nat) (c : Chip) : (aswTurnOff e j c).startShown = c.startShown := by
  simp only [aswTurnOff, apply_ite Chip.startShown, aswTrip_startShown, aswSetState_startShown, Chip.setAswCh_startShown, ite_self]

@[simp] theorem aswFollow_startShown (e : Env) (j : Nat) (c : Chip) : (aswFollow e j c).startShown = c.startShown := by
  simp only [aswFollow, apply_ite Chip.startShown, aswSetState_startShown, aswTurnOn_startShown, aswTurnOff_startShown, ite_self]

@[simp] theorem aswFollowAll_startShown (e : Env) (c : Chip) : (aswFollowAll e c).startShown = c.startShown :=
  eachBelow_startShown (fun j _ c => aswFollow_startShown e j c) c

/-! ### The pair's roles -/

@[simp] theorem snapReleaseAll_startShown (c : Chip) : (snapReleaseAll c).startShown = c.startShown := by
  refine eachBelow_startShown (fun p hp c => ?_) c
  simp (disch := (simp only [offStart, Reg.SNP_HOLD, Reg.SNP_HELD_SEQ] <;> omega)) only [snapRelease, apply_ite Chip.startShown,
    Chip.setB_startShown, Chip.wr_startShown, Chip.setSnap_startShown, ite_self, if_true]

@[simp] theorem hdgShowDrv_startShown (e : Env) (c : Chip) : (hdgShowDrv e c).startShown = c.startShown :=
  Chip.setB_startShown _ _ _ (by decide)

@[simp] theorem hdgBeacon_startShown (e : Env) (c : Chip) : (hdgBeacon e c).startShown = c.startShown := rfl

@[simp] theorem hdgComplete_startShown (result : Nat) (cm : ChipMem) : (hdgComplete result cm).1.startShown = cm.1.startShown :=
  Chip.setF_startShown _ _ _ _ (by decide)

@[simp] theorem hdgRoleCut_startShown (e : Env) (cm : ChipMem) : (hdgRoleCut e cm).1.startShown = cm.1.startShown := by
  simp (disch := (simp only [offStart, Reg.HDG_EVT] <;> omega)) only [hdgRoleCut, hdgShowDrv_startShown, apply_ite Prod.fst,
    apply_ite Chip.startShown, hdgComplete_startShown, Chip.setB_startShown, Chip.onHdg_startShown, ite_self]

@[simp] theorem mirLink_startShown (e : Env) (st : Nat) (c : Chip) : (mirLink e st c).startShown = c.startShown := by
  simp (disch := (simp only [offStart, Reg.MIR_STAT] <;> omega)) only [mirLink, apply_ite Chip.startShown, Chip.log1_startShown,
    Chip.setF_startShown, ite_self]

@[simp] theorem gateOpen_startShown (e : Env) (c : Chip) : (gateOpen e c).startShown = c.startShown := by
  simp (disch := (simp only [offStart, Reg.QN_STAT] <;> omega)) only [gateOpen, apply_ite Chip.startShown, aswFollowAll_startShown,
    pwmHoldAll_startShown, Chip.setB_startShown, ite_self]

@[simp] theorem quoinClaim_startShown (e : Env) (cause : Nat) (c : Chip) : (quoinClaim e cause c).startShown = c.startShown := by
  simp (disch := (simp only [offStart, Reg.QN_STAT, Reg.QN_EVT] <;> omega)) only [quoinClaim, apply_ite Chip.startShown,
    Chip.setB_startShown, Chip.onPair_startShown, ite_self]

@[simp] theorem roleSet_startShown (r cause : Nat) (s : State) : (roleSet r cause s).chip.startShown = s.chip.startShown := by
  have hcut (t : State) : (onChipMem hdgRoleCut t).chip.startShown = t.chip.startShown := hdgRoleCut_startShown _ _
  simp (disch := (simp only [offStart, Reg.QN_STAT, Reg.QN_EVT, Reg.MIR_STAT] <;> omega)) only [roleSet, apply_ite State.chip,
    apply_ite Chip.startShown, hcut, onChip_chip, hdgShowDrv_startShown, hdgBeacon_startShown, snapReleaseAll_startShown, Chip.setB_startShown,
    Chip.setF_startShown, Chip.log1_startShown, Chip.onPair_startShown, Chip.onHif_startShown, ite_self]

end Sys2Proof.Machine
end

section
/-! PROOF. The opening of a frame (ch. 2, R35, R36) leaves CHIP.RGN_STAT and PWR.STAT, as do the start's own effects on the pair, the
ports and the stages (ch. 22, R707). -/
open Sys2Proof Sys2Proof.Machine
namespace Sys2Proof.Machine

/-! ### The Gather freeze -/

@[simp] theorem outInSet_startShown (o i : Nat) (v : Bool) (c : Chip) : (outInSet o i v c).startShown = c.startShown := by
  simp (disch := (simp only [offStart, Reg.ALC_OUT_IN] <;> omega)) only [outInSet, outInZero, Chip.setB_startShown]

@[simp] theorem outletFreeze_startShown (stops o : Nat) (c : Chip) : (outletFreeze stops o c).startShown = c.startShown := by
  simp [outletFreeze]

@[simp] theorem sesFreeze_startShown (o : Nat) (c : Chip) : (sesFreeze o c).startShown = c.startShown := by
  simp (disch := (simp only [offStart, Reg.SES_CMD] <;> omega)) only [sesFreeze, apply_ite Chip.startShown, Chip.wr_startShown,
    Chip.setSes_startShown, Chip.onImg_startShown, ite_self]

@[simp] theorem feedFreeze_startShown (m : Met) (c : Chip) : (feedFreeze m c).startShown = c.startShown := by
  simp (disch := (simp only [offStart, Reg.ALC_FEED_AVG, Reg.ALC_FEED_TIME, Reg.ALC_FEED_TCAP] <;> omega)) only [feedFreeze, Chip.wr_startShown]

@[simp] theorem thmFreeze_startShown (e : Env) (c : Chip) : (thmFreeze e c).startShown = c.startShown := by
  refine eachBelow_startShown (fun o _ c => ?_) c
  simp (disch := (simp only [offStart, Reg.ALC_OUT_IN] <;> omega)) only [outInSet_startShown, Chip.setF_startShown]

@[simp] theorem sagFreeze_startShown (c : Chip) : (sagFreeze c).startShown = c.startShown := by
  simp (disch := (simp only [offStart, Reg.ALC_SAG_MAG] <;> omega)) only [sagFreeze, Chip.setF_startShown, Chip.onAlc_startShown,
    Chip.onImg_startShown]

theorem ainFreeze_startShown {n : Nat} (hn : n < 4) (c : Chip) : (ainFreeze n c).startShown = c.startShown := by
  simp (disch := (simp only [offStart, Reg.CEN_AIN_VAL, Reg.CEN_IN_STAT] <;> omega)) only [ainFreeze, apply_ite Chip.startShown,
    Chip.setF_startShown, Chip.setB_startShown, Chip.onCen_startShown, ite_self]

theorem pinFreeze_startShown (frame : Nat) (fn : Nat → Bool) {n : Nat} (hn : n < 4) (c : Chip) :
    (pinFreeze frame fn n c).startShown = c.startShown := by
  simp (disch := (simp only [offStart, Reg.CEN_PIN_VAL, Reg.CEN_IN_STAT] <;> omega)) only [pinFreeze,
    Chip.wr_startShown, Chip.setB_startShown, Chip.setPin_startShown]

@[simp] theorem axLog_startShown (e : Env) (a : Nat) (old new : Word) (c : Chip) : (axLog e a old new c).startShown = c.startShown := by
  unfold axLog
  split <;> simp

@[simp] theorem axFreeze_startShown (e : Env) (a : Nat) (c : Chip) : (axFreeze e a c).startShown = c.startShown := by
  simp (disch := (simp only [offStart, Reg.CEN_AX_CMD, Reg.CEN_AX_STAT] <;> omega)) only [axFreeze, apply_ite Chip.startShown,
    axLog_startShown, Chip.wr_startShown, Chip.setF_startShown, Chip.setB_startShown, Chip.setAxis_startShown, ite_self]

@[simp] theorem slotFreeze_startShown (p : Part) (s : Nat) (c : Chip) : (slotFreeze p s c).startShown = c.startShown := rfl

@[simp] theorem cenFreeze_startShown (e : Env) (fn : Nat → Bool) (c : Chip) : (cenFreeze e fn c).startShown = c.startShown := by
  have hain (c : Chip) : (eachBelow 4 ainFreeze c).startShown = c.startShown := eachBelow_startShown (fun n hn c => ainFreeze_startShown hn c) c
  have hpin (c : Chip) : (eachBelow 4 (pinFreeze e.time.frameNo.toNat fn) c).startShown = c.startShown :=
    eachBelow_startShown (fun n hn c => pinFreeze_startShown _ fn hn c) c
  have hax (c : Chip) : (eachBelow 8 (axFreeze e) c).startShown = c.startShown := eachBelow_startShown (fun a _ c => axFreeze_startShown e a c) c
  refine (eachOf_startShown (fun s _ c => slotFreeze_startShown e.part s c) _).trans ?_
  simp only [apply_ite Chip.startShown, Chip.onImg_startShown, hax, hpin, hain, ite_self]

/-- A word of the constraint tree's window lies below the Service region's addresses. -/
@[simp] theorem measLatch_startShown (frozen : Bool) (c : Chip) : (measLatch frozen c).startShown = c.startShown := by
  refine eachOf_startShown (fun a ha c => ?_) c
  have hwindow : 0x48010000 ≤ a ∧ a < 0x48014000 := by
    have hkey := (List.mem_filter.mp (List.mem_filter.mp ha).1).2
    simpa using hkey
  dsimp only
  split
  · exact Chip.wr_startShown _ _ (by simp only [offStart]; omega)
  · rfl

@[simp] theorem aswCmdLatch_startShown (e : Env) (c : Chip) : (aswCmdLatch e c).startShown = c.startShown := by
  refine (aswFollowAll_startShown e _).trans ((eachBelow_startShown (fun j _ c => ?_) _).trans rfl)
  simp (disch := (simp only [offStart, Reg.ASW_CH_STAT] <;> omega)) only [apply_ite Chip.startShown, Chip.setB_startShown,
    Chip.setAswCh_startShown, ite_self]

@[simp] theorem gatherFreeze_startShown (s : State) : (gatherFreeze s).chip.startShown = s.chip.startShown := by
  have hout (c : Chip) : (eachBelow s.env.part.outlets (fun o c => outletFreeze (heathStops s.heath) o (sesFreeze o c)) c).startShown =
      c.startShown :=
    eachBelow_startShown (fun o _ c => by simp) c
  refine (aswCmdLatch_startShown s.env _).trans ?_
  simp only [measLatch_startShown, cenFreeze_startShown, sagFreeze_startShown, Chip.onImg_startShown, thmFreeze_startShown,
    apply_ite Chip.startShown, feedFreeze_startShown, hout, ite_self]

/-! ### The frame's opening -/

/-- A slot of the engine's pages shows its state there. -/
theorem cenShow_startShown {s : Nat} (hs : s < 1024) (c : Chip) : (cenShow s c).startShown = c.startShown := by
  by_cases h : s % 64 < 32 <;>
  simp (disch := (simp only [offStart, Reg.CEN_CLOSED_LO, Reg.CEN_CLOSED_HI, Reg.CEN_TRIP_LO, Reg.CEN_TRIP_HI, Reg.CEN_CAUSE,
    Reg.CEN_SLOT_OUT] <;> omega)) only [cenShow, h, if_true, if_false, Chip.wr_startShown, Chip.setF_startShown, Chip.setB_startShown]

@[simp] theorem cenShowFences_startShown (c : Chip) : (cenShowFences c).startShown = c.startShown := by
  refine eachBelow_startShown (fun i hi c => ?_) c
  dsimp only
  split
  · rfl
  · refine eachBelow_startShown (fun j hj c => ?_) c
    rw [apply_ite Chip.startShown, cenShow_startShown (by omega), ite_self]

@[simp] theorem snapCapture_startShown (s : State) : (snapCapture s).chip.startShown = s.chip.startShown := by
  refine eachBelow_startShown (fun p _ c => ?_) s.chip
  unfold snapPlane
  dsimp only
  split <;> rfl

@[simp] theorem frmShow_startShown (len : Nat) (c : Chip) : (frmShow len c).startShown = c.startShown := by
  simp (disch := (simp only [offStart, Reg.FRM_LEN, Reg.FRM_CUT_A, Reg.FRM_CUT_B, Reg.FRM_BUDGET] <;> omega)) only [frmShow, Chip.wr_startShown]

@[simp] theorem pullFrame_startShown (p : Int) (s : State) : (pullFrame p s).chip.startShown = s.chip.startShown := by
  simp (disch := (simp only [offStart, Reg.FRM_LEN, Reg.FRM_SYNC_PHASE] <;> omega)) only [pullFrame, onChip_chip, Chip.setF_startShown,
    Chip.onFrm_startShown]

@[simp] theorem edgeTake_startShown (err : Int) (s : State) : (edgeTake err s).chip.startShown = s.chip.startShown := by
  simp (disch := (simp only [offStart, Reg.FRM_STAT, Reg.FRM_SYNC_PHASE] <;> omega)) only [edgeTake, apply_ite State.chip,
    apply_ite Chip.startShown, pullFrame_startShown, onChip_chip, Chip.setF_startShown, Chip.onFrm_startShown, ite_self]

@[simp] theorem frmOpen_startShown (mode : Nat) (s : State) : (frmOpen mode s).chip.startShown = s.chip.startShown := by
  unfold frmOpen
  dsimp only
  split <;> split <;>
  simp (disch := (simp only [offStart, Reg.FRM_STAT, Reg.FRM_SYNC_PHASE] <;> omega)) only [apply_ite Chip.startShown,
    edgeTake_startShown, pullFrame_startShown, onChip_chip, frmShow_startShown, Chip.wr_startShown, Chip.sat_startShown,
    Chip.onFrm_startShown, ite_self]

@[simp] theorem sesBoundary_startShown (o : Nat) (c : Chip) : (sesBoundary o c).startShown = c.startShown := by
  simp (disch := (simp only [offStart, Reg.SES_TIMER, Reg.SES_DEM_I] <;> omega)) only [sesBoundary, apply_ite Chip.startShown,
    Chip.setF_startShown, Chip.setSes_startShown, ite_self]

@[simp] theorem tpBoundary_startShown (c : Chip) : (tpBoundary c).startShown = c.startShown := rfl

@[simp] theorem pwmDutyLoad_startShown (e : Env) (j cmp : Nat) (c : Chip) :
    (pwmDutyLoad e j cmp c).startShown = c.startShown := by
  simp (disch := (simp only [offStart, Reg.PWM_STAT, Reg.PWM_CH_STAT, Reg.PWM_SH_CMP] <;> omega)) only [pwmDutyLoad, pwmArm, pwmShow, pwmShadow,
    apply_ite Chip.startShown, Chip.wr_startShown, Chip.setB_startShown, Chip.setPwmCh_startShown, ite_self]

@[simp] theorem cenDuty_startShown (e : Env) (j : Nat) (c : Chip) : (cenDuty e j c).startShown = c.startShown := by
  unfold cenDuty
  split
  · split <;> simp
  · rfl

@[simp] theorem imageKeep_startShown (c : Chip) : (imageKeep c).startShown = c.startShown := rfl
@[simp] theorem commit_startShown (s : State) : s.commit.chip.startShown = s.chip.startShown := rfl

@[simp] theorem openFrame_startShown (mode : Nat) (pull : Option Int) (s : State) :
    (openFrame mode pull s).chip.startShown = s.chip.startShown := by
  have hses (p : Part) (c : Chip) : (eachBelow p.outlets sesBoundary c).startShown = c.startShown :=
    eachBelow_startShown (fun o _ c => sesBoundary_startShown o c) c
  have hduty (e : Env) (c : Chip) : (eachBelow 16 (cenDuty e) c).startShown = c.startShown :=
    eachBelow_startShown (fun j _ c => cenDuty_startShown e j c) c
  cases pull <;> simp only [openFrame, onChip_chip, Chip.onFrm_startShown, commit_startShown, gatherFreeze_startShown, imageKeep_startShown,
    hduty, tpBoundary_startShown, hses, pullFrame_startShown, frmOpen_startShown, snapCapture_startShown, cenShowFences_startShown]

/-! ### The start's own effects -/

theorem fbit_zero (i : Nat) : fbit 0 i = false := by simp [fbit]

/-- At a start no configuration was in force before: a port that is enabled is to train, and no port falls. -/
theorem phyImposed_zero_startShown (e : Env) {n : Nat} (hn : n < 256) (c : Chip) : (phyImposed e n 0 c).startShown = c.startShown := by
  simp (disch := (simp only [offStart, Reg.PRT_PHY_CFG] <;> omega)) only [phyImposed, fbit_zero, apply_ite Chip.startShown,
    Chip.setB_startShown, Chip.setPhy_startShown, ite_self, if_false, Bool.false_eq_true]

theorem Part.ports_lt (p : Part) : p.ports < 256 := Nat.mod_lt _ (by decide)

@[simp] theorem movRejoin_startShown (started : Bool) (s : Nat) (c : Chip) : (movRejoin started s c).startShown = c.startShown := by
  simp (disch := (simp only [offStart, Reg.XPT_POS] <;> omega)) only [movRejoin, movFollowFb, Chip.setF_startShown, Chip.setB_startShown,
    Chip.setStgMov_startShown]

@[simp] theorem sdrShow_startShown (c : Chip) : (sdrShow c).startShown = c.startShown := by
  refine eachBelow_startShown (fun k hk c => ?_) c
  exact Chip.wr_startShown _ _ (by simp only [offStart, Reg.THM_SDR_W]; omega)

@[simp] theorem wcetShow_startShown (p : Part) (c : Chip) : (wcetShow p c).startShown = c.startShown := Chip.wr_startShown _ _ (by decide)

@[simp] theorem blocksStart_startShown (e : Env) (c : Chip) : (blocksStart e c).startShown = c.startShown := by
  have hprt (c : Chip) : (eachBelow e.part.ports (fun n c => phyImposed e n 0 c) c).startShown = c.startShown :=
    eachBelow_startShown (fun n hn c => phyImposed_zero_startShown e (hn.trans e.part.ports_lt) c) c
  have hmov (c : Chip) : (eachBelow e.part.stages (movRejoin true) c).startShown = c.startShown :=
    eachBelow_startShown (fun s _ c => movRejoin_startShown true s c) c
  simp (disch := (simp only [offStart, Reg.QN_CFG_CRC] <;> omega)) only [blocksStart, Chip.onFrm_startShown, Chip.wr_startShown,
    wcetShow_startShown, sdrShow_startShown, hmov, hprt]

@[simp] theorem ptpCapture_startShown (c : Chip) : (ptpCapture c).startShown = c.startShown := by
  simp (disch := (simp only [offStart, Reg.ETH_BND_NS, Reg.ETH_BND_S_LO, Reg.ETH_BND_S_HI] <;> omega)) only [ptpCapture, Chip.wr_startShown]

@[simp] theorem dbgEnd_startShown (e : Env) (c : Chip) : (dbgEnd e c).startShown = c.startShown := by
  simp (disch := (simp only [offStart, Reg.OSP_DBG] <;> omega)) only [dbgEnd, apply_ite Chip.startShown, Chip.log1_startShown,
    Chip.onHif_startShown, Chip.sat_startShown, Chip.setF_startShown, ite_self]

@[simp] theorem pairStart_startShown (rejoin : Bool) (s : State) : (pairStart rejoin s).chip.startShown = s.chip.startShown := by
  simp (disch := (simp only [offStart, Reg.QN_STAT] <;> omega)) only [pairStart, apply_ite State.chip, apply_ite Chip.startShown, onChip_chip,
    quoinClaim_startShown, roleSet_startShown, mirLink_startShown, hdgShowDrv_startShown, gateOpen_startShown, Chip.setB_startShown,
    Chip.onPair_startShown, ite_self]

@[simp] theorem startLog_startShown (e : Env) (c : Chip) : (startLog e c).startShown = c.startShown := by
  refine (eachOf_startShown (fun x _ c => ?_) _).trans ?_
  · simp (disch := (simp only [offStart, Reg.GAL_SEQ] <;> omega)) only [apply_ite Chip.startShown, Chip.log1_startShown,
      Chip.wr_startShown, ite_self]
  · simp only [apply_ite Chip.startShown, Chip.log1_startShown, ite_self]

@[simp] theorem keptAppend_startShown (s : State) : (keptAppend s).chip.startShown = s.chip.startShown :=
  eachOf_startShown (fun x _ c => Chip.put_startShown c x) s.chip

end Sys2Proof.Machine
end

section
/-! PROOF. CONTROL_REGION_START (ch. 22, R69, R704, R707): the region runs in frame 0 and shows a lost image. -/
open Sys2Proof Sys2Proof.Machine
namespace Sys2Proof.Machine

/-! ### The load of the image -/

/-- The load shows the region running, and whether no valid image was found (R704, R707). -/
theorem controlLoad_shown (valid : Bool) (c : Chip) :
    (controlLoad valid c).ctl = true ∧ (controlLoad valid c).b Reg.PWR_STAT 27 = !valid := by
  cases valid <;> simp +decide [controlLoad, Chip.ctl, Chip.rgn, Chip.f, Chip.b, Chip.setRgn, Chip.rd_setB, Chip.rd_setF, Chip.rd_sat, statBit,
    fget_fset_same, fbit_fsetb]

/-! ### The start -/

@[simp] theorem keptAppend_clock (s : State) : (keptAppend s).clock = s.clock := rfl

@[simp] theorem pairStart_clock (rejoin : Bool) (s : State) : (pairStart rejoin s).clock = s.clock := by
  unfold pairStart
  dsimp only
  split <;> simp

theorem putOrKeep_startShown (l : List LogEntry) (c : Chip) (kept : List LogEntry) : (c.putOrKeep kept l).1.startShown = c.startShown := by
  simp +decide [Chip.startShown, Chip.putOrKeep_rd_ne]

@[simp] theorem onMet_startShown (f : Env → Met → Met × List LogReq) (s : State) : (onMet f s).chip.startShown = s.chip.startShown :=
  putOrKeep_startShown _ _ _

/-- After the image is loaded the start leaves the words that show it. -/
theorem controlStart_startShown (valid : Bool) (s : State) :
    (controlStart valid s).chip.startShown = (controlLoad valid s.chip).startShown := by
  simp only [controlStart, openFrame_startShown, onChip_chip, dbgEnd_startShown, blocksStart_startShown, ptpCapture_startShown,
    pairStart_startShown, keptAppend_startShown, startLog_startShown, onMet_startShown]
  rfl

/-- The start begins the time of frame 0 anew; only the cycles since power-on go on (R69). -/
theorem controlStart_clock (valid : Bool) (s : State) :
    (controlStart valid s).clock = (s.pending, { s.env with time := { up := s.env.time.up, len := 0 } }) := by
  simp only [controlStart, openFrame_clock, onChip_clock, pairStart_clock, keptAppend_clock, onMet_clock]
  rfl

theorem Chip.ctl_of_startShown {c d : Chip} (h : d.startShown = c.startShown) : d.ctl = c.ctl :=
  Chip.ctl_of_rd (congrArg Prod.fst h)

theorem controlStart_phase (valid : Bool) (s : State) : (controlStart valid s).chip.frm.phase = 0 := by
  unfold controlStart
  exact openFrame_phase _ _ _

theorem controlStart_ctl (valid : Bool) (s : State) : (controlStart valid s).chip.ctl = true :=
  (Chip.ctl_of_startShown (controlStart_startShown valid s)).trans (controlLoad_shown valid s.chip).1

theorem controlStart_imageLost (valid : Bool) (s : State) : (controlStart valid s).chip.b Reg.PWR_STAT 27 = !valid := by
  have hword := congrArg Prod.snd (controlStart_startShown valid s)
  exact (congrArg (fbit · 27) hword).trans (controlLoad_shown valid s.chip).2

/-- Time, part and queue after a start of the Control region (R69). -/
theorem controlStart_time (valid : Bool) (s : State) :
    (controlStart valid s).env.time.frameNo = 0 ∧ (controlStart valid s).env.time.offset = 0 ∧ (controlStart valid s).env.time.bndTime = 0 ∧
      (controlStart valid s).env.time.up = s.env.time.up ∧ (controlStart valid s).env.part = s.env.part ∧
      (controlStart valid s).pending = s.pending := by
  have hclock := controlStart_clock valid s
  generalize controlStart valid s = t at hclock
  obtain ⟨hpend, henv⟩ := Prod.mk.inj hclock
  have htime := congrArg Env.time henv
  exact ⟨congrArg TimeBase.frameNo htime, congrArg TimeBase.offset htime, congrArg TimeBase.bndTime htime, (congrArg TimeBase.up htime :),
    (congrArg Env.part henv :), hpend⟩

end Sys2Proof.Machine
end

section
/-! PROOF. SERVICE_START (ch. 23, R729, R733): the region runs where one of its boot slots can run, and the start touches nothing
beside the Control and Service regions. -/
open Sys2Proof Sys2Proof.Machine
namespace Sys2Proof.Machine

/-! ### A table mixed with another -/

theorem tget_filter {α : Type} (d : Nat → α) (q : Nat → Bool) (m : List (Nat × α)) {a : Nat} (h : q a = true) :
    tget d (m.filter (fun x => q x.1)) a = tget d m a := by
  induction m with
  | nil => rfl
  | cons x t ih =>
    by_cases hx : x.1 = a
    · simp [hx, h, tget]
    · by_cases hq : q x.1 = true <;> simp [hq, tget, hx, ih]

theorem rget_foldl_rset (l : List (Nat × Word)) {m : RegTable} {a : Nat} (h : ∀ x ∈ l, x.1 ≠ a) :
    rget (l.foldl (fun t x => rset t x.1 x.2) m) a = rget m a := by
  induction l generalizing m with
  | nil => rfl
  | cons x t ih =>
    rw [List.foldl_cons, ih fun y hy => h y (List.mem_cons_of_mem x hy), rget_rset, if_neg (h x List.mem_cons_self).symm]

/-- A word that is not taken from the other table stays as it is in a table's own. -/
theorem rget_tableMix {p : Nat → Bool} {a : Nat} (h : p a = false) (own other : RegTable) :
    rget (tableMix p own other) a = rget own a := by
  have hne : ∀ x ∈ other.filter (fun x => p x.1), x.1 ≠ a := by
    rintro x hx rfl
    simp [h] at hx
  exact (rget_foldl_rset _ hne).trans (tget_filter regReset (fun k => !p k) own (by simp [h]))

/-! ### CAN controllers -/

/-- The words in which a start shows, of a controller's view. -/
def CanV.startShown (v : CanV) : Word × Word := (rget v.regs Reg.CHIP_RGN_STAT, rget v.regs Reg.PWR_STAT)

theorem CanV.wr_startShown (v : CanV) {a : Nat} (x : Word) (h : offStart a) : (v.wr a x).startShown = v.startShown := by
  have hr : Reg.CHIP_RGN_STAT ≠ a := h.1.symm
  have hp : Reg.PWR_STAT ≠ a := h.2.symm
  simp [CanV.startShown, CanV.wr, rget_rset, hr, hp]

theorem CanV.setF_startShown (v : CanV) {a : Nat} (lo w n : Nat) (h : offStart a) : (v.setF a lo w n).startShown = v.startShown :=
  v.wr_startShown _ h
theorem CanV.setB_startShown (v : CanV) {a : Nat} (i : Nat) (b : Bool) (h : offStart a) : (v.setB a i b).startShown = v.startShown :=
  v.wr_startShown _ h
theorem CanV.sat_startShown (v : CanV) {a : Nat} (lo w n : Nat) (h : offStart a) : (v.sat a lo w n).startShown = v.startShown :=
  v.wr_startShown _ h

theorem canSkip_startShown (n : Nat) (v : CanV) : (canSkip n v).startShown = v.startShown := by
  simp (disch := (simp only [offStart, Reg.CAN_HW_IDX, Reg.CAN_EVT, Reg.CAN_LOST] <;> split <;> omega)) only [canSkip, canFail,
    apply_ite CanV.startShown, CanV.setF_startShown, CanV.setB_startShown, CanV.sat_startShown, ite_self]

theorem canSkip_mem (n : Nat) (v : CanV) : (canSkip n v).mem = v.mem := by
  simp only [canSkip, apply_ite CanV.mem]
  exact ite_self _

/-- At a start no configuration was in force before: the controller leaves reset, and the memory stands. -/
theorem canImpose_zero_startShown (n : Nat) (v : CanV) : (canImpose n 0 v).startShown = v.startShown := by
  have hst (x : CanV) (st : CanSt) : CanV.startShown { x with st := st } = x.startShown := rfl
  simp (disch := (simp only [offStart, Reg.CAN_STAT, Reg.CAN_ECNT] <;> split <;> omega)) only [canImpose, fbit_zero, canSkip_startShown,
    apply_ite CanV.startShown, hst, CanV.setF_startShown, CanV.setB_startShown, ite_self]

theorem canImpose_mem (n : Nat) (old : Word) (v : CanV) : (canImpose n old v).mem = v.mem := by
  simp only [canImpose, canSkip_mem, apply_ite CanV.mem, CanV.setF, CanV.setB, CanV.wr, ite_self]

@[simp] theorem Chip.putAt_startShown (c : Chip) (en : LogEntry) : (c.putAt en).startShown = c.startShown := by
  simp +decide [Chip.startShown, Chip.putAt_rd_ne]

/-- What stands beside the Control and Service regions: the queue, memory, time and part, Heath and Metrology. -/
def State.beside (s : State) : List Instr × List Host.Cell × Env × Heath × Met := (s.pending, s.mem, s.env, s.heath, s.met)

@[simp] theorem onChip_beside (f : Env → Chip → Chip) (s : State) : (onChip f s).beside = s.beside := rfl

/-- A controller of the Service region whose effect leaves the memory touches nothing beside the two regions. -/
theorem onCan_beside {n : Nat} (hn : n < 7) {f : CanV → CanV} (hf : ∀ v, (f v).mem = v.mem) (s : State) : (onCan n f s).beside = s.beside := by
  rw [onCan, if_neg (by omega), apply_ite State.beside]
  simp only [State.beside, hf]
  exact ite_self _

theorem onCan_startShown {n : Nat} (hn : n < 7) {f : CanV → CanV} (hf : ∀ v, (f v).startShown = v.startShown) (s : State) :
    (onCan n f s).chip.startShown = s.chip.startShown := by
  rw [onCan, if_neg (by omega)]
  generalize (if s.env.part.variant = .v5108 then 3 else 7) = present
  split
  · exact (eachOf_startShown (fun en _ c => Chip.putAt_startShown c en) _).trans (hf (canViewOf s.env.time.up n s.chip s.mem))
  · rfl

/-! ### Sessions -/

@[simp] theorem sesSet_startShown (e : Env) (o new : Nat) (cause : Option Nat) (c : Chip) : (sesSet e o new cause c).startShown = c.startShown := by
  cases cause <;>
  simp (disch := (simp only [offStart, Reg.SES_STATE, Reg.SES_EVT, Reg.SES_CREDIT, Reg.SES_ENERGY] <;> omega)) only [sesSet, sesFlag, sesTaper,
    apply_ite Chip.startShown, outInSet_startShown, Chip.log1_startShown, Chip.wr_startShown, Chip.setF_startShown, Chip.setB_startShown,
    Chip.setSes_startShown, ite_self]

@[simp] theorem sesRestartAll_startShown (e : Env) (c : Chip) : (sesRestartAll e c).startShown = c.startShown := by
  refine eachBelow_startShown (fun o _ c => ?_) c
  split <;> exact sesSet_startShown _ _ _ _ _

@[simp] theorem sessionsStart_startShown (e : Env) (c : Chip) : (sessionsStart e c).startShown = c.startShown := by
  unfold sessionsStart
  split
  · split
    · simp +decide [Chip.startShown, Chip.rd, rget_tableMix]
    · rfl
  · exact sesRestartAll_startShown _ _

/-! ### The start -/

@[simp] theorem bootStart_startShown (e : Env) (slot : Nat) (alt : Bool) (c : Chip) : (bootStart e slot alt c).startShown = c.startShown := by
  simp (disch := (simp only [offStart, Reg.OSP_BOOT, Reg.OSP_CORE] <;> omega)) only [bootStart, apply_ite Chip.startShown, Chip.log1_startShown,
    Chip.onHif_startShown, Chip.wr_startShown, Chip.setF_startShown, Chip.setB_startShown, ite_self]

/-- What the start does to the two regions' own state before the controllers act (R729, R733). -/
def serviceLoad (slot : Nat) (alt : Bool) (e : Env) (c : Chip) : Chip :=
  let c1 := (loadImage inService c).setRgn .service 0
  let c2 := bootStart e slot alt (c1.wr Reg.DDR_STAT (word (2 ^ 31 + e.part.ddrMib * 7 / 8)))
  let c3 := pwmShowBlank (pwmHoldAll (eachBelow 16 (fun j c => c.setPwmCh j { await := true, at' := e.time.up }) (dbgEnd e c2)))
  { c3 with asw := { c3.asw with rep := siteMs e } }

/-- What it does after them: the sessions, the driver of the site network, the claim of a standby. -/
def serviceJoin (e : Env) (c : Chip) : Chip :=
  let c1 := hdgShowDrv e (sessionsStart e c)
  if c1.role = 2 ∧ c1.ctl ∧ !c1.partnerLow ∧ !c1.pair.low then quoinClaim e 3 c1 else c1

/-- A start on a slot that can run. -/
theorem serviceStart_of_slot {sigA sigB : Bool} {s : State} {slot : Nat} {alt : Bool} (h : bootSlot sigA sigB s.chip = some (slot, alt)) :
    serviceStart sigA sigB s =
      onChip serviceJoin (eachBelow 7 (fun n s => onCan n (canImpose n 0) s) (onChip (serviceLoad slot alt) s)) := by
  simp only [serviceStart, h]
  rfl

theorem serviceLoad_startShown (slot : Nat) (alt : Bool) (e : Env) (c : Chip) :
    (serviceLoad slot alt e c).startShown = ((loadImage inService c).setRgn .service 0).startShown := by
  have hpwm (c : Chip) : (eachBelow 16 (fun j c => c.setPwmCh j { await := true, at' := e.time.up }) c).startShown = c.startShown :=
    eachBelow_startShown (fun j _ c => Chip.setPwmCh_startShown c j _) c
  refine (pwmShowBlank_startShown _).trans ?_
  rw [pwmHoldAll_startShown, hpwm, dbgEnd_startShown, bootStart_startShown, Chip.wr_startShown _ _ (by decide)]

theorem serviceJoin_startShown (e : Env) (c : Chip) : (serviceJoin e c).startShown = c.startShown := by
  simp only [serviceJoin, apply_ite Chip.startShown, quoinClaim_startShown, hdgShowDrv_startShown, sessionsStart_startShown, ite_self]

theorem Chip.svc_of_startShown {c d : Chip} (h : d.startShown = c.startShown) : d.svc = c.svc := by
  have hrd : d.rd Reg.CHIP_RGN_STAT = c.rd Reg.CHIP_RGN_STAT := congrArg Prod.fst h
  simp [Chip.svc, Chip.rgn, Chip.f, hrd]

/-- The region runs after a start on a slot that can run (R733). -/
theorem serviceStart_svc {sigA sigB : Bool} {s : State} (h : (bootSlot sigA sigB s.chip).isSome = true) :
    (serviceStart sigA sigB s).chip.svc = true := by
  obtain ⟨⟨slot, alt⟩, hslot⟩ := Option.isSome_iff_exists.mp h
  have hshown : (serviceStart sigA sigB s).chip.startShown = ((loadImage inService s.chip).setRgn .service 0).startShown := by
    rw [serviceStart_of_slot hslot]
    refine (serviceJoin_startShown _ _).trans (Eq.trans ?_ (serviceLoad_startShown slot alt s.env s.chip))
    exact eachBelow_kept (g := fun t : State => t.chip.startShown)
      (fun n hn t => onCan_startShown hn (canImpose_zero_startShown n) t) (onChip (serviceLoad slot alt) s)
  rw [Chip.svc_of_startShown hshown]
  simp [Chip.svc, Chip.rgn, Chip.setRgn, Chip.f_setF_same, statBit]

/-- Such a start touches nothing beside the Control and Service regions. -/
theorem serviceStart_beside {sigA sigB : Bool} {s : State} (h : (bootSlot sigA sigB s.chip).isSome = true) :
    (serviceStart sigA sigB s).env = s.env ∧ (serviceStart sigA sigB s).heath = s.heath ∧ (serviceStart sigA sigB s).met = s.met ∧
      (serviceStart sigA sigB s).mem = s.mem ∧ (serviceStart sigA sigB s).pending = s.pending := by
  obtain ⟨⟨slot, alt⟩, hslot⟩ := Option.isSome_iff_exists.mp h
  have hbeside : (serviceStart sigA sigB s).beside = s.beside := by
    rw [serviceStart_of_slot hslot, onChip_beside]
    exact eachBelow_kept (fun n hn t => onCan_beside hn (canImpose_mem n 0) t) (onChip (serviceLoad slot alt) s)
  simp only [State.beside, Prod.mk.injEq] at hbeside
  obtain ⟨hpend, hmem, henv, hheath, hmet⟩ := hbeside
  exact ⟨henv, hheath, hmet, hmem, hpend⟩

/-- Where the signatures of both slots fail, the region stays down (R733). -/
theorem serviceStart_unsigned (s : State) : serviceStart false false s = s := by
  have hslot : bootSlot false false s.chip = none := by simp [bootSlot, bootOk]
  simp only [serviceStart, hslot]

end Sys2Proof.Machine
end

section
/-! PROOF. HEATH_START (ch. 15, R520; ch. 22, R706): Heath runs and shows its strap. -/
open Sys2Proof Sys2Proof.Machine
namespace Sys2Proof.Machine

/-- The strap that HTH.STAT shows. -/
def Heath.priShown (h : Heath) : Bool := h.b Reg.HTH_STAT 25

theorem Heath.wr_priShown (h : Heath) {a : Nat} (v : Word) (ha : 0x50000048 ≤ a) : (h.wr a v).priShown = h.priShown := by
  have hne : Reg.HTH_STAT ≠ a := by unfold Reg.HTH_STAT; omega
  simp [Heath.priShown, Heath.b, Heath.rd_wr_ne, hne]

theorem Heath.setB_priShown (h : Heath) {a : Nat} (i : Nat) (b : Bool) (ha : 0x50000048 ≤ a) : (h.setB a i b).priShown = h.priShown :=
  h.wr_priShown _ ha

theorem Heath.onSt_priShown (h : Heath) (f : HthSt → HthSt) : (h.onSt f).priShown = h.priShown := rfl
theorem Heath.onCh_priShown (h : Heath) (i : Nat) (f : HthCh → HthCh) : (h.onCh i f).priShown = h.priShown := by
  unfold Heath.onCh
  split <;> rfl

theorem inShow_priShown (j : Nat) (h : Heath) : (inShow j h).priShown = h.priShown :=
  Heath.wr_priShown _ _ (by unfold Reg.HTH_IN_STAT; omega)
theorem fnShow_priShown (k : Nat) (h : Heath) : (fnShow k h).priShown = h.priShown :=
  Heath.wr_priShown _ _ (by unfold Reg.HTH_FN_STAT; omega)
theorem rstShow_priShown (r : Nat) (h : Heath) : (rstShow r h).priShown = h.priShown :=
  Heath.wr_priShown _ _ (by unfold Reg.HTH_RST_STAT; omega)

/-- The switches show in the low byte of HTH.STAT only. -/
theorem outShow_priShown (h : Heath) : (outShow h).priShown = h.priShown := by
  have hlow (h : Heath) (n : Nat) : (h.setF Reg.HTH_STAT 0 8 n).priShown = h.priShown := by
    simp only [Heath.priShown, Heath.b, Heath.rd_setF, if_true]
    exact fbit_fset_ne _ _ _ _ _ (by omega)
  refine (hlow _ _).trans (eachBelow_kept (fun n _ h => ?_) h)
  simp (disch := (simp only [Reg.HTH_OUT_STAT] <;> omega)) only [Heath.setB_priShown]

theorem swAll_priShown (p : Part) (sd : Bool) (h : Heath) : (swAll p sd h).priShown = h.priShown := by
  simp only [swAll, outShow_priShown, Heath.onCh_priShown]

/-- Heath's own part of its start (R520, R527). -/
def heathStarted (e : Env) (sd : Bool) (h : Heath) : Heath :=
  let h1 := (h.setB Reg.HTH_STAT 25 e.part.rolePri).setB Reg.HTH_STAT 29 e.part.safeMaster
  let h2 := h1.setB Reg.HTH_STAT 30 (hthPair h == 1 && !e.part.safeMaster)
  swAll e.part sd (rstShow 1 (rstShow 0 (eachBelow 16 fnShow (eachBelow 16 inShow (h2.onSt (fun t => { t with startAt := e.time.up, tpAt := [] }))))))

theorem heathStarted_priShown (e : Env) (sd : Bool) (h : Heath) : (heathStarted e sd h).priShown = e.part.rolePri := by
  have hin (h : Heath) : (eachBelow 16 inShow h).priShown = h.priShown := eachBelow_kept (fun j _ => inShow_priShown j) h
  have hfn (h : Heath) : (eachBelow 16 fnShow h).priShown = h.priShown := eachBelow_kept (fun k _ => fnShow_priShown k) h
  simp only [heathStarted, swAll_priShown, rstShow_priShown, hfn, hin, Heath.onSt_priShown]
  simp [Heath.priShown, Heath.b, Heath.rd_setB, fbit_fsetb]

theorem heathStart_regs (s : State) : (heathStart s).heath.regs = (heathStarted s.env (hthSd s) s.heath).regs := rfl

/-- Heath runs and shows its strap after its start; the queue, memory, time and Metrology stand (R706). -/
theorem heathStart_spec (s : State) :
    (heathStart s).chip.rgn .heath = 0 ∧ (heathStart s).heath.b Reg.HTH_STAT 25 = s.env.part.rolePri ∧
      (heathStart s).env = s.env ∧ (heathStart s).met = s.met ∧ (heathStart s).mem = s.mem ∧ (heathStart s).pending = s.pending := by
  refine ⟨Chip.f_setF_same _ _ _ _ _ (by decide), ?_, rfl, rfl, rfl, rfl⟩
  rw [Heath.b, Heath.rd, heathStart_regs]
  exact heathStarted_priShown s.env (hthSd s) s.heath

end Sys2Proof.Machine
end

section
/-! PROOF. The core of Metrology is back (ch. 13 and 14, R413, R492, R501), and the settling of the starts (ch. 22, R104). -/
open Sys2Proof Sys2Proof.Machine
namespace Sys2Proof.Machine

/-- The core down as MET.STAT shows it. -/
def Met.downShown (m : Met) : Bool := m.b Reg.MET_STAT 26

theorem Met.wr_downShown (m : Met) {a : Nat} (v : Word) (ha : 0x60000048 ≤ a) : (m.wr a v).downShown = m.downShown := by
  have hne : Reg.MET_STAT ≠ a := by unfold Reg.MET_STAT; omega
  simp [Met.downShown, Met.b, Met.rd_wr_ne, hne]

theorem Met.setB_downShown (m : Met) {a : Nat} (i : Nat) (b : Bool) (ha : 0x60000048 ≤ a) : (m.setB a i b).downShown = m.downShown :=
  m.wr_downShown _ ha
theorem Met.sat_downShown (m : Met) {a : Nat} (lo w n : Nat) (ha : 0x60000048 ≤ a) : (m.sat a lo w n).downShown = m.downShown :=
  m.wr_downShown _ ha
theorem Met.onSt_downShown (m : Met) (f : MetSt → MetSt) : (m.onSt f).downShown = m.downShown := rfl
theorem Met.onEng_downShown (m : Met) (f : MetEng → MetEng) : (m.onEng f).downShown = m.downShown := rfl

/-! ### Logs, tampers and balances -/

theorem metFlag_downShown (i : Nat) (x : MetLog) : (metFlag i x).1.downShown = x.1.downShown := Met.setB_downShown _ _ _ (by decide)
theorem trfFlag_downShown (i : Nat) (x : MetLog) : (trfFlag i x).1.downShown = x.1.downShown := Met.setB_downShown _ _ _ (by decide)
theorem metEntry_downShown (t k d : Nat) (x : MetLog) : (metEntry t k d x).1.downShown = x.1.downShown := rfl
theorem spanFlag_downShown (i : Nat) (x : MetLog) : (spanFlag i x).1.downShown = x.1.downShown := rfl

theorem metNote_downShown (ev arg : Nat) (st d : List Word) (x : MetLog) : (metNote ev arg st d x).1.downShown = x.1.downShown :=
  (Met.wr_downShown _ _ (by decide)).trans (Met.onSt_downShown _ _)

theorem metTamper_downShown (kind : Nat) (aux : Word) (st : List Word) (x : MetLog) : (metTamper kind aux st x).1.downShown = x.1.downShown := by
  simp only [metTamper, spanFlag_downShown, metEntry_downShown, metNote_downShown]
  simp (disch := (simp only [Reg.TMP_COUNT, Reg.TMP_FIRST_S, Reg.TMP_FIRST_X, Reg.TMP_LAST_S, Reg.TMP_LAST_X, Reg.TMP_AUX, Reg.TMP_ANY,
    Reg.TMP_TOTAL] <;> omega)) only [metDo, apply_ite Met.downShown, Met.wr_downShown, Met.setB_downShown, Met.sat_downShown, ite_self]

theorem metColophon_downShown (st : List Word) (x : MetLog) : (metColophon st x).1.downShown = x.1.downShown := by
  have hdig (w : MetFw) (m : Met) : (eachBelow 8 (fun k m => m.wr (Reg.TRF_COLO_DIG k) (w.dig.getD k 0)) m).downShown = m.downShown :=
    eachBelow_kept (fun k _ m => Met.wr_downShown m _ (by unfold Reg.TRF_COLO_DIG; omega)) m
  simp (disch := (simp only [Reg.TRF_COLO_VER, Reg.TRF_COLO_CRC, Reg.TRF_COLO_SEQ] <;> omega)) only [metColophon, apply_ite Prod.fst,
    apply_ite Met.downShown, metTamper_downShown, metNote_downShown, metEntry_downShown, trfFlag_downShown, Met.onSt_downShown, hdig,
    Met.wr_downShown, ite_self]

/-- A balance shows its run in MET.STAT beside the core's state. -/
theorem metBalance_downShown (st : List Word) (b : MetBal) (x : MetLog) : (metBalance st b x).1.downShown = x.1.downShown := by
  have hrun (m : Met) (n : Nat) : (m.setF Reg.MET_STAT 16 8 n).downShown = m.downShown := by
    simp only [Met.downShown, Met.b, Met.rd_setF, if_true]
    exact fbit_fset_ne _ _ _ _ _ (by omega)
  simp (disch := (simp only [Reg.MET_BAL_MIS, Reg.MET_BAL_BAND, Reg.MET_BAL_BATT, Reg.MET_BAL_AUX, Reg.MET_BAL_LOSS] <;> omega)) only
    [metBalance, apply_ite Prod.fst, apply_ite Met.downShown, metTamper_downShown, metFlag_downShown, metEntry_downShown,
    Met.onEng_downShown, hrun, Met.wr_downShown, ite_self]

theorem metBalances_downShown (st : List Word) (x : MetLog) : (metBalances st x).1.downShown = x.1.downShown :=
  eachOf_kept (g := fun y : MetLog => y.1.downShown) (fun b _ => metBalance_downShown st b) x

/-! ### The core's return -/

/-- What the core does when it is back, with the entries that it asks for (R413, R492, R501). -/
def coreReturn (e : Env) (m : Met) : MetLog :=
  metBalances (metStamp e m) (metColophon (metStamp e m) (metTamper 0x11 0 (metStamp e m) (m.setB Reg.MET_STAT 26 false, [])))

theorem coreReturn_up (e : Env) (m : Met) : (coreReturn e m).1.downShown = false := by
  rw [coreReturn, metBalances_downShown, metColophon_downShown, metTamper_downShown]
  simp [Met.downShown, Met.b, Met.rd_setB, fbit_fsetb]

theorem onMet_regs (f : Env → Met → Met × List LogReq) (s : State) : (onMet f s).met.regs = (f s.env s.met).1.regs := rfl

theorem onMet_rgn (f : Env → Met → Met × List LogReq) (s : State) (r : Region) : (onMet f s).chip.rgn r = s.chip.rgn r := by
  have hword : (onMet f s).chip.rd Reg.CHIP_RGN_STAT = s.chip.rd Reg.CHIP_RGN_STAT := congrArg Prod.fst (onMet_startShown f s)
  simp only [Chip.rgn, Chip.f, hword]

/-- The region runs with its core up after a start that loads no new image; the queue, memory, time and Heath stand (R413). -/
theorem coreStart_spec {s : State} (h : s.met.st.fwNew = none) :
    (coreStart s).chip.rgn .metrology = 0 ∧ (coreStart s).met.b Reg.MET_STAT 26 = false ∧ (coreStart s).env = s.env ∧
      (coreStart s).heath = s.heath ∧ (coreStart s).mem = s.mem ∧ (coreStart s).pending = s.pending := by
  have hstart : coreStart s = onMet coreReturn (onChip (fun _ c => c.setRgn .metrology 0) s) := by
    simp only [coreStart, h]
    rfl
  simp only [hstart, onMet_env, onMet_heath, onMet_mem, onMet_pending, onChip_env, onChip_heath, onChip_mem, onChip_pending, and_true]
  refine ⟨?run, ?up⟩
  case run =>
    rw [onMet_rgn]
    exact Chip.f_setF_same _ _ _ _ _ (by decide)
  case up =>
    rw [Met.b, Met.rd, onMet_regs]
    exact coreReturn_up s.env s.met

/-! ### The commands -/

theorem exec_controlRegionStart {s : State} (valid : Bool) (h : s.chip.rgn .control = 1) :
    exec (.controlRegionStart valid) s = .next (controlStart valid s) := congrArg Host.Outcome.next (if_pos h)

theorem exec_serviceStart {s : State} (sigA sigB : Bool) (h : s.chip.rgn .service = 1) :
    exec (.serviceStart sigA sigB) s = .next (serviceStart sigA sigB s) := congrArg Host.Outcome.next (if_pos h)

theorem exec_heathStart {s : State} (h : s.chip.rgn .heath = 1) (hvdda : vddaGood s.chip = true) :
    exec .heathStart s = .next (heathStart s) := congrArg Host.Outcome.next (if_pos (by simp [h, hvdda]))

/-- A restart that completes does what the start of its region does (R104). -/
theorem exec_regionRestartComplete {s : State} (r : Region) (valid sigA sigB : Bool) (h : s.chip.rgn r = 1) :
    exec (.regionRestartComplete r valid sigA sigB) s = .next (match r with
      | .control => controlStart valid s
      | .service => serviceStart sigA sigB s
      | .heath => if vddaGood s.chip then heathStart s else s
      | .metrology => coreStart s) := by
  change execRegionRestartComplete r valid sigA sigB s = _
  cases r <;> simp only [execRegionRestartComplete, h, if_true]

end Sys2Proof.Machine

/-- Settles O24: each region's start sets its state in CHIP.RGN_STAT, and what follows in the start leaves it. -/
theorem regionStarts : Obligations.RegionStarts := by
  refine ⟨fun s valid h => ?control, fun s sigA sigB h hslot => ?service, fun s h => ?unsigned, fun s h hvdda => ?heath,
    fun s valid sigA sigB h => ?controlAgain, fun s valid sigA sigB h hslot => ?serviceAgain, fun s valid sigA sigB h hvdda => ?heathAgain,
    fun s valid sigA sigB h hfw => ?metrologyAgain⟩
  case control =>
    obtain ⟨hframe, hoffset, hbnd, hup, hpart, hpend⟩ := controlStart_time valid s
    exact ⟨_, exec_controlRegionStart valid h, controlStart_ctl valid s, hframe, hoffset, hbnd, controlStart_phase valid s, hup,
      controlStart_imageLost valid s, hpart, hpend⟩
  case service => exact ⟨_, exec_serviceStart sigA sigB h, serviceStart_svc hslot, serviceStart_beside hslot⟩
  case unsigned => exact ⟨_, exec_serviceStart false false h, serviceStart_unsigned s⟩
  case heath => exact ⟨_, exec_heathStart h hvdda, heathStart_spec s⟩
  case controlAgain =>
    obtain ⟨hframe, hoffset, -, -, hpart, hpend⟩ := controlStart_time valid s
    exact ⟨_, exec_regionRestartComplete .control valid sigA sigB h, controlStart_ctl valid s, hframe, hoffset, hpart, hpend⟩
  case serviceAgain =>
    exact ⟨_, exec_regionRestartComplete .service valid sigA sigB h, serviceStart_svc hslot, serviceStart_beside hslot⟩
  case heathAgain =>
    obtain ⟨hrun, -, henv, hmet, hmem, hpend⟩ := heathStart_spec s
    have hexec := exec_regionRestartComplete .heath valid sigA sigB h
    simp only [hvdda, if_true] at hexec
    exact ⟨_, hexec, hrun, henv, hmet, hmem, hpend⟩
  case metrologyAgain => exact ⟨_, exec_regionRestartComplete .metrology valid sigA sigB h, coreStart_spec hfw⟩
end

section
/-! PROOF. Pages and words of any region: where a page's words lie, and what a write, an error flag and a page's count leave (ch. 3, R89 to
R93; ch. 4, R113, R127). -/
open Sys2Proof Sys2Proof.Machine
namespace Sys2Proof.Machine

/-! ### Addresses of pages -/

/-- The page that holds an address is one of a run of pages (R116). -/
theorem pageIn_run {l : List PageRun} {a : Nat} {g : Page} (h : pageIn l a = some g) : ∃ r ∈ l, (r.base ≤ a ∧ a < r.base + 0x1000 * r.n) ∧
    g = ⟨a / 0x1000 * 0x1000, r.kind, r.first + (a - r.base) / 0x1000, r.cells, r.stride, r.owner, r.type⟩ := by
  induction l with
  | nil => simp [pageIn] at h
  | cons r t ih =>
    rw [pageIn] at h
    split at h
    case isTrue hr => exact ⟨r, List.mem_cons_self, hr, (Option.some.inj h).symm⟩
    case isFalse =>
      obtain ⟨r', hmem, hr'⟩ := ih h
      exact ⟨r', List.mem_cons_of_mem r hmem, hr'⟩

/-- A page begins at a multiple of 4 KiB (R113). -/
theorem pageAt_aligned {a : Nat} {g : Page} (h : pageAt a = some g) : g.base % 0x1000 = 0 := by
  obtain ⟨r, -, -, rfl⟩ := pageIn_run h
  exact Nat.mul_mod_left _ _

/-- Every word of a page lies in it. -/
theorem pageIn_add {l : List PageRun} (hl : ∀ r ∈ l, r.base % 0x1000 = 0) {page o : Nat} (h : page % 0x1000 = 0) (ho : o < 0x1000) :
    pageIn l (page + o) = pageIn l page := by
  induction l with
  | nil => rfl
  | cons r t ih =>
    have hr := hl r List.mem_cons_self
    have hin : (r.base ≤ page + o ∧ page + o < r.base + 0x1000 * r.n) ↔ (r.base ≤ page ∧ page < r.base + 0x1000 * r.n) := by omega
    simp only [pageIn, hin, ih fun r hr => hl r (List.mem_cons_of_mem _ hr)]
    split
    · rw [show (page + o) / 0x1000 = page / 0x1000 by omega, show (page + o - r.base) / 0x1000 = (page - r.base) / 0x1000 by omega]
    · rfl

theorem pageAt_add {page o : Nat} (h : page % 0x1000 = 0) (ho : o < 0x1000) : pageAt (page + o) = pageAt page :=
  pageIn_add (by decide) h ho

/-- A page that Control, Data or Management owns lies in the Control or the Service region (Table: Page index). -/
theorem regionOf_owned {page : Nat} {g : Page} (h : pageAt page = some g) (ho : g.owner < 3) :
    regionOf page = .control ∨ regionOf page = .service := by
  have hruns : ∀ r ∈ pageRuns, r.owner < 3 →
      (0x40000000 ≤ r.base ∧ r.base + 0x1000 * r.n ≤ 0x50000000) ∨
        (0x70000000 ≤ r.base ∧ r.base + 0x1000 * r.n ≤ 0x80000000) := by decide
  obtain ⟨r, hmem, hr, rfl⟩ := pageIn_run h
  rcases hruns r hmem ho with hctl | hsvc
  · have hdiv : page / 0x10000000 = 4 := by omega
    exact .inl (by rw [regionOf, hdiv]; rfl)
  · have hdiv : page / 0x10000000 = 7 := by omega
    exact .inr (by rw [regionOf, hdiv]; rfl)

/-- The Galley's page is Management's, and lies in the Control region. -/
theorem page_of_gal {page : Nat} {g : Page} (h : pageAt page = some g) (hk : g.kind = .gal) : g.owner = 2 ∧ g.base = 0x40002000 := by
  have hruns : ∀ r ∈ pageRuns, r.kind = .gal → r.owner = 2 ∧ r.base = 0x40002000 ∧ r.n = 1 := by decide
  obtain ⟨r, hmem, hr, rfl⟩ := pageIn_run h
  obtain ⟨howner, hbase, hn⟩ := hruns r hmem hk
  refine ⟨howner, ?_⟩
  dsimp only
  omega

theorem windowAt_aligned {a : Nat} {w : Window} (h : windowAt a = some w) : w.page % 0x1000 = 0 := by
  unfold windowAt at h
  split at h
  · cases h
    exact (by decide : 0x4001F000 % 0x1000 = 0)
  · have hall : ∀ w ∈ windows, w.page % 0x1000 = 0 := by decide
    exact hall w (List.mem_of_find?_eq_some h)

/-- The page that takes what concerns an address begins at a multiple of 4 KiB (R127). -/
theorem homePage_aligned {a p : Nat} (h : homePage a = some p) : p % 0x1000 = 0 := by
  unfold homePage at h
  split at h
  case h_1 g hg => rw [← Option.some.inj h]; exact pageAt_aligned hg
  case h_2 =>
    obtain ⟨w, hw, rfl⟩ := Option.map_eq_some_iff.mp h
    exact windowAt_aligned hw

theorem homePage_getD_aligned (a : Nat) : (homePage a).getD 0x40000000 % 0x1000 = 0 := by
  cases h : homePage a with
  | none => rfl
  | some p => exact homePage_aligned h

theorem parPage_aligned (w : ParWord) : parPage w % 0x1000 = 0 := by
  cases w with
  | word a => exact homePage_getD_aligned a
  | bundle n => exact (by decide : 0x40032000 % 0x1000 = 0)
  | hid h =>
    cases h <;> unfold parPage
    case loop s i => dsimp only; omega
    case moveRef s => dsimp only; omega
    case accum m => dsimp only; split <;> omega
    all_goals dsimp only

/-- A word of a page lies in the page's region. -/
theorem regionOf_add {page o : Nat} (h : page % 0x1000 = 0) (ho : o < 0x1000) : regionOf (page + o) = regionOf page := by
  have hdiv : (page + o) / 0x10000000 = page / 0x10000000 := by omega
  simp only [regionOf, hdiv]

/-- The flag word of a page is no word of the event log. -/
theorem PG_ERR_off_log {page : Nat} (h : page % 0x1000 = 0) : Reg.PG_ERR page ∉ logRegs := by
  simp only [List.mem_cons, List.not_mem_nil, or_false, Reg.PG_ERR, Reg.CHIP_LOG_WR, Reg.CHIP_LOG_LOST]
  omega

theorem PG_ERRCNT_off_log {page : Nat} (h : page % 0x1000 = 0) : Reg.PG_ERRCNT page ∉ logRegs := by
  simp only [List.mem_cons, List.not_mem_nil, or_false, Reg.PG_ERRCNT, Reg.CHIP_LOG_WR, Reg.CHIP_LOG_LOST]
  omega

theorem PG_ERR_ne_PG_ERRCNT (page : Nat) : Reg.PG_ERR page ≠ Reg.PG_ERRCNT page := by
  unfold Reg.PG_ERR Reg.PG_ERRCNT
  omega

/-! ### Writes and error flags in any region -/

/-- An effect on the Control and Service regions touches nothing beside them. -/
theorem onChip_onlyChip (f : Env → Chip → Chip) (s : State) : onlyChip s (onChip f s) := ⟨rfl, rfl, rfl, rfl, rfl, rfl⟩

/-- What an effect on registers and the event log leaves: the queue, memory and time, and the fault hierarchy's own state. -/
def State.still (s : State) : List Instr × List Host.Cell × Env × FaultSt := (s.pending, s.mem, s.env, s.chip.flt)

@[simp] theorem State.wr_still (s : State) (a : Nat) (v : Word) : (s.wr a v).still = s.still := by
  unfold State.wr
  split <;> rfl

theorem State.rd_wr (s : State) (a b : Nat) (v : Word) : (s.wr a v).rd b = if b = a then v else s.rd b := by
  by_cases h : b = a
  · subst h
    unfold State.wr State.rd
    cases regionOf b <;> simp
  · simp only [State.wr, State.rd, h, if_false]
    cases regionOf a <;> cases regionOf b <;> simp [Chip.rd_wr_ne, Heath.rd_wr_ne, Met.rd_wr_ne, h]

/-- A write to a word of Control or Service. -/
theorem State.wr_of_chip {a : Nat} (h : regionOf a = .control ∨ regionOf a = .service) (s : State) (v : Word) :
    s.wr a v = onChip (fun _ c => c.wr a v) s := by
  rcases h with h | h <;> simp only [State.wr, h] <;> rfl

/-- A write in any region leaves every other word of Control and Service. -/
theorem State.wr_chip_rd_ne (s : State) {a b : Nat} (v : Word) (h : b ≠ a) : (s.wr a v).chip.rd b = s.chip.rd b := by
  unfold State.wr
  split
  · rfl
  · rfl
  · exact Chip.rd_wr_ne _ _ h

theorem Heath.perr_regs (h : Heath) (page i : Nat) : (h.perr page i).1 = h.setB (Reg.PG_ERR page) i true := by
  unfold Heath.perr
  dsimp only
  split
  · split <;> rfl
  · rfl

theorem Met.perr_regs (m : Met) (page i : Nat) : (m.perr page i).1 = m.setB (Reg.PG_ERR page) i true := by
  unfold Met.perr
  dsimp only
  split
  · split <;> rfl
  · rfl

@[simp] theorem State.perr_still (s : State) (page i : Nat) : (s.perr page i).still = s.still := by
  unfold State.perr
  split <;> simp [State.still, onHeath_chip, onMet_chip]

/-- An error flag changes of the Control and Service words the page's flags and the event log's alone. -/
theorem State.perr_chip_rd_ne (s : State) (page i : Nat) {a : Nat} (h : a ≠ Reg.PG_ERR page) (hlog : a ∉ logRegs) :
    (s.perr page i).chip.rd a = s.chip.rd a := by
  simp only [List.mem_cons, List.not_mem_nil, or_false, not_or] at hlog
  unfold State.perr
  split
  · exact Chip.putOrKeep_rd_ne _ _ _ hlog.1 hlog.2
  · exact Chip.putOrKeep_rd_ne _ _ _ hlog.1 hlog.2
  · exact Chip.perr_rd_ne _ _ _ _ h hlog.1 hlog.2

/-- An error flag leaves every word off the event log but the page's flags, in whatever region. -/
theorem State.perr_rd_ne (s : State) {page : Nat} (i : Nat) {a : Nat} (h : a ≠ Reg.PG_ERR page) (hlog : a ∉ logRegs) :
    (s.perr page i).rd a = s.rd a := by
  have hchip := s.perr_chip_rd_ne page i h hlog
  have hheath : (s.perr page i).heath.rd a = s.heath.rd a := by
    unfold State.perr
    split
    · refine (congrArg (Heath.rd · a) (Heath.perr_regs s.heath page i)).trans (Heath.rd_wr_ne _ _ h)
    · rfl
    · rfl
  have hmet : (s.perr page i).met.rd a = s.met.rd a := by
    unfold State.perr
    split
    · rfl
    · refine (congrArg (Met.rd · a) (Met.perr_regs s.met page i)).trans (Met.rd_wr_ne _ _ h)
    · rfl
  unfold State.rd
  split
  · exact hheath
  · exact hmet
  · exact hchip

/-- A flag that the hardware sets reads as set, in whatever region. -/
theorem State.perr_set (s : State) {page i : Nat} (hp : page % 0x1000 = 0) (hi : i < 32) :
    fbit ((s.perr page i).rd (Reg.PG_ERR page)) i = true := by
  have hlog := PG_ERR_off_log hp
  simp only [List.mem_cons, List.not_mem_nil, or_false, not_or] at hlog
  have hreg : regionOf (Reg.PG_ERR page) = regionOf page := regionOf_add hp (by decide)
  unfold State.perr State.rd
  rw [hreg]
  cases regionOf page with
  | heath =>
    refine (congrArg (fun h : Heath => h.b (Reg.PG_ERR page) i) (Heath.perr_regs s.heath page i)).trans ?_
    simp [Heath.b, Heath.rd_setB, fbit_fsetb_same _ _ _ hi]
  | metrology =>
    refine (congrArg (fun m : Met => m.b (Reg.PG_ERR page) i) (Met.perr_regs s.met page i)).trans ?_
    simp [Met.b, Met.rd_setB, fbit_fsetb_same _ _ _ hi]
  | control => exact Chip.perr_set _ _ _ _ hi hlog.1 hlog.2
  | service => exact Chip.perr_set _ _ _ _ hi hlog.1 hlog.2

/-! ### A page's flag and count -/

/-- The words that a page's flag and count may change. -/
abbrev countRegs (page : Nat) : List Nat := [Reg.PG_ERR page, Reg.PG_ERRCNT page, Reg.CHIP_LOG_WR, Reg.CHIP_LOG_LOST]

@[simp] theorem pageCount_still (page i lo w : Nat) (s : State) : (pageCount page i lo w s).still = s.still := by
  simp [pageCount]

theorem pageCount_chip_rd_ne (page i lo w : Nat) (s : State) {a : Nat} (h : a ∉ countRegs page) :
    (pageCount page i lo w s).chip.rd a = s.chip.rd a := by
  simp only [List.mem_cons, not_or] at h
  obtain ⟨herr, hcnt, hlog⟩ := h
  exact (State.wr_chip_rd_ne _ _ hcnt).trans (State.perr_chip_rd_ne _ _ _ herr (by simpa using hlog))

/-- The flag reads as set (R90, R102). -/
theorem pageCount_flag {page i : Nat} (lo w : Nat) (s : State) (hp : page % 0x1000 = 0) (hi : i < 32) :
    fbit ((pageCount page i lo w s).rd (Reg.PG_ERR page)) i = true := by
  simp only [pageCount, State.rd_wr, PG_ERR_ne_PG_ERRCNT, if_false]
  exact State.perr_set s hp hi

/-- The count has advanced, and stops at its top. -/
theorem pageCount_count {page : Nat} (i : Nat) {lo w : Nat} (s : State) (hp : page % 0x1000 = 0) (hw : lo + w ≤ 32) :
    fget ((pageCount page i lo w s).rd (Reg.PG_ERRCNT page)) lo w = min (fget (s.rd (Reg.PG_ERRCNT page)) lo w + 1) (2 ^ w - 1) := by
  have hrd := s.perr_rd_ne i (PG_ERR_ne_PG_ERRCNT page).symm (PG_ERRCNT_off_log hp)
  have hpos := Nat.two_pow_pos w
  simp only [pageCount, State.rd_wr, if_true, fget_fset_same _ _ _ _ hw, hrd, satAdd]
  exact Nat.mod_eq_of_lt (by omega)

/-- A word apart from the page's flags and count, and from the event log, stands. -/
theorem pageCount_rd_ne (page i lo w : Nat) (s : State) {a : Nat} (h : a ∉ countRegs page) : (pageCount page i lo w s).rd a = s.rd a := by
  simp only [List.mem_cons, not_or] at h
  obtain ⟨herr, hcnt, hlog⟩ := h
  simp only [pageCount, State.rd_wr, hcnt, if_false]
  exact State.perr_rd_ne s i herr (by simpa using hlog)

/-- A page of the Control region counts in Control's own part of the state. -/
theorem pageCount_control {page : Nat} (hp : page % 0x1000 = 0) (hreg : regionOf page = .control) (i lo w : Nat) (s : State) :
    pageCount page i lo w s = onChip (fun e c => (c.perr e page i).sat (Reg.PG_ERRCNT page) lo w 1) s := by
  have hcnt : regionOf (Reg.PG_ERRCNT page) = .control := (regionOf_add hp (by decide)).trans hreg
  simp only [pageCount, State.perr, State.wr, State.rd, hreg, hcnt]
  rfl

end Sys2Proof.Machine
end

section
/-! PROOF. How regions and the chip go down (ch. 3, R104 to R109): CHIP.RGN_STAT, CHIP.ESC and the fault hierarchy's own state after the
reset of a region, a region's restart and a chip fault. -/
open Sys2Proof Sys2Proof.Machine
namespace Sys2Proof.Machine

/-- What shows how the regions stand: CHIP.RGN_STAT, CHIP.ESC, and what the fault hierarchy holds beside its registers. -/
def Chip.levels (c : Chip) : Word × Word × FaultSt := (c.rd Reg.CHIP_RGN_STAT, c.rd Reg.CHIP_ESC, c.flt)

/-! ### Effects beyond the chip page -/

@[simp] theorem Chip.wr_levels (c : Chip) {a : Nat} (v : Word) (h : 0x40001000 ≤ a) : (c.wr a v).levels = c.levels := by
  have hr : Reg.CHIP_RGN_STAT ≠ a := by unfold Reg.CHIP_RGN_STAT; omega
  have he : Reg.CHIP_ESC ≠ a := by unfold Reg.CHIP_ESC; omega
  simp [Chip.levels, Chip.rd_wr_ne, hr, he]

@[simp] theorem Chip.setF_levels (c : Chip) {a : Nat} (lo w n : Nat) (h : 0x40001000 ≤ a) : (c.setF a lo w n).levels = c.levels :=
  c.wr_levels _ h
@[simp] theorem Chip.setB_levels (c : Chip) {a : Nat} (i : Nat) (b : Bool) (h : 0x40001000 ≤ a) : (c.setB a i b).levels = c.levels :=
  c.wr_levels _ h
@[simp] theorem Chip.sat_levels (c : Chip) {a : Nat} (lo w n : Nat) (h : 0x40001000 ≤ a) : (c.sat a lo w n).levels = c.levels :=
  c.wr_levels _ h
@[simp] theorem Chip.log1_levels (c : Chip) (e : Env) (t i k d : Nat) : (c.log1 e t i k d).levels = c.levels := by
  simp +decide [Chip.levels, Chip.log1_rd_ne]
@[simp] theorem Chip.onPair_levels (c : Chip) (f : PairSt → PairSt) : (c.onPair f).levels = c.levels := rfl
@[simp] theorem Chip.onHdg_levels (c : Chip) (f : HdgSt → HdgSt) : (c.onHdg f).levels = c.levels := rfl
@[simp] theorem Chip.setPwmCh_levels (c : Chip) (j : Nat) (p : PwmCh) : (c.setPwmCh j p).levels = c.levels := rfl
@[simp] theorem Chip.setAswCh_levels (c : Chip) (j : Nat) (a : AswCh) : (c.setAswCh j a).levels = c.levels := rfl

theorem eachOf_levels {β : Type} {l : List β} {f : β → Chip → Chip} (hf : ∀ x ∈ l, ∀ c, (f x c).levels = c.levels) (c : Chip) :
    (eachOf l f c).levels = c.levels := eachOf_kept hf c

theorem eachBelow_levels {n : Nat} {f : Nat → Chip → Chip} (hf : ∀ i < n, ∀ c, (f i c).levels = c.levels) (c : Chip) :
    (eachBelow n f c).levels = c.levels := eachBelow_kept hf c

/-! ### Outputs of the region that goes down -/

@[simp] theorem pwmShow_levels (j : Nat) (c : Chip) : (pwmShow j c).levels = c.levels := by
  simp (disch := (simp only [Reg.PWM_STAT] <;> omega)) only [pwmShow, Chip.setB_levels]

@[simp] theorem pwmHoldUpdate_levels (j : Nat) (c : Chip) : (pwmHoldUpdate j c).levels = c.levels := by
  simp (disch := (simp only [Reg.PWM_CH_STAT] <;> omega)) only [pwmHoldUpdate, pwmDrive, apply_ite Chip.levels, Chip.setB_levels,
    Chip.setPwmCh_levels, ite_self]

@[simp] theorem pwmShowBlank_levels (c : Chip) : (pwmShowBlank c).levels = c.levels := by
  refine eachBelow_levels (fun t _ c => ?_) c
  simp (disch := (simp only [Reg.PWM_TRIP_STAT] <;> omega)) only [apply_ite Chip.levels, Chip.setB_levels, Chip.setPwmCh_levels, ite_self]

@[simp] theorem pwmHoldAll_levels (c : Chip) : (pwmHoldAll c).levels = c.levels :=
  (pwmShowBlank_levels _).trans (eachBelow_levels (fun j _ c => pwmHoldUpdate_levels j c) c)

@[simp] theorem aswSetState_levels (j x : Nat) (c : Chip) : (aswSetState j x c).levels = c.levels := by
  simp (disch := (simp only [Reg.ASW_CH_STAT, Reg.ASW_STAT] <;> omega)) only [aswSetState, apply_ite Chip.levels, Chip.setB_levels,
    Chip.setF_levels, ite_self]

@[simp] theorem aswGateClose_levels (e : Env) (c : Chip) : (aswGateClose e c).levels = c.levels := by
  refine eachBelow_levels (fun j _ c => ?_) c
  simp only [apply_ite Chip.levels, aswSetState_levels, Chip.setAswCh_levels, ite_self]

@[simp] theorem quoinRelease_levels (e : Env) (c : Chip) : (quoinRelease e c).levels = c.levels := by
  simp (disch := (simp only [Reg.QN_STAT, Reg.QN_EVT] <;> omega)) only [quoinRelease, gateClose, apply_ite Chip.levels, pwmHoldAll_levels,
    aswGateClose_levels, Chip.setB_levels, Chip.onPair_levels, ite_self]

@[simp] theorem hdgRoleCut_levels (e : Env) (cm : ChipMem) : (hdgRoleCut e cm).1.levels = cm.1.levels := by
  have hcomplete (result : Nat) (cm : ChipMem) : (hdgComplete result cm).1.levels = cm.1.levels := Chip.setF_levels _ _ _ _ (by decide)
  have hdrv (c : Chip) : (hdgShowDrv e c).levels = c.levels := Chip.setB_levels _ _ _ (by decide)
  simp (disch := (simp only [Reg.HDG_EVT] <;> omega)) only [hdgRoleCut, hdrv, apply_ite Prod.fst, apply_ite Chip.levels, hcomplete,
    Chip.setB_levels, Chip.onHdg_levels, ite_self]

@[simp] theorem swapEnd_levels (e : Env) (cancel : Option Nat) (c : Chip) : (swapEnd e cancel c).levels = c.levels := by
  unfold swapEnd
  cases cancel <;>
  simp (disch := (simp only [Reg.QN_SWAP, Reg.QN_SWAP_AT, Reg.QN_EVT, Reg.QN_CNT] <;> omega)) only [apply_ite Chip.levels,
    Chip.log1_levels, Chip.wr_levels, Chip.setB_levels, Chip.sat_levels, Chip.onPair_levels, ite_self]

@[simp] theorem serviceHandover_levels (e : Env) (c : Chip) : (serviceHandover e c).levels = c.levels := by
  simp only [serviceHandover, apply_ite Chip.levels, Chip.onPair_levels, swapEnd_levels, ite_self]

@[simp] theorem latchesKept_levels (old c : Chip) : (latchesKept old c).levels = c.levels := by
  refine (eachBelow_levels (fun j _ c => ?_) _).trans (Chip.setF_levels _ _ _ _ (by decide))
  simp (disch := (simp only [Reg.PWM_CH_STAT] <;> omega)) only [apply_ite Chip.levels, aswSetState_levels, pwmShow_levels,
    Chip.setB_levels, ite_self]

/-! ### The reset of a region's state -/

/-- A word that a reset keeps, or that is none of its region's, reads as before. -/
theorem rget_dropRegs {mine kept : Nat → Bool} {a : Nat} (m : RegTable) (h : (!mine a || kept a) = true) :
    rget (dropRegs mine kept m) a = rget m a :=
  tget_filter regReset (fun k => !mine k || kept k) m h

/-- What the reset of the Control region leaves of the fault hierarchy's state (R87). -/
def controlFlt (f : FaultSt) : FaultSt :=
  { fltClear .control f with blockLog := f.blockLog.filter (fun x => !inControl x.1), fresh := [], inWas := [], imgWas := {} }

/-- The reset of the Control region keeps the chip page's words but the log's count. -/
theorem controlClear_levels (c : Chip) : (controlClear c).levels = (c.rd Reg.CHIP_RGN_STAT, c.rd Reg.CHIP_ESC, controlFlt c.flt) := by
  have hkeep (a : Nat) (h : (!inControl a || controlKept a) = true) (hg : (!isPgGalley a) = true) :
      rget (dropRegs inControl controlKept (c.regs.filter (fun x => !isPgGalley x.1))) a = c.rd a :=
    (rget_dropRegs _ h).trans (tget_filter regReset (fun k => !isPgGalley k) c.regs hg)
  unfold controlClear
  refine (eachOf_levels (fun x _ c => Chip.setF_levels _ _ _ _ ?_) _).trans ?_
  · unfold Reg.THM_OSTAT; omega
  refine (eachOf_levels (fun x _ c => Chip.setF_levels _ _ _ _ ?_) _).trans ?_
  · unfold Reg.GAL_STATE; omega
  refine (eachOf_levels (fun x _ c => ?_) _).trans ?_
  · rw [Chip.setF_levels, Chip.setF_levels] <;> (unfold Reg.GAL_STATE; omega)
  refine (eachOf_levels (fun x _ c => Chip.wr_levels _ _ ?_) _).trans ?_
  · unfold Reg.GAL_STATE; omega
  refine (eachOf_levels (fun p _ c => Chip.setB_levels _ _ _ ?_) _).trans ?_
  · unfold Reg.SNP_HOLD; omega
  exact Prod.ext (hkeep _ (by decide) (by decide)) (Prod.ext (hkeep _ (by decide) (by decide)) rfl)

theorem serviceClear_levels (c : Chip) : (serviceClear c).levels = (c.rd Reg.CHIP_RGN_STAT, c.rd Reg.CHIP_ESC, fltClear .service c.flt) := by
  have hkeep (a : Nat) (h : (!inService a || serviceKept a) = true) (ha : a ≠ Reg.QN_STAT) :
      rget (dropRegs inService serviceKept (c.setB Reg.QN_STAT 23 false).regs) a = c.rd a :=
    (rget_dropRegs _ h).trans (Chip.rd_setB_ne c ha)
  refine (latchesKept_levels _ _).trans ?_
  exact Prod.ext (hkeep _ (by decide) (by decide)) (Prod.ext (hkeep _ (by decide) (by decide)) rfl)

/-! ### A region goes down -/

/-- From one chip state to another a region has gone down to the state `st`: the other regions' states and CHIP.ESC stand, and no block begins a
restart. -/
structure Chip.WentDown (r : Region) (st : Nat) (c d : Chip) : Prop where
  stat : d.rd Reg.CHIP_RGN_STAT = fset (c.rd Reg.CHIP_RGN_STAT) (statBit r) 2 st
  esc : d.rd Reg.CHIP_ESC = c.rd Reg.CHIP_ESC
  held : d.flt.held ⊆ c.flt.held

theorem Chip.WentDown.of_levels {r : Region} {st : Nat} {c d d' : Chip} (h : c.WentDown r st d) (hl : d'.levels = d.levels) :
    c.WentDown r st d' := by
  obtain ⟨hstat, hrest⟩ := Prod.mk.inj hl
  obtain ⟨hesc, hflt⟩ := Prod.mk.inj hrest
  exact ⟨hstat.trans h.stat, hesc.trans h.esc, hflt ▸ h.held⟩

theorem rgnDown_rd (e : Env) (r : Region) (st : Nat) (c : Chip) (a : Nat) : (rgnDown e r st c).rd a = (c.setRgn r st).rd a := rfl

/-- A region's new state is entered after whatever leaves the words and starts no block's restart. -/
theorem rgnDown_wentDown (e : Env) (r : Region) (st : Nat) {c d : Chip} {f : FaultSt}
    (h : d.levels = (c.rd Reg.CHIP_RGN_STAT, c.rd Reg.CHIP_ESC, f)) (hf : f.held ⊆ c.flt.held) : c.WentDown r st (rgnDown e r st d) := by
  obtain ⟨hstat, hrest⟩ := Prod.mk.inj h
  obtain ⟨hesc, hflt⟩ := Prod.mk.inj hrest
  refine ⟨?stat, ?esc, ?held⟩
  case stat => rw [rgnDown_rd, Chip.setRgn, Chip.rd_setF, if_pos rfl, hstat]
  case esc => rw [rgnDown_rd, Chip.setRgn, Chip.rd_setF_ne _ (by decide), hesc]
  case held =>
    change d.flt.held ⊆ c.flt.held
    exact hflt ▸ hf

theorem fltClear_held (r : Region) (f : FaultSt) : (fltClear r f).held ⊆ f.held := List.filter_subset_self _

/-- CONTROL goes down, whether it ran or not (Table: Region restart). -/
theorem controlDown_wentDown (st : Nat) (s : State) : s.chip.WentDown .control st (controlDown st s).chip := by
  unfold controlDown
  split
  case isTrue =>
    have hclear : (controlClear (quoinRelease s.env s.chip)).levels =
        (s.chip.rd Reg.CHIP_RGN_STAT, s.chip.rd Reg.CHIP_ESC, controlFlt s.chip.flt) := by
      obtain ⟨hstat, hrest⟩ := Prod.mk.inj (quoinRelease_levels s.env s.chip)
      obtain ⟨hesc, hflt⟩ := Prod.mk.inj hrest
      rw [controlClear_levels, hstat, hesc, hflt]
    refine (rgnDown_wentDown s.env .control st hclear (fltClear_held _ _)).of_levels ((hdgRoleCut_levels _ _).trans ?_)
    refine Eq.trans ?_ (pwmHoldAll_levels _)
    rw [onChip_chip]
    dsimp only
    split <;> rfl
  case isFalse =>
    rw [onChip_chip]
    refine rgnDown_wentDown s.env .control st (f := s.chip.flt) ?_ (List.Subset.refl _)
    split <;> rfl

/-- SERVICE goes down, whether it ran or not. -/
theorem serviceDown_wentDown (st : Nat) (s : State) : s.chip.WentDown .service st (serviceDown st s).chip := by
  rw [serviceDown, onChip_chip]
  refine Chip.WentDown.of_levels ?_ (pwmHoldAll_levels _)
  split
  · exact rgnDown_wentDown s.env .service st (serviceClear_levels _) (fltClear_held _ _)
  · exact rgnDown_wentDown s.env .service st (f := s.chip.flt) rfl (List.Subset.refl _)

theorem Chip.WentDown.rgn {r : Region} {st : Nat} {c d : Chip} (h : c.WentDown r st d) (hst : st < 4) : d.rgn r = st := by
  have hbit : statBit r + 2 ≤ 32 := by cases r <;> decide
  rw [Chip.rgn, Chip.f, h.stat, fget_fset_same _ _ _ _ hbit]
  exact Nat.mod_eq_of_lt hst

theorem Chip.WentDown.rgn_ne {r r' : Region} {st : Nat} {c d : Chip} (h : c.WentDown r st d) (hr : r' ≠ r) : d.rgn r' = c.rgn r' := by
  rw [Chip.rgn, Chip.f, h.stat, fget_fset_ne]
  · rfl
  · cases r <;> cases r' <;> simp_all [statBit]

theorem Chip.WentDown.b_esc {r : Region} {st : Nat} {c d : Chip} (h : c.WentDown r st d) (i : Nat) : d.b Reg.CHIP_ESC i = c.b Reg.CHIP_ESC i :=
  congrArg (fbit · i) h.esc

/-! ### What stands beside the regions that go down -/

/-- What a chip fault leaves: the queue, the part and the time, Heath and Metrology. -/
def State.beyond (s : State) : List Instr × Env × Heath × Met := (s.pending, s.env, s.heath, s.met)

@[simp] theorem onChip_beyond (f : Env → Chip → Chip) (s : State) : (onChip f s).beyond = s.beyond := rfl

@[simp] theorem controlDown_beyond (st : Nat) (s : State) : (controlDown st s).beyond = s.beyond := by
  unfold controlDown
  split <;> rfl

@[simp] theorem serviceDown_beyond (st : Nat) (s : State) : (serviceDown st s).beyond = s.beyond := onChip_beyond _ s

@[simp] theorem chipHold_beyond (s : State) : (chipHold s).beyond = s.beyond := by
  rw [chipHold, serviceDown_beyond, controlDown_beyond]

/-! ### A chip fault -/

theorem Chip.fault_flt (e : Env) (level rgn cause type inst cell : Nat) (c : Chip) :
    (c.fault e level rgn cause type inst cell).flt = c.flt := by
  rw [Chip.fault, Chip.log1_flt]
  unfold Chip.faultRec
  dsimp only
  rw [Chip.wr_flt, Chip.wr_flt, Chip.wr_flt, Chip.wr_flt]

/-- What a chip fault records before the hold (R108, R109). -/
def chipFaultMark (rgn cause type inst : Nat) (e : Env) (c : Chip) : Chip :=
  let c1 := (c.fault e 3 rgn cause type inst 0xFFFF).setB Reg.CHIP_ESC 4 true
  let again : Bool := match c.flt.chipFaultAt with
    | some t => decide (e.time.up < t + 600 * cyclesPerSec)
    | none => false
  let c2 := if again then c1.setB Reg.CHIP_ESC 5 true else c1
  { c2 with flt := { c2.flt with chipFaultAt := some e.time.up } }

theorem chipFault_eq (rgn cause type inst : Nat) (s : State) :
    chipFault rgn cause type inst s = chipHold (onChip (chipFaultMark rgn cause type inst) s) := rfl

theorem chipFaultMark_spec (rgn cause type inst : Nat) (e : Env) (c : Chip) :
    (chipFaultMark rgn cause type inst e c).b Reg.CHIP_ESC 4 = true ∧ (chipFaultMark rgn cause type inst e c).flt.held = c.flt.held := by
  unfold chipFaultMark
  dsimp only
  generalize (match c.flt.chipFaultAt with
    | some t => decide (e.time.up < t + 600 * cyclesPerSec)
    | none => false) = again
  have hflag : ((c.fault e 3 rgn cause type inst 0xFFFF).setB Reg.CHIP_ESC 4 true).b Reg.CHIP_ESC 4 = true :=
    Chip.b_setB_same _ _ _ _ (by decide)
  have hb (d : Chip) (f : FaultSt) : ({ d with flt := f } : Chip).b Reg.CHIP_ESC 4 = d.b Reg.CHIP_ESC 4 := rfl
  have hheld (d : Chip) (x : Option Nat) : ({ d.flt with chipFaultAt := x } : FaultSt).held = d.flt.held := rfl
  rw [hb, hheld]
  cases again
  · exact ⟨hflag, by rw [if_neg Bool.false_ne_true, Chip.setB_flt, Chip.fault_flt]⟩
  · rw [if_pos rfl, Chip.b_setB_apart _ _ _ _ _ (by decide), Chip.setB_flt, Chip.setB_flt, Chip.fault_flt]
    exact ⟨hflag, rfl⟩

/-- A chip fault has held Control and Service in reset and is flagged; the time and the queue stand (R108). -/
structure ChipFaulted (s t : State) : Prop where
  control : t.chip.rgn .control = 2
  service : t.chip.rgn .service = 2
  flagged : t.chip.b Reg.CHIP_ESC 4 = true
  held : t.chip.flt.held ⊆ s.chip.flt.held
  env : t.env = s.env
  pending : t.pending = s.pending

theorem ChipFaulted.ctl {s t : State} (h : ChipFaulted s t) : t.chip.ctl = false := by simp [Chip.ctl, h.control]
theorem ChipFaulted.svc {s t : State} (h : ChipFaulted s t) : t.chip.svc = false := by simp [Chip.svc, h.service]

theorem chipFault_beyond (rgn cause type inst : Nat) (s : State) : (chipFault rgn cause type inst s).beyond = s.beyond := by
  rw [chipFault_eq, chipHold_beyond, onChip_beyond]

theorem chipFault_faulted (rgn cause type inst : Nat) (s : State) : ChipFaulted s (chipFault rgn cause type inst s) := by
  obtain ⟨hflag, hheld⟩ := chipFaultMark_spec rgn cause type inst s.env s.chip
  have hbeyond := chipFault_beyond rgn cause type inst s
  simp only [State.beyond, Prod.mk.injEq] at hbeyond
  obtain ⟨hpend, henv, -, -⟩ := hbeyond
  rw [chipFault_eq] at henv hpend ⊢
  generalize hmark : onChip (chipFaultMark rgn cause type inst) s = s1 at henv hpend ⊢
  have hchip : s1.chip = chipFaultMark rgn cause type inst s.env s.chip := by rw [← hmark, onChip_chip]
  have hc := controlDown_wentDown 2 s1
  have hv := serviceDown_wentDown 2 (controlDown 2 s1)
  refine ⟨?control, hv.rgn (by decide), ?flagged, ?held, henv, hpend⟩
  case control => exact (hv.rgn_ne (by decide)).trans (hc.rgn (by decide))
  case flagged => exact (hv.b_esc 4).trans ((hc.b_esc 4).trans (hchip ▸ hflag))
  case held =>
    have hmarked : s1.chip.flt.held = s.chip.flt.held := by rw [hchip, hheld]
    exact hmarked ▸ List.Subset.trans hv.held hc.held

/-! ### A region's restart -/

/-- A region's restart has begun and is flagged; the time and the queue stand (R104). -/
structure Restarting (r : Region) (s t : State) : Prop where
  rgn : t.chip.rgn r = 1
  flagged : t.chip.b Reg.CHIP_ESC (escBit r) = true
  held : t.chip.flt.held ⊆ s.chip.flt.held
  env : t.env = s.env
  pending : t.pending = s.pending

theorem escBit_lt (r : Region) : escBit r < 32 := by cases r <;> decide

/-- The count of a region's restarts changes CHIP.RGN_STAT alone. -/
theorem rgnCount_rd_ne (r : Region) (c : Chip) {a : Nat} (h : a ≠ Reg.CHIP_RGN_STAT) : (rgnCount r c).rd a = c.rd a := by
  cases r
  case heath => rfl
  all_goals exact Chip.rd_wr_ne _ _ h

theorem rgnMark_rd (e : Env) (r : Region) (c : Chip) (a : Nat) :
    (rgnMark e r c).rd a = (rgnCount r (c.setB Reg.CHIP_ESC (escBit r) true)).rd a := rfl

theorem rgnMark_flag (e : Env) (r : Region) (c : Chip) : (rgnMark e r c).b Reg.CHIP_ESC (escBit r) = true := by
  rw [Chip.b, rgnMark_rd, rgnCount_rd_ne _ _ (by decide)]
  exact Chip.b_setB_same _ _ _ _ (escBit_lt r)

theorem rgnMark_flag_ne (e : Env) {r r' : Region} (c : Chip) (h : r' ≠ r) :
    (rgnMark e r c).b Reg.CHIP_ESC (escBit r') = c.b Reg.CHIP_ESC (escBit r') := by
  have hbit : escBit r' ≠ escBit r := by cases r <;> cases r' <;> simp_all [escBit]
  rw [Chip.b, rgnMark_rd, rgnCount_rd_ne _ _ (by decide)]
  exact Chip.b_setB_apart _ _ _ _ _ hbit

/-- The count lies beside the regions' states. -/
theorem rgnMark_rgn (e : Env) (r r' : Region) (c : Chip) : (rgnMark e r c).rgn r' = c.rgn r' := by
  have hcount (lo : Nat) (d : Chip) (h : 8 ≤ lo) : (d.sat Reg.CHIP_RGN_STAT lo 8 1).rgn r' = d.rgn r' :=
    Chip.f_setF_apart _ _ _ _ _ _ _ (by cases r' <;> simp only [statBit] <;> omega)
  have hesc : (c.setB Reg.CHIP_ESC (escBit r) true).rgn r' = c.rgn r' := Chip.f_setB_ne _ _ _ _ _ (by decide)
  rw [Chip.rgn, Chip.f, rgnMark_rd]
  refine Eq.trans ?_ hesc
  cases r
  case heath => rfl
  all_goals exact hcount _ _ (by decide)

theorem rgnMark_rd_ne (e : Env) (r : Region) (c : Chip) {a : Nat} (hstat : a ≠ Reg.CHIP_RGN_STAT) (hesc : a ≠ Reg.CHIP_ESC) :
    (rgnMark e r c).rd a = c.rd a := by
  rw [rgnMark_rd, rgnCount_rd_ne _ _ hstat, Chip.rd_setB_ne _ hesc]

theorem rgnMark_held (e : Env) (r : Region) (c : Chip) : (rgnMark e r c).flt.held = c.flt.held := by
  cases r <;> rfl

/-- A region begins its restart: it goes down to the state 1. -/
theorem rgnBegin_wentDown (cause : Nat) (r : Region) (s : State) : s.chip.WentDown r 1 (rgnBegin cause r s).chip := by
  cases r with
  | control => exact (controlDown_wentDown 1 s).of_levels rfl
  | service =>
    obtain ⟨hstat, hrest⟩ := Prod.mk.inj (serviceHandover_levels s.env s.chip)
    obtain ⟨hesc, hflt⟩ := Prod.mk.inj hrest
    have h := serviceDown_wentDown 1 (onChip serviceHandover s)
    exact ⟨h.stat.trans (by rw [onChip_chip, hstat]), h.esc.trans hesc, hflt ▸ h.held⟩
  | heath => exact rgnDown_wentDown s.env .heath 1 rfl (fltClear_held .heath s.chip.flt)
  | metrology => exact rgnDown_wentDown s.env .metrology 1 rfl (fltClear_held .metrology s.chip.flt)

@[simp] theorem rgnBegin_beyond (cause : Nat) (r : Region) (s : State) : (rgnBegin cause r s).beyond = s.beyond := by
  cases r with
  | control => exact (onChip_beyond _ _).trans (controlDown_beyond 1 s)
  | service => rfl
  | heath => rfl
  | metrology => rfl

/-- A region's restart that is not the third within 60 s (R104, R107). -/
theorem regionRestart_restarting {r : Region} {s : State} (h : rgnThird s.env r s.chip = false) (cause type inst : Nat) :
    Restarting r s (regionRestart r cause type inst s) := by
  have heq : regionRestart r cause type inst s =
      rgnBegin 7 r (onChip (fun e c => rgnMark e r (c.fault e 2 (regionCode r) cause type inst 0xFFFF)) s) := if_neg (by simp [h])
  rw [heq]
  generalize hmark : onChip (fun e c => rgnMark e r (c.fault e 2 (regionCode r) cause type inst 0xFFFF)) s = s1
  have hchip : s1.chip = rgnMark s.env r (s.chip.fault s.env 2 (regionCode r) cause type inst 0xFFFF) := by rw [← hmark, onChip_chip]
  have hdown := rgnBegin_wentDown 7 r s1
  have hbeyond : (rgnBegin 7 r s1).beyond = s.beyond := by rw [rgnBegin_beyond, ← hmark, onChip_beyond]
  simp only [State.beyond, Prod.mk.injEq] at hbeyond
  obtain ⟨hpend, henv, -, -⟩ := hbeyond
  refine ⟨hdown.rgn (by decide), (hdown.b_esc _).trans (hchip ▸ rgnMark_flag _ _ _), ?held, henv, hpend⟩
  case held =>
    have hmarked : s1.chip.flt.held = s.chip.flt.held := by rw [hchip, rgnMark_held, Chip.fault_flt]
    exact hmarked ▸ hdown.held

/-- The third within 60 s is a chip fault (R107). -/
theorem regionRestart_third {r : Region} {s : State} (h : rgnThird s.env r s.chip = true) (cause type inst : Nat) :
    ChipFaulted s (regionRestart r cause type inst s) := by
  rw [regionRestart, if_pos h]
  exact chipFault_faulted _ _ _ _ s

/-! ### A fault of any region -/

/-- The core of Metrology down: of the chip it changes CHIP.SEAL_STAT alone. -/
theorem metCoreDown_rd_ne (s : State) {a : Nat} (h : a ≠ Reg.CHIP_SEAL_STAT) : (metCoreDown s).chip.rd a = s.chip.rd a := by
  unfold metCoreDown
  dsimp only
  split
  · rw [onChip_chip, Chip.rd_setF_ne _ h, Chip.rd_setB_ne _ h]
  · rfl

theorem metCoreDown_still (s : State) : (metCoreDown s).still = s.still := by
  unfold metCoreDown
  dsimp only
  split <;> rfl

/-- Heath down shows in its own region's state and in CHIP.SCC_STAT alone (R532). -/
theorem heathDown_wentDown (st : Nat) (s : State) : s.chip.WentDown .heath st (heathDown st s).chip := by
  have hrd {a : Nat} (h : a ≠ Reg.CHIP_SCC_STAT) : (heathDown st s).chip.rd a = (s.chip.setRgn .heath st).rd a :=
    (Chip.rd_setB_ne _ h).trans (Chip.rd_setB_ne _ h)
  refine ⟨?stat, ?esc, List.Subset.refl _⟩
  case stat => rw [hrd (by decide), Chip.setRgn, Chip.rd_setF, if_pos rfl]
  case esc => rw [hrd (by decide), Chip.setRgn, Chip.rd_setF_ne _ (by decide)]

/-- A Heath fault is a restart of the region, with the stop of Heath itself (R509). -/
theorem hthFatal_eq (cause : Nat) (s : State) : ∃ h, hthFatal cause s = heathDown 1 { regionRestart .heath cause 0x40 0 s with heath := h } :=
  ⟨_, rfl⟩

/-- A fault of a region that is not its third restart within 60 s restarts it (R104). -/
theorem regionFault_restarting {r : Region} {s : State} (h : rgnThird s.env r s.chip = false) (cause type inst : Nat) :
    Restarting r s (regionFault r cause type inst s) := by
  cases r with
  | control => exact regionRestart_restarting h cause type inst
  | service => exact regionRestart_restarting h cause type inst
  | metrology =>
    have hr := regionRestart_restarting h cause type inst
    change Restarting .metrology s (metCoreDown (regionRestart .metrology cause type inst s))
    generalize regionRestart .metrology cause type inst s = t at hr
    have hstill := metCoreDown_still t
    simp only [State.still, Prod.mk.injEq] at hstill
    obtain ⟨hpend, -, henv, hflt⟩ := hstill
    refine ⟨?rgn, ?flagged, hflt ▸ hr.held, henv.trans hr.env, hpend.trans hr.pending⟩
    case rgn => exact (congrArg (fget · 6 2) (metCoreDown_rd_ne t (by decide))).trans hr.rgn
    case flagged => exact (congrArg (fbit · 2) (metCoreDown_rd_ne t (by decide))).trans hr.flagged
  | heath =>
    have hr := regionRestart_restarting h cause 0x40 0
    obtain ⟨x, hx⟩ := hthFatal_eq cause s
    change Restarting .heath s (hthFatal cause s)
    have hdown := heathDown_wentDown 1 { regionRestart .heath cause 0x40 0 s with heath := x }
    rw [hx]
    exact ⟨hdown.rgn (by decide), (hdown.b_esc _).trans hr.flagged, List.Subset.trans hdown.held hr.held, hr.env, hr.pending⟩

/-- A fault of a region that is its third restart within 60 s is a chip fault (R107). -/
theorem regionFault_third {r : Region} {s : State} (h : rgnThird s.env r s.chip = true) (cause type inst : Nat) :
    ChipFaulted s (regionFault r cause type inst s) := by
  cases r with
  | control => exact regionRestart_third h cause type inst
  | service => exact regionRestart_third h cause type inst
  | metrology =>
    have hf := regionRestart_third h cause type inst
    change ChipFaulted s (metCoreDown (regionRestart .metrology cause type inst s))
    generalize regionRestart .metrology cause type inst s = t at hf
    have hstill := metCoreDown_still t
    simp only [State.still, Prod.mk.injEq] at hstill
    obtain ⟨hpend, -, henv, hflt⟩ := hstill
    have hrgn : (metCoreDown t).chip.rd Reg.CHIP_RGN_STAT = t.chip.rd Reg.CHIP_RGN_STAT := metCoreDown_rd_ne t (by decide)
    refine ⟨?ctl, ?svc, ?flagged, hflt ▸ hf.held, henv.trans hf.env, hpend.trans hf.pending⟩
    case ctl => exact (congrArg (fget · 0 2) hrgn).trans hf.control
    case svc => exact (congrArg (fget · 2 2) hrgn).trans hf.service
    case flagged => exact (congrArg (fbit · 4) (metCoreDown_rd_ne t (by decide))).trans hf.flagged
  | heath =>
    have hf := regionRestart_third h cause 0x40 0
    obtain ⟨x, hx⟩ := hthFatal_eq cause s
    change ChipFaulted s (hthFatal cause s)
    have hdown := heathDown_wentDown 1 { regionRestart .heath cause 0x40 0 s with heath := x }
    rw [hx]
    exact ⟨(hdown.rgn_ne (by decide)).trans hf.control, (hdown.rgn_ne (by decide)).trans hf.service, (hdown.b_esc _).trans hf.flagged,
      List.Subset.trans hdown.held hf.held, hf.env, hf.pending⟩

/-- A fault of the Control region takes it down, whether it restarts or the chip is held. -/
theorem controlFault_down (cause type inst : Nat) (s : State) : ∃ t, regionFault .control cause type inst s = t ∧ t.chip.ctl = false ∧
    t.chip.flt.held ⊆ s.chip.flt.held ∧ t.env = s.env ∧ t.pending = s.pending := by
  refine ⟨_, rfl, ?_⟩
  cases hthird : rgnThird s.env .control s.chip with
  | false =>
    have h := regionFault_restarting hthird cause type inst
    exact ⟨by simp [Chip.ctl, h.rgn], h.held, h.env, h.pending⟩
  | true =>
    have h := regionFault_third hthird cause type inst
    exact ⟨h.ctl, h.held, h.env, h.pending⟩

end Sys2Proof.Machine
end

section
/-! PROOF. REGION_WATCHDOG_EXPIRE, DOMAIN_SUPPLY_FAULT, REGION_RESTART_TIMEOUT and CHIP_FAULT_RESTART (ch. 3, R104 to R110). -/
open Sys2Proof Sys2Proof.Machine
namespace Sys2Proof.Machine

/-! ### The chip's return -/

/-- What the chip's return after a chip fault does where it is due (R109). -/
def chipReturn (e : Env) (c : Chip) : Chip :=
  (rgnMark e .service (rgnMark e .control (rgnDown e .service 1 (rgnDown e .control 1 c)))).onPwr (fun p => { p with causes := 8 :: p.causes })

theorem rgnDown_chip_wentDown (e : Env) (r : Region) (st : Nat) (c : Chip) : c.WentDown r st (rgnDown e r st c) :=
  rgnDown_wentDown e r st (f := c.flt) rfl (List.Subset.refl _)

/-- Both regions restart, and CHIP.ESC shows it. -/
theorem chipReturn_restarts (e : Env) (c : Chip) :
    (chipReturn e c).rgn .control = 1 ∧ (chipReturn e c).rgn .service = 1 ∧ (chipReturn e c).b Reg.CHIP_ESC 0 = true ∧
      (chipReturn e c).b Reg.CHIP_ESC 1 = true := by
  have hc := rgnDown_chip_wentDown e .control 1 c
  have hs := rgnDown_chip_wentDown e .service 1 (rgnDown e .control 1 c)
  have hrgn (d : Chip) (f : PowerSt → PowerSt) (r : Region) : (d.onPwr f).rgn r = d.rgn r := rfl
  have hesc (d : Chip) (f : PowerSt → PowerSt) (i : Nat) : (d.onPwr f).b Reg.CHIP_ESC i = d.b Reg.CHIP_ESC i := rfl
  refine ⟨?ctl, ?svc, ?flagC, ?flagS⟩
  case ctl => rw [chipReturn, hrgn, rgnMark_rgn, rgnMark_rgn, hs.rgn_ne (by decide), hc.rgn (by decide)]
  case svc => rw [chipReturn, hrgn, rgnMark_rgn, rgnMark_rgn, hs.rgn (by decide)]
  case flagC =>
    rw [chipReturn, hesc]
    exact (rgnMark_flag_ne e (r' := .control) _ (by decide)).trans (rgnMark_flag e .control _)
  case flagS =>
    rw [chipReturn, hesc]
    exact rgnMark_flag e .service _

/-- The return changes no other word. -/
theorem chipReturn_sameRegs (e : Env) (c : Chip) : sameRegs [Reg.CHIP_RGN_STAT, Reg.CHIP_ESC] c (chipReturn e c) := by
  intro a ha
  simp only [List.mem_cons, List.not_mem_nil, or_false, not_or] at ha
  obtain ⟨hstat, hesc⟩ := ha
  rw [chipReturn, Chip.onPwr_rd, rgnMark_rd_ne _ _ _ hstat hesc, rgnMark_rd_ne _ _ _ hstat hesc, rgnDown_rd, Chip.setRgn,
    Chip.rd_setF_ne _ hstat, rgnDown_rd, Chip.setRgn, Chip.rd_setF_ne _ hstat]

/-! ### The commands -/

theorem exec_regionWatchdogExpire {r : Region} {s : State} (h : s.chip.rgn r = 0) :
    exec (.regionWatchdogExpire r) s = .next (regionFault r 4 1 0 s) := congrArg Host.Outcome.next (if_pos h)

theorem exec_domainSupplyFault {r : Region} {s : State} (h : s.chip.rgn r = 0) :
    exec (.domainSupplyFault r) s = .next (regionFault r 7 1 0 s) := congrArg Host.Outcome.next (if_pos h)

/-- A restart that is past its time is forgotten as its chip fault begins (R106). -/
theorem exec_regionRestartTimeout {r : Region} {s : State} (h : timeoutDue s r = true) :
    ∃ f, exec (.regionRestartTimeout r) s = .next (chipFault (regionCode r) 2 1 0 (onChip f s)) :=
  ⟨_, congrArg Host.Outcome.next (if_pos h)⟩

theorem exec_chipFaultRestart {s : State} (h : chipRestartDue s = true) :
    exec .chipFaultRestart s = .next (onChip chipReturn s) := by
  change Host.Outcome.next (onChip (fun e c => if chipRestartDue s then chipReturn e c else c) s) = _
  simp only [h, if_true]

end Sys2Proof.Machine

/-- Settles O23: a region's fault restarts it, the third within 60 s and a restart past its time are chip faults, and the chip's return starts
Control and Service again. -/
theorem regionRestarts : Obligations.RegionRestarts := by
  refine ⟨fun s r hrun hfew => ?watchdog, fun s r hrun hthird => ?third, fun s r hrun hfew => ?supply, fun s r hdue => ?timeout,
    fun s hdue => ?again⟩
  case watchdog =>
    obtain ⟨hrgn, hflag, -, henv, hpend⟩ := regionFault_restarting hfew 4 1 0
    exact ⟨_, exec_regionWatchdogExpire hrun, hrgn, hflag, henv, hpend⟩
  case third =>
    obtain ⟨hctl, hsvc, hflag, -, henv, hpend⟩ := regionFault_third hthird 4 1 0
    exact ⟨_, exec_regionWatchdogExpire hrun, hctl, hsvc, hflag, henv, hpend⟩
  case supply =>
    obtain ⟨hrgn, hflag, -, henv, hpend⟩ := regionFault_restarting hfew 7 1 0
    exact ⟨_, exec_domainSupplyFault hrun, hrgn, hflag, henv, hpend⟩
  case timeout =>
    obtain ⟨f, hexec⟩ := exec_regionRestartTimeout hdue
    obtain ⟨hctl, hsvc, hflag, -, henv, hpend⟩ := chipFault_faulted (regionCode r) 2 1 0 (onChip f s)
    have hbeyond := chipFault_beyond (regionCode r) 2 1 0 (onChip f s)
    simp only [State.beyond, Prod.mk.injEq] at hbeyond
    obtain ⟨-, -, -, hmet⟩ := hbeyond
    exact ⟨_, hexec, hctl, hsvc, hflag, henv, hmet, hpend⟩
  case again =>
    obtain ⟨hctl, hsvc, hflagC, hflagS⟩ := chipReturn_restarts s.env s.chip
    exact ⟨_, exec_chipFaultRestart hdue, hctl, hsvc, hflagC, hflagS, rfl, rfl, rfl, rfl, rfl, chipReturn_sameRegs s.env s.chip⟩
end

section
/-! PROOF. PARITY_ERROR, PARITY_REPLAY, SCRUB_COMPLETE and FABRIC_WRITE_REPLAY (ch. 3, R89 to R93, R108). -/
open Sys2Proof Sys2Proof.Machine
namespace Sys2Proof.Machine

/-! ### What is kept of a word in replay -/

theorem replayOf_of_still {s t : State} (h : t.still = s.still) (w : ParWord) : replayOf t w = replayOf s w := by
  simp only [State.still, Prod.mk.injEq] at h
  obtain ⟨-, -, -, hflt⟩ := h
  rw [replayOf, replayOf, hflt]

theorem replayOf_setReplay (w : ParWord) (r : Option Replay) (s : State) : replayOf (setReplay w r s) w = r := by
  have hnone : (s.chip.flt.replays.filter (fun x => x.1 != parKey w)).find? (fun x => x.1 == parKey w) = none := by
    rw [List.find?_eq_none]
    intro x hx
    simpa using (List.mem_filter.mp hx).2
  cases r with
  | none => simp only [replayOf, setReplay, onChip_chip, hnone, Option.map_none]
  | some x => simp [replayOf, setReplay, onChip_chip, List.find?_append, hnone]

theorem setReplay_chip_rd (w : ParWord) (r : Option Replay) (s : State) (a : Nat) : (setReplay w r s).chip.rd a = s.chip.rd a := rfl

theorem setReplay_onlyChip (w : ParWord) (r : Option Replay) (s : State) : onlyChip s (setReplay w r s) := onChip_onlyChip _ s

/-! ### The commands -/

theorem exec_parityError {w : ParWord} {s : State} (hrun : pageRuns' s (parPage w) = true) (h : replayOf s w = none) :
    exec (.parityError w) s = .next (setReplay w (some {}) s) := congrArg Host.Outcome.next (if_pos ⟨hrun, h⟩)

/-- A clean repeat ends the replay as a transient (R89). -/
theorem exec_parityReplay_clean {w : ParWord} {s : State} {r : Replay} (h : replayOf s w = some r) (hr : r.scrub = false) :
    exec (.parityReplay w true) s = .next (pageCount (parPage w) 10 16 16 (setReplay w none s)) := by
  change execParityReplay w true s = _
  simp only [execParityReplay, h, hr, Bool.false_eq_true, if_false, if_true]

/-- The first repeat that is not clean leaves the word waiting for the second (R89). -/
theorem exec_parityReplay_first {w : ParWord} {s : State} {r : Replay} (h : replayOf s w = some r) (hr : r.scrub = false) (ht : r.tries = 0) :
    exec (.parityReplay w false) s = .next (setReplay w (some { r with tries := 1 }) s) := by
  change execParityReplay w false s = _
  have hfew : ¬ 1 ≤ r.tries := by omega
  simp only [execParityReplay, h, hr, hfew, Bool.false_eq_true, if_false]

/-- The second is a persistent error (R90). -/
theorem exec_parityReplay_persistent {w : ParWord} {s : State} {r : Replay} (h : replayOf s w = some r) (hr : r.scrub = false) (ht : 1 ≤ r.tries) :
    exec (.parityReplay w false) s = .next (persistent w s) := by
  change execParityReplay w false s = _
  simp only [execParityReplay, h, hr, ht, Bool.false_eq_true, if_false, if_true]

/-- A scrub that reads clean writes its source's value back (R91). -/
theorem exec_scrubComplete {w : ParWord} {s : State} {r : Replay} {v : Word} (h : replayOf s w = some r) (hr : r.scrub = true)
    (hv : scrubValue w r s = some v) :
    exec (.scrubComplete w true) s = .next (pageCount (parPage w) 11 8 8 (scrubWrite w v (setReplay w none s))) := by
  change execScrubComplete w true s = _
  simp only [execScrubComplete, h, hr, hv, Bool.not_true, Bool.false_eq_true, if_false, if_true]

/-- How often a fabric write has been replayed (R93). -/
def setWreplay (a n : Nat) (s : State) : State :=
  onChip (fun _ c => { c with flt := { c.flt with wreplays := tset (fun _ => 0) c.flt.wreplays a n } }) s

theorem setWreplay_tget (a n : Nat) (s : State) : tget (fun _ => 0) (setWreplay a n s).chip.flt.wreplays a = n := tget_tset_same _ _ _ _

theorem exec_fabricWriteReplay_ok (a writer : Nat) (s : State) : exec (.fabricWriteReplay a writer true) s = .next (setWreplay a 0 s) := rfl

theorem exec_fabricWriteReplay_lost {a : Nat} (writer : Nat) {s : State} (h : tget (fun _ => 0) s.chip.flt.wreplays a ≠ 0) :
    exec (.fabricWriteReplay a writer false) s =
      .next (((setWreplay a 0 s).perr ((homePage a).getD 0x40000000) 9).perr ((homePage writer).getD 0x40000000) 9) := by
  change execFabricWriteReplay a writer false s = _
  simp only [execFabricWriteReplay, h, Bool.false_eq_true, if_false]
  rfl

/-! ### A clean repeat -/

/-- A clean repeat ends the replay; it is flagged as a transient and counted (R89). -/
theorem cleanRepeat_spec (w : ParWord) (s : State) {t : State} (ht : t = pageCount (parPage w) 10 16 16 (setReplay w none s)) :
    replayOf t w = none ∧ fbit (t.rd (Reg.PG_ERR (parPage w))) 10 = true ∧ t.mem = s.mem ∧ t.env = s.env ∧ t.pending = s.pending ∧
      fget (t.rd (Reg.PG_ERRCNT (parPage w))) 16 16 = min (fget (s.rd (Reg.PG_ERRCNT (parPage w))) 16 16 + 1) 65535 ∧
      sameRegs (countRegs (parPage w)) s.chip t.chip := by
  subst ht
  have hp := parPage_aligned w
  have hstill := pageCount_still (parPage w) 10 16 16 (setReplay w none s)
  have hreplay := (replayOf_of_still hstill w).trans (replayOf_setReplay w none s)
  simp only [State.still, Prod.mk.injEq] at hstill
  obtain ⟨hpend, hmem, henv, -⟩ := hstill
  refine ⟨hreplay, pageCount_flag _ _ _ hp (by decide), hmem, henv, hpend, pageCount_count 10 _ hp (by decide), fun a ha => ?_⟩
  rw [pageCount_chip_rd_ne _ _ _ _ _ ha, setReplay_chip_rd]

/-! ### Persistent errors -/

theorem persistent_config {w : ParWord} (h : classOf w = .config) (s : State) :
    persistent w s = setReplay w (some { tries := 2, scrub := true, supplied := none }) s := by
  simp only [persistent, h]

theorem persistent_arbiter (s : State) : persistent (.hid .arbiter) s = chipFault 0 6 1 0 (setReplay (.hid .arbiter) none s) := rfl

/-- A bundle that was accepted is dropped: MISS_RUN is that of the last boundary (R92). -/
def bundleDropped (n : Nat) (c : Chip) : Chip :=
  (bundleBack n (c.setTp n { c.tpOf n with done := false, crc := none })).setF (Reg.PRT_TP_STAT n) 8 8
    (fget (rget c.bnd.regs (Reg.PRT_TP_STAT n)) 8 8)

/-- Before the cut-off nothing else is done about a bundle in error. -/
theorem persistent_bundle {n : Fin 32} {s : State} (hdone : (s.chip.tpOf n).done = true) (hphase : s.chip.frm.phase = 0) :
    persistent (.bundle n) s = onChip (fun _ c => bundleDropped n c) (setReplay (.bundle n) none s) := by
  have hdone' : ((setReplay (.bundle n) none s).chip.tpOf n).done = true := hdone
  have hphase' : (setReplay (.bundle n) none s).chip.frm.phase = 0 := hphase
  change inputHeld (.bundle n) (setReplay (.bundle n) none s) = _
  generalize setReplay (.bundle n) none s = t at hdone' hphase'
  simp only [inputHeld, onChip, hdone', hphase', if_true]
  rfl

theorem bundleDropped_spec (n : Nat) (c : Chip) :
    ((bundleDropped n c).tpOf n).done = false ∧ ((bundleDropped n c).tpOf n).crc = none ∧
      (bundleDropped n c).f (Reg.PRT_TP_STAT n) 8 8 = fget (rget c.bnd.regs (Reg.PRT_TP_STAT n)) 8 8 ∧ (bundleDropped n c).flt = c.flt ∧
      sameRegs [Reg.PRT_TP_STAT n] c (bundleDropped n c) := by
  have htp : (bundleDropped n c).tpOf n = { c.tpOf n with done := false, crc := none } :=
    c.tpOf_setTp n { c.tpOf n with done := false, crc := none }
  refine ⟨by rw [htp], by rw [htp], ?_, rfl, fun a ha => ?_⟩
  · rw [bundleDropped, Chip.f_setF_same _ _ _ _ _ (by decide)]
    exact Nat.mod_eq_of_lt (fget_lt _ _ _)
  · rw [bundleDropped, Chip.rd_setF_ne _ (by simpa using ha)]
    rfl

/-! ### Scrubs -/

theorem scrubWrite_word (a : Nat) (v : Word) (s : State) : scrubWrite (.word a) v s = s.wr a v := rfl

/-- A scrub's write to a word with an address (R91). -/
theorem scrubbed_word {a : Nat} (v : Word) (s : State) (ha : a ∉ countRegs (parPage (.word a))) {t : State}
    (ht : t = pageCount (parPage (.word a)) 11 8 8 (scrubWrite (.word a) v (setReplay (.word a) none s))) :
    t.rd a = v ∧ replayOf t (.word a) = none ∧ fbit (t.rd (Reg.PG_ERR (parPage (.word a)))) 11 = true ∧ t.mem = s.mem ∧ t.env = s.env ∧
      t.pending = s.pending ∧ sameRegs (a :: countRegs (parPage (.word a))) s.chip t.chip := by
  rw [scrubWrite_word] at ht
  subst ht
  have hp := parPage_aligned (.word a)
  have hstill := (pageCount_still (parPage (.word a)) 11 8 8 _).trans ((setReplay (.word a) none s).wr_still a v)
  have hreplay := (replayOf_of_still hstill (.word a)).trans (replayOf_setReplay (.word a) none s)
  simp only [State.still, Prod.mk.injEq] at hstill
  obtain ⟨hpend, hmem, henv, -⟩ := hstill
  refine ⟨?_, hreplay, pageCount_flag _ _ _ hp (by decide), hmem, henv, hpend, fun b hb => ?_⟩
  · rw [pageCount_rd_ne _ _ _ _ _ ha, State.rd_wr, if_pos rfl]
  · obtain ⟨hba, hb⟩ := not_or.mp (List.mem_cons.not.mp hb)
    rw [pageCount_chip_rd_ne _ _ _ _ _ hb, State.wr_chip_rd_ne _ _ hba, setReplay_chip_rd]

theorem regionOf_parPage_loop (n : Fin 1024) (i : Fin 8) : regionOf (parPage (.hid (.loop n i))) = .control := by
  have hn := n.isLt
  have hpage : parPage (.hid (.loop n i)) / 0x10000000 = 4 := by
    change (0x4001F000 + 0x1000 * (n.val / 64)) / 0x10000000 = 4
    omega
  rw [regionOf, hpage]
  decide

theorem Chip.cenSlot_setCenSlot (c : Chip) (k : Nat) (x : CenSlot) : (c.setCenSlot k x).cenSlot k = x := tget_tset_same _ _ _ _

/-- A state word of a loop slot written. -/
def loopWordSet (n : Nat) (i : Fin 8) (v : Word) (c : Chip) : Chip :=
  c.setCenSlot n { c.cenSlot n with st := (List.range 8).map (fun k => if k = i.val then v else (c.cenSlot n).st.getD k 0) }

theorem scrubWrite_loop (n : Fin 1024) (i : Fin 8) (v : Word) (s : State) :
    scrubWrite (.hid (.loop n i)) v s = onChip (fun _ c => loopWordSet n i v c) s := rfl

theorem loopWordSet_get (n : Nat) (i : Fin 8) (v : Word) (c : Chip) : ((loopWordSet n i v c).cenSlot n).st.getD i 0 = v := by
  rw [loopWordSet, Chip.cenSlot_setCenSlot]
  simp

/-- A scrub's write to a state word of a loop slot (R90). -/
theorem scrubbed_loop (n : Fin 1024) (i : Fin 8) (v : Word) (s : State) {t : State}
    (ht : t = pageCount (parPage (.hid (.loop n i))) 11 8 8 (scrubWrite (.hid (.loop n i)) v (setReplay (.hid (.loop n i)) none s))) :
    (t.chip.cenSlot n).st.getD i 0 = v ∧ replayOf t (.hid (.loop n i)) = none ∧ onlyChip s t ∧
      sameRegs (countRegs (parPage (.hid (.loop n i)))) s.chip t.chip := by
  have hp := parPage_aligned (.hid (.loop n i))
  have hreg := regionOf_parPage_loop n i
  rw [scrubWrite_loop] at ht
  have hstill : t.still = (setReplay (.hid (.loop n i)) none s).still := ht ▸ pageCount_still _ _ _ _ _
  have hreplay := (replayOf_of_still hstill _).trans (replayOf_setReplay (.hid (.loop n i)) none s)
  generalize parPage (.hid (.loop n i)) = page at ht hp hreg ⊢
  have hregs : sameRegs (countRegs page) s.chip t.chip := fun a ha => by
    rw [ht, pageCount_chip_rd_ne _ _ _ _ _ ha]
    rfl
  rw [pageCount_control hp hreg] at ht
  refine ⟨?_, hreplay, ht ▸ ⟨rfl, rfl, rfl, rfl, rfl, rfl⟩, hregs⟩
  rw [ht, Chip.cenSlot, onChip_chip, Chip.sat_cen, Chip.perr_cen]
  exact loopWordSet_get n i v s.chip

/-! ### A lost write -/

/-- Both pages show a fabric write that is lost (R93). -/
theorem writeLost_spec (a writer : Nat) (s : State) {t : State}
    (ht : t = ((setWreplay a 0 s).perr ((homePage a).getD 0x40000000) 9).perr ((homePage writer).getD 0x40000000) 9) :
    fbit (t.rd (Reg.PG_ERR ((homePage a).getD 0x40000000))) 9 = true ∧
      fbit (t.rd (Reg.PG_ERR ((homePage writer).getD 0x40000000))) 9 = true ∧ tget (fun _ => 0) t.chip.flt.wreplays a = 0 ∧
      t.mem = s.mem ∧ t.env = s.env ∧ t.pending = s.pending := by
  have hstill : t.still = (setWreplay a 0 s).still := by rw [ht, State.perr_still, State.perr_still]
  simp only [State.still, Prod.mk.injEq] at hstill
  obtain ⟨hpend, hmem, henv, hflt⟩ := hstill
  have hpa := homePage_getD_aligned a
  have hpw := homePage_getD_aligned writer
  have hwr : fbit (t.rd (Reg.PG_ERR ((homePage writer).getD 0x40000000))) 9 = true := by
    rw [ht]
    exact State.perr_set _ hpw (by decide)
  refine ⟨?_, hwr, hflt ▸ setWreplay_tget a 0 s, hmem, henv, hpend⟩
  by_cases hsame : Reg.PG_ERR ((homePage a).getD 0x40000000) = Reg.PG_ERR ((homePage writer).getD 0x40000000)
  · rw [hsame]
    exact hwr
  · rw [ht, State.perr_rd_ne _ _ hsame (PG_ERR_off_log hpa)]
    exact State.perr_set _ hpa (by decide)

end Sys2Proof.Machine

/-- Settles O21: each outcome of a repeat, a scrub or a replayed write is a change of what is kept in replay, then of the one word or page that it
concerns. -/
theorem parityHandling : Obligations.ParityHandling := by
  refine ⟨fun s w hrun h => ?found, fun s w r h hr => ?clean, fun s w r h hr ht => ?first, fun s n r h hr ht hdone hphase => ?bundle,
    fun s a r h hr ht hclass => ?config, fun s a v r h hr hv herr hcnt hwr hlost => ?word, fun s a writer => ?replayed,
    fun s a writer h => ?lost, fun s n i v r h hr hv => ?loop, fun s r h hr ht => ?arbiter⟩
  case found => exact ⟨_, exec_parityError hrun h, replayOf_setReplay w _ s, setReplay_onlyChip w _ s, fun _ _ => rfl⟩
  case clean => exact ⟨_, exec_parityReplay_clean h hr, cleanRepeat_spec w s rfl⟩
  case first => exact ⟨_, exec_parityReplay_first h hr ht, replayOf_setReplay w _ s, setReplay_onlyChip w _ s, fun _ _ => rfl⟩
  case bundle =>
    have hexec := exec_parityReplay_persistent h hr ht
    rw [persistent_bundle hdone hphase] at hexec
    obtain ⟨hdone', hcrc, hmiss, hflt, hregs⟩ := bundleDropped_spec n (setReplay (.bundle n) none s).chip
    refine ⟨_, hexec, ?_, hdone', hcrc, hmiss, ⟨rfl, rfl, rfl, rfl, rfl, rfl⟩, hregs⟩
    exact (replayOf_of_still rfl _).trans (replayOf_setReplay (.bundle n) none s)
  case config =>
    have hexec := exec_parityReplay_persistent h hr ht
    rw [persistent_config hclass] at hexec
    exact ⟨_, hexec, replayOf_setReplay _ _ s, setReplay_onlyChip _ _ s, fun _ _ => rfl⟩
  case word => exact ⟨_, exec_scrubComplete h hr hv, scrubbed_word v s (by simp [herr, hcnt, hwr, hlost]) rfl⟩
  case replayed => exact ⟨_, exec_fabricWriteReplay_ok a writer s, setWreplay_tget a 0 s, onChip_onlyChip _ s, fun _ _ => rfl⟩
  case lost => exact ⟨_, exec_fabricWriteReplay_lost writer h, writeLost_spec a writer s rfl⟩
  case loop => exact ⟨_, exec_scrubComplete h hr hv, scrubbed_loop n i v s rfl⟩
  case arbiter =>
    have hexec := exec_parityReplay_persistent h hr ht
    rw [persistent_arbiter] at hexec
    have hfault := chipFault_faulted 0 6 1 0 (setReplay (.hid .arbiter) none s)
    exact ⟨_, hexec, hfault.flagged, hfault.ctl, hfault.svc, hfault.env, hfault.pending⟩
end

section
/-! PROOF. What the Galley's own operations leave (ch. 5, R139, R144, R156): a list that is dropped, a transaction that fails, and a restart of
the block. -/
open Sys2Proof Sys2Proof.Machine
namespace Sys2Proof.Machine

/-- The address is that of no PG_GALLEY, of no word of the Galley's cells, and of none of the event log. -/
abbrev offGal (a : Nat) : Prop := a % 0x1000 ≠ 0x24 ∧ a < 0x40002400 ∧ a ∉ logRegs

/-! ### PG_GALLEY -/

@[simp] theorem Chip.refreshGalley_gal (c : Chip) (page : Nat) : (c.refreshGalley page).gal = c.gal := Chip.wr_gal _ _ _
@[simp] theorem Chip.refreshGalley_flt (c : Chip) (page : Nat) : (c.refreshGalley page).flt = c.flt := Chip.wr_flt _ _ _

theorem Chip.refreshGalley_rd_ne (c : Chip) {page a : Nat} (hp : page % 0x1000 = 0) (ha : a % 0x1000 ≠ 0x24) :
    (c.refreshGalley page).rd a = c.rd a := by
  refine Chip.rd_wr_ne _ _ ?_
  unfold Reg.PG_GALLEY
  omega

@[simp] theorem Chip.refreshGalleys_gal (c : Chip) (l : List (Nat × Word)) : (c.refreshGalleys l).gal = c.gal :=
  eachOf_kept (g := Chip.gal) (f := fun p c => c.refreshGalley p) (fun p _ c => c.refreshGalley_gal p) c
@[simp] theorem Chip.refreshGalleys_flt (c : Chip) (l : List (Nat × Word)) : (c.refreshGalleys l).flt = c.flt :=
  eachOf_kept (g := Chip.flt) (f := fun p c => c.refreshGalley p) (fun p _ c => c.refreshGalley_flt p) c

/-- The pages that a list touches show their counts in PG_GALLEY alone (R139). -/
theorem Chip.refreshGalleys_rd (c : Chip) (l : List (Nat × Word)) {a : Nat} (ha : a % 0x1000 ≠ 0x24) : (c.refreshGalleys l).rd a = c.rd a := by
  refine eachOf_kept (g := fun c : Chip => c.rd a) (f := fun p c => c.refreshGalley p) (fun p hp c => ?_) c
  obtain ⟨x, -, hx⟩ := List.mem_filterMap.mp (List.mem_eraseDups.mp hp)
  exact c.refreshGalley_rd_ne (homePage_aligned hx) ha

/-! ### Items for the partner -/

theorem Chip.lead_cases (k : Nat) (g : MirGal) (c : Chip) : c.lead k g = c ∨ c.lead k g = { c with sent := c.sent ++ [g] } := by
  unfold Chip.lead Chip.forward
  split
  · split
    · exact .inr rfl
    · exact .inl rfl
  · exact .inl rfl

@[simp] theorem Chip.lead_rd (k : Nat) (g : MirGal) (c : Chip) (a : Nat) : (c.lead k g).rd a = c.rd a := by
  rcases c.lead_cases k g with h | h
  · rw [h]
  · rw [h]; rfl
@[simp] theorem Chip.lead_gal (k : Nat) (g : MirGal) (c : Chip) : (c.lead k g).gal = c.gal := by
  rcases c.lead_cases k g with h | h <;> rw [h]
@[simp] theorem Chip.lead_flt (k : Nat) (g : MirGal) (c : Chip) : (c.lead k g).flt = c.flt := by
  rcases c.lead_cases k g with h | h <;> rw [h]

/-! ### A list that is dropped -/

@[simp] theorem galDrop_flt (k : Nat) (c : Chip) : (galDrop k c).flt = c.flt := by
  simp only [galDrop, Chip.refreshGalleys_flt]
  rfl

/-- The slot is empty (R144). -/
theorem galDrop_slot (k : Nat) (c : Chip) : (galDrop k c).slot k = {} := by
  have hslots : (galDrop k c).gal.slots = tset (fun _ => ({} : GalSlot)) c.gal.slots k {} := by
    rw [galDrop, Chip.refreshGalleys_gal]
    rfl
  rw [Chip.slot, hslots, tget_tset_same]

theorem galDrop_rd (c : Chip) {k a : Nat} (hg : a % 0x1000 ≠ 0x24) (hl : a ≠ Reg.GAL_LIST k) : (galDrop k c).rd a = c.rd a := by
  rw [galDrop, Chip.refreshGalleys_rd _ _ hg, Chip.rd_wr_ne _ _ hl]
  rfl

/-! ### A transaction that fails, and a restart -/

@[simp] theorem galFail_flt (e : Env) (k code addr entry : Nat) (c : Chip) : (galFail e k code addr entry c).flt = c.flt := by
  simp only [galFail, Chip.log1_flt, apply_ite Chip.flt, Chip.lead_flt, Chip.setF_flt, Chip.wr_flt, galDrop_flt, ite_self]

theorem galFail_rd (e : Env) (k code addr entry : Nat) (c : Chip) {a : Nat} (h : offGal a) : (galFail e k code addr entry c).rd a = c.rd a := by
  obtain ⟨hg, hlow, hlog⟩ := h
  simp only [List.mem_cons, List.not_mem_nil, or_false, not_or] at hlog
  have hlist : a ≠ Reg.GAL_LIST k := by unfold Reg.GAL_LIST; omega
  have hstate : a ≠ Reg.GAL_STATE k := by unfold Reg.GAL_STATE; omega
  have haddr : a ≠ Reg.GAL_FAIL_ADDR k := by unfold Reg.GAL_FAIL_ADDR; omega
  have hinfo : a ≠ Reg.GAL_FAIL_INFO k := by unfold Reg.GAL_FAIL_INFO; omega
  have hkept (b : Bool) (x y : Chip) (hx : x.rd a = c.rd a) (hy : y.rd a = c.rd a) : (if b then x else y).rd a = c.rd a := by
    cases b
    · exact hy
    · exact hx
  rw [galFail, Chip.log1_rd_ne _ _ _ _ _ _ hlog.1 hlog.2]
  refine hkept _ _ _ ?_ ((Chip.lead_rd _ _ _ _).trans ?_) <;>
  rw [Chip.rd_setF_ne _ hinfo, Chip.rd_wr_ne _ _ haddr, Chip.rd_setF_ne _ hstate, Chip.rd_setF_ne _ hstate, galDrop_rd c hg hlist]

/-- A restart of the Galley leaves the fault hierarchy's state. -/
theorem galRestart_flt (e : Env) (c : Chip) : (galRestart e c).flt = c.flt :=
  eachOf_kept (g := Chip.flt) (fun k _ c => galFail_flt e k 0x21 0 0 c) c

theorem galRestart_rd (e : Env) (c : Chip) {a : Nat} (h : offGal a) : (galRestart e c).rd a = c.rd a :=
  eachOf_kept (g := fun c : Chip => c.rd a) (fun k _ c => galFail_rd e k 0x21 0 0 c h) c

end Sys2Proof.Machine
end

section
/-! PROOF. SELF_CHECKER_FAULT, PG_CTRL_RESTART, BLOCK_RESTART_COMPLETE and BLOCK_RESTART_FAILED (ch. 3, R100 to R104). -/
open Sys2Proof Sys2Proof.Machine
namespace Sys2Proof.Machine

/-! ### A block that restarts -/

/-- The record and the entry of a block's fault; a restart that software asks for leaves none (R100, R112). -/
def blockRecord (cause : Option Nat) (page : Nat) (g : Page) (s : State) : State :=
  match cause with
  | some k =>
    (onChip (fun e c => c.faultRec e 1 (regionCode (regionOf page)) k g.type g.inst 0xFFFF) s).logPage g.type g.inst 0xF0
      (faultDetail 1 (regionCode (regionOf page)) k 0xFFFF) page
  | none => s

/-- The block holds its requests, and its restart is remembered beside those of its recent frames (R101, R103). -/
def blockHold (page : Nat) (old : List (Nat × Nat)) (e : Env) (c : Chip) : Chip :=
  { c with flt := { c.flt with held := page :: c.flt.held,
                               blockLog := (page, e.time.frameNo.toNat) :: c.flt.blockLog.filter (fun x => x.1 != page || old.contains x) } }

/-- The Galley ends its open transactions at a restart of its block (R156). -/
def blockBegin (page : Nat) (g : Page) (old : List (Nat × Nat)) (e : Env) (c : Chip) : Chip :=
  if g.kind = .gal then galRestart e (blockHold page old e c) else blockHold page old e c

/-- The first two restarts of a block in 4,096 frames (R103). -/
theorem blockRestart_begin {page : Nat} {g : Page} {s : State} (hg : pageAt page = some g) (hfree : s.chip.flt.held.contains page = false)
    (hfew : (recentRestarts s page).length < 2) (cause : Option Nat) :
    blockRestart cause page s = onChip (blockBegin page g (recentRestarts s page)) (blockRecord cause page g s) := by
  have hfew' : ¬ 2 ≤ (recentRestarts s page).length := by omega
  simp only [blockRestart, hg, hfree, hfew', Bool.false_eq_true, if_false]
  cases cause <;> rfl

/-- The third is a fault of its region (R103). -/
theorem blockRestart_third {page : Nat} {g : Page} {s : State} (hg : pageAt page = some g) (hfree : s.chip.flt.held.contains page = false)
    (hmany : 2 ≤ (recentRestarts s page).length) (cause : Option Nat) :
    blockRestart cause page s = regionFault (regionOf page) 3 g.type g.inst s := by
  simp only [blockRestart, hg, hfree, hmany, Bool.false_eq_true, if_false, if_true]

/-- A self-checker's report starts a restart of its block (R100). -/
theorem exec_selfCheckerFault {page : Nat} {g : Page} {s : State} (hg : pageAt page = some g) (hrun : pageRuns' s page = true) :
    exec (.selfCheckerFault page) s = .next (blockRestart (some 0xA) page s) := congrArg Host.Outcome.next (if_pos (by simp [hg, hrun]))

theorem blockHold_rd (page : Nat) (old : List (Nat × Nat)) (e : Env) (c : Chip) (a : Nat) : (blockHold page old e c).rd a = c.rd a := rfl

theorem blockBegin_held (page : Nat) (g : Page) (old : List (Nat × Nat)) (e : Env) (c : Chip) :
    (blockBegin page g old e c).flt.held.contains page = true := by
  have hhold : (blockHold page old e c).flt.held.contains page = true := by simp [blockHold]
  rw [blockBegin]
  split
  · rw [galRestart_flt]
    exact hhold
  · exact hhold

/-- A block's restart writes no register but those of the Galley, where the block is the Galley. -/
theorem blockBegin_rd {page : Nat} {g : Page} (old : List (Nat × Nat)) (e : Env) (c : Chip) {a : Nat} (h : g.kind = .gal → offGal a) :
    (blockBegin page g old e c).rd a = c.rd a := by
  rw [blockBegin]
  split
  case isTrue hk => rw [galRestart_rd e _ (h hk), blockHold_rd]
  case isFalse => exact blockHold_rd _ _ _ _ _

/-! ### The record of a block's fault -/

theorem logPage_chip_rd_ne (type inst cls detail page : Nat) (s : State) {a : Nat} (h : a ∉ logRegs) :
    (s.logPage type inst cls detail page).chip.rd a = s.chip.rd a := by
  simp only [List.mem_cons, List.not_mem_nil, or_false, not_or] at h
  unfold State.logPage
  split
  · exact Chip.putOrKeep_rd_ne _ _ _ h.1 h.2
  · exact Chip.putOrKeep_rd_ne _ _ _ h.1 h.2
  · exact Chip.log1_rd_ne _ _ _ _ _ _ h.1 h.2

/-- An entry of a page's region changes no register of Heath or Metrology. -/
theorem logPage_kept (type inst cls detail page : Nat) (s : State) :
    (s.logPage type inst cls detail page).heath.regs = s.heath.regs ∧ (s.logPage type inst cls detail page).met.regs = s.met.regs ∧
      (s.logPage type inst cls detail page).mem = s.mem ∧ (s.logPage type inst cls detail page).env = s.env ∧
      (s.logPage type inst cls detail page).pending = s.pending := by
  unfold State.logPage
  split <;> exact ⟨rfl, rfl, rfl, rfl, rfl⟩

theorem Chip.faultRec_rd_A (e : Env) (level rgn cause type inst cell : Nat) (c : Chip) :
    (c.faultRec e level rgn cause type inst cell).rd Reg.CHIP_FAULT_A = word (level * 2 ^ 30 + rgn * 2 ^ 28 + cause * 2 ^ 24 + type) := by
  unfold Chip.faultRec
  dsimp only
  rw [Chip.rd_wr_ne _ _ (by decide), Chip.rd_wr_ne _ _ (by decide), Chip.rd_wr_ne _ _ (by decide), Chip.rd_wr_same]

theorem Chip.faultRec_rd_B (e : Env) (level rgn cause type inst cell : Nat) (c : Chip) :
    (c.faultRec e level rgn cause type inst cell).rd Reg.CHIP_FAULT_B = word (inst * 2 ^ 24 + cell) := by
  unfold Chip.faultRec
  dsimp only
  rw [Chip.rd_wr_ne _ _ (by decide), Chip.rd_wr_ne _ _ (by decide), Chip.rd_wr_same]

/-- A block that its self-checker stops is held, with a record of level 1 and cause 0xA that names it (R100, R112). -/
theorem selfCheckerHold_spec (page : Nat) (g : Page) (old : List (Nat × Nat)) (s : State) {t : State}
    (ht : t = onChip (blockBegin page g old) (blockRecord (some 0xA) page g s)) :
    t.chip.flt.held.contains page = true ∧
      t.chip.rd Reg.CHIP_FAULT_A = word (2 ^ 30 + regionCode (regionOf page) * 2 ^ 28 + 0xA * 2 ^ 24 + g.type) ∧
      t.chip.rd Reg.CHIP_FAULT_B = word (g.inst * 2 ^ 24 + 0xFFFF) ∧ t.mem = s.mem ∧ sameHeath [] s.heath t.heath ∧ sameMet [] s.met t.met ∧
      t.env = s.env ∧ t.pending = s.pending := by
  subst ht
  rw [blockRecord]
  generalize hrec : onChip (fun e c => c.faultRec e 1 (regionCode (regionOf page)) 0xA g.type g.inst 0xFFFF) s = u
  have hchip : u.chip = s.chip.faultRec s.env 1 (regionCode (regionOf page)) 0xA g.type g.inst 0xFFFF := by rw [← hrec, onChip_chip]
  have hbeside : u.heath = s.heath ∧ u.met = s.met ∧ u.mem = s.mem ∧ u.env = s.env ∧ u.pending = s.pending := by
    rw [← hrec]
    exact ⟨onChip_heath _ s, onChip_met _ s, onChip_mem _ s, onChip_env _ s, onChip_pending _ s⟩
  clear hrec
  generalize faultDetail 1 (regionCode (regionOf page)) 0xA 0xFFFF = detail
  obtain ⟨hheath, hmet, hmem, henv, hpend⟩ := logPage_kept g.type g.inst 0xF0 detail page u
  obtain ⟨huheath, humet, humem, huenv, hupend⟩ := hbeside
  have hrd {a : Nat} (ha : offGal a) (c : Chip) (e : Env) : (blockBegin page g old e c).rd a = c.rd a := blockBegin_rd old e c fun _ => ha
  have hlog {a : Nat} := logPage_chip_rd_ne (a := a) g.type g.inst 0xF0 detail page u
  generalize State.logPage g.type g.inst 0xF0 detail page u = x at hheath hmet hmem henv hpend hlog ⊢
  simp only [onChip_chip, onChip_mem, onChip_env, onChip_pending, onChip_heath, onChip_met]
  refine ⟨blockBegin_held _ _ _ _ _, ?recA, ?recB, hmem.trans humem, fun a _ => ?heath, fun a _ => ?met, henv.trans huenv, hpend.trans hupend⟩
  case recA => rw [hrd (by decide), hlog (by decide), hchip, Chip.faultRec_rd_A, Nat.one_mul]
  case recB => rw [hrd (by decide), hlog (by decide), hchip, Chip.faultRec_rd_B]
  case heath => rw [Heath.rd, hheath, huheath, Heath.rd]
  case met => rw [Met.rd, hmet, humet, Met.rd]

/-! ### A write of PG_CTRL -/

/-- PG_CTRL as the header of every page has it (R117). -/
def pgCtrlDesc : RegDesc := ⟨"PG_CTRL", 0x008, 0, 1, false, 0, 0, false, .rw, 0, 0x0001FFFF, 0, 0x80000000, 0x7FFE0000, false⟩

theorem placeOf_PG_CTRL {pt : Part} {g : Page} (hg : pageAt g.base = some g) (hpres : pagePresent pt g = true) :
    placeOf pt (Reg.PG_CTRL g.base) = .reg g pgCtrlDesc 0 := by
  have hat : pageAt (Reg.PG_CTRL g.base) = some g := (pageAt_add (pageAt_aligned hg) (by decide)).trans hg
  have hoff : Reg.PG_CTRL g.base - g.base = 8 := by unfold Reg.PG_CTRL; omega
  have hreg : regAt g (Reg.PG_CTRL g.base) = some (pgCtrlDesc, 0) := by
    simp [regAt, hoff, regIn, headerRegs, RegDesc.place, pgCtrlDesc]
  simp [placeOf, hat, hreg, hpres, pgCtrlDesc]

/-- Bits that are zero stay so. -/
theorem and_not_of_and_eq_zero {v m : Word} (h : v &&& m = 0) : v &&& ~~~m = v := by
  apply BitVec.eq_of_getLsbD_eq
  intro i hi
  have hbit := congrArg (BitVec.getLsbD · i) h
  simp only [BitVec.getLsbD_and, BitVec.getLsbD_not, hi, decide_true, Bool.true_and] at hbit ⊢
  cases hv : v.getLsbD i <;> simp_all

/-- A write of PG_CTRL by the page's owner without reserved bits passes every check (R125). -/
theorem checkWrite_PG_CTRL {s : State} {p : Plane} {g : Page} {v : Word} (hg : pageAt g.base = some g) (hpres : pagePresent s.env.part g = true)
    (ho : g.owner < 3) (hp : planeCode p = g.owner) (hv : v &&& 0x7FFE0000 = 0) :
    checkWrite s p (Reg.PG_CTRL g.base) 4 v = .pass s pgCtrlDesc v := by
  have hmod : Reg.PG_CTRL g.base % 4 = 0 := by
    have hal := pageAt_aligned hg
    unfold Reg.PG_CTRL
    omega
  have hword : Reg.PG_CTRL g.base / 4 * 4 = Reg.PG_CTRL g.base := by omega
  have hoff : Reg.PG_CTRL g.base - g.base = 8 := by unfold Reg.PG_CTRL; omega
  have hown : s.chip.ownerOk g (Reg.PG_CTRL g.base) p = true := by simp [Chip.ownerOk, hoff, hp]
  have hopen : s.cellFenced g (Reg.PG_CTRL g.base) = false := by
    unfold State.cellFenced Chip.cellFenced
    simp only [hoff]
    cases regionOf g.base <;> rfl
  have hrsv : v &&& word pgCtrlDesc.rsv = 0 := hv
  simp only [checkWrite, hword, placeOf_PG_CTRL hg hpres, hmod, hown, hopen, hrsv, and_not_of_and_eq_zero hrsv]
  simp [pgCtrlDesc, Nat.not_le.mpr ho]

/-- The command hands a write that passes to the page (R100). -/
theorem exec_pgCtrlRestart {s : State} {p : Plane} {g : Page} {v : Word} (hg : pageAt g.base = some g) (hpres : pagePresent s.env.part g = true)
    (ho : g.owner < 3) (hp : planeCode p = g.owner) (hrun : pageRuns' s g.base = true) (hv : v &&& 0x7FFE0000 = 0)
    (hfree : s.chip.flt.held.contains g.base = false) : exec (.pgCtrlRestart p g.base v) s = .next (pgCtrl g.base v s) := by
  have hhome : homePage (Reg.PG_CTRL g.base) = some g.base := by
    rw [homePage, Reg.PG_CTRL, pageAt_add (pageAt_aligned hg) (by decide), hg]
  have hreg : regionOf (Reg.PG_CTRL g.base) = regionOf g.base := regionOf_add (pageAt_aligned hg) (by decide)
  have hreach : s.reaches (Reg.PG_CTRL g.base) = true := by
    have hrgn : s.chip.rgn (regionOf g.base) = 0 := by simpa [pageRuns'] using hrun
    simp [State.reaches, hhome, hreg, hrgn]
  have hhold : s.holds (Reg.PG_CTRL g.base) = false := by simp only [State.holds, hhome, hfree]
  change execPgCtrlRestart p g.base v s = _
  simp only [execPgCtrlRestart, hg, onWrite, hreach, checkWrite_PG_CTRL hg hpres ho hp hv, hhold, if_true, Bool.false_eq_true, if_false]

/-- Its two fields are kept. -/
theorem pgCtrl_wr {g : Page} (hg : pageAt g.base = some g) (ho : g.owner < 3) (s : State) (v : Word) :
    s.wr (Reg.PG_CTRL g.base) (v &&& 0x1FFFF) = onChip (fun _ c => c.wr (Reg.PG_CTRL g.base) (v &&& 0x1FFFF)) s := by
  have hreg : regionOf (Reg.PG_CTRL g.base) = regionOf g.base := regionOf_add (pageAt_aligned hg) (by decide)
  exact State.wr_of_chip (hreg ▸ regionOf_owned hg ho) s _

/-- A write with RESTART keeps its fields and holds the block, without a fault's record (R100). -/
theorem pgCtrl_restart {g : Page} {s : State} {v : Word} (hg : pageAt g.base = some g) (ho : g.owner < 3) (hv : fbit v 31 = true)
    (hfree : s.chip.flt.held.contains g.base = false) (hfew : (recentRestarts s g.base).length < 2) :
    pgCtrl g.base v s = onChip (fun e c => blockBegin g.base g (recentRestarts s g.base) e (c.wr (Reg.PG_CTRL g.base) (v &&& 0x1FFFF))) s := by
  simp only [pgCtrl, hv, if_true, pgCtrl_wr hg ho]
  generalize hs1 : onChip (fun _ c => c.wr (Reg.PG_CTRL g.base) (v &&& 0x1FFFF)) s = s1
  have hflt : s1.chip.flt = s.chip.flt := by rw [← hs1, onChip_chip, Chip.wr_flt]
  have hrecent : recentRestarts s1 g.base = recentRestarts s g.base := by rw [recentRestarts, recentRestarts, hflt, ← hs1, onChip_env]
  rw [blockRestart_begin hg (by rw [hflt, hfree]) (by rw [hrecent]; exact hfew), hrecent, blockRecord, ← hs1]
  rfl

/-! ### A restart that completes -/

theorem blockReloadAny_kept (page : Nat) (s : State) :
    (blockReloadAny page s).mem = s.mem ∧ (blockReloadAny page s).env = s.env ∧ (blockReloadAny page s).pending = s.pending := by
  unfold blockReloadAny
  split <;> exact ⟨rfl, rfl, rfl⟩

/-- The block's requests are released. -/
def blockRelease (page : Nat) (c : Chip) : Chip :=
  { c with flt := { c.flt with held := c.flt.held.filter (· != page), waitW := c.flt.waitW.filter (fun x => homePage x.2.1 != some page) } }

theorem filter_ne_not_contains (l : List Nat) (page : Nat) : (l.filter (· != page)).contains page = false := by simp

/-- A restart with no write that waits for the block (R101). -/
theorem exec_blockRestartComplete {page : Nat} {s : State} (hheld : s.chip.flt.held.contains page = true)
    (hnone : ∀ x ∈ s.chip.flt.waitW, homePage x.2.1 ≠ some page) :
    exec (.blockRestartComplete page) s =
      .next (pageCount page 15 0 4 (onChip (fun _ c => blockRelease page c) (blockReloadAny page s))) := by
  have hmine : s.chip.flt.waitW.filter (fun x => homePage x.2.1 == some page) = [] := by
    rw [List.filter_eq_nil_iff]
    simpa using hnone
  change execBlockRestartComplete page s = _
  simp only [execBlockRestartComplete, hheld, if_true, hmine]
  rfl

/-- The block is released, flagged and counted (R101, R102). -/
theorem blockReleased_spec {page : Nat} (hp : page % 0x1000 = 0) (s : State) {t : State}
    (ht : t = pageCount page 15 0 4 (onChip (fun _ c => blockRelease page c) (blockReloadAny page s))) :
    t.chip.flt.held.contains page = false ∧ fbit (t.rd (Reg.PG_ERR page)) 15 = true ∧ t.mem = s.mem ∧ t.env = s.env ∧ t.pending = s.pending := by
  subst ht
  obtain ⟨hmem, henv, hpend⟩ := blockReloadAny_kept page s
  generalize blockReloadAny page s = u at hmem henv hpend ⊢
  have hstill := pageCount_still page 15 0 4 (onChip (fun _ c => blockRelease page c) u)
  simp only [State.still, Prod.mk.injEq] at hstill
  obtain ⟨hpend', hmem', henv', hflt⟩ := hstill
  refine ⟨?_, pageCount_flag _ _ _ hp (by decide), hmem'.trans hmem, henv'.trans henv, hpend'.trans hpend⟩
  rw [hflt]
  exact filter_ne_not_contains u.chip.flt.held page

/-! ### A restart that does not complete in its frame -/

/-- A block whose region restarts in its place is held no longer. -/
def blockDrop (page : Nat) (s : State) : State := onChip (fun _ c => { c with flt := { c.flt with held := c.flt.held.filter (· != page) } }) s

theorem exec_blockRestartFailed {page : Nat} {g : Page} {s u : State} (hg : pageAt page = some g) (hheld : s.chip.flt.held.contains page = true)
    (hu : reachIn 5 (s.env.time.len - 1) s = u) (hdue : blockFailDue u page = true) :
    exec (.blockRestartFailed page) s = .next (regionFault (regionOf page) 2 g.type g.inst (blockDrop page u)) := by
  change execBlockRestartFailed page s = _
  simp only [execBlockRestartFailed, hheld, if_true, hu, hdue, hg]
  rfl

theorem blockDrop_not_held (page : Nat) (u : State) {l : List Nat} (h : l ⊆ (blockDrop page u).chip.flt.held) : l.contains page = false := by
  have hfree : page ∉ (blockDrop page u).chip.flt.held := by simp [blockDrop]
  simpa using fun hmem => hfree (h hmem)

/-- Time that passes to a cycle of the frame that is here or past moves no clock but the precision-time one. -/
theorem reachIn_past {n : Nat} {s : State} (h : n ≤ s.env.time.offset) (phase : Nat) :
    ∃ x, reachIn phase n s = { s with chip := { s.chip with hif := x } } := by
  have hptp (c : Chip) : ∃ x, ptpRun 0 c = { c with hif := x } := by
    unfold ptpRun
    split
    · exact ⟨_, rfl⟩
    · exact ⟨c.hif, rfl⟩
  obtain ⟨x, hx⟩ := hptp s.chip
  unfold reachIn
  split
  · refine ⟨x, ?_⟩
    simp only [State.reach, Nat.sub_eq_zero_of_le h, State.advance, Nat.add_zero, ite_self, onChip, hx]
  · exact ⟨s.chip.hif, rfl⟩

end Sys2Proof.Machine

/-- Settles O22: the first two restarts of a block hold it, a completed one releases it, and the third, or one that is not complete in its frame, is a
fault of its region. -/
theorem blockRestarts : Obligations.BlockRestarts := by
  refine ⟨fun s page g hg hbase hrun hfree hfew => ?checker, fun s p page v g hg hbase hpres ho hp hrun hv hbit hfree => ?write,
    fun s p page v g hg hbase hpres ho hp hrun hv hbit hfree hfew hkind => ?restart, fun s page hheld hsome hal hnone => ?complete,
    fun s page hheld hsome hreg hctl hphase hoff => ?failedControl, fun s page g hg hrun hfree hmany hfew => ?third,
    fun s p page v g hg hbase hpres hkind hp hrun hv hbit hfree hfew => ?galley, fun s page hdue hsome hrgn hfew => ?failed,
    fun s page hfree => ?free⟩
  case checker =>
    have hexec := exec_selfCheckerFault hg hrun
    rw [blockRestart_begin hg hfree hfew] at hexec
    exact ⟨_, hexec, selfCheckerHold_spec page g _ s rfl⟩
  case write =>
    subst hbase
    have hexec := exec_pgCtrlRestart hg hpres ho hp hrun hv hfree
    simp only [pgCtrl, hbit, Bool.false_eq_true, if_false, pgCtrl_wr hg ho] at hexec
    exact ⟨_, hexec, Chip.rd_wr_same _ _ _, onChip_onlyChip _ s, fun a ha => Chip.rd_wr_ne _ _ (by simpa using ha)⟩
  case restart =>
    subst hbase
    have hexec := exec_pgCtrlRestart hg hpres ho hp hrun hv hfree
    rw [pgCtrl_restart hg ho hbit hfree hfew] at hexec
    have hrd (c : Chip) (a : Nat) : (blockBegin g.base g (recentRestarts s g.base) s.env c).rd a = c.rd a :=
      blockBegin_rd _ _ c fun hk => absurd hk hkind
    refine ⟨_, hexec, (hrd _ _).trans (Chip.rd_wr_same _ _ _), blockBegin_held _ _ _ _ _, onChip_onlyChip _ s, fun a ha => ?_⟩
    exact (hrd _ a).trans (Chip.rd_wr_ne _ _ (by simpa using ha))
  case complete => exact ⟨_, exec_blockRestartComplete hheld hnone, blockReleased_spec hal s rfl⟩
  case failedControl =>
    obtain ⟨g, hg⟩ := Option.ne_none_iff_exists'.mp hsome
    obtain ⟨x, hx⟩ := reach_of_ctl hctl (s.env.time.len - 1)
    have hu : reachIn 5 (s.env.time.len - 1) s = s.atCycle (s.env.time.len - 1) x := by simp [reachIn, hctl, hphase, hx]
    have hdue : blockFailDue (s.atCycle (s.env.time.len - 1) x) page = true := by
      have hlast : s.env.time.len ≤ max s.env.time.offset (s.env.time.len - 1) + 1 := by omega
      exact Bool.and_eq_true_iff.mpr ⟨hheld, decide_eq_true hlast⟩
    have hexec := exec_blockRestartFailed hg hheld hu hdue
    rw [hreg] at hexec
    obtain ⟨t, ht, hdown, hsub, henv, hpend⟩ := controlFault_down 2 g.type g.inst (blockDrop page (s.atCycle (s.env.time.len - 1) x))
    have hpart : t.env.part = (s.atCycle (s.env.time.len - 1) x).env.part := congrArg Env.part henv
    exact ⟨t, ht ▸ hexec, hdown, blockDrop_not_held page _ hsub, hpart, hpend⟩
  case third =>
    have hexec := exec_selfCheckerFault hg hrun
    rw [blockRestart_third hg hfree hmany] at hexec
    have h := regionFault_restarting hfew 3 g.type g.inst
    exact ⟨_, hexec, h.rgn, h.flagged, h.env, h.pending⟩
  case galley =>
    subst hbase
    obtain ⟨howner, hbase⟩ := page_of_gal hg hkind
    have ho : g.owner < 3 := by omega
    have hexec := exec_pgCtrlRestart hg hpres ho hp hrun hv hfree
    rw [pgCtrl_restart hg ho hbit hfree hfew] at hexec
    refine ⟨_, hexec, ?_, blockBegin_held _ _ _ _ _, onChip_onlyChip _ s⟩
    refine (blockBegin_rd _ _ _ fun _ => ?_).trans (Chip.rd_wr_same _ _ _)
    rw [hbase]
    decide
  case failed =>
    obtain ⟨g, hg⟩ := Option.ne_none_iff_exists'.mp hsome
    obtain ⟨hheld, hlast⟩ := Bool.and_eq_true_iff.mp hdue
    have hlast := of_decide_eq_true hlast
    obtain ⟨x, hu⟩ := reachIn_past (s := s) (n := s.env.time.len - 1) (by omega) 5
    have hexec := exec_blockRestartFailed hg hheld hu hdue
    have h := regionFault_restarting (s := blockDrop page { s with chip := { s.chip with hif := x } }) hfew 2 g.type g.inst
    exact ⟨_, hexec, h.rgn, h.flagged, blockDrop_not_held page _ h.held, h.env, h.pending⟩
  case free =>
    have hnot : blockFailDue s page = false := by rw [blockFailDue, hfree, Bool.false_and]
    refine ⟨congrArg Host.Outcome.next (if_neg (by rw [hfree]; exact Bool.false_ne_true)), ?_⟩
    change execBlockRestartFailed page s = _
    simp only [execBlockRestartFailed, hfree, Bool.false_eq_true, if_false, hnot]
end

section
/-! PROOF. The items of the mirror link (ch. 17, R578 to R580, R585, R604 to R606; ch. 3, R90, R97; ch. 5, R158). -/
open Sys2Proof Sys2Proof.Machine
namespace Sys2Proof.Machine

/-- A bit set is a bit joined. -/
theorem fsetb_true (v : Word) {i : Nat} : fsetb v i true = v ||| word (2 ^ i) := by
  apply BitVec.eq_of_getLsbD_eq
  intro j hj
  have hbit := fbit_fsetb v i j true hj
  simp only [fbit] at hbit
  simp only [hbit, BitVec.getLsbD_or, word, BitVec.getLsbD_ofNat, hj, decide_true, Bool.true_and, Nat.testBit_two_pow, eq_comm (a := i)]
  split <;> simp_all

/-! ### Heartbeats and the mirrored state -/

/-- The partner's health as a heartbeat shows it, and the result of a self-test that runs (R578, R588, R593). -/
def hbShow (health : Word) (parts : BitVec 5) (c : Chip) : Chip :=
  let c1 := ((c.wr Reg.QN_PARTNER (health &&& 0xFFFF00FF)).setB Reg.QN_PARTNER 15 true).onPair (fun p => { p with hbGot := true })
  if c.pair.testing then (c1.setF Reg.QN_ST_RES 28 2 (fget health 24 2)).setF Reg.QN_ST_RES 0 5 parts.toNat else c1

theorem exec_hbItem {s : State} (health : Word) (parts : BitVec 5) (h : mirHeeds s.chip = true) :
    exec (.hbItem health parts) s = .next (onChip (fun _ c => hbShow health parts c) s) := by
  change execHbItem health parts s = _
  simp only [execHbItem, onChip, h, if_true]
  rfl

theorem hbShow_pair (health : Word) (parts : BitVec 5) (c : Chip) : (hbShow health parts c).pair = { c.pair with hbGot := true } := by
  simp only [hbShow, apply_ite Chip.pair, Chip.setF_pair, Chip.onPair_pair, Chip.setB_pair, Chip.wr_pair, ite_self]

/-- A heartbeat shows in QN.PARTNER, and beside it only in the result of a self-test. -/
theorem hbShow_rd (health : Word) (parts : BitVec 5) (c : Chip) {a : Nat} (ha : a ≠ Reg.QN_ST_RES) : (hbShow health parts c).rd a =
    if a = Reg.QN_PARTNER then (health &&& 0xFFFF00FF) ||| 0x8000 else c.rd a := by
  have hite (b : Bool) (x y : Chip) : (if b then x else y).rd a = if b then x.rd a else y.rd a := by cases b <;> rfl
  have hbit : fsetb (health &&& 0xFFFF00FF) 15 true = (health &&& 0xFFFF00FF) ||| 0x8000 := fsetb_true _
  rw [hbShow, hite, Chip.rd_setF_ne _ ha, Chip.rd_setF_ne _ ha, ite_self, Chip.onPair_rd, Chip.rd_setB, Chip.rd_wr_same, hbit]
  split
  · rfl
  · exact Chip.rd_wr_ne _ _ ‹_›

/-- The mirrored state as it stands, with the volume of the frame's stream (R579, R591). -/
def stateShow (m : CtlCopy) (units : Nat) (c : Chip) : Chip :=
  ((c.setF Reg.MIR_LOAD 0 16 (min 1536 units)).setF Reg.MIR_LOAD 16 16 (max (min 1536 units) (c.f Reg.MIR_LOAD 16 16))).onPair
    (fun p => { p with next := some m })

theorem exec_stateItem {s : State} (m : CtlCopy) (units : Nat) (h : mirFollows s.chip = true) :
    exec (.stateItem m units) s = .next (onChip (fun _ c => stateShow m units c) s) := by
  change execStateItem m units s = _
  simp only [execStateItem, onChip, h, if_true]
  rfl

theorem stateShow_load (m : CtlCopy) (units : Nat) (c : Chip) :
    (stateShow m units c).f Reg.MIR_LOAD 0 16 = min 1536 units ∧
      (stateShow m units c).f Reg.MIR_LOAD 16 16 = max (min 1536 units) (c.f Reg.MIR_LOAD 16 16) := by
  have hold : c.f Reg.MIR_LOAD 16 16 < 65536 := fget_lt _ _ _
  rw [stateShow]
  simp only [Chip.f, Chip.onPair_rd] at hold ⊢
  constructor
  · refine (Chip.f_setF_apart _ _ _ _ _ _ _ (by decide)).trans ((Chip.f_setF_same _ _ _ _ _ (by decide)).trans (Nat.mod_eq_of_lt ?_))
    omega
  · refine (Chip.f_setF_same _ _ _ _ _ (by decide)).trans (Nat.mod_eq_of_lt ?_)
    omega

/-! ### Galley items -/

/-- A forwarded item of another slot than the Management plane's is followed (R158). -/
theorem exec_galleyItem_opened {s : State} {k : Fin 4} (p : Plane) (tag : BitVec 16) (h : mirFollows s.chip = true) (hk : k ≠ 2) :
    exec (.galleyItem (.opened k p tag)) s = .next (onChip (fun e c => galFollow e (.opened k p tag) c) s) := by
  have hk' : k.val ≠ 2 := fun he => hk (Fin.ext he)
  change execGalleyItem (.opened k p tag) s = _
  simp only [execGalleyItem, onChip, h, bne_iff_ne.mpr hk', Bool.and_self, if_true]

theorem exec_galleyItem_entry {s : State} {k : Fin 4} (place a : Nat) (v : Word) (h : mirFollows s.chip = true) (hk : k ≠ 2) :
    exec (.galleyItem (.entry k place a v)) s = .next (onChip (fun e c => galFollow e (.entry k place a v) c) s) := by
  have hk' : k.val ≠ 2 := fun he => hk (Fin.ext he)
  change execGalleyItem (.entry k place a v) s = _
  simp only [execGalleyItem, onChip, h, bne_iff_ne.mpr hk', Bool.and_self, if_true]

theorem galFollow_opened (e : Env) (k : Fin 4) (p : Plane) (tag : BitVec 16) (c : Chip) : galFollow e (.opened k p tag) c =
    ((((galDrop k c).wr (Reg.GAL_STATE k) (word (2 ^ 28 + tag.toNat))).wr (Reg.GAL_LIST k) 0).wr (Reg.GAL_TARGET k) 0).wr (Reg.GAL_FAIL_INFO k)
      (word (planeCode p * 2 ^ 29)) := rfl

/-- A field of a word, by division. -/
theorem fget_word (n lo w : Nat) : fget (word n) lo w = n % 2 ^ 32 / 2 ^ lo % 2 ^ w := by
  rw [fget, toNat_word, Nat.shiftRight_eq_div_pow]

/-- A forwarded slot is empty and open, with its opener's plane and tag (R158). -/
theorem galFollow_opened_spec (e : Env) (k : Fin 4) (p : Plane) (tag : BitVec 16) (c : Chip) {d : Chip} (hd : d = galFollow e (.opened k p tag) c) :
    d.slotState k = 1 ∧ d.f (Reg.GAL_STATE k) 0 16 = tag.toNat ∧ d.f (Reg.GAL_FAIL_INFO k) 29 3 = planeCode p ∧ d.rd (Reg.GAL_LIST k) = 0 ∧
      (d.slot k).list = [] := by
  have hempty := galDrop_slot k c
  rw [galFollow_opened] at hd
  generalize galDrop k c = c1 at hd hempty
  have hsl : Reg.GAL_STATE k ≠ Reg.GAL_LIST k := by unfold Reg.GAL_STATE Reg.GAL_LIST; omega
  have hst : Reg.GAL_STATE k ≠ Reg.GAL_TARGET k := by unfold Reg.GAL_STATE Reg.GAL_TARGET; omega
  have hsi : Reg.GAL_STATE k ≠ Reg.GAL_FAIL_INFO k := by unfold Reg.GAL_STATE Reg.GAL_FAIL_INFO; omega
  have hlt : Reg.GAL_LIST k ≠ Reg.GAL_TARGET k := by unfold Reg.GAL_LIST Reg.GAL_TARGET; omega
  have hli : Reg.GAL_LIST k ≠ Reg.GAL_FAIL_INFO k := by unfold Reg.GAL_LIST Reg.GAL_FAIL_INFO; omega
  have hstate : d.rd (Reg.GAL_STATE k) = word (2 ^ 28 + tag.toNat) := by
    rw [hd, Chip.rd_wr_ne _ _ hsi, Chip.rd_wr_ne _ _ hst, Chip.rd_wr_ne _ _ hsl, Chip.rd_wr_same]
  have hlist : d.rd (Reg.GAL_LIST k) = 0 := by rw [hd, Chip.rd_wr_ne _ _ hli, Chip.rd_wr_ne _ _ hlt, Chip.rd_wr_same]
  have hinfo : d.rd (Reg.GAL_FAIL_INFO k) = word (planeCode p * 2 ^ 29) := by rw [hd, Chip.rd_wr_same]
  have hslot : d.slot k = {} := by rw [Chip.slot, hd, Chip.wr_gal, Chip.wr_gal, Chip.wr_gal, Chip.wr_gal]; exact hempty
  have htag := tag.isLt
  refine ⟨?_, ?_, ?_, hlist, by rw [hslot]⟩
  · rw [Chip.slotState, Chip.f, hstate, fget_word]
    omega
  · rw [Chip.f, hstate, fget_word]
    omega
  · rw [Chip.f, hinfo, fget_word]
    cases p <;> decide

/-- An entry out of its place shows that an item is missing (R159). -/
theorem galFollow_gap {e : Env} {k : Fin 4} {place : Nat} (a : Nat) (v : Word) {c : Chip} (h : (c.slot k).list.length ≠ place) :
    galFollow e (.entry k place a v) c = c.onGal (fun g => { g with gap := true }) := if_neg h

theorem galFollow_entry {e : Env} {k : Fin 4} {place : Nat} (a : Nat) (v : Word) {c : Chip} (h : (c.slot k).list.length = place) :
    galFollow e (.entry k place a v) c = c.stage e k a v := if_pos h

/-- A word that joins a list, before PG_GALLEY counts it (R139, R140). -/
def stageEntry (k a : Nat) (v : Word) (c : Chip) : Chip :=
  let s := c.slot k
  let d := (c.setSlot k { s with list := s.list ++ [(a, v)] }).setF (Reg.GAL_LIST k) 0 13 (s.list.length + 1)
  let d := if isDeep c a v then d.setB (Reg.GAL_LIST k) 30 true else d
  let d := if c.slotState k = 3 then d.setF (Reg.GAL_STATE k) 28 4 1 else d
  d.lead k (.entry (Fin.ofNat 4 k) s.list.length a v)

/-- PG_GALLEY of the page that takes what concerns a staged word counts it (R139). -/
def stageCount (a : Nat) (c : Chip) : Chip := match homePage a with | some g => c.refreshGalley g | none => c

/-- A word joins the list of a slot that is not in a pass and has room (R139 to R141). -/
theorem stage_of_room {e : Env} {k a : Nat} {v : Word} {c : Chip} (hst : c.slotState k ≠ 2) (hroom : (c.slot k).list.length < 4096) :
    c.stage e k a v = stageCount a (stageEntry k a v c) := by
  simp only [Chip.stage, hst, Nat.not_le.mpr hroom, if_false]
  rfl

theorem stageCount_gal (a : Nat) (c : Chip) : (stageCount a c).gal = c.gal := by
  unfold stageCount
  split
  · exact c.refreshGalley_gal _
  · rfl

theorem stageCount_rd (a : Nat) (c : Chip) {b : Nat} (hb : b % 0x1000 ≠ 0x24) : (stageCount a c).rd b = c.rd b := by
  unfold stageCount
  split
  next g hg => exact c.refreshGalley_rd_ne (homePage_aligned hg) hb
  · rfl

theorem stageEntry_gal (k a : Nat) (v : Word) (c : Chip) :
    (stageEntry k a v c).gal = (c.setSlot k { c.slot k with list := (c.slot k).list ++ [(a, v)] }).gal := by
  simp only [stageEntry, Chip.lead_gal, apply_ite Chip.gal, Chip.setF_gal, Chip.setB_gal, ite_self]

theorem stageEntry_count (k a : Nat) (v : Word) {c : Chip} (hroom : (c.slot k).list.length < 4096) :
    (stageEntry k a v c).f (Reg.GAL_LIST k) 0 13 = (c.slot k).list.length + 1 := by
  have hne : Reg.GAL_LIST k ≠ Reg.GAL_STATE k := by unfold Reg.GAL_LIST Reg.GAL_STATE; omega
  have hite (q : Prop) [Decidable q] (x y : Chip) : (if q then x else y).f (Reg.GAL_LIST k) 0 13 =
      if q then x.f (Reg.GAL_LIST k) 0 13 else y.f (Reg.GAL_LIST k) 0 13 := apply_ite (Chip.f · _ _ _) _ _ _
  have hlead (g : MirGal) (x : Chip) : (x.lead k g).f (Reg.GAL_LIST k) 0 13 = x.f (Reg.GAL_LIST k) 0 13 := by rw [Chip.f, Chip.lead_rd, Chip.f]
  rw [stageEntry, hlead, hite, Chip.f_setF_ne _ _ _ _ _ _ hne, ite_self, hite, Chip.f_setB_apart _ _ _ _ _ _ (by decide), ite_self,
    Chip.f_setF_same _ _ _ _ _ (by decide)]
  omega

theorem stage_spec {e : Env} {k a : Nat} {v : Word} {c : Chip} (hst : c.slotState k ≠ 2) (hroom : (c.slot k).list.length < 4096) :
    ((c.stage e k a v).slot k).list = (c.slot k).list ++ [(a, v)] ∧
      (c.stage e k a v).f (Reg.GAL_LIST k) 0 13 = (c.slot k).list.length + 1 ∧ (c.stage e k a v).gal.gap = c.gal.gap := by
  rw [stage_of_room hst hroom]
  have hgal := (stageCount_gal a (stageEntry k a v c)).trans (stageEntry_gal k a v c)
  have hrd := stageCount_rd a (stageEntry k a v c) (b := Reg.GAL_LIST k) (by unfold Reg.GAL_LIST; omega)
  have hslot : (stageCount a (stageEntry k a v c)).slot k = { c.slot k with list := (c.slot k).list ++ [(a, v)] } := by
    rw [Chip.slot, hgal]
    exact tget_tset_same _ _ _ _
  refine ⟨by rw [hslot], ?_, by rw [hgal]; rfl⟩
  rw [Chip.f, hrd]
  exact stageEntry_count k a v hroom

/-! ### Session items -/

theorem exec_sessionItem (o : Fin 64) (x : SesItem) (sync : Bool) (s : State) : exec (.sessionItem o x sync) s = execSessionItem o x sync s := rfl

/-- A checkpoint that is kept: the newest of its outlet, and acknowledged (R604, R607). -/
def ckptKeep (o : Nat) (b : List Byte) (sync : Bool) (c : Chip) : Chip :=
  ((c.onPair (fun p => { p with sesOut := p.sesOut ++ [(o, .acked)] })).setB Reg.QN_STAT 23 sync).onPair
    (fun p => { p with ckpts := (o, b) :: p.ckpts.filter (fun x => x.1 != o) })

theorem exec_sessionItem_checkpoint {s : State} (o : Fin 64) (b : List Byte) (sync : Bool) (h : mirFollows s.chip = true)
    (hsvc : s.chip.svc = true) :
    exec (.sessionItem o (.checkpoint b (ckptLevel s.chip)) sync) s = .next (onChip (fun _ c => ckptKeep o.val b sync c) s) := by
  rw [exec_sessionItem]
  simp only [execSessionItem, onChip, h, hsvc, beq_self_eq_true, Bool.and_self, if_true]
  rfl

theorem exec_sessionItem_written {s : State} (o : Fin 64) (b : List Byte) (sync : Bool) (h : mirHeeds s.chip = true) (hrole : s.chip.role = 1)
    (hsvc : s.chip.svc = true) : exec (.sessionItem o (.written b) sync) s = .next (onChip (fun _ c =>
      c.onPair (fun p => { p with written := p.written + 1, sesOut := p.sesOut ++ [(o.val, .checkpoint b (ckptLevel c))] })) s) := by
  rw [exec_sessionItem]
  simp only [execSessionItem, onChip, h, hrole, hsvc, beq_self_eq_true, Bool.and_self, if_true]

theorem exec_sessionItem_acked {s : State} (o : Fin 64) (sync : Bool) (h : mirHeeds s.chip = true) (hrole : s.chip.role = 1) :
    exec (.sessionItem o .acked sync) s =
      .next (onChip (fun _ c => c.onPair (fun p => { p with acked := min p.written (p.acked + 1) })) s) := by
  rw [exec_sessionItem]
  simp only [execSessionItem, onChip, h, hrole, beq_self_eq_true, Bool.and_self, if_true]

theorem exec_sessionItem_key {s : State} (o : Fin 64) (n : Fin 256) (v : BitVec 256) (ok sync : Bool) (h : mirHeeds s.chip = true)
    (hkey : s.chip.pair.keyed = true) :
    exec (.sessionItem o (.key n v ok) sync) s = .next (onChip (fun _ c => if ok then { c with cry := c.cry.setSlot n v } else c) s) := by
  rw [exec_sessionItem]
  simp only [execSessionItem, onChip, h, hkey, Bool.true_and]

/-- A frame that is passed on was queued behind no checkpoint that still waits for its acknowledgement (R605). -/
theorem tunNext_acked {c : Chip} {n : Nat} {q : Nat × Nat × Nat} (h : tunNext c n = some q) :
    tget (fun _ => 0) (c.sesOf q.2.1).ckpt q.2.2 ≤ c.pair.acked := by
  obtain ⟨x, -, hx⟩ := List.exists_of_findSome?_eq_some h
  dsimp only at hx
  split at hx
  · contradiction
  next hready =>
    cases hx
    exact Nat.le_of_not_lt (not_or.mp hready).2

/-! ### The other items -/

theorem exec_fenceItem {s : State} (f : List (Nat × Nat × Bool)) (m : List (Nat × Word)) (u : List (Nat × Bool)) (h : mirHeeds s.chip = true) :
    exec (.fenceItem f m u) s = .next (onChip (fun _ c =>
      c.onPair (fun p => { p with fences := p.fences ++ f, marks := p.marks ++ m, shuts := p.shuts ++ u })) s) := by
  change execFenceItem f m u s = _
  simp only [execFenceItem, onChip, h, if_true]

theorem exec_closeItem {s : State} (h : mirFollows s.chip = true) (ht : s.env.time.offset ≤ s.chip.cuts.mirror) :
    exec (.closeItem s.env.time.frameNo) s = .next (onChip (fun _ c => c.onPair (fun p => { p with closed := true })) s) := by
  change execCloseItem s.env.time.frameNo s = _
  simp only [execCloseItem, onChip, h, ht, beq_self_eq_true, decide_true, Bool.and_self, if_true]

theorem exec_cmpItem {s : State} (x : CmpSet) (h : mirHeeds s.chip = true) :
    exec (.cmpItem x) s = .next (onChip (fun _ c => c.onPair (fun p => { p with theirs := some x })) s) := by
  change execCmpItem x s = _
  simp only [execCmpItem, onChip, h, if_true]

/-- What the partner supplies for a word that a scrub awaits (R90). -/
def scrubSupply (a : Nat) (v : Word) (c : Chip) : Chip :=
  let r := tget (fun _ => ({} : Replay)) c.flt.replays a
  { c with flt := { c.flt with replays := tset (fun _ => ({} : Replay)) c.flt.replays a { r with supplied := some v } } }

theorem scrubSupply_tget (a : Nat) (v : Word) (c : Chip) : tget (fun _ => ({} : Replay)) (scrubSupply a v c).flt.replays a =
    { tget (fun _ => ({} : Replay)) c.flt.replays a with supplied := some v } := tget_tset_same _ _ _ _

theorem exec_scrubItem {s : State} {a : Nat} (v : Word) (h : mirHeeds s.chip = true)
    (hr : (tget (fun _ => ({} : Replay)) s.chip.flt.replays a).scrub = true) :
    exec (.scrubItem a v) s = .next (onChip (fun _ c => scrubSupply a v c) s) := by
  have hcond : (mirHeeds s.chip && (tget (fun _ => ({} : Replay)) s.chip.flt.replays a).scrub) = true := by rw [h, hr, Bool.and_self]
  exact congrArg (fun c : Chip => Host.Outcome.next { s with chip := c }) (if_pos hcond)

end Sys2Proof.Machine

/-- Settles O47: each item that a chip heeds is one change of the Control and Service regions' state. -/
theorem mirrorItems : Obligations.MirrorItems := by
  refine ⟨fun s health parts h => ?hb, fun s m units h => ?state, fun s f m u h => ?fence, fun s k p tag h hk => ?opened,
    fun s k place a v h hk hplace => ?gap, fun s k place a v h hk hplace hroom hst => ?entry, fun s o b level sync h hsvc hlevel => ?ckpt,
    fun s o b sync h hrole hsvc => ?written, fun s o sync h hrole hfew => ?acked, fun s o n v ok sync h hkey => ?key,
    fun c n q h => tunNext_acked h, fun s frame h hframe ht => ?close, fun s x h => ?cmp, fun s a v r h hr hscrub => ?scrub⟩
  case hb =>
    refine ⟨_, exec_hbItem health parts h, ?_, hbShow_rd _ _ _ (by decide), ?_, onChip_onlyChip _ s, fun a ha => ?_⟩
    · rw [onChip_chip, hbShow_pair]
    · exact congrArg (fget · 29 3) (hbShow_rd _ _ _ (by decide))
    · simp only [List.mem_cons, List.not_mem_nil, or_false, not_or] at ha
      exact (hbShow_rd _ _ _ ha.2).trans (if_neg ha.1)
  case state =>
    obtain ⟨hnow, htop⟩ := stateShow_load m units s.chip
    refine ⟨_, exec_stateItem m units h, rfl, hnow, htop, onChip_onlyChip _ s, fun a ha => ?_⟩
    have hne : a ≠ Reg.MIR_LOAD := by simpa using ha
    exact (Chip.rd_setF_ne _ hne).trans (Chip.rd_setF_ne _ hne)
  case fence => exact ⟨_, exec_fenceItem f m u h, rfl, rfl, rfl, onChip_onlyChip _ s, fun _ _ => rfl⟩
  case opened =>
    obtain ⟨hstate, htag, hplane, hlist, hempty⟩ := galFollow_opened_spec s.env k p tag s.chip rfl
    exact ⟨_, exec_galleyItem_opened p tag h hk, hstate, htag, hplane, hlist, hempty, onChip_onlyChip _ s⟩
  case gap =>
    have hexec := exec_galleyItem_entry place a v h hk
    have hchip := galFollow_gap (e := s.env) a v hplace
    refine ⟨_, hexec, ?_, ?_, onChip_onlyChip _ s, fun b _ => ?_⟩ <;> rw [onChip_chip, hchip] <;> rfl
  case entry =>
    have hchip := galFollow_entry (e := s.env) a v hplace
    obtain ⟨hlist, hcount, hgap⟩ := stage_spec (e := s.env) (a := a) (v := v) hst (hplace ▸ hroom)
    rw [← hchip] at hlist hcount hgap
    exact ⟨_, exec_galleyItem_entry place a v h hk, hlist, hplace ▸ hcount, hgap, onChip_onlyChip _ s⟩
  case ckpt =>
    subst hlevel
    exact ⟨_, exec_sessionItem_checkpoint o b sync h hsvc, rfl, Chip.b_setB_same _ _ _ _ (by decide), rfl, onChip_onlyChip _ s,
      fun a ha => Chip.rd_setB_ne _ (by simpa using ha)⟩
  case written => exact ⟨_, exec_sessionItem_written o b sync h hrole hsvc, rfl, rfl, rfl, onChip_onlyChip _ s, fun _ _ => rfl⟩
  case acked =>
    refine ⟨_, exec_sessionItem_acked o sync h hrole, ?_, onChip_onlyChip _ s, fun _ _ => rfl⟩
    exact min_eq_right hfew
  case key =>
    refine ⟨_, exec_sessionItem_key o n v ok sync h hkey, ?_⟩
    cases ok
    · exact ⟨rfl, fun _ _ => rfl, onChip_onlyChip _ s, fun _ _ => rfl⟩
    · exact ⟨tget_tset_same _ _ _ _, fun j hj => tget_tset_ne _ _ _ hj, onChip_onlyChip _ s, fun _ _ => rfl⟩
  case close =>
    subst hframe
    exact ⟨_, exec_closeItem h ht, rfl, onChip_onlyChip _ s, fun _ _ => rfl⟩
  case cmp => exact ⟨_, exec_cmpItem x h, rfl, onChip_onlyChip _ s, fun _ _ => rfl⟩
  case scrub =>
    subst hr
    exact ⟨_, exec_scrubItem v h hscrub, scrubSupply_tget a v s.chip, onChip_onlyChip _ s, fun _ _ => rfl⟩
end

section
/-! PROOF. Accesses of a plane to the register map (ch. 4, R11, R114, R125, R134): writes of a register, a read that clears one, and what the chip
page records of an unmapped address. -/
open Sys2Proof Sys2Proof.Machine
namespace Sys2Proof.Machine

/-! ### Words and their pages -/

theorem page_base {a : Nat} {g : Page} (h : pageAt a = some g) : g.base = a / 0x1000 * 0x1000 := by
  obtain ⟨r, -, -, rfl⟩ := pageIn_run h
  rfl

/-- A word lies in the region of its page. -/
theorem regionOf_page {a : Nat} {g : Page} (h : pageAt a = some g) : regionOf g.base = regionOf a := by
  have hadd := regionOf_add (page := a / 0x1000 * 0x1000) (o := a % 0x1000) (Nat.mul_mod_left _ _) (by omega)
  rw [Nat.div_add_mod'] at hadd
  rw [page_base h, hadd]

theorem pageAt_word (a : Nat) : pageAt (a / 4 * 4) = pageAt a := by
  have hadd {o : Nat} (ho : o < 0x1000) := pageAt_add (page := a / 0x1000 * 0x1000) (Nat.mul_mod_left _ _) ho
  have hword : a / 4 * 4 = a / 0x1000 * 0x1000 + a % 0x1000 / 4 * 4 := by omega
  rw [hword, hadd (by omega), ← hadd (o := a % 0x1000) (by omega), Nat.div_add_mod']

theorem windowAt_word (a : Nat) : windowAt (a / 4 * 4) = windowAt a := by
  have haligned : ∀ w ∈ windows, w.base % 4 = 0 ∧ w.span % 4 = 0 := by decide
  have hfeed : (0x48040000 ≤ a / 4 * 4 ∧ a / 4 * 4 < 0x48140000) ↔ (0x48040000 ≤ a ∧ a < 0x48140000) := by omega
  have hspan : a / 4 * 4 / 0x10000 = a / 0x10000 := by omega
  have hfind : windows.find? (fun w => w.base ≤ a / 4 * 4 && a / 4 * 4 < w.base + w.span) =
      windows.find? (fun w => w.base ≤ a && a < w.base + w.span) := by
    refine List.find?_congr fun w hw => ?_
    obtain ⟨hbase, hend⟩ := haligned w hw
    have hlo : w.base ≤ a / 4 * 4 ↔ w.base ≤ a := by omega
    have hhi : a / 4 * 4 < w.base + w.span ↔ a < w.base + w.span := by omega
    simp only [hlo, hhi]
  simp only [windowAt, hfeed, hspan, hfind]

/-- A present register is one of its page's (R114). -/
theorem placeOf_reg {pt : Part} {a : Nat} {g : Page} {d : RegDesc} {j : Nat} (h : placeOf pt a = .reg g d j) :
    pageAt a = some g ∧ regAt g a = some (d, j) := by
  unfold placeOf at h
  split at h
  case h_1 g' hpage =>
    dsimp only at h
    split at h
    · cases h
    split at h
    case h_1 d' j' hreg =>
      split at h
      · cases h
      · cases h
        exact ⟨hpage, hreg⟩
    case h_2 => split at h <;> cases h
  case h_2 =>
    split at h
    · dsimp only at h
      split at h
      · cases h
      · split at h <;> cases h
    · cases h

/-- No register of code RW is the error flags of its page or a word of the event log. -/
theorem rw_off_hardware {pt : Part} {a : Nat} {g : Page} {d : RegDesc} {j : Nat} (h : placeOf pt a = .reg g d j) (hacc : d.acc = .rw) :
    a ∉ Reg.PG_ERR g.base :: logRegs := by
  obtain ⟨hpage, hreg⟩ := placeOf_reg h
  have herr : a ≠ Reg.PG_ERR g.base := by
    rintro rfl
    have hoff : Reg.PG_ERR g.base - g.base = 0x010 := Nat.add_sub_cancel_left _ _
    simp only [regAt, hoff] at hreg
    split at hreg
    · cases hreg
      cases hacc
    · cases hreg
      cases hacc
  have hlog : ∀ b ∈ logRegs, ∀ x, (pageAt b).bind (regAt · b) = some x → x.1.acc ≠ .rw := by decide
  rw [List.mem_cons, not_or]
  exact ⟨herr, fun hmem => hlog a hmem (d, j) (by rw [hpage, Option.bind_some, hreg]) hacc⟩

/-! ### Words and flags of Control and Service -/

theorem State.rd_of_chip {a : Nat} (h : regionOf a = .control ∨ regionOf a = .service) (s : State) : s.rd a = s.chip.rd a := by
  rcases h with h | h <;> simp only [State.rd, h]

/-- An error flag of a page of Control or Service: the flag is set, and beside it the event log's words alone may change. -/
theorem State.perr_of_chip {page i : Nat} (hp : page % 0x1000 = 0) (hi : i < 32) (h : regionOf page = .control ∨ regionOf page = .service)
    (s : State) : (s.perr page i).chip.b (Reg.PG_ERR page) i = true ∧ onlyChip s (s.perr page i) ∧
      sameRegs (Reg.PG_ERR page :: logRegs) s.chip (s.perr page i).chip := by
  have hset := s.perr_set hp hi
  have hreg : regionOf (Reg.PG_ERR page) = regionOf page := regionOf_add hp (by decide)
  rw [State.rd_of_chip (hreg ▸ h)] at hset
  have honly : s.perr page i = onChip (fun e c => c.perr e page i) s := by
    rcases h with h | h <;> simp only [State.perr, h]
  refine ⟨hset, honly ▸ onChip_onlyChip _ s, fun a ha => ?_⟩
  obtain ⟨herr, hlog⟩ := not_or.mp (List.mem_cons.not.mp ha)
  exact s.perr_chip_rd_ne page i herr hlog

/-! ### The checks of a write -/

theorem word_of_aligned {a : Nat} (h : a % 4 = 0) : a / 4 * 4 = a := by omega

/-- Check 1: the write is a whole word (R125). -/
theorem checkWrite_size {s : State} {a size : Nat} {g : Page} {d : RegDesc} {j : Nat} (hplace : placeOf s.env.part (a / 4 * 4) = .reg g d j)
    (hsize : size ≠ 4 ∨ a % 4 ≠ 0) (p : Plane) (v : Word) : checkWrite s p a size v = .dropped (s.perr g.base 5) := by
  simp only [checkWrite, hplace, hsize, if_true]

/-- The check of the owner of a page that Control, Data or Management owns (R124, R125). -/
theorem checkWrite_owner {s : State} {p : Plane} {a : Nat} {g : Page} {d : RegDesc} {j : Nat} (hword : a % 4 = 0)
    (hplace : placeOf s.env.part a = .reg g d j) (ho : g.owner < 3) (hown : s.chip.ownerOk g a p = false) (v : Word) :
    checkWrite s p a 4 v = .dropped (s.perr g.base 4) := by
  have hplane : ¬ 3 ≤ g.owner := by omega
  simp [checkWrite, word_of_aligned hword, hplace, hword, hplane, ho, hown]

/-- What the check of a write's reserved bits leaves: one that is set raises RSVD_WR (R125). -/
def State.rsvMark (s : State) (g : Page) (d : RegDesc) (v : Word) : State := if v &&& word d.rsv = 0 then s else s.perr g.base 0

/-- A write of a register of code RW by its owner passes, without its reserved bits (R125). -/
theorem checkWrite_rw {s : State} {p : Plane} {a : Nat} {g : Page} {d : RegDesc} {j : Nat} (hword : a % 4 = 0)
    (hplace : placeOf s.env.part a = .reg g d j) (ho : g.owner < 3) (hown : s.chip.ownerOk g a p = true) (hfence : s.cellFenced g a = false)
    (hacc : d.acc = .rw) (v : Word) : checkWrite s p a 4 v = .pass (s.rsvMark g d v) d (v &&& ~~~word d.rsv) := by
  have hplane : ¬ 3 ≤ g.owner := by omega
  simp [checkWrite, word_of_aligned hword, hplace, hword, hplane, hown, hfence, hacc, State.rsvMark]

/-! ### REGISTER_WRITE -/

theorem exec_registerWrite_dropped {s t : State} {p : Plane} {a size : Nat} {v : Word} (hreach : s.reaches a = true)
    (h : checkWrite s p a size v = .dropped t) : exec (.registerWrite p a size v) s = .next t := by
  change execRegisterWrite p a size v s = _
  simp only [execRegisterWrite, hreach, h, if_true]

/-- A write to a block that restarts waits (R101). -/
theorem exec_registerWrite_held {s t : State} {p : Plane} {a size : Nat} {v w : Word} {d : RegDesc} (hreach : s.reaches a = true)
    (h : checkWrite s p a size v = .pass t d w) (hhold : s.holds a = true) : exec (.registerWrite p a size v) s = .next (holdWrite p a v s) := by
  change execRegisterWrite p a size v s = _
  simp only [execRegisterWrite, hreach, h, hhold, if_true]

/-- A write that passes and starts nothing else is kept by its register under the register's codes (R11). -/
theorem exec_registerWrite_kept {s t : State} {p : Plane} {a size : Nat} {v w : Word} {d : RegDesc} (hreach : s.reaches a = true)
    (h : checkWrite s p a size v = .pass t d w) (hfree : s.holds a = false) (hhook : writeHook p a w = none) :
    exec (.registerWrite p a size v) s = .next (t.wr a (applyCodes d (t.rd a) w)) := by
  change execRegisterWrite p a size v s = _
  simp only [execRegisterWrite, hreach, h, hfree, writeTake, hhook, Bool.false_eq_true, if_true, if_false]

/-- The check of the reserved bits changes, of a page of Control or Service, its flags and the event log's words alone. -/
theorem rsvMark_spec {g : Page} (hp : g.base % 0x1000 = 0) (hreg : regionOf g.base = .control ∨ regionOf g.base = .service) (s : State)
    (d : RegDesc) (v : Word) : onlyChip s (s.rsvMark g d v) ∧ sameRegs (Reg.PG_ERR g.base :: logRegs) s.chip (s.rsvMark g d v).chip := by
  unfold State.rsvMark
  split
  · exact ⟨⟨rfl, rfl, rfl, rfl, rfl, rfl⟩, fun _ _ => rfl⟩
  · exact (State.perr_of_chip hp (by decide) hreg s).2

/-- The register takes the written bits under its codes, and every other word stands but the page's flags (R11, R125). -/
theorem rwKept_spec {s : State} {a : Nat} {g : Page} {d : RegDesc} {j : Nat} (hplace : placeOf s.env.part a = .reg g d j) (ho : g.owner < 3)
    (hacc : d.acc = .rw) (v w : Word) {t : State} (ht : t = (s.rsvMark g d v).wr a (applyCodes d ((s.rsvMark g d v).rd a) w)) :
    t.chip.rd a = applyCodes d (s.chip.rd a) w ∧ (v &&& word d.rsv = 0 → sameRegs [a] s.chip t.chip) ∧ onlyChip s t ∧
      sameRegs (a :: Reg.PG_ERR g.base :: logRegs) s.chip t.chip := by
  obtain ⟨hpage, -⟩ := placeOf_reg hplace
  have hchip := regionOf_owned hpage ho
  obtain ⟨honly, hregs⟩ := rsvMark_spec (pageAt_aligned hpage) (regionOf_page hpage ▸ hchip) s d v
  have hother {b : Nat} (hb : b ≠ a) : t.chip.rd b = (s.rsvMark g d v).chip.rd b := ht ▸ State.wr_chip_rd_ne _ _ hb
  rw [State.rd_of_chip hchip, hregs a (rw_off_hardware hplace hacc), State.wr_of_chip hchip] at ht
  refine ⟨?_, fun hrsv b hb => ?_, ?_, fun b hb => ?_⟩
  · rw [ht, onChip_chip, Chip.rd_wr_same]
  · rw [hother (by simpa using hb), State.rsvMark, if_pos hrsv]
  · rw [ht]
    exact honly
  · obtain ⟨hba, hb⟩ := not_or.mp (List.mem_cons.not.mp hb)
    rw [hother hba, hregs b hb]

/-! ### READ_CLEAR -/

theorem exec_readClear_rc {s : State} {x : ReadAt} {g : Page} {d : RegDesc} {j : Nat} (hplace : placeOf s.env.part (x.addr / 4 * 4) = .reg g d j)
    (hacc : d.acc = .rc) (hreach : s.reaches x.addr = true) (p : Plane) :
    exec (.readClear p x) s = .next { s.wr (x.addr / 4 * 4) 0 with rdata := readBytes (readWord s p x.addr) x.addr x.size } := by
  change execReadClear p x s = _
  simp only [execReadClear, hplace, hacc, hreach, if_true]

/-- A write changes one word of its region's table, and none of the other tables. -/
theorem State.wr_sameRegs (s : State) (a : Nat) (v : Word) :
    sameRegs [a] s.chip (s.wr a v).chip ∧ sameHeath [a] s.heath (s.wr a v).heath ∧ sameMet [a] s.met (s.wr a v).met := by
  simp only [sameRegs, sameHeath, sameMet, List.mem_singleton]
  unfold State.wr
  split
  · exact ⟨fun _ _ => rfl, fun _ hb => Heath.rd_wr_ne _ _ hb, fun _ _ => rfl⟩
  · exact ⟨fun _ _ => rfl, fun _ _ => rfl, fun _ hb => Met.rd_wr_ne _ _ hb⟩
  · exact ⟨fun _ hb => Chip.rd_wr_ne _ _ hb, fun _ _ => rfl, fun _ _ => rfl⟩

end Sys2Proof.Machine

/-- Settles O16: the first check that fails sets its flag alone; a write that passes changes its register, or waits for its block. -/
theorem registerWriteChecks : Obligations.RegisterWriteChecks := by
  refine ⟨fun s p a v g d j hreach hword hplace ho hown hfence hfree hacc hhook => ?kept, fun s p a size v g d j hreach hplace hsize hreg => ?size,
    fun s p a v g d j hreach hword hplace ho hreg hown => ?owner, fun s p x a g d j hx hplace hacc hreach => ?clear,
    fun s p a v g d j hreach hword hplace ho hown hfence hhold hacc => ?held⟩
  case kept =>
    have hcheck := checkWrite_rw hword hplace ho hown hfence hacc v
    exact ⟨_, exec_registerWrite_kept hreach hcheck hfree hhook, rwKept_spec hplace ho hacc v _ rfl⟩
  case size =>
    have hal := pageAt_aligned (placeOf_reg hplace).1
    exact ⟨_, exec_registerWrite_dropped hreach (checkWrite_size hplace hsize p v), State.perr_of_chip hal (by decide) (.inl hreg) s⟩
  case owner =>
    have hal := pageAt_aligned (placeOf_reg hplace).1
    exact ⟨_, exec_registerWrite_dropped hreach (checkWrite_owner hword hplace ho hown v), State.perr_of_chip hal (by decide) (.inl hreg) s⟩
  case clear =>
    subst hx
    obtain ⟨hchip, hheath, hmet⟩ := s.wr_sameRegs (x.addr / 4 * 4) 0
    have hstill := s.wr_still (x.addr / 4 * 4) 0
    simp only [State.still, Prod.mk.injEq] at hstill
    obtain ⟨hpend, hmem, henv, -⟩ := hstill
    have hzero : (s.wr (x.addr / 4 * 4) 0).rd (x.addr / 4 * 4) = 0 := by rw [State.rd_wr, if_pos rfl]
    exact ⟨_, exec_readClear_rc hplace hacc hreach p, rfl, hzero, hchip, hheath, hmet, hmem, henv, hpend⟩
  case held =>
    have hcheck := checkWrite_rw hword hplace ho hown hfence hacc v
    exact ⟨_, exec_registerWrite_held hreach hcheck hhold, rfl, onChip_onlyChip _ s, fun _ _ => rfl⟩
end

section
/-! PROOF. Unmapped addresses (ch. 4, R114, R134). -/
open Sys2Proof Sys2Proof.Machine
namespace Sys2Proof.Machine

/-! ### The drop record -/

/-- CHIP.DROP_INFO of a recorded access (R134). -/
def dropInfo (p : Plane) (unmapped read : Bool) (n : Nat) : Word :=
  word (planeCode p * 2 ^ 29 + (if unmapped then 2 ^ 28 else 0) + (if read then 2 ^ 27 else 0) + n)

theorem planeCode_lt (p : Plane) : planeCode p < 5 := by cases p <;> decide

/-- The record shows the plane, whether the access was a read, and the count (R134). -/
theorem dropInfo_fields (p : Plane) (unmapped read : Bool) {n : Nat} (hn : n < 2 ^ 16) :
    fget (dropInfo p unmapped read n) 29 3 = planeCode p ∧ fbit (dropInfo p unmapped read n) 27 = read ∧
      fget (dropInfo p unmapped read n) 0 16 = n := by
  have hp := planeCode_lt p
  simp only [fget, fbit, BitVec.getLsbD, dropInfo, toNat_word, Nat.testBit_eq_decide_div_mod_eq, Nat.shiftRight_eq_div_pow]
  refine ⟨?_, ?_, ?_⟩
  · split <;> split <;> omega
  · cases read <;> split <;> simp <;> omega
  · split <;> split <;> omega

/-- The access that the chip page describes now: its cycle, and the rank of its requester's region (R134). -/
def Chip.setDropAt (c : Chip) (x : Nat × Nat) : Chip := { c with flt := { c.flt with dropAt := some x } }

theorem Chip.setDropAt_rd (c : Chip) (x : Nat × Nat) (a : Nat) : (c.setDropAt x).rd a = c.rd a := rfl

/-- An access that the chip page describes (R114, R134). -/
def Chip.dropTaken (c : Chip) (e : Env) (p : Plane) (a : Nat) (read : Bool) : Chip :=
  (((c.perr e 0x40000000 7).wr Reg.CHIP_DROP_ADDR (word a)).wr Reg.CHIP_DROP_INFO
    (dropInfo p true read (satAdd 16 (c.f Reg.CHIP_DROP_INFO 0 16) 1))).setDropAt (e.time.up, requesterRank p)

/-- An access is described unless one of its cycle is whose requester's region ranks behind its own (R134). -/
theorem Chip.dropRecord_taken {c : Chip} {e : Env} {p : Plane} (h : ∀ x ∈ c.flt.dropAt, x.1 = e.time.up → x.2 ≤ requesterRank p) (a : Nat)
    (read : Bool) : c.dropRecord e p a true read = c.dropTaken e p a read := by
  cases hat : c.flt.dropAt with
  | none => simp only [dropRecord, hat]; rfl
  | some q =>
    have hkept : (q.1 == e.time.up && decide (requesterRank p < q.2)) = false := by
      have hq := h q (by rw [hat, Option.mem_some])
      simpa using hq
    simp only [dropRecord, hat, hkept]
    rfl

/-- An access whose requester's region ranks before that of the access described of its cycle is counted alone (R134). -/
theorem Chip.dropRecord_counted {c : Chip} {e : Env} {p : Plane} {q : Nat × Nat} (hat : c.flt.dropAt = some q) (hnow : q.1 = e.time.up)
    (hrank : requesterRank p < q.2) (a : Nat) (read : Bool) :
    c.dropRecord e p a true read = (c.perr e 0x40000000 7).setF Reg.CHIP_DROP_INFO 0 16 (satAdd 16 (c.f Reg.CHIP_DROP_INFO 0 16) 1) := by
  have hkept : (q.1 == e.time.up && decide (requesterRank p < q.2)) = true := by simp [hnow, hrank]
  simp only [dropRecord, hat, hkept, if_true]

/-- A flag of the chip page changes, beside it, the event log's words alone. -/
theorem Chip.perr_chipPage (c : Chip) (e : Env) (i : Nat) : sameRegs (Reg.PG_ERR 0x40000000 :: logRegs) c (c.perr e 0x40000000 i) := fun a ha => by
  simp only [List.mem_cons, List.not_mem_nil, or_false, not_or] at ha
  exact c.perr_rd_ne e _ i ha.1 ha.2.1 ha.2.2

theorem Chip.perr_unmapped (c : Chip) (e : Env) : (c.perr e 0x40000000 7).b (Reg.PG_ERR 0x40000000) 7 = true :=
  c.perr_set e _ 7 (by decide) (by decide) (by decide)

theorem Chip.dropTaken_rd (c : Chip) (e : Env) (p : Plane) (a : Nat) (read : Bool) (b : Nat) : (c.dropTaken e p a read).rd b =
    if b = Reg.CHIP_DROP_INFO then dropInfo p true read (satAdd 16 (c.f Reg.CHIP_DROP_INFO 0 16) 1)
    else if b = Reg.CHIP_DROP_ADDR then word a else (c.perr e 0x40000000 7).rd b := by
  rw [Chip.dropTaken, Chip.setDropAt_rd, Chip.rd_wr, Chip.rd_wr]

/-- The chip page's flag, and the address, the plane, the kind and the count of an access that it records (R114, R134). -/
theorem Chip.dropTaken_spec (c : Chip) (e : Env) (p : Plane) (a : Nat) (read : Bool) {d : Chip} (hd : d = c.dropTaken e p a read) :
    d.b (Reg.PG_ERR 0x40000000) 7 = true ∧ d.rd Reg.CHIP_DROP_ADDR = word a ∧ d.f Reg.CHIP_DROP_INFO 29 3 = planeCode p ∧
      d.b Reg.CHIP_DROP_INFO 27 = read ∧ d.f Reg.CHIP_DROP_INFO 0 16 = min (c.f Reg.CHIP_DROP_INFO 0 16 + 1) 65535 ∧
      sameRegs (Reg.PG_ERR 0x40000000 :: Reg.CHIP_DROP_ADDR :: Reg.CHIP_DROP_INFO :: logRegs) c d := by
  have hrd := c.dropTaken_rd e p a read
  rw [← hd] at hrd
  have hcount : satAdd 16 (c.f Reg.CHIP_DROP_INFO 0 16) 1 < 2 ^ 16 := by unfold satAdd; omega
  obtain ⟨hplane, hread, hn⟩ := dropInfo_fields p true read hcount
  have hinfo := (hrd Reg.CHIP_DROP_INFO).trans (if_pos rfl)
  refine ⟨?_, ?_, ?_, ?_, ?_, fun b hb => ?_⟩
  · rw [Chip.b, hrd, if_neg (by decide), if_neg (by decide)]
    exact c.perr_unmapped e
  · rw [hrd, if_neg (by decide), if_pos rfl]
  · rw [Chip.f, hinfo, hplane]
  · rw [Chip.b, hinfo, hread]
  · rw [Chip.f, hinfo, hn]
    rfl
  · simp only [List.mem_cons, not_or] at hb
    obtain ⟨herr, haddr, hinfo', hlog⟩ := hb
    rw [hrd, if_neg hinfo', if_neg haddr]
    exact c.perr_chipPage e 7 b (by simpa [herr] using hlog)

/-! ### The commands -/

theorem placeOf_unmapped {a : Nat} (hpage : pageAt a = none) (hwin : windowAt a = none) (pt : Part) : placeOf pt a = .unmapped := by
  simp only [placeOf, hpage, hwin]

theorem exec_unmappedRead_of_unmapped {s : State} {a : Nat} (hpage : pageAt (a / 4 * 4) = none) (hwin : windowAt (a / 4 * 4) = none) (p : Plane) :
    exec (.unmappedRead p a) s = .next { onChip (fun e c => c.dropRecord e p a true true) s with rdata := 0 } := by
  change execUnmappedRead p a s = _
  simp only [execUnmappedRead, placeOf_unmapped hpage hwin]

/-- A write of any size to an unmapped address reaches the chip page, which records it and drops it (R114). -/
theorem exec_registerWrite_unmapped {s : State} {a : Nat} (hpage : pageAt (a / 4 * 4) = none) (hwin : windowAt (a / 4 * 4) = none) (p : Plane)
    (size : Nat) (v : Word) : exec (.registerWrite p a size v) s = .next (onChip (fun e c => c.dropRecord e p a true false) s) := by
  have hcheck : checkWrite s p a size v = .dropped (onChip (fun e c => c.dropRecord e p a true false) s) := by
    simp only [checkWrite, placeOf_unmapped hpage hwin]
  rw [pageAt_word] at hpage
  rw [windowAt_word] at hwin
  have hreach : s.reaches a = true := by simp [State.reaches, homePage, hpage, hwin]
  exact exec_registerWrite_dropped hreach hcheck

end Sys2Proof.Machine

/-- Settles O17: the chip page describes an access, or counts it alone where it describes one of the same cycle whose requester ranks behind. -/
theorem unmappedAccess : Obligations.UnmappedAccess := by
  refine ⟨fun s p a hpage hwin hrank => ?read, fun s p a size v hpage hwin hrank => ?write,
    fun s p a size v q hpage hwin hat hnow hrank => ?second⟩
  case read =>
    obtain ⟨hflag, haddr, hplane, hread, hcount, hregs⟩ := s.chip.dropTaken_spec s.env p a true (Chip.dropRecord_taken hrank a true)
    exact ⟨_, exec_unmappedRead_of_unmapped hpage hwin p, rfl, hflag, haddr, hplane, hread, hcount, rfl, rfl, rfl, rfl, rfl, hregs⟩
  case write =>
    obtain ⟨hflag, haddr, hplane, hread, -, hregs⟩ := s.chip.dropTaken_spec s.env p a false (Chip.dropRecord_taken hrank a false)
    exact ⟨_, exec_registerWrite_unmapped hpage hwin p size v, hflag, haddr, hplane, hread, onChip_onlyChip _ s, hregs⟩
  case second =>
    refine ⟨_, exec_registerWrite_unmapped hpage hwin p size v, ?_, ?_, ?_, onChip_onlyChip _ s, fun b hb => ?_⟩ <;>
      rw [onChip_chip, Chip.dropRecord_counted hat hnow hrank]
    · rw [Chip.rd_setF_ne _ (by decide)]
      exact s.chip.perr_chipPage s.env 7 _ (by decide)
    · rw [Chip.f_setF_same _ _ _ _ _ (by decide)]
      exact Nat.mod_eq_of_lt (by unfold satAdd; omega)
    · rw [Chip.f_setF_apart _ _ _ _ _ _ _ (by decide), Chip.f, s.chip.perr_chipPage s.env 7 _ (by decide), Chip.f]
    · simp only [List.mem_cons, not_or] at hb
      obtain ⟨herr, hinfo, hlog⟩ := hb
      rw [Chip.rd_setF_ne _ hinfo]
      exact s.chip.perr_chipPage s.env 7 b (by simpa [herr] using hlog)
end

section
/-! PROOF. Writes to the cells of a block that restarts (ch. 3, R101; ch. 5, R143, R165). -/
open Sys2Proof Sys2Proof.Machine
namespace Sys2Proof.Machine

/-- A part from reset, in SOLO, whose Management plane has just restarted a block by a write of PG_CTRL (R100). -/
def blockRestarting (page : Nat) : State := pgCtrl page 0x80000000 State.reset

/-- A write of a register of code RW that passes its checks waits while its block restarts, whatever its command would do (R101). -/
theorem onWrite_rw_held {s : State} {p : Plane} {a : Nat} {g : Page} {d : RegDesc} {j : Nat} (hreach : s.reaches a = true) (hword : a % 4 = 0)
    (hplace : placeOf s.env.part a = .reg g d j) (ho : g.owner < 3) (hacc : d.acc = .rw) (hown : s.chip.ownerOk g a p = true)
    (hfence : s.cellFenced g a = false) (hhold : s.holds a = true) (v : Word) (f : Word → State → State) :
    onWrite p a v f s = holdWrite p a v s := by
  simp only [onWrite, hreach, checkWrite_rw hword hplace ho hown hfence hacc v, hhold, if_true]

theorem holdWrite_chip_rd (p : Plane) (a : Nat) (v : Word) (s : State) (b : Nat) : (holdWrite p a v s).chip.rd b = s.chip.rd b := rfl

/-- A hold that the Control plane sets while the SNP block restarts waits (R101). -/
theorem exec_snapshotHoldSet_waits : exec (.snapshotHoldSet .control false) (blockRestarting 0x40003000) =
    .next (holdWrite .control (Reg.SNP_HOLD 0) 1 (blockRestarting 0x40003000)) := by
  have hctl : (blockRestarting 0x40003000).chip.ctl = true := by decide +kernel
  change execSnapshotHoldSet .control false _ = _
  simp only [execSnapshotHoldSet, hctl, if_true]
  exact congrArg _ (onWrite_rw_held (by decide +kernel) (by decide) (g := ⟨0x40003000, .snp, 0, 3, 0x40, 2, 0x0004⟩) (d := regsSnp[0]) (j := 0)
    (by decide +kernel) (by decide) rfl (by decide +kernel) (by decide +kernel) (by decide +kernel) _ _)

/-- An OPEN that the Control plane writes while the GAL block restarts waits (R101). -/
theorem exec_galleyOpen_waits : exec (.galleyOpen .control 0 0) (blockRestarting 0x40002000) =
    .next (holdWrite .control (Reg.GAL_CMD 0) 1 (blockRestarting 0x40002000)) := by
  have hctl : (blockRestarting 0x40002000).chip.ctl = true := by decide +kernel
  change execGalleyOpen .control 0 0 _ = _
  simp only [execGalleyOpen, galCmdWrite, hctl, if_true]
  exact congrArg _ (onWrite_rw_held (by decide +kernel) (by decide) (g := ⟨0x40002000, .gal, 0, 4, 0x100, 2, 0x0003⟩) (d := regsGal[1]) (j := 0)
    (by decide +kernel) (by decide) rfl (by decide +kernel) (by decide +kernel) (by decide +kernel) _ _)

end Sys2Proof.Machine

/-- Refutes O18: while the SNP block restarts, in a Control region that runs, a write of SNP.HOLD waits for its block (R101), so that no hold is in
force yet. -/
theorem not_snapshotHolds : ¬ Obligations.SnapshotHolds := by
  rintro ⟨hset, -⟩
  obtain ⟨t, ht, hheld, -⟩ := hset (blockRestarting 0x40003000) .control false (by decide +kernel) (by decide) (by decide +kernel) (by decide +kernel)
  rw [exec_snapshotHoldSet_waits] at ht
  cases ht
  rw [snapHeld, Chip.b, holdWrite_chip_rd] at hheld
  exact absurd hheld (by decide +kernel)

/-- Refutes O19: while the GAL block restarts, in a Control region that runs, a write of GAL.CMD waits for its block (R101), so that the slot is not
open yet. -/
theorem not_galleyCommands : ¬ Obligations.GalleyCommands := by
  rintro ⟨hopen, -⟩
  obtain ⟨t, ht, -, hstate, -⟩ := hopen (blockRestarting 0x40002000) .control 0 0 (by decide +kernel) (.inl ⟨rfl, by decide⟩) (by decide +kernel)
    (by decide +kernel) (by decide +kernel) (by decide +kernel)
  rw [exec_galleyOpen_waits] at ht
  cases ht
  rw [Chip.slotState, Chip.f, holdWrite_chip_rd] at hstate
  exact absurd hstate (by decide +kernel)
end

section
/-! PROOF. A pair-slot transaction that the partner fails, on a chip whose acceptance order names the pair slot again (ch. 5, R154, R160). -/
open Sys2Proof Sys2Proof.Machine
namespace Sys2Proof.Machine

/-- An ACTIVE chip at the boundary of a pair-slot transaction that it passed and the partner failed with code 0x10. Its acceptance order, of which the
statement asks nothing, names the pair slot twice. -/
def pairFailedTwice : Chip :=
  { (State.reset.chip.setF Reg.QN_STAT 29 3 1).setF (Reg.GAL_STATE 3) 28 4 4 with
    gal := { slots := [(3, { verdict := some 0, partner := some 0x10 })], accepted := [3, 3], cut := [3] } }

end Sys2Proof.Machine

/-- Refutes O20: where the acceptance order names the pair slot a second time, the slot's own failure is that of a transaction accepted before it, and
it shows BASIS_LOST (R154) in the place of PAIR_VERDICT. -/
theorem not_galleyStaging : ¬ Obligations.GalleyStaging := by
  rintro ⟨-, -, -, -, -, -, hjudge⟩
  obtain ⟨-, hcode, -⟩ := hjudge State.reset.env pairFailedTwice 0x10 rfl (by decide +kernel) (by decide +kernel) rfl rfl (by decide) (by decide)
  have hlost : (galJudge State.reset.env pairFailedTwice).f (Reg.GAL_STATE 3) 16 8 = 0x1F := by decide +kernel
  exact absurd (hcode.symm.trans hlost) (by decide)
end

section
/-! PROOF. The local inputs between two freezes: a conversion, the levels of a pulse input, its fault, and the supervisor's sample (ch. 8,
R260 to R262; ch. 6, R206, R207). -/
open Sys2Proof Sys2Proof.Machine
namespace Sys2Proof.Machine

/-! ### Inputs beside their registers -/

@[simp] theorem Chip.pin_setPin (c : Chip) (n : Nat) (x : PinSt) : (c.setPin n x).pin n = x := tget_tset_same _ _ _ _

/-- An analogue input beside its registers, written. -/
def Chip.setAin (c : Chip) (n : Nat) (x : AinSt) : Chip := c.onCen (fun z => { z with ain := tset (fun _ => ({} : AinSt)) z.ain n x })

@[simp] theorem Chip.ain_setAin (c : Chip) (n : Nat) (x : AinSt) : (c.setAin n x).ain n = x := tget_tset_same _ _ _ _

/-- A conversion in µV or nA joins the sum and the count of its input, and is judged against the range of its mode (R260). -/
theorem exec_analogueInputConversion_joins (n : Fin 4) (v : Int) (s : State) : ∃ ok, exec (.analogueInputConversion n v) s =
    .next (onChip (fun _ c => c.setAin n ⟨(s.chip.ain n).sum + v, (s.chip.ain n).count + 1, ok⟩) s) := ⟨_, rfl⟩

/-- A pulse input has nothing but its own state written. -/
theorem setPin_local (n : Nat) (x : PinSt) (s : State) : (onChip (fun _ c => c.setPin n x) s).chip.pin n = x ∧
    onlyChip s (onChip (fun _ c => c.setPin n x) s) ∧ sameRegs [] s.chip (onChip (fun _ c => c.setPin n x) s).chip :=
  ⟨Chip.pin_setPin _ _ _, onChip_onlyChip _ s, fun _ _ => rfl⟩

/-! ### Levels and quadrature steps -/

theorem pinLevel_of_stood {cfg : Word} {x : PinLevel} (h : 2 ^ fget cfg 24 3 ≤ x.stood) (was : Bool) : pinLevel cfg was x = x.high := if_pos h
theorem pinLevel_of_unsettled {cfg : Word} {x : PinLevel} (h : x.stood < 2 ^ fget cfg 24 3) (was : Bool) : pinLevel cfg was x = was :=
  if_neg (not_le.mpr h)

theorem quadStep_self (a b : Bool) : quadStep a b a b = 0 := if_pos ⟨rfl, rfl⟩

/-- A pair of levels that differs is a step up or down by one. -/
theorem quadStep_of_ne {a b a' b' : Bool} (h : ¬ (a = a' ∧ b = b')) : quadStep a b a' b' = 1 ∨ quadStep a b a' b' = -1 := by
  unfold quadStep
  rw [if_neg h]
  split
  · exact .inl rfl
  · exact .inr rfl

/-- A position one quadrature step on. -/
theorem add_quadStep_of_ne (p : BitVec 32) {a b a' b' : Bool} (h : ¬ (a = a' ∧ b = b')) :
    p + BitVec.ofInt 32 (quadStep a b a' b') = p + 1 ∨ p + BitVec.ofInt 32 (quadStep a b a' b') = p - 1 := by
  rcases quadStep_of_ne h with hstep | hstep <;> rw [hstep]
  · exact .inl rfl
  · exact .inr (BitVec.sub_eq_add_neg p 1).symm

/-! ### PULSE_INPUT_EDGE, one equation for each kind of edge -/

section
variable {s : State} {n : Fin 4} {a b : PinLevel}

/-- Levels that have not stood for 2^FILT cycles leave the input. -/
theorem exec_pulseInputEdge_of_unsettled (ha : a.stood < 2 ^ s.chip.f (Reg.CEN_PIN_CFG n) 24 3)
    (hb : b.stood < 2 ^ s.chip.f (Reg.CEN_PIN_CFG n) 24 3) :
    exec (.pulseInputEdge n a b) s = .next (onChip (fun _ c => c.setPin n (s.chip.pin n)) s) := by
  change execPulseInputEdge n a b s = _
  simp [execPulseInputEdge, onChip, pinLevel_of_unsettled ha, pinLevel_of_unsettled hb, quadStep_self]

/-- In quadrature, both levels changing at once are an illegal transition. -/
theorem exec_pulseInputEdge_of_illegal (hused : s.chip.b (Reg.CEN_PIN_CFG n) 31 = true) (hquad : s.chip.f (Reg.CEN_PIN_CFG n) 29 2 = 2)
    (hsa : 2 ^ s.chip.f (Reg.CEN_PIN_CFG n) 24 3 ≤ a.stood) (hsb : 2 ^ s.chip.f (Reg.CEN_PIN_CFG n) 24 3 ≤ b.stood)
    (ha : a.high ≠ (s.chip.pin n).a) (hb : b.high ≠ (s.chip.pin n).b) :
    exec (.pulseInputEdge n a b) s =
      .next (onChip (fun _ c => c.setPin n { s.chip.pin n with a := a.high, b := b.high, ill := true }) s) := by
  rw [Chip.b] at hused
  rw [Chip.f] at hquad
  change execPulseInputEdge n a b s = _
  simp [execPulseInputEdge, onChip, pinLevel_of_stood hsa, pinLevel_of_stood hsb, hused, hquad, ha, hb]

/-- In quadrature, any other pair of levels moves the position by its step while the input is on. -/
theorem exec_pulseInputEdge_of_legal (hused : s.chip.b (Reg.CEN_PIN_CFG n) 31 = true) (hquad : s.chip.f (Reg.CEN_PIN_CFG n) 29 2 = 2)
    (hsa : 2 ^ s.chip.f (Reg.CEN_PIN_CFG n) 24 3 ≤ a.stood) (hsb : 2 ^ s.chip.f (Reg.CEN_PIN_CFG n) 24 3 ≤ b.stood)
    (hlegal : ¬ (a.high ≠ (s.chip.pin n).a ∧ b.high ≠ (s.chip.pin n).b)) :
    exec (.pulseInputEdge n a b) s = .next (onChip (fun _ c => c.setPin n { s.chip.pin n with
      a := a.high, b := b.high,
      pos := if s.chip.b Reg.CEN_IN_STAT (8 + n)
        then (s.chip.pin n).pos + BitVec.ofInt 32 (quadStep (s.chip.pin n).a (s.chip.pin n).b a.high b.high) else (s.chip.pin n).pos }) s) := by
  rw [Chip.b] at hused
  rw [Chip.f] at hquad
  change execPulseInputEdge n a b s = _
  simp only [execPulseInputEdge, onChip, pinLevel_of_stood hsa, pinLevel_of_stood hsb, hused, hquad, if_neg hlegal, Bool.not_true,
    Bool.false_eq_true, if_true, if_false]

/-- In a mode of counting, a rising edge of A is counted and stamped with the present site time and frame. -/
theorem exec_pulseInputEdge_of_rising (hused : s.chip.b (Reg.CEN_PIN_CFG n) 31 = true) (hcount : s.chip.f (Reg.CEN_PIN_CFG n) 29 2 ≠ 2)
    (hwas : (s.chip.pin n).a = false) (hhigh : a.high = true) (hsa : 2 ^ s.chip.f (Reg.CEN_PIN_CFG n) 24 3 ≤ a.stood) :
    exec (.pulseInputEdge n a b) s = .next (onChip (fun e c => c.setPin n { s.chip.pin n with
      a := true, b := pinLevel (s.chip.rd (Reg.CEN_PIN_CFG n)) (s.chip.pin n).b b, edges := (s.chip.pin n).edges + 1,
      stamps := (e.time.site, e.time.frameNo.toNat) :: (s.chip.pin n).stamps }) s) := by
  rw [Chip.b] at hused
  rw [Chip.f] at hcount
  change execPulseInputEdge n a b s = _
  simp [execPulseInputEdge, onChip, pinLevel_of_stood hsa, hused, hcount, hwas, hhigh]

end

/-! ### PIN_FAULT and SUPERVISOR_SAMPLE -/

/-- An illegal transition is counted, and the input is invalid for the frame (R261). -/
theorem exec_pinFault_of_ill {s : State} {n : Fin 4} (h : (s.chip.pin n).ill = true) :
    exec (.pinFault n) s = .next (onChip (fun _ c => (c.setPin n { c.pin n with ill := false, bad := true, faults := (c.pin n).faults + 1 }).setB
      Reg.CEN_EVT 7 true) s) := by
  change execPinFault n s = _
  simp only [execPinFault, onChip, h, if_true]

/-- A crossing writes the registers and the state of the Hedgerow modem and nothing else (R650). -/
theorem hdgCrossing_local (e : Env) (u1 : Int) (c : Chip) : ∃ h r, hdgCrossing e u1 c = { c with hdg := h, regs := r } := by
  unfold hdgCrossing
  split
  · exact ⟨_, _, rfl⟩
  · dsimp only
    split
    · split
      · exact ⟨_, _, rfl⟩
      · cases c.hdg.zcAt <;> exact ⟨_, _, rfl⟩
    · exact ⟨_, _, rfl⟩

theorem exec_supervisorSample_of_ctl {s : State} (hctl : s.chip.ctl = true) (u1 u2 u3 : Int) :
    exec (.supervisorSample u1 u2 u3) s = .next (onChip (fun e c => hdgCrossing e u1 (sagSample (svMagnitude u1 u2 u3) c)) s) := by
  change execSupervisorSample u1 u2 u3 s = _
  simp only [execSupervisorSample, onChip, hctl, if_true]

end Sys2Proof.Machine

/-- Settles O27: each kind of edge leaves a written-out state of its pulse input, and no register takes part. The magnitude of a sample is the
model's reading of R206 (log entry 34). -/
theorem localInputs : Obligations.LocalInputs := by
  refine ⟨fun s n v => ?conversion, fun s n a b hused hquad hsa hsb hone => ?step, fun s n a b hused hquad hsa hsb ha hb => ?illegal,
    fun s n a b hused hcount hwas hhigh hsa => ?rising, fun s n a b ha hb => ?unsettled, fun s n hill => ?fault, fun s u1 u2 u3 hctl => ?sample⟩
  case conversion =>
    obtain ⟨ok, hexec⟩ := exec_analogueInputConversion_joins n v s
    have hain := s.chip.ain_setAin n ⟨(s.chip.ain n).sum + v, (s.chip.ain n).count + 1, ok⟩
    exact ⟨_, hexec, congrArg AinSt.count hain, congrArg AinSt.sum hain, onChip_onlyChip _ s, fun _ _ => rfl⟩
  case step =>
    have hlegal : ¬ (a.high ≠ (s.chip.pin n).a ∧ b.high ≠ (s.chip.pin n).b) := by
      rcases hone with ⟨-, hb⟩ | ⟨ha, -⟩
      · exact fun h => h.2 hb
      · exact fun h => h.1 ha
    have hmoved : ¬ ((s.chip.pin n).a = a.high ∧ (s.chip.pin n).b = b.high) := by
      rcases hone with ⟨ha, -⟩ | ⟨-, hb⟩
      · exact fun h => ha h.1.symm
      · exact fun h => hb h.2.symm
    refine ⟨_, exec_pulseInputEdge_of_legal hused hquad hsa hsb hlegal, ?_⟩
    obtain ⟨hpin, honly, hregs⟩ := setPin_local n _ s
    rw [hpin]
    refine ⟨rfl, rfl, rfl, fun hoff => ?_, fun hon => ?_, honly, hregs⟩
    · simp only [hoff, Bool.false_eq_true, if_false]
    · simp only [hon, if_true]
      exact add_quadStep_of_ne _ hmoved
  case illegal =>
    refine ⟨_, exec_pulseInputEdge_of_illegal hused hquad hsa hsb ha hb, ?_⟩
    obtain ⟨hpin, honly, hregs⟩ := setPin_local n _ s
    rw [hpin]
    exact ⟨rfl, rfl, honly, hregs⟩
  case rising =>
    obtain ⟨hpin, honly, hregs⟩ := setPin_local n _ s
    exact ⟨_, exec_pulseInputEdge_of_rising hused hcount hwas hhigh hsa, congrArg PinSt.edges hpin, congrArg PinSt.stamps hpin, honly, hregs⟩
  case unsettled => exact ⟨_, exec_pulseInputEdge_of_unsettled ha hb, setPin_local n _ s⟩
  case fault =>
    have hpin := s.chip.pin_setPin n { s.chip.pin n with ill := false, bad := true, faults := (s.chip.pin n).faults + 1 }
    exact ⟨_, exec_pinFault_of_ill hill, congrArg PinSt.ill hpin, congrArg PinSt.bad hpin, congrArg PinSt.faults hpin,
      Chip.b_setB_same _ _ _ _ (by decide), onChip_onlyChip _ s, fun _ hr => Chip.rd_setB_ne _ (by simpa using hr)⟩
  case sample =>
    obtain ⟨h, r, hchip⟩ := hdgCrossing_local s.env u1 (sagSample (svMagnitude u1 u2 u3) s.chip)
    refine ⟨_, exec_supervisorSample_of_ctl hctl u1 u2 u3, ?_, ?_, ?_, onChip_onlyChip _ s⟩ <;> rw [onChip_chip, hchip] <;> rfl
end

section
/-! PROOF. The sag hold, from the supervisor's first magnitude outside the band to the freeze that ends it (ch. 6, R206, R210), and the
mark of a loop slot that is to close again (ch. 8, R276). -/
open Sys2Proof Sys2Proof.Machine
namespace Sys2Proof.Machine

/-- While the Control region runs, an entry changes LOG_WR alone. -/
theorem Chip.log1_rd_of_ctl {c : Chip} (hctl : c.ctl = true) (e : Env) (t i k d : Nat) {a : Nat} (h : a ≠ Reg.CHIP_LOG_WR) :
    (c.log1 e t i k d).rd a = c.rd a := by
  rw [Chip.log1, Chip.putAt_of_ctl _ _ hctl, Chip.put_rd_ne _ _ h]

/-- A flag of ALC.EVT set, with an entry of the allocator's engine. -/
def Chip.alcEvent (c : Chip) (e : Env) (i cls d : Nat) : Chip := (c.setB Reg.ALC_EVT i true).log1 e 0x10 8 cls d

@[simp] theorem Chip.alcEvent_alc (c : Chip) (e : Env) (i cls d : Nat) : (c.alcEvent e i cls d).alc = c.alc := Chip.log1_alc _ _ _ _ _ _
@[simp] theorem Chip.alcEvent_img (c : Chip) (e : Env) (i cls d : Nat) : (c.alcEvent e i cls d).img = c.img := Chip.log1_img _ _ _ _ _ _

/-- A flag of ALC.EVT does not stop the Control region. -/
theorem Chip.ctl_setB_EVT (c : Chip) (i : Nat) (x : Bool) : (c.setB Reg.ALC_EVT i x).ctl = c.ctl := Chip.ctl_of_rd (Chip.rd_setB_ne _ (by decide))

section
variable {c : Chip} (hctl : c.ctl = true) (e : Env) (i cls d : Nat)
include hctl

theorem Chip.alcEvent_flagged (hi : i < 32) : (c.alcEvent e i cls d).b Reg.ALC_EVT i = true := by
  rw [Chip.alcEvent, Chip.b, Chip.log1_rd_of_ctl ((c.ctl_setB_EVT i true).trans hctl) _ _ _ _ _ (by decide)]
  exact Chip.b_setB_same _ _ _ _ hi

/-- The flag leaves the ring and LOG_WR, and so the place of the entry. -/
theorem Chip.alcEvent_logged : logged c (c.alcEvent e i cls d) ⟨e.time.stamp, srcWord 0x10 8 cls, word d⟩ := by
  have hplace (en : LogEntry) : c.logNext en = (c.setB Reg.ALC_EVT i true).logNext en := by
    simp +decide [Chip.logNext, Chip.n, Chip.rd_setB]
  rw [logged, hplace]
  exact Chip.log1_entry _ _ _ _ _ _ ((c.ctl_setB_EVT i true).trans hctl)

theorem Chip.alcEvent_regs : sameRegs [Reg.ALC_EVT, Reg.CHIP_LOG_WR] c (c.alcEvent e i cls d) := by
  intro a ha
  simp only [List.mem_cons, List.not_mem_nil, or_false, not_or] at ha
  obtain ⟨hevt, hwr⟩ := ha
  rw [Chip.alcEvent, Chip.log1_rd_of_ctl ((c.ctl_setB_EVT i true).trans hctl) _ _ _ _ _ hwr, Chip.rd_setB_ne _ hevt]

end

/-- SAG_HOLD set: the count of in-band latches begins, and the magnitude that set it is taken. -/
def sagHeld (c : Chip) : Chip := c.onAlc (fun a => { a with sag := true, inBand := 0, first := none })
/-- SAG_HOLD cleared, in the frame's image too (R210). -/
def sagReleased (c : Chip) : Chip := (c.onAlc (fun a => { a with sag := false })).onImg (fun i => { i with sag := false })

theorem exec_sagStart_of_first {s : State} {m : Nat} (hctl : s.chip.ctl = true) (hsag : s.chip.alc.sag = false)
    (hfirst : s.chip.alc.first = some m) : exec .sagStart s = .next (onChip (fun e c => (sagHeld c).alcEvent e 4 1
      ((if c.f Reg.ALC_SAG_NOM 0 16 ≤ m then 2 ^ 31 else 0) + m % 65536)) s) := by
  change execSagStart s = _
  simp only [execSagStart, onChip, hctl, hsag, hfirst, Bool.not_false, Bool.and_self, if_true, decide_eq_true_eq]
  rfl

theorem exec_sagEnd_of_release {s : State} (hctl : s.chip.ctl = true) (hsag : s.chip.alc.sag = true)
    (hrel : s.chip.f Reg.ALC_SAG_CFG 0 8 ≤ s.chip.alc.inBand) :
    exec .sagEnd s = .next (onChip (fun e c => (sagReleased c).alcEvent e 5 2 (c.f Reg.ALC_SAG_MAG 0 16)) s) := by
  change execSagEnd s = _
  simp only [execSagEnd, onChip, hctl, hsag, hrel, decide_true, Bool.and_self, if_true]
  rfl

/-- A slot that tripped for its inputs, with RECLOSE and 64 valid freezes, is marked (R276). -/
theorem exec_slotReclose_of_valid {s : State} {k : Fin 1024} (htrip : (s.chip.cenSlot k).trip = 2)
    (hre : s.chip.b (Reg.CEN_SLOT_CTL k) 30 = true) (hvalid : 64 ≤ (s.chip.cenSlot k).valid) :
    exec (.slotReclose k) s = .next (onChip (fun _ c => c.setCenSlot k { c.cenSlot k with reclose := true }) s) := by
  change execSlotReclose k s = _
  simp only [execSlotReclose, onChip, htrip, hre, hvalid, and_self, if_true]

end Sys2Proof.Machine

/-- Settles O29: the two ends of a hold are events of the allocator over a change of its own state; the mark of a slot, which the next completed
Solve acts on (R276; log entry 20), writes no register. -/
theorem sagHold : Obligations.SagHold := by
  refine ⟨fun s m hctl hsag hfirst => ?start, fun s hctl hsag hrel => ?release, fun s k htrip hre hvalid => ?reclose⟩
  case start =>
    have hheld : (sagHeld s.chip).ctl = true := hctl
    refine ⟨_, exec_sagStart_of_first hctl hsag hfirst, ?_, ?_, Chip.alcEvent_flagged hheld _ _ _ _ (by decide),
      Chip.alcEvent_logged hheld _ _ _ _, onChip_onlyChip _ s, Chip.alcEvent_regs hheld _ _ _ _⟩ <;>
    rw [onChip_chip, Chip.alcEvent_alc] <;> rfl
  case release =>
    have hreleased : (sagReleased s.chip).ctl = true := hctl
    refine ⟨_, exec_sagEnd_of_release hctl hsag hrel, ?_, ?_, Chip.alcEvent_flagged hreleased _ _ _ _ (by decide),
      Chip.alcEvent_logged hreleased _ _ _ _, onChip_onlyChip _ s, Chip.alcEvent_regs hreleased _ _ _ _⟩
    · rw [onChip_chip, Chip.alcEvent_alc]; rfl
    · rw [onChip_chip, Chip.alcEvent_img]; rfl
  case reclose =>
    refine ⟨_, exec_slotReclose_of_valid htrip hre hvalid, ?_, ?_, ?_, onChip_onlyChip _ s, fun _ _ => rfl⟩ <;>
      rw [onChip_chip, Chip.cenSlot_setCenSlot]
end

section
/-! PROOF. A failed opening of a stage whose fence shows in its XPT page alone (ch. 3, R774; ch. 7, R237). -/
open Sys2Proof Sys2Proof.Machine
namespace Sys2Proof.Machine

/-- A part from reset whose move slot 0 has timed out at step 4 of stage 0, with no evaluation waiting. The fence map of the stage's XPT page shows the
stage fenced and that of its ALC page does not, which R774 rules out and the statement does not. -/
def openingFailsHalfFenced : State :=
  { State.reset with chip :=
    { (State.reset.chip.wr (Reg.MOV_SLOT_A 0) (word (2 ^ 31 + 4 * 2 ^ 24))).setB (Reg.PG_FENCEMAP 0x4000E000 0) 0 true with
      mov := { State.reset.chip.mov with slots := [(0, { late := true })] } } }

/-- `movFence` reads the stage's ALC map and `Chip.fence` its XPT map, which takes the cell for fenced and leaves the chip as it is. -/
theorem stepTimeout_leaves_stage_unfenced : ∀ t, exec (.stepTimeout 0) openingFailsHalfFenced = .next t → t.chip.stageFenced 0 = false := by
  rintro t ⟨⟩
  decide +kernel

end Sys2Proof.Machine

/-- Refutes O28: the fence of a failed opening (R237) is asked for in the stage's XPT page and has no effect where that page's map shows it already, so
that a stage whose ALC page does not show it is not fenced there either. The statement does not ask that the two maps agree (R774). -/
theorem not_stageSwitching : ¬ Obligations.StageSwitching := by
  rintro ⟨-, -, -, -, hopening, -⟩
  obtain ⟨t, ht, -, -, -, -, hfenced, -⟩ := hopening openingFailsHalfFenced 0 (by decide +kernel) (by decide +kernel) rfl (.inl (by decide +kernel))
  have hstage : movStage openingFailsHalfFenced.chip 0 = 0 := by decide +kernel
  exact absurd (hstage ▸ hfenced) (by simp [stepTimeout_leaves_stage_unfenced t ht])
end

section
/-! PROOF. The commands of a motion axis and its faults (ch. 8, R281 to R283). -/
open Sys2Proof Sys2Proof.Machine
namespace Sys2Proof.Machine

/-! ### An axis beside its registers, and its entries in the log -/

theorem Chip.axis_of_cen {c d : Chip} (h : d.cen = c.cen) (a : Nat) : d.axis a = c.axis a := by rw [Chip.axis, h, Chip.axis]

@[simp] theorem Chip.axis_setAxis (c : Chip) (a : Nat) (x : AxisSt) : (c.setAxis a x).axis a = x := tget_tset_same _ _ _ _

/-- The words of the axes lie above those of the log and of the slots' instances. -/
theorem axStat_ge (a : Nat) : 0x4002F424 ≤ Reg.CEN_AX_STAT a := Nat.le_add_right _ _

theorem axStat_ne_evt (a : Nat) : Reg.CEN_AX_STAT a ≠ Reg.CEN_EVT := Nat.ne_of_gt (Nat.lt_of_lt_of_le (by decide) (axStat_ge a))

theorem notMem_logRegs_of_ge {r : Nat} (h : 0x4002F424 ≤ r) : r ∉ logRegs := by
  simp only [Reg.CHIP_LOG_WR, Reg.CHIP_LOG_LOST, List.mem_cons, List.not_mem_nil, or_false]
  omega

theorem axStat_notMem_logRegs (a : Nat) : Reg.CEN_AX_STAT a ∉ logRegs := notMem_logRegs_of_ge (axStat_ge a)

theorem axPsp_notMem_logRegs (a : Nat) : Reg.CEN_AX_PSP a ∉ logRegs := notMem_logRegs_of_ge (Nat.le_add_right_of_le (by decide))

/-- An entry writes the log's words alone. -/
theorem Chip.log1_sameRegs (c : Chip) (e : Env) (t i k d : Nat) : sameRegs logRegs c (c.log1 e t i k d) := fun r h => by
  simp only [List.mem_cons, List.not_mem_nil, or_false, not_or] at h
  obtain ⟨hwr, hlost⟩ := h
  exact Chip.log1_rd_ne _ _ _ _ _ _ hwr hlost

theorem axLog_sameRegs (e : Env) (a : Nat) (old new : Word) (c : Chip) : sameRegs logRegs c (axLog e a old new c) := by
  unfold axLog
  split
  · exact fun _ _ => rfl
  · exact Chip.log1_sameRegs _ _ _ _ _ _

@[simp] theorem axLog_cen (e : Env) (a : Nat) (old new : Word) (c : Chip) : (axLog e a old new c).cen = c.cen := by
  unfold axLog
  split
  · rfl
  · exact Chip.log1_cen _ _ _ _ _ _

/-! ### A latched command, accepted or refused (R282) -/

/-- A command of an axis in use is latched, and no results of a Solve stand uncommitted (log entry 20). -/
def axLatched (a cmd : Nat) (s : State) : Prop :=
  s.env.part.hasAxes = true ∧ s.chip.b (Reg.CEN_AX_CFG a) 31 = true ∧ (s.chip.axis a).cmd = cmd ∧ s.chip.cen.res = none

/-- The latched command taken, whatever comes of it. -/
def axTaken (a : Nat) (c : Chip) : Chip := c.setAxis a { c.axis a with cmd := 0 }

/-- An accepted command leaves the chip `d` and logs a change of the axis's state. -/
def axDone (a : Nat) (d : Chip) (s : State) : State :=
  onChip (fun e c => axLog e a (c.rd (Reg.CEN_AX_STAT a)) (d.rd (Reg.CEN_AX_STAT a)) d) s

/-- A refused command sets CMD_REFUSED. -/
def axRefused (a : Nat) (s : State) : State := onChip (fun _ c => (axTaken a c).setB Reg.CEN_EVT 5 true) s

@[simp] theorem axTaken_axis (a : Nat) (c : Chip) : (axTaken a c).axis a = { c.axis a with cmd := 0 } := Chip.axis_setAxis _ _ _

section
variable {a cmd : Nat} {s : State} {d : Chip} {f : Env → Chip → Option Chip}

theorem axCommand_accepted (h : axLatched a cmd s) (hf : f s.env (axTaken a s.chip) = some d) : axCommand a cmd f s = axDone a d s := by
  obtain ⟨hax, hused, hcmd, hres⟩ := h
  rw [axTaken] at hf
  simp [axCommand, axDone, onChip, hax, hused, hcmd, hres, hf]

theorem axCommand_refused (h : axLatched a cmd s) (hf : f s.env (axTaken a s.chip) = none) : axCommand a cmd f s = axRefused a s := by
  obtain ⟨hax, hused, hcmd, hres⟩ := h
  rw [axTaken] at hf
  simp [axCommand, axRefused, axTaken, onChip, hax, hused, hcmd, hres, hf]

theorem axDone_rd_ne {r : Nat} (h : r ∉ logRegs) : (axDone a d s).chip.rd r = d.rd r := axLog_sameRegs _ _ _ _ _ _ h

theorem axDone_axStat : (axDone a d s).chip.rd (Reg.CEN_AX_STAT a) = d.rd (Reg.CEN_AX_STAT a) := axDone_rd_ne (axStat_notMem_logRegs a)

/-- STATE is a field of AX_STAT, which an entry of the log leaves. -/
theorem axDone_axState : axState (axDone a d s).chip a = axState d a := congrArg (fget · 28 4) axDone_axStat

theorem axDone_axis : (axDone a d s).chip.axis a = d.axis a := Chip.axis_of_cen (axLog_cen _ _ _ _ d) a

/-- A command that writes registers alone has been taken. -/
theorem axDone_cmd (h : d.cen = (axTaken a s.chip).cen) : ((axDone a d s).chip.axis a).cmd = 0 := by
  rw [axDone_axis, Chip.axis_of_cen h, axTaken_axis]

/-- A command that writes the words `l` changes these and the log's. -/
theorem axDone_sameRegs {l : List Nat} (h : sameRegs l s.chip d) : sameRegs (l ++ logRegs) s.chip (axDone a d s).chip := fun r hr => by
  obtain ⟨hl, hlog⟩ := not_or.mp (mt List.mem_append.mpr hr)
  exact (axDone_rd_ne hlog).trans (h r hl)

/-- A command that changes the state of its axis and nothing else of it. -/
theorem axDone_setState {x : Nat} (hx : x < 16) {t : State} (ht : t = axDone a ((axTaken a s.chip).setF (Reg.CEN_AX_STAT a) 28 4 x) s) :
    axState t.chip a = x ∧ (t.chip.axis a).cmd = 0 ∧ onlyChip s t ∧ sameRegs ([Reg.CEN_AX_STAT a] ++ logRegs) s.chip t.chip := by
  subst ht
  refine ⟨?_, axDone_cmd rfl, onChip_onlyChip _ s, axDone_sameRegs fun r hr => Chip.rd_setF_ne _ (by simpa using hr)⟩
  rw [axDone_axState, axState, Chip.f_setF_same _ _ _ _ _ (by decide)]
  exact Nat.mod_eq_of_lt hx

end

/-! ### The commands in the states that accept them -/

section
variable {s : State} {a : Fin 8}

theorem exec_axisEnable_of_off (h : axLatched a 1 s) (hoff : axState s.chip a = 0) (hstop : s.chip.b (Reg.CEN_AX_STAT a) 22 = false) :
    exec (.axisEnable a) s = .next (axDone a ((((axTaken a s.chip).setF (Reg.CEN_AX_STAT a) 28 4 1).wr (Reg.CEN_AX_PSP a)
      (fOfInt (sgn (s.chip.rd (Reg.CEN_AX_POS a))))).setAxis a { (axTaken a s.chip).axis a with vel := 0, fe := 0 }) s) :=
  congrArg Host.Outcome.next (axCommand_accepted h (if_pos ⟨hoff, (Bool.not_eq_true' _).mpr hstop⟩))

theorem exec_axisMove_of_inLimits (h : axLatched a 2 s) (hst : axState s.chip a = 1 ∨ axState s.chip a = 2)
    (hlim : axInLimits s.chip a (s.chip.axis a).tgt = true) :
    exec (.axisMove a) s = .next (axDone a (((axTaken a s.chip).setF (Reg.CEN_AX_STAT a) 28 4 2).setAxis a
      { (axTaken a s.chip).axis a with goal := (s.chip.axis a).tgt }) s) := by
  refine congrArg Host.Outcome.next (axCommand_accepted h ?_)
  simp only [axTaken_axis]
  exact if_pos ⟨hst, hlim⟩

theorem exec_axisStop_of_move (h : axLatched a 3 s) (hst : axState s.chip a = 2) :
    exec (.axisStop a) s = .next (axDone a ((axTaken a s.chip).setF (Reg.CEN_AX_STAT a) 28 4 3) s) :=
  congrArg Host.Outcome.next (axCommand_accepted h (if_pos hst))

theorem exec_axisStop_refused (h : axLatched a 3 s) (hst : axState s.chip a ≠ 2) : exec (.axisStop a) s = .next (axRefused a s) :=
  congrArg Host.Outcome.next (axCommand_refused h (if_neg hst))

theorem exec_axisReset_of_fault (h : axLatched a 5 s) (hst : axState s.chip a = 4) :
    exec (.axisReset a) s = .next (axDone a ((axTaken a s.chip).setF (Reg.CEN_AX_STAT a) 28 4 0) s) :=
  congrArg Host.Outcome.next (axCommand_accepted h (if_pos hst))

/-- What DISABLE makes of AX_STAT in HOLD, in MOVE and in STOP. -/
def axDisabled (a : Nat) (c : Chip) : Chip :=
  if axState c a = 1 then c.setF (Reg.CEN_AX_STAT a) 28 4 0
  else (if axState c a = 2 then c.setF (Reg.CEN_AX_STAT a) 28 4 3 else c).setB (Reg.CEN_AX_STAT a) 21 true

theorem exec_axisDisable_accepted (h : axLatched a 4 s) (hst : axState s.chip a = 1 ∨ axState s.chip a = 2 ∨ axState s.chip a = 3) :
    exec (.axisDisable a) s = .next (axDone a (axDisabled a (axTaken a s.chip)) s) := by
  refine congrArg Host.Outcome.next (axCommand_accepted h ?_)
  have htaken : axState (axTaken a s.chip) a = axState s.chip a := rfl
  rcases hst with hst | hst | hst <;> simp [axDisabled, htaken, hst]

end

theorem axDisabled_rd_ne {a r : Nat} (h : r ≠ Reg.CEN_AX_STAT a) (c : Chip) : (axDisabled a c).rd r = c.rd r := by
  unfold axDisabled
  split
  · exact Chip.rd_setF_ne _ h
  · rw [Chip.rd_setB_ne _ h]
    split
    · exact Chip.rd_setF_ne _ h
    · rfl

theorem axDisabled_cen (a : Nat) (c : Chip) : (axDisabled a c).cen = c.cen := by
  unfold axDisabled
  split
  · rfl
  · split <;> rfl

/-- HOLD goes to OFF; MOVE and STOP to STOP. -/
theorem axDisabled_axState {a : Nat} {c : Chip} (hst : axState c a = 1 ∨ axState c a = 2 ∨ axState c a = 3) :
    axState (axDisabled a c) a = if axState c a = 1 then 0 else 3 := by
  unfold axDisabled
  split
  · exact Chip.f_setF_same _ _ _ _ _ (by decide)
  · rw [axState, Chip.f_setB_apart _ _ _ _ _ _ (by decide)]
    split
    · exact Chip.f_setF_same _ _ _ _ _ (by decide)
    · exact (hst.resolve_left ‹_›).resolve_left ‹_›

/-- DIS_PEND is set but in HOLD. -/
theorem axDisabled_disPend {a : Nat} {c : Chip} (hst : axState c a ≠ 1) : (axDisabled a c).b (Reg.CEN_AX_STAT a) 21 = true := by
  rw [axDisabled, if_neg hst]
  exact Chip.b_setB_same _ _ _ _ (by decide)

/-! ### A met fault cause (R283) -/

/-- AX_STAT of an axis in FAULT: the cause shown, and no DISABLE pending. -/
def axFaultWord (a : Nat) (c : Chip) : Word :=
  fsetb (fset (fset (c.rd (Reg.CEN_AX_STAT a)) 28 4 4) 24 4 (c.axis a).faultDue) 21 false

/-- The axis enters FAULT: the cause is taken, shown, flagged and logged. -/
def axFaulted (e : Env) (a : Nat) (c : Chip) : Chip :=
  axLog e a (c.rd (Reg.CEN_AX_STAT a)) (axFaultWord a c)
    (((c.setAxis a { c.axis a with faultDue := 0, fe := 0, vel := 0 }).wr (Reg.CEN_AX_STAT a) (axFaultWord a c)).setB Reg.CEN_EVT 6 true)

/-- The axis's slot trips with cause AXIS, unless it has (R275, R283). -/
def axSlotTripped (e : Env) (slot : Nat) (c : Chip) : Chip :=
  if (c.cenSlot slot).trip ≠ 4 then
    cenShow slot (((c.setCenSlot slot (cenTripped c slot 4 (c.cenSlot slot))).setB Reg.CEN_EVT 0 true).log1 e 0x14 (slot / 64) 0x01
      (4 * 2 ^ 28 + slot))
  else c

theorem exec_axisFault_of_due {s : State} {a : Fin 8} (hax : s.env.part.hasAxes = true) (hused : s.chip.b (Reg.CEN_AX_CFG a) 31 = true)
    (hres : s.chip.cen.res = none) (hdue : (s.chip.axis a).faultDue ≠ 0) (hoff : axState s.chip a ≠ 0) (hfault : axState s.chip a ≠ 4) :
    exec (.axisFault a) s =
      .next (onChip (fun e c => axSlotTripped e (c.f (Reg.CEN_AX_CFG a) 0 10) (axFaulted e a c)) s) := by
  change execAxisFault a s = _
  simp only [execAxisFault, onChip, hax, hused, hres, hdue, hoff, hfault, Option.isNone_none, ne_eq, not_false_eq_true, decide_true,
    Bool.and_self, or_self, if_true, if_false]
  rfl

/-- A slot is shown in the words of its own instance, which hold neither CEN.EVT nor an axis. -/
theorem cenShow_rd {slot r : Nat} (hslot : slot < 1024) (hr : r = Reg.CEN_EVT ∨ ∃ a, r = Reg.CEN_AX_STAT a) (c : Chip) :
    (cenShow slot c).rd r = c.rd r := by
  have hplace : r = 0x4001F100 ∨ 0x4002F424 ≤ r := by
    rcases hr with rfl | ⟨a, rfl⟩
    · exact .inl rfl
    · exact .inr (axStat_ge a)
  by_cases h : slot % 64 < 32 <;>
  simp (disch := (simp only [Reg.CEN_CLOSED_LO, Reg.CEN_CLOSED_HI, Reg.CEN_TRIP_LO, Reg.CEN_TRIP_HI, Reg.CEN_CAUSE, Reg.CEN_SLOT_OUT]; omega))
    only [cenShow, h, if_true, if_false, Chip.rd_wr_ne, Chip.rd_setF_ne, Chip.rd_setB_ne]

theorem axSlotTripped_axStat (e : Env) {slot : Nat} (hslot : slot < 1024) (a : Nat) (c : Chip) :
    (axSlotTripped e slot c).rd (Reg.CEN_AX_STAT a) = c.rd (Reg.CEN_AX_STAT a) := by
  unfold axSlotTripped
  split
  · rw [cenShow_rd hslot (.inr ⟨a, rfl⟩), Chip.log1_sameRegs _ _ _ _ _ _ _ (axStat_notMem_logRegs a)]
    exact Chip.rd_setB_ne _ (axStat_ne_evt a)
  · rfl

/-- The trip sets its own flag of CEN.EVT beside the others. -/
theorem axSlotTripped_evt (e : Env) {slot : Nat} (hslot : slot < 1024) {i : Nat} (hi : i ≠ 0) (c : Chip) :
    (axSlotTripped e slot c).b Reg.CEN_EVT i = c.b Reg.CEN_EVT i := by
  unfold axSlotTripped
  split
  · rw [Chip.b, cenShow_rd hslot (.inl rfl), Chip.log1_sameRegs _ _ _ _ _ _ _ (by decide)]
    exact Chip.b_setB_apart _ _ _ _ _ hi
  · rfl

theorem cenShow_cen (slot : Nat) (c : Chip) : (cenShow slot c).cen = c.cen := rfl

theorem axSlotTripped_axis (e : Env) (slot a : Nat) (c : Chip) : (axSlotTripped e slot c).axis a = c.axis a := by
  unfold axSlotTripped
  split
  · exact Chip.axis_of_cen ((cenShow_cen _ _).trans (Chip.log1_cen _ _ _ _ _ _)) a
  · rfl

theorem axFaulted_axStat (e : Env) (a : Nat) (c : Chip) : (axFaulted e a c).rd (Reg.CEN_AX_STAT a) = axFaultWord a c := by
  rw [axFaulted, axLog_sameRegs _ _ _ _ _ _ (axStat_notMem_logRegs a), Chip.rd_setB_ne _ (axStat_ne_evt a), Chip.rd_wr_same]

theorem axFaulted_evt (e : Env) (a : Nat) (c : Chip) : (axFaulted e a c).b Reg.CEN_EVT 6 = true := by
  rw [axFaulted, Chip.b, axLog_sameRegs _ _ _ _ _ _ (by decide)]
  exact Chip.b_setB_same _ _ _ _ (by decide)

theorem axFaulted_axis (e : Env) (a : Nat) (c : Chip) : (axFaulted e a c).axis a = { c.axis a with faultDue := 0, fe := 0, vel := 0 } := by
  rw [axFaulted, Chip.axis_of_cen (axLog_cen _ _ _ _ _)]
  exact Chip.axis_setAxis _ _ _

theorem axFaultWord_state (a : Nat) (c : Chip) : fget (axFaultWord a c) 28 4 = 4 := by
  rw [axFaultWord, fget_fsetb_ne _ _ _ _ _ (by decide), fget_fset_ne _ _ _ _ _ _ (by decide)]
  exact fget_fset_same _ _ _ _ (by decide)

theorem axFaultWord_cause {a : Nat} {c : Chip} (h : (c.axis a).faultDue < 16) : fget (axFaultWord a c) 24 4 = (c.axis a).faultDue := by
  rw [axFaultWord, fget_fsetb_ne _ _ _ _ _ (by decide), fget_fset_same _ _ _ _ (by decide)]
  exact Nat.mod_eq_of_lt h

end Sys2Proof.Machine

/-- Settles O26: an accepted command leaves a written-out chip and at most an entry of the log, and a fault trips the axis's slot in words that hold
neither the axis nor its flag. That commands and faults wait for a Solve's results is log entry 20. -/
theorem axisCommands : Obligations.AxisCommands := by
  refine ⟨fun s a hax hused hcmd hres hst hstop => ?enable, fun s a hax hused hcmd hres hst hlim => ?move,
    fun s a hax hused hcmd hres hst => ?stop, fun s a hax hused hcmd hres hst => ?disable, fun s a hax hused hcmd hres hst => ?reset,
    fun s a hax hused hcmd hres hst => ?refused, fun s a hax hused hres hdue hcause hoff hfault => ?fault⟩
  case enable =>
    have hpsp : Reg.CEN_AX_STAT a ≠ Reg.CEN_AX_PSP a := by simp [Reg.CEN_AX_STAT, Reg.CEN_AX_PSP]
    refine ⟨_, exec_axisEnable_of_off ⟨hax, hused, hcmd, hres⟩ hst hstop, ?_, (axDone_rd_ne (axPsp_notMem_logRegs a)).trans (Chip.rd_wr_same _ _ _),
      ?_, onChip_onlyChip _ s, axDone_sameRegs (l := [Reg.CEN_AX_STAT a, Reg.CEN_AX_PSP a]) fun r hr => ?_⟩
    · exact axDone_axState.trans ((Chip.f_wr_ne _ _ _ _ hpsp).trans (Chip.f_setF_same _ _ _ _ _ (by decide)))
    · rw [axDone_axis, Chip.axis_setAxis, axTaken_axis]
    · simp only [List.mem_cons, List.not_mem_nil, or_false, not_or] at hr
      obtain ⟨hrstat, hrpsp⟩ := hr
      exact (Chip.rd_wr_ne _ _ hrpsp).trans (Chip.rd_setF_ne _ hrstat)
  case move =>
    refine ⟨_, exec_axisMove_of_inLimits ⟨hax, hused, hcmd, hres⟩ hst hlim, axDone_axState.trans (Chip.f_setF_same _ _ _ _ _ (by decide)), ?_, ?_,
      onChip_onlyChip _ s, axDone_sameRegs (l := [Reg.CEN_AX_STAT a]) fun r hr => Chip.rd_setF_ne _ (by simpa using hr)⟩ <;>
    rw [axDone_axis, Chip.axis_setAxis, axTaken_axis]
  case stop => exact ⟨_, exec_axisStop_of_move ⟨hax, hused, hcmd, hres⟩ hst, axDone_setState (by decide) rfl⟩
  case disable =>
    refine ⟨_, exec_axisDisable_accepted ⟨hax, hused, hcmd, hres⟩ hst, axDone_axState.trans (axDisabled_axState hst), fun hne => ?_,
      axDone_cmd (axDisabled_cen _ _), onChip_onlyChip _ s, axDone_sameRegs (l := [Reg.CEN_AX_STAT a]) fun r hr => axDisabled_rd_ne (by simpa using hr) _⟩
    rw [Chip.b, axDone_axStat]
    exact axDisabled_disPend hne
  case reset => exact ⟨_, exec_axisReset_of_fault ⟨hax, hused, hcmd, hres⟩ hst, axDone_setState (by decide) rfl⟩
  case refused =>
    exact ⟨_, exec_axisStop_refused ⟨hax, hused, hcmd, hres⟩ hst, Chip.b_setB_same _ _ _ _ (by decide), Chip.f_setB_ne _ _ _ _ _ (axStat_ne_evt a),
      congrArg AxisSt.cmd (axTaken_axis a s.chip), onChip_onlyChip _ s, fun r hr => Chip.rd_setB_ne _ (by simpa using hr)⟩
  case fault =>
    have hslot : s.chip.f (Reg.CEN_AX_CFG a) 0 10 < 1024 := fget_lt _ _ _
    have hstat := (axSlotTripped_axStat s.env hslot a _).trans (axFaulted_axStat s.env a s.chip)
    refine ⟨_, exec_axisFault_of_due hax hused hres hdue hoff hfault, ?_, ?_, ?_, ?_, onChip_onlyChip _ s⟩
    · exact (congrArg (fget · 28 4) hstat).trans (axFaultWord_state a s.chip)
    · exact (congrArg (fget · 24 4) hstat).trans (axFaultWord_cause hcause)
    · exact (axSlotTripped_evt s.env hslot (by decide) _).trans (axFaulted_evt s.env a s.chip)
    · exact congrArg AxisSt.faultDue ((axSlotTripped_axis s.env _ a _).trans (axFaulted_axis s.env a s.chip))
end

section
/-! PROOF. A sensor's suspect mark and an outlet without records (ch. 9, R292, R307, R310). -/
open Sys2Proof Sys2Proof.Machine
namespace Sys2Proof.Machine

/-- An entry over a chip whose ring and LOG_WR still stand goes to the place that the ring before gives it. -/
theorem logged_log1 {c d : Chip} (hlog : d.log = c.log) (hwr : d.rd Reg.CHIP_LOG_WR = c.rd Reg.CHIP_LOG_WR) (hctl : d.ctl = true) (e : Env)
    (t i k x : Nat) : logged c (d.log1 e t i k x) ⟨e.time.stamp, srcWord t i k, word x⟩ := by
  have hplace (en : LogEntry) : c.logNext en = d.logNext en := by rw [Chip.logNext, Chip.logNext, Chip.n, Chip.n, hlog, hwr]
  rw [logged, hplace]
  exact Chip.log1_entry _ _ _ _ _ _ hctl

theorem thmOstat_ne_evt (o i : Nat) : Reg.THM_OSTAT o ≠ Reg.THM_EVT i := by
  simp only [Reg.THM_OSTAT, Reg.THM_EVT]; omega

/-- The words of the THM pages lie apart from the chip page. -/
theorem chipPage_ne_thm {a : Nat} (h : a < 0x40030000) (o : Nat) : a ≠ Reg.THM_OSTAT o ∧ a ≠ Reg.THM_EVT (o / 32) := by
  simp only [Reg.THM_OSTAT, Reg.THM_EVT]; omega

/-! ### SENSOR_SUSPECT -/

/-- A sensor that is due to be suspect is marked, shown and flagged (R307). -/
def suspectMarked (o k : Nat) (c : Chip) : Chip :=
  (thmSetMarks o (thmMarks c o ||| 2 ^ k) (c.setThmOut o { c.thmOut o with due := (c.thmOut o).due ^^^ 2 ^ k })).setB
    (Reg.THM_EVT (o / 32)) 3 true

theorem suspectMarked_rd (o k : Nat) (c : Chip) (a : Nat) : (suspectMarked o k c).rd a =
    if a = Reg.THM_EVT (o / 32) then fsetb (c.rd (Reg.THM_EVT (o / 32))) 3 true
    else if a = Reg.THM_OSTAT o then fset (c.rd (Reg.THM_OSTAT o)) 18 6 (thmMarks c o ||| 2 ^ k) else c.rd a := by
  simp only [suspectMarked, thmSetMarks, Chip.rd_setB, Chip.rd_setF, (thmOstat_ne_evt o (o / 32)).symm, if_false]
  rfl

@[simp] theorem suspectMarked_log (o k : Nat) (c : Chip) : (suspectMarked o k c).log = c.log := rfl

theorem suspectMarked_marks (o k : Nat) (c : Chip) : thmMarks (suspectMarked o k c) o = thmMarks c o ||| 2 ^ k := tget_tset_same _ _ _ _

theorem suspectMarked_thmOut (o k : Nat) (c : Chip) :
    (suspectMarked o k c).thmOut o = { c.thmOut o with due := (c.thmOut o).due ^^^ 2 ^ k } := tget_tset_same _ _ _ _

theorem suspectMarked_rd_chipPage (o k : Nat) (c : Chip) {a : Nat} (h : a < 0x40030000) : (suspectMarked o k c).rd a = c.rd a := by
  obtain ⟨hstat, hevt⟩ := chipPage_ne_thm h o
  rw [suspectMarked_rd, if_neg hevt, if_neg hstat]

theorem exec_sensorSuspect_of_due {s : State} {o : Fin 64} {k : Fin 6} (hctl : s.chip.ctl = true)
    (hdue : (s.chip.thmOut o).due.testBit k = true) : exec (.sensorSuspect o k) s =
    .next (onChip (fun e c => (suspectMarked o k c).log1 e 0x15 (o / 32) 0x02 (k.val * 256 + o.val)) s) := by
  change execSensorSuspect o k s = _
  simp only [execSensorSuspect, onChip, hctl, hdue, Bool.and_self, if_true]
  rfl

/-! ### STALE -/

/-- An outlet shown stale and limited; LIMITED is flagged where it was not in force (R292, R310). -/
def staleShown (o : Nat) (c : Chip) : Chip :=
  let c1 := if c.b (Reg.THM_OSTAT o) 29 then c else c.setB (Reg.THM_EVT (o / 32)) 4 true
  ((c1.setB (Reg.THM_OSTAT o) 28 true).setB (Reg.THM_OSTAT o) 29 true).setB (Reg.THM_EVT (o / 32)) 5 true

theorem staleShown_rd (o : Nat) (c : Chip) (a : Nat) : (staleShown o c).rd a =
    if a = Reg.THM_EVT (o / 32) then
      fsetb (if c.b (Reg.THM_OSTAT o) 29 then c.rd (Reg.THM_EVT (o / 32)) else fsetb (c.rd (Reg.THM_EVT (o / 32))) 4 true) 5 true
    else if a = Reg.THM_OSTAT o then fsetb (fsetb (c.rd (Reg.THM_OSTAT o)) 28 true) 29 true else c.rd a := by
  unfold staleShown
  have hne := thmOstat_ne_evt o (o / 32)
  by_cases hevt : a = Reg.THM_EVT (o / 32)
  · subst hevt
    split <;> simp only [Chip.rd_setB, hne.symm, if_true, if_false]
  · by_cases hstat : a = Reg.THM_OSTAT o
    · subst hstat
      split <;> simp only [Chip.rd_setB, hne, if_true, if_false]
    · split <;> simp only [Chip.rd_setB, hevt, hstat, if_false]

theorem staleShown_ostat (o : Nat) (c : Chip) :
    (staleShown o c).rd (Reg.THM_OSTAT o) = fsetb (fsetb (c.rd (Reg.THM_OSTAT o)) 28 true) 29 true := by
  rw [staleShown_rd, if_neg (thmOstat_ne_evt _ _), if_pos rfl]

/-- The flags: STALE always, LIMITED where the outlet was not limited before. -/
theorem staleShown_flags (o : Nat) (c : Chip) : (staleShown o c).b (Reg.THM_EVT (o / 32)) 5 = true ∧
    (c.b (Reg.THM_OSTAT o) 29 = false → (staleShown o c).b (Reg.THM_EVT (o / 32)) 4 = true) := by
  refine ⟨?_, fun hlim => ?_⟩ <;> rw [Chip.b, staleShown_rd, if_pos rfl]
  · exact fbit_fsetb_same _ _ _ (by decide)
  · rw [hlim, if_neg Bool.false_ne_true, fbit_fsetb_ne _ _ (by decide), fbit_fsetb_same _ _ _ (by decide)]

theorem exec_stale_of_missed {s : State} {o : Fin 64} (hctl : s.chip.ctl = true) (hfence : s.chip.outletFenced o = false)
    (hmiss : 4 ≤ (s.chip.outIn o).missRun) (hstale : s.chip.b (Reg.THM_OSTAT o) 28 = false) :
    exec (.stale o) s = .next (onChip (fun _ => staleShown o) s) := by
  change execStale o s = _
  simp only [execStale, onChip, hctl, hfence, hmiss, hstale, Bool.not_false, decide_true, Bool.and_self, if_true]
  rfl

end Sys2Proof.Machine
end

section
/-! PROOF. What the regions that go down leave of housekeeping and of Hedgerow's transmit ring, and the memory that is cut with them (ch. 3, R108;
ch. 19, R655). -/
open Sys2Proof Sys2Proof.Machine
namespace Sys2Proof.Machine

/-! ### Effects on the outputs -/

/-- A reading of the chip into which the words and the channels of PWM and of the auxiliary switches do not enter. -/
structure Chip.OffOutputs {γ : Type} (g : Chip → γ) : Prop where
  wr : ∀ (c : Chip) {a : Nat} (v : Word), 0x70005000 ≤ a → g (c.wr a v) = g c
  pwmCh : ∀ (c : Chip) (j : Nat) (p : PwmCh), g (c.setPwmCh j p) = g c
  aswCh : ∀ (c : Chip) (j : Nat) (x : AswCh), g (c.setAswCh j x) = g c

namespace Chip.OffOutputs
variable {γ : Type} {g : Chip → γ} (hg : Chip.OffOutputs g)
include hg

theorem setF (c : Chip) {a : Nat} (lo w n : Nat) (h : 0x70005000 ≤ a) : g (c.setF a lo w n) = g c := hg.wr c _ h
theorem setB (c : Chip) {a : Nat} (i : Nat) (b : Bool) (h : 0x70005000 ≤ a) : g (c.setB a i b) = g c := hg.wr c _ h

theorem pwmShow (j : Nat) (c : Chip) : g (pwmShow j c) = g c :=
  (hg.setB _ _ _ (by decide)).trans (hg.setB _ _ _ (by decide))

theorem pwmHoldUpdate (j : Nat) (c : Chip) : g (pwmHoldUpdate j c) = g c := by
  simp (disch := (simp only [Reg.PWM_CH_STAT] <;> omega)) only [Machine.pwmHoldUpdate, pwmDrive, apply_ite g, hg.setB, hg.pwmCh, ite_self]

theorem pwmShowBlank (c : Chip) : g (pwmShowBlank c) = g c := by
  refine eachBelow_kept (fun t _ c => ?_) c
  simp (disch := (simp only [Reg.PWM_TRIP_STAT] <;> omega)) only [apply_ite g, hg.setB, hg.pwmCh, ite_self]

theorem pwmHoldAll (c : Chip) : g (pwmHoldAll c) = g c :=
  (hg.pwmShowBlank _).trans (eachBelow_kept (fun j _ c => hg.pwmHoldUpdate j c) c)

theorem aswSetState (j x : Nat) (c : Chip) : g (aswSetState j x c) = g c := by
  simp (disch := (simp only [Reg.ASW_CH_STAT, Reg.ASW_STAT] <;> omega)) only [Machine.aswSetState, apply_ite g, hg.setB, hg.setF, ite_self]

theorem aswGateClose (e : Env) (c : Chip) : g (aswGateClose e c) = g c := by
  refine eachBelow_kept (fun j _ c => ?_) c
  simp only [apply_ite g, hg.aswSetState, hg.aswCh, ite_self]

theorem latchesKept (old c : Chip) : g (latchesKept old c) = g c := by
  refine (eachBelow_kept (fun j _ c => ?_) _).trans (hg.setF _ _ _ _ (by decide))
  simp (disch := (simp only [Reg.PWM_CH_STAT] <;> omega)) only [apply_ite g, hg.aswSetState, hg.pwmShow, hg.setB, ite_self]

end Chip.OffOutputs

theorem hkp_offOutputs : Chip.OffOutputs Chip.hkp := ⟨fun _ _ _ _ => rfl, fun _ _ _ => rfl, fun _ _ _ => rfl⟩

/-! ### Housekeeping, and the entry of the transmit ring -/

/-- Housekeeping's state, whether a Hedgerow frame awaits its ACK, and where its entry stands. -/
def Chip.cutShown (c : Chip) : HkpSt × Bool × Nat := (c.hkp, c.hdg.waiting, hdgTxAddr c)

/-- The address is none of the words that place the entry at TX_RD: HDG.RING and HDG.HW_IDX. -/
abbrev offRing (a : Nat) : Prop := a ≠ 0x70004060 ∧ a ≠ 0x70004064 ∧ a ≠ 0x70004068

/-- The entry's place is read from three words. -/
theorem hdgTxAddr_of_rd {c d : Chip} (hlo : d.rd Reg.HDG_RING_LO = c.rd Reg.HDG_RING_LO) (hhi : d.rd Reg.HDG_RING_HI = c.rd Reg.HDG_RING_HI)
    (hidx : d.rd Reg.HDG_HW_IDX = c.rd Reg.HDG_HW_IDX) : hdgTxAddr d = hdgTxAddr c := by
  simp only [hdgTxAddr, hdgBase, hdgTxRd, Chip.n, Chip.f, hlo, hhi, hidx]

theorem Chip.wr_cutShown (c : Chip) {a : Nat} (v : Word) (h : offRing a) : (c.wr a v).cutShown = c.cutShown := by
  obtain ⟨hlo, hhi, hidx⟩ := h
  rw [Chip.cutShown, hdgTxAddr_of_rd (c.rd_wr_ne v hlo.symm) (c.rd_wr_ne v hhi.symm) (c.rd_wr_ne v hidx.symm)]
  rfl

theorem Chip.setF_cutShown (c : Chip) {a : Nat} (lo w n : Nat) (h : offRing a) : (c.setF a lo w n).cutShown = c.cutShown := c.wr_cutShown _ h
theorem Chip.setB_cutShown (c : Chip) {a : Nat} (i : Nat) (b : Bool) (h : offRing a) : (c.setB a i b).cutShown = c.cutShown := c.wr_cutShown _ h

theorem Chip.log1_cutShown (c : Chip) (e : Env) (t i k d : Nat) : (c.log1 e t i k d).cutShown = c.cutShown := by
  have hrd {a : Nat} (h : a ∉ logRegs) := c.log1_sameRegs e t i k d a h
  rw [Chip.cutShown, hdgTxAddr_of_rd (hrd (by decide)) (hrd (by decide)) (hrd (by decide)), Chip.log1_hkp, Chip.log1_hdg]
  rfl

theorem cutShown_offOutputs : Chip.OffOutputs Chip.cutShown :=
  ⟨fun c _ v h => c.wr_cutShown v (by unfold offRing; omega), fun _ _ _ => rfl, fun _ _ _ => rfl⟩

theorem quoinRelease_cutShown (e : Env) (c : Chip) : (quoinRelease e c).cutShown = c.cutShown := by
  have hpair (c : Chip) (f : PairSt → PairSt) : (c.onPair f).cutShown = c.cutShown := rfl
  simp (disch := decide) only [quoinRelease, gateClose, apply_ite Chip.cutShown, cutShown_offOutputs.pwmHoldAll,
    cutShown_offOutputs.aswGateClose, Chip.setB_cutShown, hpair, ite_self]

/-- The reset of the Control region keeps the Service region's words. -/
theorem controlClear_cutShown (c : Chip) : (controlClear c).cutShown = c.cutShown := by
  have hkeep (a : Nat) (h : (!inControl a || controlKept a) = true) (hg : (!isPgGalley a) = true) :
      rget (dropRegs inControl controlKept (c.regs.filter (fun x => !isPgGalley x.1))) a = c.rd a :=
    (rget_dropRegs _ h).trans (tget_filter regReset (fun k => !isPgGalley k) c.regs hg)
  unfold controlClear
  refine (eachOf_kept (g := Chip.cutShown) (fun x _ c => Chip.setF_cutShown _ _ _ _ ?_) _).trans ?_
  · unfold offRing Reg.THM_OSTAT; omega
  refine (eachOf_kept (g := Chip.cutShown) (fun x _ c => Chip.setF_cutShown _ _ _ _ ?_) _).trans ?_
  · unfold offRing Reg.GAL_STATE; omega
  refine (eachOf_kept (g := Chip.cutShown) (fun x _ c => ?_) _).trans ?_
  · rw [Chip.setF_cutShown, Chip.setF_cutShown] <;> (unfold offRing Reg.GAL_STATE; omega)
  refine (eachOf_kept (g := Chip.cutShown) (fun x _ c => Chip.wr_cutShown _ _ ?_) _).trans ?_
  · unfold offRing Reg.GAL_STATE; omega
  refine (eachOf_kept (g := Chip.cutShown) (fun p _ c => Chip.setB_cutShown _ _ _ ?_) _).trans ?_
  · unfold offRing Reg.SNP_HOLD; omega
  exact Prod.ext rfl (Prod.ext rfl (hdgTxAddr_of_rd (hkeep _ (by decide) (by decide)) (hkeep _ (by decide) (by decide)) (hkeep _ (by decide) (by decide))))

/-! ### The cut of a frame and the hold -/

/-- A cut writes the entry of a frame that awaits its ACK, and no other memory (R655). -/
theorem hdgRoleCut_mem (e : Env) (cm : ChipMem) : (hdgRoleCut e cm).2 = cm.2 ∨
    cm.1.hdg.waiting = true ∧ ∃ v, (hdgRoleCut e cm).2 = memWrWord cm.2 (hdgTxAddr cm.1) v := by
  unfold hdgRoleCut
  dsimp only
  split
  case isTrue hwait =>
    have haddr : hdgTxAddr ((cm.1.onHdg (fun h => { h with acks := [], joins := [], forwards := [], beacon := false })).setB Reg.HDG_EVT 7 true)
        = hdgTxAddr cm.1 := congrArg (·.2.2) (Chip.setB_cutShown _ 7 true (by decide))
    exact .inr ⟨hwait, _, by rw [← haddr]; rfl⟩
  case isFalse => exact .inl rfl

theorem hdgRoleCut_hkp (e : Env) (cm : ChipMem) : (hdgRoleCut e cm).1.hkp = cm.1.hkp := by
  unfold hdgRoleCut
  dsimp only
  split <;> rfl

/-- The Control region's chip at its hold, before Hedgerow's driver is cut. -/
def controlHeld (e : Env) (c : Chip) : Chip := pwmHoldAll (rgnDown e .control 2 (controlClear (quoinRelease e c)))

theorem controlHeld_cutShown (e : Env) (c : Chip) : (controlHeld e c).cutShown = c.cutShown := by
  have hrgn (d : Chip) : (rgnDown e .control 2 d).cutShown = d.cutShown :=
    d.setF_cutShown (a := Reg.CHIP_RGN_STAT) (statBit .control) 2 2 (by decide)
  rw [controlHeld, cutShown_offOutputs.pwmHoldAll, hrgn, controlClear_cutShown, quoinRelease_cutShown]

theorem controlDown_held {s : State} (h : s.chip.ctl = true) : controlDown 2 s = onChipMem hdgRoleCut (onChip controlHeld s) := by
  simp only [controlDown, h, if_true, show ¬ (2 = 1) by decide, if_false]
  rfl

theorem controlDown_hkp (s : State) : (controlDown 2 s).chip.hkp = s.chip.hkp := by
  cases hctl : s.chip.ctl with
  | true =>
    rw [controlDown_held hctl]
    exact (hdgRoleCut_hkp _ _).trans (congrArg (·.1) (controlHeld_cutShown s.env s.chip))
  | false => simp only [controlDown, hctl]; rfl

theorem serviceDown_hkp (st : Nat) (s : State) : (serviceDown st s).chip.hkp = s.chip.hkp := by
  have hclear (c : Chip) : (serviceClear c).hkp = c.hkp := hkp_offOutputs.latchesKept _ _
  refine (hkp_offOutputs.pwmHoldAll _).trans ?_
  split
  · exact hclear s.chip
  · rfl

theorem chipHold_hkp (s : State) : (chipHold s).chip.hkp = s.chip.hkp := (serviceDown_hkp 2 _).trans (controlDown_hkp s)

/-- The hold writes the entry of a Hedgerow frame that awaits its ACK, and no other memory (R108, R655). -/
theorem chipHold_mem (s : State) : (chipHold s).mem = s.mem ∨
    s.chip.hdg.waiting = true ∧ ∃ v, (chipHold s).mem = memWrWord s.mem (hdgTxAddr s.chip) v := by
  change (controlDown 2 s).mem = _ ∨ _ ∧ ∃ v, (controlDown 2 s).mem = _
  cases hctl : s.chip.ctl with
  | true =>
    obtain ⟨-, hrest⟩ := Prod.mk.inj (controlHeld_cutShown s.env s.chip)
    obtain ⟨hwait, haddr⟩ := Prod.mk.inj hrest
    rw [controlDown_held hctl, ← hwait, ← haddr]
    exact hdgRoleCut_mem s.env (controlHeld s.env s.chip, s.mem)
  | false => exact .inl (by simp only [controlDown, hctl]; rfl)

theorem memOutside_memWrWord (m : List Host.Cell) (a : Nat) (v : Word) : memOutside [(a, 4)] m (memWrWord m a v) := fun _ hb =>
  memGet_memPut_out _ _ _ _ (hb (a, 4) List.mem_cons_self)

theorem chipHold_rgn (s : State) : (chipHold s).chip.rgn .control = 2 ∧ (chipHold s).chip.rgn .service = 2 := by
  have hc := controlDown_wentDown 2 s
  have hv := serviceDown_wentDown 2 (controlDown 2 s)
  exact ⟨(hv.rgn_ne (by decide)).trans (hc.rgn (by decide)), hv.rgn (by decide)⟩

end Sys2Proof.Machine
end

section
/-! PROOF. Conversions of the housekeeping channels and the die shutdown (ch. 9, R312 to R317). -/
open Sys2Proof Sys2Proof.Machine
namespace Sys2Proof.Machine

/-! ### What a conversion stores (R312) -/

/-- A value and its range mark as HKP.CH_VAL holds them. -/
def hkpWord (ch : Nat) (v : Int) (c : Chip) : Word :=
  word (2 ^ 31 + (if v < signOf 16 (c.f (Reg.HKP_CH_LIM ch) 0 16) ∨ signOf 16 (c.f (Reg.HKP_CH_LIM ch) 16 16) < v then 2 ^ 30 else 0) + satI 24 v)

/-- A conversion's value and stamp. -/
def hkpWritten (e : Env) (ch : Nat) (v : Int) (c : Chip) : Chip :=
  ((c.wr (Reg.HKP_CH_VAL ch) (hkpWord ch v c)).wr (Reg.HKP_CH_TS_LO ch) (e.time.stamp.setWidth 32)).wr (Reg.HKP_CH_TS_HI ch)
    ((e.time.stamp >>> 32).setWidth 32)

/-- The time of a channel's last conversion, which the oscillator corrections ask for (R316). -/
def hkpTimed (e : Env) (ch : Nat) (c : Chip) : Chip :=
  { c with hkp := { c.hkp with tempAt := tset (fun _ => 0) c.hkp.tempAt ch e.time.up } }

@[simp] theorem hkpTimed_rd (e : Env) (ch : Nat) (c : Chip) : (hkpTimed e ch c).rd = c.rd := rfl
theorem hkpTimed_cut (e : Env) (ch : Nat) (c : Chip) : (hkpTimed e ch c).cutShown.2 = c.cutShown.2 := rfl

theorem hkpWritten_rd (e : Env) (ch : Nat) (v : Int) (c : Chip) (a : Nat) : (hkpWritten e ch v c).rd a =
    if a = Reg.HKP_CH_TS_HI ch then (e.time.stamp >>> 32).setWidth 32
    else if a = Reg.HKP_CH_TS_LO ch then e.time.stamp.setWidth 32
    else if a = Reg.HKP_CH_VAL ch then hkpWord ch v c else c.rd a := by
  simp only [hkpWritten, Chip.rd_wr]

theorem hkpWritten_cutShown (e : Env) (ch : Nat) (v : Int) (c : Chip) : (hkpWritten e ch v c).cutShown = c.cutShown := by
  simp (disch := (simp only [offRing, Reg.HKP_CH_VAL, Reg.HKP_CH_TS_LO, Reg.HKP_CH_TS_HI] <;> omega)) only [hkpWritten, Chip.wr_cutShown]

section
variable (e : Env) {ch : Nat} (h8 : ch ≠ 8) (h9 : ch ≠ 9) (v : Int) (c : Chip)
include h8 h9

/-- Of a channel without a supply's own words, a conversion is its words and its time; one that leaves the range is flagged and logged too. -/
theorem hkpStore_plain : hkpStore e ch v c = hkpTimed e ch (hkpWritten e ch v c) ∨
    hkpStore e ch v c = ((hkpTimed e ch (hkpWritten e ch v c)).setB Reg.HKP_EVT 0 true).log1 e 0x26 0 0x02 ch := by
  simp only [hkpStore, h8, h9, if_false, Bool.or_eq_true, decide_eq_true_eq]
  exact (ite_eq_or_eq _ _ _).symm

theorem hkpStore_rd {a : Nat} (hevt : a ≠ Reg.HKP_EVT) (hlog : a ∉ logRegs) : (hkpStore e ch v c).rd a = (hkpWritten e ch v c).rd a := by
  rcases hkpStore_plain e h8 h9 v c with heq | heq <;> rw [heq]
  · rw [hkpTimed_rd]
  · rw [Chip.log1_sameRegs _ _ _ _ _ _ a hlog, Chip.rd_setB_ne _ hevt, hkpTimed_rd]

theorem hkpStore_cut : (hkpStore e ch v c).cutShown.2 = c.cutShown.2 := by
  rcases hkpStore_plain e h8 h9 v c with heq | heq <;> rw [heq]
  · rw [hkpTimed_cut, hkpWritten_cutShown]
  · rw [Chip.log1_cutShown, Chip.setB_cutShown _ _ _ (by decide), hkpTimed_cut, hkpWritten_cutShown]

end

/-- A word of a channel is neither of the flags nor of the log. -/
theorem hkpStore_rd_of_ge (e : Env) {ch : Nat} (h8 : ch ≠ 8) (h9 : ch ≠ 9) (v : Int) (c : Chip) {a : Nat} (ha : 0x70007400 ≤ a) :
    (hkpStore e ch v c).rd a = (hkpWritten e ch v c).rd a :=
  hkpStore_rd e h8 h9 v c (Nat.ne_of_gt (Nat.lt_of_lt_of_le (by decide) ha)) (notMem_logRegs_of_ge (Nat.le_trans (by decide) ha))

theorem hkpCh_ge (ch : Nat) : 0x70007400 ≤ Reg.HKP_CH_VAL ch ∧ 0x70007400 ≤ Reg.HKP_CH_TS_LO ch ∧ 0x70007400 ≤ Reg.HKP_CH_TS_HI ch :=
  ⟨Nat.le_add_right_of_le (by decide), Nat.le_add_right_of_le (by decide), Nat.le_add_right_of_le (by decide)⟩

/-- A channel's words are three, apart from those of any other channel. -/
theorem hkpStore_words (e : Env) {ch : Nat} (h8 : ch ≠ 8) (h9 : ch ≠ 9) (v : Int) (c : Chip) :
    (hkpStore e ch v c).rd (Reg.HKP_CH_VAL ch) = hkpWord ch v c ∧
    (hkpStore e ch v c).rd (Reg.HKP_CH_TS_LO ch) = e.time.stamp.setWidth 32 ∧
    (hkpStore e ch v c).rd (Reg.HKP_CH_TS_HI ch) = (e.time.stamp >>> 32).setWidth 32 := by
  obtain ⟨hval, hlo, hhi⟩ := hkpCh_ge ch
  rw [hkpStore_rd_of_ge e h8 h9 v c hval, hkpStore_rd_of_ge e h8 h9 v c hlo, hkpStore_rd_of_ge e h8 h9 v c hhi]
  simp [hkpWritten_rd, Reg.HKP_CH_VAL, Reg.HKP_CH_TS_LO, Reg.HKP_CH_TS_HI]

theorem hkpStore_sameRegs (e : Env) {ch : Nat} (h8 : ch ≠ 8) (h9 : ch ≠ 9) (v : Int) (c : Chip) :
    sameRegs ([Reg.HKP_CH_VAL ch, Reg.HKP_CH_TS_LO ch, Reg.HKP_CH_TS_HI ch, Reg.HKP_EVT] ++ logRegs) c (hkpStore e ch v c) := fun a ha => by
  simp only [List.mem_append, List.mem_cons, List.not_mem_nil, or_false, not_or] at ha
  obtain ⟨⟨hval, hlo, hhi, hevt⟩, hwr, hlost⟩ := ha
  rw [hkpStore_rd e h8 h9 v c hevt (by simp [hwr, hlost]), hkpWritten_rd, if_neg hhi, if_neg hlo, if_neg hval]

/-- What a die sensor reads after its conversion, from 0 °C to the top of its range. -/
theorem hkpVal_of_hkpWord {ch : Nat} {v : Int} {c d : Chip} (h : d.rd (Reg.HKP_CH_VAL ch) = hkpWord ch v c) (hlo : 0 ≤ v) (hhi : v ≤ 2000) :
    hkpVal d ch = v := by
  obtain ⟨n, rfl⟩ := Int.eq_ofNat_of_zero_le hlo
  have hn : n ≤ 2000 := by omega
  have hsat : satI 24 (n : Int) = n := by
    simp only [satI]
    rw [if_neg (by omega), if_neg (by omega)]
    omega
  have hfield (k : Nat) (hk : k = 0 ∨ k = 2 ^ 30) : fget (word (2 ^ 31 + k + n)) 0 24 = n := by
    simp only [fget, toNat_word, Nat.shiftRight_zero]
    omega
  rw [hkpVal, Chip.f, h, hkpWord, hsat, hfield _ (by split <;> simp)]
  exact if_pos (Nat.lt_of_le_of_lt hn (by decide))

/-! ### A round's dies (R313 to R316) -/

section
variable {γ : Type} {g : Chip → γ} (e : Env)
  (hwr : ∀ (c : Chip) (a : Nat) (v : Word), a ∈ [Reg.HKP_DIE_STAT, Reg.HKP_EVT, Reg.HKP_COMP] → g (c.wr a v) = g c)
  (hlog : ∀ (c : Chip) (t i k d : Nat), g (c.log1 e t i k d) = g c)
include hwr

theorem oscCorrect_kept (c : Chip) : g (oscCorrect e c) = g c := by
  have hF (c : Chip) (lo w x : Nat) : g (c.setF Reg.HKP_COMP lo w x) = g c := hwr _ _ _ (by decide)
  have hB (c : Chip) (b : Bool) : g (c.setB Reg.HKP_DIE_STAT 24 b) = g c := hwr _ _ _ (by decide)
  have hE (c : Chip) : g (c.setB Reg.HKP_EVT 5 true) = g c := hwr _ _ _ (by decide)
  unfold oscCorrect
  cases oscCorrection e c 0 <;> cases oscCorrection e c 1 <;> simp only [apply_ite g, hF, hB, hE, ite_self]

include hlog

/-- What the words of the dies' state, the flags, the corrections and the log do not enter, the end of the die channels leaves. -/
theorem dieRound_kept (c : Chip) : g (dieRound e c) = g c := by
  have hF (c : Chip) (lo w x : Nat) : g (c.setF Reg.HKP_DIE_STAT lo w x) = g c := hwr _ _ _ (by decide)
  have hB (c : Chip) (i : Nat) (b : Bool) : g (c.setB Reg.HKP_DIE_STAT i b) = g c := hwr _ _ _ (by decide)
  have hE (c : Chip) (i : Nat) : g (c.setB Reg.HKP_EVT i true) = g c := hwr _ _ _ (by decide)
  have hlevel (die old : Nat) (c : Chip) : g (dieLevelSet e die old c) = g c := by
    simp only [dieLevelSet, apply_ite g, hF, hE, hlog, ite_self]
  unfold dieRound
  dsimp only
  refine (oscCorrect_kept e hwr _).trans ((hB _ _ _).trans ?_)
  split <;> simp only [apply_ite g, hF, hB, hE, hlevel, ite_self]

end

/-- The end of the die channels leaves every channel's words. -/
theorem dieRound_rd_of_ge (e : Env) (c : Chip) {a : Nat} (ha : 0x70007400 ≤ a) : (dieRound e c).rd a = c.rd a := by
  refine dieRound_kept (g := fun c => c.rd a) e (fun c b v hb => Chip.rd_wr_ne c v ?_) (fun c t i k d => c.log1_sameRegs e t i k d a ?_) c
  · rintro rfl
    simp only [List.mem_cons, List.not_mem_nil, or_false, Reg.HKP_DIE_STAT, Reg.HKP_EVT, Reg.HKP_COMP] at hb
    omega
  · exact notMem_logRegs_of_ge (Nat.le_trans (by decide) ha)

theorem dieRound_cutShown (e : Env) (c : Chip) : (dieRound e c).cutShown = c.cutShown := by
  refine dieRound_kept (g := Chip.cutShown) e (fun c a v ha => c.wr_cutShown v ?_) (fun c => c.log1_cutShown e) c
  simp only [List.mem_cons, List.not_mem_nil, or_false] at ha
  rcases ha with rfl | rfl | rfl <;> decide

/-- A Field die whose second sensor is broken is as hot as its first one reads (R313, R315). -/
theorem diesHot_of_field {c : Chip} (hbroken : hkpBroken c 2 = true) (hlo : 1350 ≤ hkpVal c 3) (hhi : hkpVal c 3 ≤ 2000) :
    (diesHot c).isEmpty = false := by
  have hwhole : hkpBroken c 3 = false := by
    simp only [hkpBroken, Bool.or_eq_false_iff, decide_eq_false_iff_not]
    omega
  have hsensor : hkpSensor c 1 = some 3 := by simp [hkpSensor, hbroken, hwhole]
  have hmem : 1 ∈ diesHot c := by simp [diesHot, hsensor, hlo]
  exact List.isEmpty_eq_false_iff.mpr (List.ne_nil_of_mem hmem)

/-! ### The die shutdown (R315) -/

theorem sdrWrite_cutShown (e : Env) (source : Nat) (model : Bool) (sensor outlet : Nat) (value : Int) (thr : Nat) (c : Chip) :
    (sdrWrite e source model sensor outlet value thr c).cutShown = c.cutShown := by
  refine (eachBelow_kept (g := Chip.cutShown) (fun k hk c => c.wr_cutShown _ ?_) _).trans (Chip.wr_cutShown _ _ (by decide))
  unfold offRing Reg.THM_SDR_W
  omega

theorem dieRecords_cutShown (e : Env) (c : Chip) : (dieRecords e c).cutShown = c.cutShown := by
  refine eachOf_kept (g := Chip.cutShown) (fun d _ c => ?_) c
  dsimp only
  split
  · rw [Chip.log1_cutShown, sdrWrite_cutShown]
  · rfl

/-! ### HKP_CONVERSION -/

/-- The slots whose conversion has been made, up to the present one (R312). -/
def hkpCounted (e : Env) (c : Chip) : Chip := { c with hkp := { c.hkp with done := hkpSlot e c + 1 } }

/-- A conversion of a channel other than 3; the last one of a round counts it. -/
def hkpRounded (e : Env) (ch : Nat) (v : Int) (c : Chip) : Chip :=
  if ch = 31 then (hkpStore e ch v (hkpCounted e c)).wr Reg.HKP_ROUND (word (c.n Reg.HKP_ROUND + 1)) else hkpStore e ch v (hkpCounted e c)

theorem word_n_succ (c : Chip) (a : Nat) : word (c.n a + 1) = c.rd a + 1 := by
  apply BitVec.eq_of_toNat_eq
  simp [toNat_word, Chip.n, BitVec.toNat_add]

theorem hkpRounded_rd_ne (e : Env) (ch : Nat) (v : Int) (c : Chip) {a : Nat} (ha : a ≠ Reg.HKP_ROUND) :
    (hkpRounded e ch v c).rd a = (hkpStore e ch v (hkpCounted e c)).rd a := by
  unfold hkpRounded
  split
  · exact Chip.rd_wr_ne _ _ ha
  · rfl

theorem hkpRounded_round (e : Env) {ch : Nat} (h8 : ch ≠ 8) (h9 : ch ≠ 9) (v : Int) (c : Chip) :
    (hkpRounded e ch v c).rd Reg.HKP_ROUND = if ch = 31 then c.rd Reg.HKP_ROUND + 1 else c.rd Reg.HKP_ROUND := by
  unfold hkpRounded
  split
  · rw [Chip.rd_wr_same, word_n_succ]
  · refine hkpStore_sameRegs e h8 h9 v (hkpCounted e c) _ ?_
    simp [Reg.HKP_ROUND, Reg.HKP_CH_VAL, Reg.HKP_CH_TS_LO, Reg.HKP_CH_TS_HI, Reg.HKP_EVT, Reg.CHIP_LOG_WR, Reg.CHIP_LOG_LOST]
    omega

section
variable {e : Env} {ch : Nat} {v : Int} {c : Chip}

theorem hkpConvert_of_outside (h : hkpTurn e ch c = false) : hkpConvert e ch v c = (c, false) := by
  simp only [hkpConvert, h, Bool.and_false, Bool.false_eq_true, if_false]

theorem hkpConvert_of_plain (hon : c.b (Reg.HKP_CH_CFG ch) 31 = true) (hturn : hkpTurn e ch c = true) (h3 : ch ≠ 3) :
    hkpConvert e ch v c = (hkpRounded e ch v c, false) := by
  simp only [hkpConvert, hon, hturn, h3, Bool.and_self, if_true, if_false, hkpRounded]
  split <;> rfl

/-- The dies as the conversion of channel 3 leaves them. -/
def dieRoundAfter (e : Env) (v : Int) (c : Chip) : Chip := dieRound e (hkpStore e 3 v (hkpCounted e c))

/-- The die-shutdown state in force. -/
def Chip.dieSdSet (c : Chip) : Chip := { c with hkp := { c.hkp with dieSd := true } }

theorem Chip.dieSdSet_dieSd (c : Chip) : c.dieSdSet.hkp.dieSd = true := rfl
theorem Chip.dieSdSet_cut (c : Chip) : c.dieSdSet.cutShown.2 = c.cutShown.2 := rfl

/-- The chip when a die shutdown begins: its records written, the shutdown in force. -/
def dieDown (e : Env) (v : Int) (c : Chip) : Chip := (dieRecords e (dieRoundAfter e v c)).dieSdSet

theorem hkpConvert_of_hot (hon : c.b (Reg.HKP_CH_CFG 3) 31 = true) (hturn : hkpTurn e 3 c = true) (hsd : c.hkp.dieSd = false)
    (hhot : (diesHot (dieRoundAfter e v c)).isEmpty = false) : hkpConvert e 3 v c = (dieDown e v c, true) := by
  have hmade : (c.b (Reg.HKP_CH_CFG 3) 31 && hkpTurn e 3 c) = true := by rw [hon, hturn]; rfl
  have hbegins : (!c.hkp.dieSd && !(diesHot (dieRoundAfter e v c)).isEmpty) = true := by rw [hsd, hhot]; rfl
  exact (if_pos hmade).trans ((if_pos rfl).trans (if_pos hbegins))

theorem dieRoundAfter_hot (hbroken : hkpBroken c 2 = true) (hlo : 1350 ≤ v) (hhi : v ≤ 2000) :
    (diesHot (dieRoundAfter e v c)).isEmpty = false := by
  have hrd (ch : Nat) : (dieRoundAfter e v c).rd (Reg.HKP_CH_VAL ch) = (hkpStore e 3 v (hkpCounted e c)).rd (Reg.HKP_CH_VAL ch) :=
    dieRound_rd_of_ge e _ (hkpCh_ge ch).1
  have hfirst : hkpVal (dieRoundAfter e v c) 3 = v :=
    hkpVal_of_hkpWord ((hrd 3).trans (hkpStore_words e (by decide) (by decide) v (hkpCounted e c)).1) (by omega) hhi
  have hsecond : (dieRoundAfter e v c).rd (Reg.HKP_CH_VAL 2) = c.rd (Reg.HKP_CH_VAL 2) :=
    (hrd 2).trans (hkpStore_sameRegs e (by decide) (by decide) v (hkpCounted e c) _ (by decide))
  have hval : hkpVal (dieRoundAfter e v c) 2 = hkpVal c 2 := congrArg (fun w => signOf 24 (fget w 0 24)) hsecond
  refine diesHot_of_field ?_ (hfirst.symm ▸ hlo) (hfirst.symm ▸ hhi)
  rw [hkpBroken, hval]
  exact hbroken

theorem dieDown_cut : (dieDown e v c).cutShown.2 = c.cutShown.2 := by
  rw [dieDown, Chip.dieSdSet_cut, dieRecords_cutShown, dieRoundAfter, dieRound_cutShown]
  exact hkpStore_cut e (by decide) (by decide) v (hkpCounted e c)

end

/-- The die shutdown of the state that a conversion leaves: Control and Service are held, every safety output is off (R315). -/
def dieShutdown (s : State) : State := onHeath (fun e h => (swAll e.part true h, [])) (chipHold s)

@[simp] theorem dieShutdown_chip (s : State) : (dieShutdown s).chip = (chipHold s).chip := rfl

theorem dieShutdown_mem (s : State) {d : Chip} (hcut : d.cutShown.2 = s.chip.cutShown.2) :
    (s.chip.hdg.waiting = false → (dieShutdown { s with chip := d }).mem = s.mem) ∧
    memOutside [(hdgTxAddr s.chip, 4)] s.mem (dieShutdown { s with chip := d }).mem := by
  obtain ⟨hwait, haddr⟩ := Prod.mk.inj hcut
  rw [← hwait, ← haddr]
  rcases chipHold_mem { s with chip := d } with hmem | ⟨hwaits, v, hmem⟩ <;> rw [show (dieShutdown _).mem = (chipHold _).mem from rfl, hmem]
  · exact ⟨fun _ => rfl, fun _ _ => rfl⟩
  · exact ⟨fun h => absurd (hwaits.symm.trans h) (by decide), memOutside_memWrWord _ _ _⟩

theorem dieShutdown_beyond (s : State) : (dieShutdown s).met = s.met ∧ (dieShutdown s).env = s.env ∧ (dieShutdown s).pending = s.pending := by
  have hbeyond := chipHold_beyond s
  simp only [State.beyond, Prod.mk.injEq] at hbeyond
  obtain ⟨hpending, henv, -, hmet⟩ := hbeyond
  exact ⟨hmet, henv, hpending⟩

theorem exec_hkpConversion_of_quiet {s : State} {ch : Fin 32} {v : Int} (hvdda : vddaGood s.chip = true)
    (h : (hkpConvert s.env ch v s.chip).2 = false) :
    exec (.hkpConversion ch v) s = .next (onChip (fun e c => (hkpConvert e ch v c).1) s) := by
  change execHkpConversion ch v s = _
  simp only [execHkpConversion, hvdda, h, if_true, Bool.false_eq_true, if_false]
  rfl

theorem exec_hkpConversion_of_outside {s : State} {ch : Fin 32} (v : Int) (h : hkpTurn s.env ch s.chip = false) :
    exec (.hkpConversion ch v) s = .next s := by
  have hconv := hkpConvert_of_outside (v := v) h
  cases hvdda : vddaGood s.chip with
  | true =>
    rw [exec_hkpConversion_of_quiet hvdda (by rw [hconv])]
    exact congrArg (fun c => Host.Outcome.next { s with chip := c }) (congrArg Prod.fst hconv)
  | false =>
    change execHkpConversion ch v s = _
    simp only [execHkpConversion, hvdda, Bool.false_eq_true, if_false]

theorem exec_hkpConversion_of_hot {s : State} {v : Int} {d : Chip} (hvdda : vddaGood s.chip = true)
    (h : hkpConvert s.env 3 v s.chip = (d, true)) : exec (.hkpConversion 3 v) s = .next (dieShutdown { s with chip := d }) := by
  change execHkpConversion 3 v s = _
  have h' : hkpConvert s.env ((3 : Fin 32) : Nat) v s.chip = (d, true) := h
  simp only [execHkpConversion, hvdda, h', if_true]
  rfl

end Sys2Proof.Machine

/-- Settles O30: a mark and a stale outlet write the outlet's own words and flags; a conversion writes its channel's words, and one that shows a hot
Field die records it and holds both regions, whose reset leaves the transmit ring's place for the cut of the frame. -/
theorem temperatureEvents : Obligations.TemperatureEvents := by
  refine ⟨fun s o k hctl hdue => ?suspect, fun s o hctl hfence hmiss hstale => ?stale, fun s ch v hvdda hon h3 h8 h9 hturn => ?conversion,
    fun s v hvdda hon hturn hsd hbroken hlo hhi => ?shutdown, fun s ch v hout => ?outside⟩
  case suspect =>
    have hmarked : (suspectMarked o k s.chip).ctl = true := (Chip.ctl_of_rd (suspectMarked_rd_chipPage _ _ _ (by decide))).trans hctl
    have hrd {a : Nat} (h : a ≠ Reg.CHIP_LOG_WR) := Chip.log1_rd_of_ctl hmarked s.env 0x15 (o / 32) 0x02 (k.val * 256 + o.val) h
    obtain ⟨hstat, hevt⟩ := chipPage_ne_thm (a := Reg.CHIP_LOG_WR) (by decide) o
    refine ⟨_, exec_sensorSuspect_of_due hctl hdue, ?_, ?_, ?_, ?_,
      logged_log1 (suspectMarked_log o k s.chip) (suspectMarked_rd_chipPage _ _ _ (by decide)) hmarked _ _ _ _ _, onChip_onlyChip _ s, fun a ha => ?_⟩
    · rw [onChip_chip, thmMarks, Chip.log1_thmKept]
      exact suspectMarked_marks o k s.chip
    · rw [onChip_chip, Chip.thmOut, Chip.log1_thm]
      exact congrArg ThmOut.due (suspectMarked_thmOut o k s.chip)
    · rw [Chip.f, onChip_chip, hrd hstat.symm, suspectMarked_rd, if_neg (thmOstat_ne_evt _ _), if_pos rfl]
      exact fget_fset_same _ _ _ _ (by decide)
    · rw [Chip.b, onChip_chip, hrd hevt.symm, suspectMarked_rd, if_pos rfl]
      exact fbit_fsetb_same _ _ _ (by decide)
    · simp only [List.mem_cons, List.not_mem_nil, or_false, not_or] at ha
      obtain ⟨haStat, haEvt, haWr⟩ := ha
      rw [onChip_chip, hrd haWr, suspectMarked_rd, if_neg haEvt, if_neg haStat]
  case stale =>
    obtain ⟨hshown, hlimited⟩ := staleShown_flags o s.chip
    refine ⟨_, exec_stale_of_missed hctl hfence hmiss hstale, ?_, ?_, hshown, hlimited, ?_, onChip_onlyChip _ s, fun a ha => ?_⟩
    · rw [Chip.b, onChip_chip, staleShown_ostat, fbit_fsetb_ne _ _ (by decide), fbit_fsetb_same _ _ _ (by decide)]
    · rw [Chip.b, onChip_chip, staleShown_ostat, fbit_fsetb_same _ _ _ (by decide)]
    · rw [Chip.f, onChip_chip, staleShown_ostat, fget_fsetb_ne _ _ _ _ _ (by decide), fget_fsetb_ne _ _ _ _ _ (by decide)]
      rfl
    · simp only [List.mem_cons, List.not_mem_nil, or_false, not_or] at ha
      obtain ⟨haStat, haEvt⟩ := ha
      rw [onChip_chip, staleShown_rd, if_neg haEvt, if_neg haStat]
  case conversion =>
    have hconv := hkpConvert_of_plain (v := v) hon hturn h3
    obtain ⟨hval, hts, hth⟩ := hkpStore_words s.env h8 h9 v (hkpCounted s.env s.chip)
    obtain ⟨hgeVal, hgeLo, hgeHi⟩ := hkpCh_ge ch
    have hword {a : Nat} (ha : 0x70007400 ≤ a) := hkpRounded_rd_ne s.env ch v s.chip (Nat.ne_of_gt (Nat.lt_of_lt_of_le (by decide) ha))
    refine ⟨_, exec_hkpConversion_of_quiet hvdda (by rw [hconv]), ?_, ?_, ?_, ?_, onChip_onlyChip _ s, fun a ha => ?_⟩ <;> rw [onChip_chip, hconv]
    · exact (hword hgeVal).trans hval
    · exact (hword hgeLo).trans hts
    · exact (hword hgeHi).trans hth
    · exact hkpRounded_round s.env h8 h9 v s.chip
    · simp only [List.mem_cons, List.not_mem_nil, or_false, not_or] at ha
      obtain ⟨hnval, hnlo, hnhi, hround, hevt, hwr, hlost⟩ := ha
      exact (hkpRounded_rd_ne _ _ _ _ hround).trans
        (hkpStore_sameRegs s.env h8 h9 v (hkpCounted s.env s.chip) a (by simp [hnval, hnlo, hnhi, hevt, hwr, hlost]))
  case shutdown =>
    have hexec := exec_hkpConversion_of_hot hvdda (hkpConvert_of_hot hon hturn hsd (dieRoundAfter_hot hbroken hlo hhi))
    have hdie : (dieShutdown { s with chip := dieDown s.env v s.chip }).chip.hkp.dieSd = true := by
      rw [dieShutdown_chip, chipHold_hkp, dieDown, Chip.dieSdSet_dieSd]
    obtain ⟨hcontrol, hservice⟩ := chipHold_rgn { s with chip := dieDown s.env v s.chip }
    obtain ⟨hmet, henv, hpending⟩ := dieShutdown_beyond { s with chip := dieDown s.env v s.chip }
    obtain ⟨hidle, houtside⟩ := dieShutdown_mem s (d := dieDown s.env v s.chip) dieDown_cut
    exact ⟨_, hexec, hdie, hcontrol, hservice, hmet, hidle, houtside, henv, hpending⟩
  case outside =>
    refine exec_hkpConversion_of_outside v ?_
    simp only [hkpTurn, hkpSlot, Bool.and_eq_false_iff, beq_eq_false_iff_ne]
    exact hout.imp_right fun h => decide_eq_false (Nat.not_le.mpr h)
end

section
/-! PROOF. The words of a port, and what each operation of its physical layer does to them (ch. 10). -/
open Sys2Proof Sys2Proof.Machine
namespace Sys2Proof.Machine

/-! ### The words of a port -/

/-- The words that the physical layer of a port writes, with the port summaries and the place in the log ring. -/
abbrev prtWords (n : Nat) : List Nat :=
  [Reg.PRT_PHY_STAT n, Reg.PRT_PHY_TRAIN n, Reg.PRT_PHY_TAPS n, Reg.PRT_PERR n, Reg.PRT_UP, Reg.PRT_DEGR, Reg.PRT_PHY_CNT n, Reg.PRT_PHY_EYE n,
    Reg.PRT_TP_STAT n, Reg.CHIP_LOG_WR]

/-- The addresses that tell a port's words apart, as numbers. -/
theorem prtAddrs : (∀ n, Reg.PRT_PHY_CFG n = 0x40 * n + 0x40032404) ∧ (∀ n, Reg.PRT_PHY_STAT n = 0x40 * n + 0x40032408) ∧
    (∀ n, Reg.PRT_PHY_TRAIN n = 0x40 * n + 0x4003240C) ∧ (∀ n, Reg.PRT_PHY_TAPS n = 0x40 * n + 0x40032410) ∧
    (∀ n, Reg.PRT_PHY_EYE n = 0x40 * n + 0x40032414) ∧ (∀ n, Reg.PRT_PHY_CNT n = 0x40 * n + 0x40032418) ∧
    (∀ n, Reg.PRT_PERR n = 0x40 * n + 0x4003241C) ∧ (∀ n, Reg.PRT_TP_STAT n = 0x40 * n + 0x40032420) ∧
    Reg.PRT_UP = 0x40032040 ∧ Reg.PRT_DEGR = 0x40032044 ∧ Reg.CHIP_LOG_WR = 0x40000068 ∧ Reg.CHIP_RGN_STAT = 0x40000048 :=
  ⟨fun _ => Nat.add_comm _ _, fun _ => Nat.add_comm _ _, fun _ => Nat.add_comm _ _, fun _ => Nat.add_comm _ _,
    fun _ => Nat.add_comm _ _, fun _ => Nat.add_comm _ _, fun _ => Nat.add_comm _ _, fun _ => Nat.add_comm _ _, rfl, rfl, rfl, rfl⟩

theorem sameRegs_trans {l : List Nat} {c d f : Chip} (h : sameRegs l c d) (h' : sameRegs l d f) : sameRegs l c f :=
  fun a ha => (h' a ha).trans (h a ha)

theorem sameRegs_mono {l l' : List Nat} {c d : Chip} (hl : l ⊆ l') (h : sameRegs l c d) : sameRegs l' c d := fun a ha => h a fun hm => ha (hl hm)

section
variable {n : Nat} {c d : Chip} (h : sameRegs (prtWords n) c d)
include h

theorem ctl_of_sameRegs : d.ctl = c.ctl := Chip.ctl_of_rd (h _ (by
  simp only [prtAddrs, List.mem_cons, List.not_mem_nil, or_false, not_or]
  omega))

theorem prtCfg_of_sameRegs : d.rd (Reg.PRT_PHY_CFG n) = c.rd (Reg.PRT_PHY_CFG n) := h _ (by simp [prtAddrs])

theorem prtLive_of_sameRegs (e : Env) : prtLive e d n = prtLive e c n := by
  have hfence : d.rd (Reg.PG_FENCEMAP 0x40032000 (n / 32)) = c.rd (Reg.PG_FENCEMAP 0x40032000 (n / 32)) := h _ (by
    simp only [prtAddrs, Reg.PG_FENCEMAP, List.mem_cons, List.not_mem_nil, or_false, not_or]
    omega)
  simp only [prtLive, Chip.portFenced, Chip.fenced, Chip.b, ctl_of_sameRegs h, prtCfg_of_sameRegs h, hfence]

theorem prtForced_of_sameRegs : prtForced d n = prtForced c n := by
  unfold prtForced Chip.b Chip.f
  rw [prtCfg_of_sameRegs h]

theorem prtLanes_of_sameRegs : prtLanes d n = prtLanes c n := by simp only [prtLanes, prtForced_of_sameRegs h]

end

theorem ctl_of_prtLive {e : Env} {c : Chip} {n : Nat} (h : prtLive e c n = true) : c.ctl = true := by
  simp only [prtLive, Bool.and_eq_true] at h
  exact h.1.1.1

/-- No part has more than 32 ports (R2). -/
theorem lt_of_prtLive {e : Env} {c : Chip} {n : Nat} (h : prtLive e c n = true) : n < 32 := by
  simp only [prtLive, Bool.and_eq_true, decide_eq_true_eq] at h
  have hports : e.part.ports ≤ 32 := by unfold Part.ports; cases e.part.variant <;> decide
  omega

theorem satAdd_mod (w x n : Nat) : satAdd w x n % 2 ^ w = satAdd w x n :=
  Nat.mod_eq_of_lt (Nat.lt_of_le_of_lt (Nat.min_le_right _ _) (Nat.sub_lt (Nat.two_pow_pos w) Nat.one_pos))

theorem Chip.f_sat_same (c : Chip) (a lo w n : Nat) (h : lo + w ≤ 32) : (c.sat a lo w n).f a lo w = satAdd w (c.f a lo w) n := by
  rw [Chip.sat, Chip.f_setF_same _ _ _ _ _ h, satAdd_mod]

@[simp] theorem Chip.setF_phyOf (c : Chip) (a lo w x n : Nat) : (c.setF a lo w x).phyOf n = c.phyOf n := rfl
@[simp] theorem Chip.setB_phyOf (c : Chip) (a i n : Nat) (x : Bool) : (c.setB a i x).phyOf n = c.phyOf n := rfl
@[simp] theorem Chip.wr_phyOf (c : Chip) (a n : Nat) (v : Word) : (c.wr a v).phyOf n = c.phyOf n := rfl
@[simp] theorem Chip.sat_phyOf (c : Chip) (a lo w x n : Nat) : (c.sat a lo w x).phyOf n = c.phyOf n := rfl

@[simp] theorem PhySt.lane_setLane (x : PhySt) (k : Nat) (l : PhyLane) : (x.setLane k l).lane k = l := by
  unfold PhySt.setLane PhySt.lane
  split <;> rfl

/-- The two lanes stand apart. -/
theorem PhySt.lane_setLane_other (x : PhySt) (k : Fin 2) (l : PhyLane) : (x.setLane k l).lane (1 - k.val) = x.lane (1 - k.val) := by
  obtain rfl | rfl : k = 0 ∨ k = 1 := by omega
  · rfl
  · rfl

@[simp] theorem PhySt.rejoin_setLane (x : PhySt) (k : Nat) (l : PhyLane) : (x.setLane k l).rejoin = x.rejoin := by
  unfold PhySt.setLane
  split <;> rfl

/-! ### The state shown, and the log -/

theorem prtSet_regs (n st : Nat) (c : Chip) : sameRegs [Reg.PRT_PHY_STAT n, Reg.PRT_UP, Reg.PRT_DEGR] c (prtSet n st c) := fun a ha => by
  simp only [List.mem_cons, List.not_mem_nil, or_false, not_or] at ha
  simp [prtSet, prtShow, Chip.rd_setB, Chip.rd_setF, ha]

theorem prtSet_stat (n st : Nat) (c : Chip) : (prtSet n st c).rd (Reg.PRT_PHY_STAT n) = fset (c.rd (Reg.PRT_PHY_STAT n)) 29 3 st := by
  simp [prtSet, prtShow, Chip.rd_setB, Chip.rd_setF, prtAddrs]

@[simp] theorem prtSet_phyOf (n st k : Nat) (c : Chip) : (prtSet n st c).phyOf k = c.phyOf k := rfl

theorem prtState_prtSet (n : Nat) {st : Nat} (h : st < 8) (c : Chip) : prtState (prtSet n st c) n = st := by
  rw [prtState, Chip.f, prtSet_stat, fget_fset_same _ _ _ _ (by decide)]
  exact Nat.mod_eq_of_lt h

/-- The fields of PHY_STAT below PSTATE stand. -/
theorem prtSet_f_stat (n st : Nat) (c : Chip) {lo w : Nat} (h : lo + w ≤ 29) :
    (prtSet n st c).f (Reg.PRT_PHY_STAT n) lo w = c.f (Reg.PRT_PHY_STAT n) lo w := by
  rw [Chip.f, prtSet_stat, fget_fset_ne _ _ _ _ _ _ (.inl h), Chip.f]

theorem prtSet_b_stat (n st : Nat) (c : Chip) {i : Nat} (h : i < 29) : (prtSet n st c).b (Reg.PRT_PHY_STAT n) i = c.b (Reg.PRT_PHY_STAT n) i := by
  rw [Chip.b, prtSet_stat, fbit_fset_ne _ _ _ _ _ (.inl h), Chip.b]

/-- PRT.UP shows the state. -/
theorem prtSet_up {n st : Nat} (hn : n < 32) (h : st < 8) (c : Chip) : (prtSet n st c).b Reg.PRT_UP n = (st == 3 || st == 4) := by
  have hstate : prtState (c.setF (Reg.PRT_PHY_STAT n) 29 3 st) n = st := (Chip.f_setF_same _ _ _ _ _ (by decide)).trans (Nat.mod_eq_of_lt h)
  rw [prtSet, prtShow, Chip.b_setB_ne _ _ _ _ (by simp [prtAddrs]), Chip.b_setB_same _ _ _ _ hn, prtUp, hstate]

/-- A port up on one lane is shown degraded. -/
theorem prtSet_degr {n : Nat} (hn : n < 32) (c : Chip) : (prtSet n 4 c).b Reg.PRT_DEGR n = true := by
  have hstate : prtState ((c.setF (Reg.PRT_PHY_STAT n) 29 3 4).setB Reg.PRT_UP n (prtUp (c.setF (Reg.PRT_PHY_STAT n) 29 3 4) n)) n = 4 :=
    (Chip.f_setB_ne _ _ _ _ _ (by simp [prtAddrs])).trans (Chip.f_setF_same _ _ _ _ _ (by decide))
  rw [prtSet, prtShow, Chip.b_setB_same _ _ _ _ hn]
  exact Bool.or_eq_true_iff.mpr (.inl (beq_iff_eq.mpr (Chip.f_setF_same _ _ _ _ _ (by decide))))

theorem prtLog_regs {c : Chip} (hctl : c.ctl = true) (e : Env) (n cls detail : Nat) : sameRegs [Reg.CHIP_LOG_WR] c (prtLog e n cls detail c) :=
  fun _ ha => Chip.log1_rd_of_ctl hctl _ _ _ _ _ (mt List.mem_singleton.mpr ha)

@[simp] theorem prtLog_phyOf (e : Env) (n cls detail k : Nat) (c : Chip) : (prtLog e n cls detail c).phyOf k = c.phyOf k := by
  rw [Chip.phyOf, prtLog, Chip.log1_phy, Chip.phyOf]

@[simp] theorem phyTell_rd (e : Env) (n : Nat) (c : Chip) : (phyTell e n c).rd = c.rd := rfl

/-! ### A training begins (R330 to R334) -/

/-- A training attempt begins at step 1: what the port's words show, and what stands. -/
structure TrainingBegun (n : Nat) (c d : Chip) : Prop where
  state : prtState d n = 2
  step : d.f (Reg.PRT_PHY_TRAIN n) 28 4 = 1
  trip : d.f (Reg.PRT_PHY_TRAIN n) 0 16 = 0xFFFF
  taps : d.rd (Reg.PRT_PHY_TAPS n) = word (tapsPreset * 65537)
  noneOut : d.f (Reg.PRT_PHY_STAT n) 8 2 = 0
  notUp : d.b Reg.PRT_UP n = false
  attempts : prtState c n ≠ 2 → d.f (Reg.PRT_PHY_STAT n) 0 8 = min (c.f (Reg.PRT_PHY_STAT n) 0 8 + 1) 255
  due : (d.phyOf n).due = false
  retry : (d.phyOf n).retry = false
  lane : ∀ k, (d.phyOf n).lane k = ((c.phyOf n).lane k).fresh
  monitors : ∀ i, 10 ≤ i → i < 28 → d.b (Reg.PRT_PHY_STAT n) i = c.b (Reg.PRT_PHY_STAT n) i
  regs : sameRegs [Reg.PRT_PHY_STAT n, Reg.PRT_PHY_TRAIN n, Reg.PRT_PHY_TAPS n, Reg.PRT_UP, Reg.PRT_DEGR] c d

/-- An attempt counted in PHY_STAT, unless a training goes on. -/
def phyCounted (n : Nat) (c : Chip) : Chip := if prtState c n = 2 then c else c.sat (Reg.PRT_PHY_STAT n) 0 8 1

theorem phyCounted_regs (n : Nat) (c : Chip) : sameRegs [Reg.PRT_PHY_STAT n] c (phyCounted n c) := fun a ha => by
  unfold phyCounted
  split
  · rfl
  · exact Chip.rd_setF_ne _ (mt List.mem_singleton.mpr ha)

theorem phyCounted_attempts {n : Nat} {c : Chip} (h : prtState c n ≠ 2) :
    (phyCounted n c).f (Reg.PRT_PHY_STAT n) 0 8 = min (c.f (Reg.PRT_PHY_STAT n) 0 8 + 1) 255 := by
  rw [phyCounted, if_neg h, Chip.f_sat_same _ _ _ _ _ (by decide)]
  rfl

theorem phyCounted_monitors (n : Nat) (c : Chip) {i : Nat} (h : 10 ≤ i) :
    (phyCounted n c).b (Reg.PRT_PHY_STAT n) i = c.b (Reg.PRT_PHY_STAT n) i := by
  unfold phyCounted
  split
  · rfl
  · exact Chip.b_setF_apart _ _ _ _ _ _ (.inr (by omega))

theorem phyTrain_begins (e : Env) {n : Nat} (hn : n < 32) (c : Chip) : TrainingBegun n c (phyTrain e n c) := by
  obtain ⟨x, hdue, hretry, hlane, htrain⟩ : ∃ x : PhySt, x.due = false ∧ x.retry = false ∧ 
      (∀ k, x.lane k = ((c.phyOf n).lane k).fresh) ∧
      phyTrain e n c = prtSet n 2 (((((((phyCounted n c).setPhy n x).setF (Reg.PRT_PHY_STAT n) 8 2 0).setF (Reg.PRT_PHY_STAT n) 28 1 0).setF
        (Reg.PRT_PHY_TRAIN n) 28 4 1).setF (Reg.PRT_PHY_TRAIN n) 16 7 0).setF (Reg.PRT_PHY_TRAIN n) 0 16 0xFFFF |>.wr (Reg.PRT_PHY_TAPS n)
        (word (tapsPreset * 65537))) :=
    ⟨_, rfl, rfl, fun k => by unfold PhySt.lane; split <;> rfl, rfl⟩
  rw [htrain]
  constructor
  case state => exact prtState_prtSet n (by decide) _
  case step => rw [Chip.f, prtSet_regs _ _ _ _ (by simp [prtAddrs])]; simp [prtAddrs, Chip.rd_wr, Chip.rd_setF, fget_fset_same, fget_fset_ne]
  case trip => rw [Chip.f, prtSet_regs _ _ _ _ (by simp [prtAddrs])]; simp [prtAddrs, Chip.rd_wr, Chip.rd_setF, fget_fset_same]
  case taps => rw [prtSet_regs _ _ _ _ (by simp [prtAddrs]), Chip.rd_wr_same]
  case noneOut =>
    rw [prtSet_f_stat _ _ _ (by decide)]
    simp [Chip.f, prtAddrs, Chip.rd_wr, Chip.rd_setF, fget_fset_same, fget_fset_ne]
  case notUp => rw [prtSet_up hn (by decide)]; rfl
  case attempts =>
    intro h
    rw [prtSet_f_stat _ _ _ (by decide), ← phyCounted_attempts h]
    simp [Chip.f, prtAddrs, Chip.rd_wr, Chip.rd_setF, fget_fset_ne]
  case due => simpa using hdue
  case retry => simpa using hretry
  case lane => simpa using hlane
  case monitors =>
    intro i h10 h28
    rw [prtSet_b_stat _ _ _ (by omega), ← phyCounted_monitors n c h10]
    simp (disch := omega) [Chip.b, prtAddrs, Chip.rd_wr, Chip.rd_setF, fbit_fset_ne]
  case regs =>
    intro a ha
    simp only [List.mem_cons, List.not_mem_nil, or_false, not_or] at ha
    rw [prtSet_regs _ _ _ _ (by simp [ha]), ← phyCounted_regs n c a (by simp [ha])]
    simp [Chip.rd_wr, Chip.rd_setF, ha]

end Sys2Proof.Machine
end

section
/-! PROOF. Ports that go down, lane monitors, exclusion and rejoining (ch. 10, R337 to R346). -/
open Sys2Proof Sys2Proof.Machine
namespace Sys2Proof.Machine

/-! ### A port goes down (R337, R349) -/

theorem phyAbort_regs (n : Nat) (rx : Bool) (c : Chip) : sameRegs [Reg.PRT_PERR n] c (phyAbort n rx c) := fun a ha => by
  unfold phyAbort
  split
  · exact Chip.rd_setB_ne _ (mt List.mem_singleton.mpr ha)
  · rfl

theorem phyAbort_perr (n : Nat) (rx : Bool) (c : Chip) {i : Nat} (h : i ≠ 7) :
    (phyAbort n rx c).b (Reg.PRT_PERR n) i = c.b (Reg.PRT_PERR n) i := by
  unfold phyAbort
  split
  · exact Chip.b_setB_apart _ _ _ _ _ h
  · rfl

@[simp] theorem phyAbort_phyOf (n : Nat) (rx : Bool) (c : Chip) (k : Nat) : (phyAbort n rx c).phyOf k = c.phyOf k := by
  unfold phyAbort
  split <;> rfl

/-- A port's fall shows in the listed words only; the lanes' monitors stand, and so do the flags but PORT_DOWN. -/
structure PortFell (n : Nat) (c d : Chip) : Prop where
  flags : ∀ i, i ≠ 4 → d.b (Reg.PRT_PERR n) i = c.b (Reg.PRT_PERR n) i
  monitors : ∀ i, i < 29 → d.b (Reg.PRT_PHY_STAT n) i = c.b (Reg.PRT_PHY_STAT n) i
  flagged : prtUp c n = true → d.b (Reg.PRT_PERR n) 4 = true
  regs : sameRegs [Reg.PRT_PHY_STAT n, Reg.PRT_PERR n, Reg.PRT_UP, Reg.PRT_DEGR, Reg.CHIP_LOG_WR] c d

theorem phyFall_fell {c : Chip} (hctl : c.ctl = true) (e : Env) (n cause : Nat) : PortFell n c (phyFall e n cause c) := by
  cases hup : prtUp c n with
  | false =>
    have hsame : phyFall e n cause c = c := by simp [phyFall, hup]
    rw [hsame]
    exact ⟨fun _ _ => rfl, fun _ _ => rfl, by simp [hup], fun _ _ => rfl⟩
  | true =>
    obtain ⟨x, hfall⟩ : ∃ x, phyFall e n cause c =
        prtLog e n 0x11 (cause * 2 ^ 28) (prtSet n 1 ((c.setPhy n x).setB (Reg.PRT_PERR n) 4 true)) := ⟨_, by rw [phyFall, if_pos hup]⟩
    have hset : sameRegs (prtWords n) c (prtSet n 1 ((c.setPhy n x).setB (Reg.PRT_PERR n) 4 true)) := fun a ha => by
      simp only [List.mem_cons, List.not_mem_nil, or_false, not_or] at ha
      rw [prtSet_regs _ _ _ _ (by simp [ha]), Chip.rd_setB_ne _ ha.2.2.2.1, Chip.setPhy_rd]
    have hlog := prtLog_regs ((ctl_of_sameRegs hset).trans hctl) e n 0x11 (cause * 2 ^ 28)
    rw [hfall]
    refine ⟨fun i hi => ?_, fun i hi => ?_, fun _ => ?_, fun a ha => ?_⟩
    · rw [Chip.b, hlog _ (by simp [prtAddrs]), prtSet_regs _ _ _ _ (by simp [prtAddrs])]
      exact Chip.b_setB_apart _ _ _ _ _ hi
    · rw [Chip.b, hlog _ (by simp [prtAddrs])]
      exact (prtSet_b_stat _ _ _ hi).trans (Chip.b_setB_ne _ _ _ _ (by simp [prtAddrs]))
    · rw [Chip.b, hlog _ (by simp [prtAddrs]), prtSet_regs _ _ _ _ (by simp [prtAddrs])]
      exact Chip.b_setB_same _ _ _ _ (by decide)
    · simp only [List.mem_cons, List.not_mem_nil, or_false, not_or] at ha
      rw [hlog a (by simp [ha]), prtSet_regs _ _ _ _ (by simp [ha]), Chip.rd_setB_ne _ (by simp [ha]), Chip.setPhy_rd]

/-- A port that is up goes down and trains again (R337). -/
structure PortDown (n : Nat) (c d : Chip) : Prop where
  state : prtState d n = 2
  step : d.f (Reg.PRT_PHY_TRAIN n) 28 4 = 1
  notUp : d.b Reg.PRT_UP n = false
  flagged : d.b (Reg.PRT_PERR n) 4 = true
  flags : ∀ i, i ≠ 4 → d.b (Reg.PRT_PERR n) i = c.b (Reg.PRT_PERR n) i
  monitors : ∀ i, 10 ≤ i → i < 28 → d.b (Reg.PRT_PHY_STAT n) i = c.b (Reg.PRT_PHY_STAT n) i
  regs : sameRegs [Reg.PRT_PHY_STAT n, Reg.PRT_PHY_TRAIN n, Reg.PRT_PHY_TAPS n, Reg.PRT_PERR n, Reg.PRT_UP, Reg.PRT_DEGR, Reg.CHIP_LOG_WR] c d

theorem phyDown_down {e : Env} {n : Nat} {c : Chip} (hlive : prtLive e c n = true) (hup : prtUp c n = true) (cause : Nat) :
    PortDown n c (phyDown e n cause c) := by
  have hfell := phyFall_fell (ctl_of_prtLive hlive) e n cause
  have hbegun := phyTrain_begins e (lt_of_prtLive hlive) (phyFall e n cause c)
  have hlive' : prtLive e (phyFall e n cause c) n = true :=
    (prtLive_of_sameRegs (sameRegs_mono (by simp) hfell.regs) e).trans hlive
  have hperr : (phyTrain e n (phyFall e n cause c)).rd (Reg.PRT_PERR n) = (phyFall e n cause c).rd (Reg.PRT_PERR n) :=
    hbegun.regs _ (by simp [prtAddrs])
  rw [phyDown, if_pos hlive']
  constructor
  case state => exact hbegun.state
  case step => exact hbegun.step
  case notUp => exact hbegun.notUp
  case flagged => rw [Chip.b, hperr]; exact hfell.flagged hup
  case flags => intro i hi; rw [Chip.b, hperr]; exact hfell.flags i hi
  case monitors => exact fun i h10 h28 => (hbegun.monitors i h10 h28).trans (hfell.monitors i (by omega))
  case regs => exact sameRegs_trans (sameRegs_mono (by simp) hfell.regs) (sameRegs_mono (by simp) hbegun.regs)

/-! ### Lane monitors (R337, R338) -/

/-- The flag of PERR that a loss of signal or of lock sets. -/
def monFlag (los : Bool) : Nat := if los then 1 else 2
/-- The place in PHY_CNT of its count. -/
def monPlace (los : Bool) : Nat := if los then 8 else 0

/-- A monitor's assertion shows its bit, its flag and one more of its count (R337). -/
structure MonitorShown (n bit : Nat) (los : Bool) (c d : Chip) : Prop where
  stat : d.rd (Reg.PRT_PHY_STAT n) = fsetb (c.rd (Reg.PRT_PHY_STAT n)) bit true
  flagged : d.b (Reg.PRT_PERR n) (monFlag los) = true
  counted : d.f (Reg.PRT_PHY_CNT n) (monPlace los) 8 = min (c.f (Reg.PRT_PHY_CNT n) (monPlace los) 8 + 1) 255
  rejoin : (d.phyOf n).rejoin = (c.phyOf n).rejoin
  regs : sameRegs [Reg.PRT_PHY_STAT n, Reg.PRT_PERR n, Reg.PRT_PHY_CNT n] c d

theorem phyMonitor_shown (e : Env) (n bit : Nat) (los : Bool) (c : Chip) : MonitorShown n bit los c (phyMonitor e n bit los c) := by
  obtain ⟨x, hrejoin, hmon⟩ : ∃ x : PhySt, x.rejoin = (c.phyOf n).rejoin ∧ phyMonitor e n bit los c =
      ((((c.setB (Reg.PRT_PHY_STAT n) bit true).setPhy n x).sat (Reg.PRT_PHY_CNT n) (monPlace los) 8 1).setB
        (Reg.PRT_PERR n) (monFlag los) true) := by
    refine ⟨{ c.phyOf n with monAt := tset (fun _ => 0) (c.phyOf n).monAt bit e.time.up }, rfl, ?_⟩
    cases los <;> simp only [phyMonitor, monPlace, monFlag, if_true, Bool.false_eq_true, if_false]
  have hplace : monPlace los + 8 ≤ 32 := by cases los <;> decide
  have hflag : monFlag los < 32 := by cases los <;> decide
  rw [hmon]
  constructor
  case stat =>
    rw [Chip.rd_setB_ne _ (by simp [prtAddrs]), Chip.sat, Chip.rd_setF_ne _ (by simp [prtAddrs]), Chip.setPhy_rd, Chip.rd_setB, if_pos rfl]
  case flagged => exact Chip.b_setB_same _ _ _ _ hflag
  case counted =>
    rw [Chip.f_setB_ne _ _ _ _ _ (by simp [prtAddrs]), Chip.f_sat_same _ _ _ _ _ hplace, satAdd, Chip.f, Chip.setPhy_rd,
      Chip.rd_setB_ne _ (by simp [prtAddrs])]
    rfl
  case rejoin => simpa using hrejoin
  case regs =>
    intro a ha
    simp only [List.mem_cons, List.not_mem_nil, or_false, not_or] at ha
    simp [Chip.rd_setB, Chip.rd_sat, ha]

section
variable {n bit : Nat} {los : Bool} {c d : Chip} (h : MonitorShown n bit los c d)
include h

theorem MonitorShown.state (hbit : bit < 29) : prtState d n = prtState c n := by
  rw [prtState, Chip.f, h.stat, fget_fsetb_ne _ _ _ _ _ (.inl hbit), prtState, Chip.f]

theorem MonitorShown.up (hbit : bit < 29) : prtUp d n = prtUp c n := by rw [prtUp, prtUp, h.state hbit]

theorem MonitorShown.shown (hbit : bit < 29) : d.b (Reg.PRT_PHY_STAT n) bit = true := by
  rw [Chip.b, h.stat, fbit_fsetb_same _ _ _ (by omega)]

theorem MonitorShown.prtWords : sameRegs (prtWords n) c d := sameRegs_mono (by simp) h.regs

end

/-- A port that is up and one of whose clock monitors asserts goes down, flagged and counted (R337). -/
structure ClockDown (n : Nat) (los : Bool) (c d : Chip) : Prop where
  state : prtState d n = 2
  step : d.f (Reg.PRT_PHY_TRAIN n) 28 4 = 1
  shown : d.b (Reg.PRT_PHY_STAT n) (if los then 21 else 20) = true
  flagged : d.b (Reg.PRT_PERR n) (monFlag los) = true
  fell : d.b (Reg.PRT_PERR n) 4 = true
  counted : d.f (Reg.PRT_PHY_CNT n) (monPlace los) 8 = min (c.f (Reg.PRT_PHY_CNT n) (monPlace los) 8 + 1) 255
  regs : sameRegs (prtWords n) c d

theorem monFlag_ne (los : Bool) : monFlag los ≠ 4 ∧ monFlag los ≠ 7 ∧ monFlag los ≠ 5 ∧ monFlag los ≠ 8 := by cases los <;> decide

theorem phyClock_down {e : Env} {n : Nat} {m : LineMon} {c : Chip} (los : Bool) (hback : m.back = false) (hlive : prtLive e c n = true)
    (hup : prtUp c n = true) : ClockDown n los c (phyClock e n los m c) := by
  generalize hbit : (if los then 21 else 20 : Nat) = bit
  have hlt : bit < 28 ∧ 10 ≤ bit := by subst hbit; cases los <;> decide
  have hmon := phyMonitor_shown e n bit los c
  have habort := phyAbort_regs n m.rx (phyMonitor e n bit los c)
  have hstat : (phyAbort n m.rx (phyMonitor e n bit los c)).rd (Reg.PRT_PHY_STAT n) = (phyMonitor e n bit los c).rd (Reg.PRT_PHY_STAT n) :=
    habort _ (by simp [prtAddrs])
  have hup' : prtUp (phyAbort n m.rx (phyMonitor e n bit los c)) n = true := by
    rw [← hup, ← hmon.up (by omega), prtUp, prtUp, prtState, prtState, Chip.f, hstat, Chip.f]
  have hwords : sameRegs (prtWords n) c (phyAbort n m.rx (phyMonitor e n bit los c)) :=
    sameRegs_trans hmon.prtWords (sameRegs_mono (by simp) habort)
  have hdown := phyDown_down ((prtLive_of_sameRegs hwords e).trans hlive) hup' (if los then 1 else 2)
  have hclock : phyClock e n los m c = phyDown e n (if los then 1 else 2) (phyAbort n m.rx (phyMonitor e n bit los c)) := by
    simp [phyClock, hlive, hback, hup, hbit]
  obtain ⟨h4, h7, -, -⟩ := monFlag_ne los
  rw [hclock]
  constructor
  case state => exact hdown.state
  case step => exact hdown.step
  case shown => rw [hbit, hdown.monitors bit hlt.2 hlt.1, Chip.b, hstat]; exact hmon.shown (by omega)
  case flagged => rw [hdown.flags _ h4, phyAbort_perr _ _ _ h7, hmon.flagged]
  case fell => exact hdown.flagged
  case counted => rw [Chip.f, hdown.regs _ (by simp [prtAddrs]), habort _ (by simp [prtAddrs])]; exact hmon.counted
  case regs => exact sameRegs_trans hwords (sameRegs_mono (by simp) hdown.regs)

/-- The marks of a data lane's loss of signal or of lock: the monitor's, and the lane's count of slots starts again (R337, R338). -/
def laneMarked (e : Env) (n k : Nat) (los : Bool) (c : Chip) : Chip :=
  let c1 := phyMonitor e n ((if los then 17 else 16) + 2 * k) los c
  let x := c1.phyOf n
  c1.setPhy n (x.setLane k { x.lane k with goodAt := e.time.up, seekAt := e.time.up })

theorem laneMarked_shown (e : Env) (n k : Nat) (los : Bool) (c : Chip) :
    MonitorShown n ((if los then 17 else 16) + 2 * k) los c (laneMarked e n k los c) := by
  obtain ⟨hstat, hflagged, hcounted, hrejoin, hregs⟩ := phyMonitor_shown e n ((if los then 17 else 16) + 2 * k) los c
  refine ⟨hstat, hflagged, hcounted, ?_, hregs⟩
  rw [laneMarked, Chip.phyOf_setPhy, PhySt.rejoin_setLane, hrejoin]

/-- A monitor of a lane in service asserts: the lane is excluded. -/
theorem phyData_of_lost {e : Env} {n k : Nat} {los : Bool} {m : LineMon} {c : Chip} (hback : m.back = false) (hlive : prtLive e c n = true)
    (hlost : los = false → c.b (Reg.PRT_PHY_STAT n) (16 + 2 * k) = false ∧ lockGone e ((c.phyOf n).lane k) = true) (hup : prtUp c n = true)
    (hin : prtOut c n k = false) (hlane : (prtLanes c n).contains k = true) :
    phyData e n k los m c = phyExclude e n k los (phyAbort n m.rx (laneMarked e n k los c)) := by
  have hgone : (!los && (c.b (Reg.PRT_PHY_STAT n) ((if los then 17 else 16) + 2 * k) || !lockGone e ((c.phyOf n).lane k))) = false := by
    cases los with
    | true => rfl
    | false => obtain ⟨hshown, hgone⟩ := hlost rfl; simp [hshown, hgone]
  simp only [phyData, hlive, hback, hgone, hup, hin, hlane]
  rfl

/-! ### Exclusion (R337, R339, R343, R346) -/

/-- No rejoin of the present cycle is undone. -/
theorem phyUnrejoin_of_quiet {e : Env} {n : Nat} {c : Chip} (k : Nat)
    (h : (c.phyOf n).rejoin.all (fun x => x.1 != e.time.up) = true ∨ prtState c n ≠ 3) : phyUnrejoin e n k c = c := by
  unfold phyUnrejoin
  dsimp only
  split
  next t j was hre =>
    refine if_neg fun ⟨ht, _, hst⟩ => ?_
    rcases h with h | h
    · rw [hre] at h
      simp [ht] at h
    · exact h hst
  next => rfl

/-- What an exclusion does before the port's state follows: the lane excluded, the log, and FLAPPING where it is held out (R343). -/
structure LaneExcluded (n k : Nat) (c d : Chip) : Prop where
  stat : d.rd (Reg.PRT_PHY_STAT n) = fsetb (c.rd (Reg.PRT_PHY_STAT n)) (8 + k) true
  flags : ∀ i, i ≠ 8 → d.b (Reg.PRT_PERR n) i = c.b (Reg.PRT_PERR n) i
  regs : sameRegs [Reg.PRT_PHY_STAT n, Reg.PRT_PERR n, Reg.CHIP_LOG_WR] c d

theorem phyExclude_eq {e : Env} {n : Nat} {c : Chip} (hctl : c.ctl = true) (k : Nat) (los : Bool)
    (h : (c.phyOf n).rejoin.all (fun x => x.1 != e.time.up) = true ∨ prtState c n ≠ 3) :
    ∃ d, LaneExcluded n k c d ∧ phyExclude e n k los c =
      if prtState c n = 3 then prtSet n 4 ((d.setB (Reg.PRT_PERR n) 5 true).setF (Reg.PRT_PHY_STAT n) 28 1 (1 - k)) else phyDown e n 3 d := by
  obtain ⟨x, flap, detail, hexcl⟩ : ∃ (x : PhySt) (flap : Bool) (detail : Nat), phyExclude e n k los c =
      let c0 := phyTell e n (phyUnrejoin e n k c)
      let c1 := prtLog e n 0x13 detail ((c0.setPhy n x).setB (Reg.PRT_PHY_STAT n) (8 + k) true)
      let d := if flap then prtLog e n 0x15 (k * 2 ^ 31) (c1.setB (Reg.PRT_PERR n) 8 true) else c1
      if prtState c0 n = 3 then prtSet n 4 ((d.setB (Reg.PRT_PERR n) 5 true).setF (Reg.PRT_PHY_STAT n) 28 1 (1 - k)) else phyDown e n 3 d :=
    ⟨_, _, _, rfl⟩
  rw [hexcl, phyUnrejoin_of_quiet k h]
  refine ⟨_, ?_, rfl⟩
  generalize hc1 : prtLog e n 0x13 detail (((phyTell e n c).setPhy n x).setB (Reg.PRT_PHY_STAT n) (8 + k) true) = c1
  have hexcluded : LaneExcluded n k c c1 := by
    have hlog := prtLog_regs (c := ((phyTell e n c).setPhy n x).setB (Reg.PRT_PHY_STAT n) (8 + k) true)
      ((Chip.ctl_of_rd (Chip.rd_setB_ne _ (by simp only [prtAddrs]; omega))).trans hctl) e n 0x13 detail
    rw [hc1] at hlog
    refine ⟨?_, fun i _ => ?_, fun a ha => ?_⟩
    · rw [hlog _ (by simp [prtAddrs]), Chip.rd_setB, if_pos rfl]
      rfl
    · rw [Chip.b, hlog _ (by simp [prtAddrs]), Chip.rd_setB_ne _ (by simp [prtAddrs])]
      rfl
    · simp only [List.mem_cons, List.not_mem_nil, or_false, not_or] at ha
      simp [hlog a (by simp [ha]), Chip.rd_setB, ha]
  obtain ⟨hstat, hflags, hregs⟩ := hexcluded
  cases flap with
  | false => exact ⟨hstat, hflags, hregs⟩
  | true =>
    have hset : sameRegs [Reg.PRT_PERR n] c1 (c1.setB (Reg.PRT_PERR n) 8 true) := fun a ha => Chip.rd_setB_ne _ (mt List.mem_singleton.mpr ha)
    have hctl1 : (c1.setB (Reg.PRT_PERR n) 8 true).ctl = true :=
      (ctl_of_sameRegs (n := n) (sameRegs_trans (sameRegs_mono (by simp) hregs) (sameRegs_mono (by simp) hset))).trans hctl
    have hlog := prtLog_regs hctl1 e n 0x15 (k * 2 ^ 31)
    refine ⟨?_, fun i hi => ?_, ?_⟩
    · rw [if_pos rfl, hlog _ (by simp [prtAddrs]), hset _ (by simp [prtAddrs]), hstat]
    · rw [if_pos rfl, Chip.b, hlog _ (by simp [prtAddrs])]
      exact (Chip.b_setB_apart _ _ _ _ _ hi).trans (hflags i hi)
    · exact sameRegs_trans hregs (sameRegs_trans (sameRegs_mono (by simp) hset) (sameRegs_mono (by simp) hlog))

/-- A data lane has lost its signal or its lock, before it is excluded: the state stands, flagged and counted. -/
structure LaneLost (n : Nat) (los : Bool) (c d : Chip) : Prop where
  state : prtState d n = prtState c n
  rejoin : (d.phyOf n).rejoin = (c.phyOf n).rejoin
  flagged : d.b (Reg.PRT_PERR n) (monFlag los) = true
  counted : d.f (Reg.PRT_PHY_CNT n) (monPlace los) 8 = min (c.f (Reg.PRT_PHY_CNT n) (monPlace los) 8 + 1) 255
  regs : sameRegs (prtWords n) c d

theorem laneMarked_lost (e : Env) (n : Nat) {k : Nat} (hk : k < 2) (los rx : Bool) (c : Chip) :
    LaneLost n los c (phyAbort n rx (laneMarked e n k los c)) := by
  have hmon := laneMarked_shown e n k los c
  have habort := phyAbort_regs n rx (laneMarked e n k los c)
  have hbit : (if los then 17 else 16) + 2 * k < 29 := by split <;> omega
  constructor
  case state => rw [prtState, Chip.f, habort _ (by simp [prtAddrs])]; exact hmon.state hbit
  case rejoin => rw [phyAbort_phyOf, hmon.rejoin]
  case flagged => rw [phyAbort_perr _ _ _ (monFlag_ne los).2.1, hmon.flagged]
  case counted => rw [Chip.f, habort _ (by simp [prtAddrs])]; exact hmon.counted
  case regs => exact sameRegs_trans hmon.prtWords (sameRegs_mono (by simp) habort)

section
variable {e : Env} {n k : Nat} (hk : k < 2) {los : Bool} {m : LineMon} {c : Chip} (hback : m.back = false) (hlive : prtLive e c n = true)
  (hlost : los = false → c.b (Reg.PRT_PHY_STAT n) (16 + 2 * k) = false ∧ lockGone e ((c.phyOf n).lane k) = true)
  (hin : prtOut c n k = false) (hlane : (prtLanes c n).contains k = true)
include hk hback hlive hlost hin hlane

/-- A lane of a port up on two is excluded: the port stays up on the other one (R337). -/
theorem phyData_dual (hstate : prtState c n = 3) (hquiet : (c.phyOf n).rejoin.all (fun x => x.1 != e.time.up) = true) {d : Chip}
    (hd : phyData e n k los m c = d) : prtState d n = 4 ∧ d.b Reg.PRT_UP n = true ∧ d.b Reg.PRT_DEGR n = true ∧ prtOut d n k = true ∧
    d.f (Reg.PRT_PHY_STAT n) 28 1 = 1 - k ∧ d.b (Reg.PRT_PERR n) (monFlag los) = true ∧
    d.f (Reg.PRT_PHY_CNT n) (monPlace los) 8 = min (c.f (Reg.PRT_PHY_CNT n) (monPlace los) 8 + 1) 255 ∧ sameRegs (prtWords n) c d := by
  have hl := laneMarked_lost e n hk los m.rx c
  obtain ⟨x, hx, hexcl⟩ := phyExclude_eq ((ctl_of_sameRegs hl.regs).trans (ctl_of_prtLive hlive)) k los (.inl (by rw [hl.rejoin]; exact hquiet))
  rw [phyData_of_lost hback hlive hlost (by simp [prtUp, hstate]) hin hlane, hexcl, if_pos (hl.state.trans hstate)] at hd
  have hn := lt_of_prtLive hlive
  obtain ⟨-, -, h5, h8⟩ := monFlag_ne los
  subst hd
  refine ⟨prtState_prtSet _ (by decide) _, prtSet_up hn (by decide) _, prtSet_degr hn _, ?_, ?_, ?_, ?_, fun a ha => ?_⟩
  · rw [prtOut, prtSet_b_stat _ _ _ (by omega), Chip.b_setF_apart _ _ _ _ _ _ (.inl (by omega)), Chip.b_setB_ne _ _ _ _ (by simp [prtAddrs]),
      Chip.b, hx.stat, fbit_fsetb_same _ _ _ (by omega)]
  · rw [prtSet_f_stat _ _ _ (by decide), Chip.f_setF_same _ _ _ _ _ (by decide)]
    exact Nat.mod_eq_of_lt (by omega)
  · rw [Chip.b, prtSet_regs _ _ _ _ (by simp [prtAddrs]), ← Chip.b, Chip.b_setF_ne _ _ _ _ _ (by simp [prtAddrs]),
      Chip.b_setB_apart _ _ _ _ _ h5, hx.flags _ h8, hl.flagged]
  · rw [Chip.f, prtSet_regs _ _ _ _ (by simp [prtAddrs]), Chip.rd_setF_ne _ (by simp [prtAddrs]), Chip.rd_setB_ne _ (by simp [prtAddrs]),
      hx.regs _ (by simp [prtAddrs])]
    exact hl.counted
  · refine Eq.trans ?_ (hl.regs a ha)
    simp only [List.mem_cons, List.not_mem_nil, or_false, not_or] at ha
    rw [prtSet_regs _ _ _ _ (by simp [ha]), Chip.rd_setF_ne _ (by simp [ha]), Chip.rd_setB_ne _ (by simp [ha]), hx.regs _ (by simp [ha])]

/-- The lane of a port up on one is lost: the port goes down (R337). -/
theorem phyData_single (hstate : prtState c n = 4) {d : Chip} (hd : phyData e n k los m c = d) : prtState d n = 2 ∧
    d.b Reg.PRT_UP n = false ∧ d.b (Reg.PRT_PERR n) 4 = true ∧ sameRegs (prtWords n) c d := by
  have hl := laneMarked_lost e n hk los m.rx c
  have hstate' := hl.state.trans hstate
  obtain ⟨x, hx, hexcl⟩ := phyExclude_eq ((ctl_of_sameRegs hl.regs).trans (ctl_of_prtLive hlive)) k los (.inr (by rw [hstate']; decide))
  rw [phyData_of_lost hback hlive hlost (by simp [prtUp, hstate]) hin hlane, hexcl, if_neg (by rw [hstate']; decide)] at hd
  have hxw := sameRegs_trans hl.regs (sameRegs_mono (by simp) hx.regs)
  have hxstate : prtState x n = 4 := by
    rw [prtState, Chip.f, hx.stat, fget_fsetb_ne _ _ _ _ _ (.inl (by omega))]
    exact hstate'
  have hdown := phyDown_down ((prtLive_of_sameRegs hxw e).trans hlive) (by simp [prtUp, hxstate]) 3
  subst hd
  exact ⟨hdown.state, hdown.notUp, hdown.flagged, sameRegs_trans hxw (sameRegs_mono (by simp) hdown.regs)⟩

end

/-! ### Signals that return, code errors and rejoining (R338, R340, R343) -/

/-- A signal that is back for 10 µs clears its bit and leaves the rest of the port's words (R337). -/
theorem phyReturn_signal {e : Env} {n k : Nat} (hk : k < 2) {c : Chip} (hshown : c.b (Reg.PRT_PHY_STAT n) (17 + 2 * k) = true)
    (hback : tget (fun _ => 0) (c.phyOf n).monAt (17 + 2 * k) + 2000 ≤ e.time.up) :
    ∃ x, phyReturn e n (17 + 2 * k) c = (c.setB (Reg.PRT_PHY_STAT n) (17 + 2 * k) false).setPhy n x := by
  have hsignal : ¬ (17 + 2 * k = 16 ∨ 17 + 2 * k = 18) := by omega
  have hlane : 17 + 2 * k < 20 := by omega
  simp only [phyReturn, hshown, hsignal, hback, hlane, if_true, if_false, decide_true, Bool.and_self]
  exact ⟨_, rfl⟩

/-- A code error is counted and flagged, and breaks a bundle on its lane (R325, R338). -/
theorem phyBadBlock_counts (e : Env) (n k : Nat) (b : LineBlock) {c d : Chip} (hd : phyBadBlock e n k b c = d) :
    d.f (Reg.PRT_PHY_CNT n) 16 16 = min (c.f (Reg.PRT_PHY_CNT n) 16 16 + 1) 65535 ∧ d.b (Reg.PRT_PERR n) 0 = true ∧
    ((d.phyOf n).lane k).errAt = some e.time.up ∧ sameRegs [Reg.PRT_PHY_CNT n, Reg.PRT_PERR n] c d := by
  subst hd
  refine ⟨?_, Chip.b_setB_same _ _ _ _ (by decide), ?_, fun a ha => ?_⟩
  · exact (Chip.f_setB_ne _ _ _ _ _ (by simp [prtAddrs])).trans (Chip.f_sat_same _ _ _ _ _ (by decide))
  · simp [phyBadBlock, laneBad]
  · simp only [List.mem_cons, List.not_mem_nil, or_false, not_or] at ha
    exact (Chip.rd_setB_ne _ ha.2).trans (Chip.rd_setF_ne _ ha.1)

/-- An excluded lane that has met its conditions returns: the port is up on two (R343). -/
theorem phyRejoin_returns {e : Env} {n : Nat} {x : LaneEye} {c : Chip} (hlive : prtLive e c n = true) (hdue : laneRejoinDue e c n x = true)
    (hother : ((c.phyOf n).lane (1 - x.lane.val)).exAt ≠ some e.time.up) (hstate : prtState c n = 4) (hout : prtOut c n x.lane = true)
    (hon : c.b (Reg.PRT_PHY_CFG n) 30 = true) (hforced : prtForced c n = none) (hflap : ((c.phyOf n).lane x.lane).flap = false) {d : Chip}
    (hd : phyRejoin e n x c = d) : prtState d n = 3 ∧ prtOut d n x.lane = false ∧ d.b (Reg.PRT_PERR n) 6 = true ∧ d.b Reg.PRT_UP n = true ∧
    sameRegs (prtWords n) c d := by
  have hmet : (prtLive e c n && prtState c n == 4 && prtOut c n x.lane && c.b (Reg.PRT_PHY_CFG n) 30 && (prtForced c n).isNone
      && !((c.phyOf n).lane x.lane).flap && laneRejoinDue e c n x && ((c.phyOf n).lane (1 - x.lane)).exAt != some e.time.up) = true := by
    simp [hlive, hdue, hstate, hout, hon, hforced, hflap, hother]
  obtain ⟨y, eye, detail, hrejoin⟩ : ∃ (y : PhySt) (eye detail : Nat), phyRejoin e n x c = prtLog e n 0x14 detail (prtSet n 3
      (((((phyTell e n (c.setF (Reg.PRT_PHY_EYE n) (16 * x.lane.val) 16 eye)).setPhy n y).setB (Reg.PRT_PHY_STAT n) (8 + x.lane.val) false).setF
        (Reg.PRT_PHY_STAT n) 28 1 0).setB (Reg.PRT_PERR n) 6 true)) := ⟨_, _, _, if_pos hmet⟩
  have hn := lt_of_prtLive hlive
  generalize hu : prtSet n 3 _ = u at hrejoin
  have hwords : sameRegs (prtWords n) c u := fun a ha => by
    simp only [List.mem_cons, List.not_mem_nil, or_false, not_or] at ha
    rw [← hu, prtSet_regs _ _ _ _ (by simp [ha]), Chip.rd_setB_ne _ (by simp [ha]), Chip.rd_setF_ne _ (by simp [ha]),
      Chip.rd_setB_ne _ (by simp [ha]), Chip.setPhy_rd, phyTell_rd, Chip.rd_setF_ne _ (by simp [ha])]
  have hlog := prtLog_regs ((ctl_of_sameRegs hwords).trans (ctl_of_prtLive hlive)) e n 0x14 detail
  rw [hrejoin] at hd
  subst hd
  refine ⟨?_, ?_, ?_, ?_, sameRegs_trans hwords (sameRegs_mono (by simp) hlog)⟩
  · rw [prtState, Chip.f, hlog _ (by simp [prtAddrs]), ← hu]
    exact prtState_prtSet n (by decide) _
  · rw [prtOut, Chip.b, hlog _ (by simp [prtAddrs]), ← hu]
    exact (prtSet_b_stat _ _ _ (by omega)).trans ((Chip.b_setB_ne _ _ _ _ (by simp [prtAddrs])).trans
      ((Chip.b_setF_apart _ _ _ _ _ _ (.inl (by omega))).trans (Chip.b_setB_same _ _ _ _ (by omega))))
  · rw [Chip.b, hlog _ (by simp [prtAddrs]), ← hu, prtSet_regs _ _ _ _ (by simp [prtAddrs])]
    exact Chip.b_setB_same _ _ _ _ (by decide)
  · rw [Chip.b, hlog _ (by simp [prtAddrs]), ← hu]
    exact prtSet_up hn (by decide) _

/-! ### The commands -/

theorem onChip_of_same {f : Env → Chip → Chip} {s : State} (h : f s.env s.chip = s.chip) : onChip f s = s := by
  rw [onChip, h]

/-- An effect that answers as another one does on the state. -/
theorem onChip_congr {f g : Env → Chip → Chip} {s : State} (h : f s.env s.chip = g s.env s.chip) : onChip f s = onChip g s := by
  rw [onChip, onChip, h]

section
variable {s : State} {n : Fin 34} (hn : n.val < 32)
include hn

theorem exec_clockLos (m : LineMon) : exec (.clockLos n m) s = .next (onChip (fun e => phyClock e n true m) s) :=
  congrArg Host.Outcome.next (onChip_congr (if_pos hn))

theorem exec_clockLol (m : LineMon) : exec (.clockLol n m) s = .next (onChip (fun e => phyClock e n false m) s) :=
  congrArg Host.Outcome.next (onChip_congr (if_pos hn))

theorem exec_dataLos (k : Fin 2) (m : LineMon) : exec (.dataLos n k m) s = .next (onChip (fun e => phyData e n k true m) s) :=
  congrArg Host.Outcome.next (onChip_congr (if_pos hn))

theorem exec_dataLol (k : Fin 2) (m : LineMon) : exec (.dataLol n k m) s = .next (onChip (fun e => phyData e n k false m) s) :=
  congrArg Host.Outcome.next (onChip_congr (if_pos hn))

theorem exec_laneRejoin (x : LaneEye) : exec (.laneRejoin n x) s = .next (onChip (fun e => phyRejoin e n x) s) :=
  congrArg Host.Outcome.next (onChip_congr (if_pos hn))

end

theorem exec_codeErr_of_bad {s : State} {b : BadBlock} (hbad : b.blk.kind = .bad) (hlive : prtLive s.env s.chip b.port = true) :
    exec (.codeErr b) s = .next (onChip (fun e => phyBadBlock e b.port b.lane b.blk) s) := by
  refine congrArg Host.Outcome.next (onChip_congr ?_)
  simp [hbad, lt_of_prtLive hlive, hlive]

theorem exec_codeErr_of_good {s : State} {b : BadBlock} (hgood : b.blk.kind ≠ .bad) : exec (.codeErr b) s = .next s :=
  congrArg Host.Outcome.next (onChip_of_same (if_pos (bne_iff_ne.mpr hgood)))

/-- A STATUS block shows the far end's exclusions (R340). -/
theorem exec_status_of_up {s : State} {n : Fin 32} {blk : LineBlock} (rx : Bool) (hlive : prtLive s.env s.chip n = true)
    (hkind : blk.kind = .status) (hkeep : blk.payload.getLsbD 10 = false) (hup : prtUp s.chip n = true) :
    exec (.statusBlockReceived n blk rx) s = .next (onChip (fun _ c => c.setPhy n { c.phyOf n with
      farOut := (if blk.payload.getLsbD 8 then 1 else 0) + (if blk.payload.getLsbD 9 then 2 else 0) }) s) := by
  refine congrArg Host.Outcome.next (onChip_congr ?_)
  simp only [hlive, hkind, hkeep, hup, if_true]
  rfl

/-- A port that the far end asks to train goes down where it is up and trains (R330). -/
def phyRestart (e : Env) (n cause : Nat) (rx : Bool) (c : Chip) : Chip := phyTrain e n (phyFall e n cause (phyAbort n rx c))

theorem exec_status_of_retrain {s : State} {n : Fin 32} {blk : LineBlock} (rx : Bool) (hlive : prtLive s.env s.chip n = true)
    (hkind : blk.kind = .status) (hagain : blk.payload.getLsbD 10 = true) :
    exec (.statusBlockReceived n blk rx) s = .next (onChip (fun e c => phyRestart e n 4 (rx && prtUp c n) c) s) := by
  refine congrArg Host.Outcome.next (onChip_congr ?_)
  simp only [hlive, hkind, hagain, if_true]
  rfl

theorem phyRestart_begins {e : Env} {n : Nat} {c : Chip} (hlive : prtLive e c n = true) (cause : Nat) (rx : Bool) :
    (∃ d, TrainingBegun n d (phyRestart e n cause rx c)) ∧ sameRegs (prtWords n) c (phyRestart e n cause rx c) := by
  have habort := sameRegs_mono (l' := prtWords n) (by simp) (phyAbort_regs n rx c)
  have hfell := phyFall_fell ((ctl_of_sameRegs habort).trans (ctl_of_prtLive hlive)) e n cause
  have hbegun := phyTrain_begins e (lt_of_prtLive hlive) (phyFall e n cause (phyAbort n rx c))
  exact ⟨⟨_, hbegun⟩, sameRegs_trans habort (sameRegs_trans (sameRegs_mono (by simp) hfell.regs) (sameRegs_mono (by simp) hbegun.regs))⟩

end Sys2Proof.Machine

/-- Settles O32: a lost clock takes the port down into a training; a lost lane is excluded, or takes down the port that used only it; what a
block or a returned signal tells is shown; an excluded lane rejoins. Each command is its operation on the port's own words. -/
theorem portLanes : Obligations.PortLanes := by
  refine ⟨fun s n m hback hlive hup => ?clockLos, fun s n m hback hlive hup => ?clockLol,
    fun s n k m hback hlive hstate hquiet hin hlane => ?losDual, fun s n k m hback hlive hstate hin hlane => ?losSingle,
    fun s n k m hback hlock hgone hlive hstate hquiet hin hlane => ?lolDual,
    fun s n k m hback hlock hgone hlive hstate hin hlane => ?lolSingle,
    fun s n b hport hbad hlive => ?codeErr, fun s b hgood => ?noCodeErr, fun s n blk rx hlive hup hkind hkeep => ?status,
    fun s n blk rx hlive hkind hagain => ?retrain,
    fun s n x k hk hdue hother hlive hstate hout hon hforced hflap => ?rejoin, fun s n x hn hnot => ?noRejoin,
    fun s n k m hlive hback hshown hlong => ?signal⟩
  case clockLos =>
    have h := phyClock_down true hback hlive hup
    exact ⟨_, exec_clockLos (lt_of_prtLive hlive) m, h.state, h.step, h.shown, h.flagged, h.fell, h.counted, onChip_onlyChip _ s, h.regs⟩
  case clockLol =>
    have h := phyClock_down false hback hlive hup
    exact ⟨_, exec_clockLol (lt_of_prtLive hlive) m, h.state, h.step, h.shown, h.flagged, h.fell, h.counted, onChip_onlyChip _ s, h.regs⟩
  case losDual =>
    obtain ⟨hst, hu, hdegr, hex, hrx, hflag, hcnt, hregs⟩ :=
      phyData_dual k.isLt (los := true) hback hlive (fun h => absurd h (by decide)) hin hlane hstate hquiet rfl
    exact ⟨_, exec_dataLos (lt_of_prtLive hlive) k m, hst, hu, hdegr, hex, hrx, hflag, hcnt, onChip_onlyChip _ s, hregs⟩
  case losSingle =>
    obtain ⟨hst, hu, hfell, hregs⟩ := phyData_single k.isLt (los := true) hback hlive (fun h => absurd h (by decide)) hin hlane hstate rfl
    exact ⟨_, exec_dataLos (lt_of_prtLive hlive) k m, hst, hu, hfell, onChip_onlyChip _ s, hregs⟩
  case lolDual =>
    obtain ⟨hst, hu, hdegr, hex, hrx, hflag, hcnt, hregs⟩ :=
      phyData_dual k.isLt (los := false) hback hlive (fun _ => ⟨hlock, hgone⟩) hin hlane hstate hquiet rfl
    exact ⟨_, exec_dataLol (lt_of_prtLive hlive) k m, hst, hu, hdegr, hex, hrx, hflag, hcnt, onChip_onlyChip _ s, hregs⟩
  case lolSingle =>
    obtain ⟨hst, hu, hfell, hregs⟩ := phyData_single k.isLt (los := false) hback hlive (fun _ => ⟨hlock, hgone⟩) hin hlane hstate rfl
    exact ⟨_, exec_dataLol (lt_of_prtLive hlive) k m, hst, hu, hfell, onChip_onlyChip _ s, hregs⟩
  case codeErr =>
    subst hport
    obtain ⟨hcnt, hflag, herr, hregs⟩ := phyBadBlock_counts s.env b.port b.lane b.blk (c := s.chip) rfl
    exact ⟨_, exec_codeErr_of_bad hbad hlive, hcnt, hflag, herr, onChip_onlyChip _ s, hregs⟩
  case noCodeErr => exact exec_codeErr_of_good hgood
  case status =>
    refine ⟨_, exec_status_of_up rx hlive hkind hkeep hup, ?_, ?_, ?_, onChip_onlyChip _ s, fun _ _ => rfl⟩ <;>
      rw [onChip_chip, Chip.phyOf_setPhy]
  case retrain =>
    obtain ⟨⟨_, hbegun⟩, hregs⟩ := phyRestart_begins hlive 4 (rx && prtUp s.chip n)
    exact ⟨_, exec_status_of_retrain rx hlive hkind hagain, hbegun.state, hbegun.step, hbegun.trip, hbegun.taps, hbegun.noneOut, hbegun.notUp,
      onChip_onlyChip _ s, hregs⟩
  case rejoin =>
    subst hk
    obtain ⟨hst, hin, hflag, hu, hregs⟩ := phyRejoin_returns hlive hdue hother hstate hout hon hforced hflap rfl
    exact ⟨_, exec_laneRejoin (lt_of_prtLive hlive) x, hst, hin, hflag, hu, onChip_onlyChip _ s, hregs⟩
  case noRejoin =>
    rw [exec_laneRejoin hn x]
    exact congrArg Host.Outcome.next (onChip_of_same (by simp [phyRejoin, hnot]))
  case signal =>
    obtain ⟨x, hret⟩ := phyReturn_signal k.isLt hshown hlong
    have hdata : phyData s.env n k true m s.chip = phyReturn s.env n (17 + 2 * k.val) s.chip := by simp [phyData, hlive, hback]
    refine ⟨_, exec_dataLos (lt_of_prtLive hlive) k m, ?_, ?_, onChip_onlyChip _ s, fun a ha => ?_⟩ <;> rw [onChip_chip, hdata, hret]
    · exact Chip.b_setB_same _ _ _ _ (by omega)
    · exact Chip.f_setB_apart _ _ _ _ _ _ (.inl (by omega))
    · exact Chip.rd_setB_ne _ (mt List.mem_singleton.mpr ha)
end

section
/-! PROOF. The commands of a port's training (ch. 10, R329 to R336). -/
open Sys2Proof Sys2Proof.Machine
namespace Sys2Proof.Machine

/-! ### A TRAIN block received (R329, R332, R333) -/

/-- A lane that has applied a request, where its SEQ is new (R332). -/
def PhyLane.applied (l : PhyLane) (seq : Nat) (resp : BitVec 16) : PhyLane :=
  if l.seq != some seq then { l with seq := some seq, response := resp } else l

/-- A lane that has taken the answer to its own request, where it awaits one (R333). -/
def PhyLane.answered (l : PhyLane) (seq now : Nat) : PhyLane :=
  if l.waiting && seq == l.request.toNat / 2 ^ 12 then { l with waiting := false, answAt := some now } else l

/-- A lane after a TRAIN block. -/
def PhyLane.taken (l : PhyLane) (b : TrainWord) (resp : BitVec 16) (echo now : Nat) : PhyLane :=
  let l2 := (l.applied (b.request.toNat / 2 ^ 12) resp).answered (b.response.toNat / 2 ^ 12) now
  { l2 with ready := l2.ready || b.ready, echoAt := if b.mark then some echo else l2.echoAt }

theorem PhyLane.applied_seq (l : PhyLane) (seq : Nat) (resp : BitVec 16) : (l.applied seq resp).seq = some seq := by
  unfold PhyLane.applied
  split
  next => rfl
  next h => simpa using h

theorem PhyLane.applied_others (l : PhyLane) (seq : Nat) (resp : BitVec 16) : (l.applied seq resp).waiting = l.waiting ∧
    (l.applied seq resp).request = l.request ∧ (l.applied seq resp).ready = l.ready := by
  unfold PhyLane.applied
  split <;> exact ⟨rfl, rfl, rfl⟩

theorem PhyLane.answered_others (l : PhyLane) (seq now : Nat) : (l.answered seq now).seq = l.seq ∧ (l.answered seq now).ready = l.ready := by
  unfold PhyLane.answered
  split <;> exact ⟨rfl, rfl⟩

section
variable (l : PhyLane) (b : TrainWord) (resp : BitVec 16) (echo now : Nat)

theorem PhyLane.taken_seq : (l.taken b resp echo now).seq = some (b.request.toNat / 2 ^ 12) :=
  (PhyLane.answered_others _ _ _).1.trans (PhyLane.applied_seq _ _ _)

theorem PhyLane.taken_ready : (l.taken b resp echo now).ready = (l.ready || b.ready) :=
  congrArg (· || b.ready) ((PhyLane.answered_others _ _ _).2.trans (PhyLane.applied_others _ _ _).2.2)

theorem PhyLane.taken_answer (hwait : l.waiting = true) (hansw : b.response.toNat / 2 ^ 12 = l.request.toNat / 2 ^ 12) :
    (l.taken b resp echo now).waiting = false ∧ (l.taken b resp echo now).answAt = some now := by
  obtain ⟨hw, hr, -⟩ := l.applied_others (b.request.toNat / 2 ^ 12) resp
  have hmet : ((l.applied (b.request.toNat / 2 ^ 12) resp).waiting &&
      b.response.toNat / 2 ^ 12 == (l.applied (b.request.toNat / 2 ^ 12) resp).request.toNat / 2 ^ 12) = true := by
    rw [hw, hr, hwait, hansw, beq_self_eq_true, Bool.and_self]
  rw [PhyLane.taken, PhyLane.answered, if_pos hmet]
  exact ⟨rfl, rfl⟩

end

/-- The round trip shown once the ECHO of the own MARK is back (R329). -/
def tripShown (e : Env) (n k : Nat) (echo : Bool) (mark : Option (Nat × Nat)) (c : Chip) : Chip :=
  match mark with
  | some (j, m) =>
    if echo && j == k && decide (m ≤ e.time.up) && c.f (Reg.PRT_PHY_TRAIN n) 0 16 == 0xFFFF then
      c.setF (Reg.PRT_PHY_TRAIN n) 0 16 (min 0xFFFE (((e.time.up - m) * 25 - 32 * 132) / 25))
    else c
  | none => c

theorem tripShown_cases (e : Env) (n k : Nat) (echo : Bool) (mark : Option (Nat × Nat)) (c : Chip) :
    tripShown e n k echo mark c = c ∨ ∃ v, tripShown e n k echo mark c = c.setF (Reg.PRT_PHY_TRAIN n) 0 16 v := by
  unfold tripShown
  split
  · split
    · exact .inr ⟨_, rfl⟩
    · exact .inl rfl
  · exact .inl rfl

theorem phyTrainBlock_eq (e : Env) (n k : Nat) (p : BitVec 64) (c : Chip) :
    ∃ (bad taps echo : Nat) (resp : BitVec 16) (mark : Option (Nat × Nat)), phyTrainBlock e n k p c =
      tripShown e n k (trainRead p).echo (c.phyOf n).markAt
        ((if ((c.phyOf n).lane k).seq != some ((trainRead p).request.toNat / 2 ^ 12) then
            phyCodeErr n bad (c.setF (Reg.PRT_PHY_TAPS n) (16 * k) 16 taps) else c).setPhy n
          { (c.phyOf n).setLane k (((c.phyOf n).lane k).taken (trainRead p) resp echo e.time.up) with markAt := mark }) :=
  ⟨_, _, _, _, _, rfl⟩

theorem phyCodeErr_regs (n k : Nat) (c : Chip) : sameRegs [Reg.PRT_PERR n, Reg.PRT_PHY_CNT n] c (phyCodeErr n k c) := fun a ha => by
  simp only [List.mem_cons, List.not_mem_nil, or_false, not_or] at ha
  unfold phyCodeErr
  split
  · rfl
  · exact (Chip.rd_setB_ne _ ha.1).trans (Chip.rd_setF_ne _ ha.2)

/-- A TRAIN block taken on a lane in training. -/
structure TrainTaken (e : Env) (n k : Nat) (b : TrainWord) (c d : Chip) : Prop where
  seq : ((d.phyOf n).lane k).seq = some (b.request.toNat / 2 ^ 12)
  ready : ((d.phyOf n).lane k).ready = (((c.phyOf n).lane k).ready || b.ready)
  answer : ((c.phyOf n).lane k).waiting = true → b.response.toNat / 2 ^ 12 = ((c.phyOf n).lane k).request.toNat / 2 ^ 12 →
    ((d.phyOf n).lane k).waiting = false ∧ ((d.phyOf n).lane k).answAt = some e.time.up
  taps : ((c.phyOf n).lane k).seq = some (b.request.toNat / 2 ^ 12) → d.rd (Reg.PRT_PHY_TAPS n) = c.rd (Reg.PRT_PHY_TAPS n)
  step : d.f (Reg.PRT_PHY_TRAIN n) 28 4 = c.f (Reg.PRT_PHY_TRAIN n) 28 4
  state : prtState d n = prtState c n
  regs : sameRegs [Reg.PRT_PHY_TRAIN n, Reg.PRT_PHY_TAPS n, Reg.PRT_PERR n, Reg.PRT_PHY_CNT n] c d

theorem phyTrainBlock_taken (e : Env) (n k : Nat) (p : BitVec 64) (c : Chip) : TrainTaken e n k (trainRead p) c (phyTrainBlock e n k p c) := by
  obtain ⟨bad, taps, echo, resp, mark, htrain⟩ := phyTrainBlock_eq e n k p c
  rw [htrain]
  generalize hc1 : (if ((c.phyOf n).lane k).seq != some ((trainRead p).request.toNat / 2 ^ 12) then
    phyCodeErr n bad (c.setF (Reg.PRT_PHY_TAPS n) (16 * k) 16 taps) else c) = c1
  generalize hx : ({ (c.phyOf n).setLane k (((c.phyOf n).lane k).taken (trainRead p) resp echo e.time.up) with markAt := mark } : PhySt) = x
  have hlane : x.lane k = ((c.phyOf n).lane k).taken (trainRead p) resp echo e.time.up := by
    rw [← hx]
    exact PhySt.lane_setLane (c.phyOf n) k _
  have htaps : ((c.phyOf n).lane k).seq = some ((trainRead p).request.toNat / 2 ^ 12) → c1 = c := fun hseq => by
    rw [← hc1, hseq, bne_self_eq_false, if_neg Bool.false_ne_true]
  have hregs : sameRegs [Reg.PRT_PHY_TAPS n, Reg.PRT_PERR n, Reg.PRT_PHY_CNT n] c c1 := fun a ha => by
    simp only [List.mem_cons, List.not_mem_nil, or_false, not_or] at ha
    rw [← hc1]
    split
    · rw [phyCodeErr_regs _ _ _ _ (by simp [ha]), Chip.rd_setF_ne _ ha.1]
    · rfl
  have hshown : ∀ d, d = c1.setPhy n x ∨ (∃ v, d = (c1.setPhy n x).setF (Reg.PRT_PHY_TRAIN n) 0 16 v) → d.phyOf n = x ∧
      sameRegs [Reg.PRT_PHY_TRAIN n] c1 d ∧ d.f (Reg.PRT_PHY_TRAIN n) 28 4 = c1.f (Reg.PRT_PHY_TRAIN n) 28 4 := by
    rintro d (rfl | ⟨v, rfl⟩)
    · exact ⟨Chip.phyOf_setPhy _ _ _, fun _ _ => rfl, rfl⟩
    · exact ⟨Chip.phyOf_setPhy _ _ _, fun a ha => Chip.rd_setF_ne _ (mt List.mem_singleton.mpr ha), Chip.f_setF_apart _ _ _ _ _ _ _ (by decide)⟩
  obtain ⟨hphy, hone, hstep⟩ := hshown _ (tripShown_cases e n k (trainRead p).echo (c.phyOf n).markAt (c1.setPhy n x))
  constructor
  case seq => rw [hphy, hlane, PhyLane.taken_seq]
  case ready => rw [hphy, hlane, PhyLane.taken_ready]
  case answer => rw [hphy, hlane]; exact PhyLane.taken_answer _ _ _ _ _
  case taps => intro hseq; rw [hone _ (by simp [prtAddrs]), htaps hseq]
  case step => rw [hstep, Chip.f, hregs _ (by simp [prtAddrs]), Chip.f]
  case state => rw [prtState, Chip.f, hone _ (by simp [prtAddrs]), hregs _ (by simp [prtAddrs]), prtState, Chip.f]
  case regs => exact sameRegs_trans (sameRegs_mono (by simp) hregs) (sameRegs_mono (by simp) hone)

/-! ### The next request, and the step shown (R333, R334) -/

/-- A lane whose receiver has made its next request of a word (R333). -/
def PhyLane.asked (l : PhyLane) (v : Nat) : PhyLane :=
  { l with request := BitVec.ofNat 16 ((l.request.toNat / 2 ^ 12 + 1) % 16 * 2 ^ 12 + v), waiting := true, answAt := none,
           reqs := if v = 0 then l.reqs else l.reqs + 1 }

theorem requestBits_lt (v : Nat) : requestBits v < 2 ^ 12 := by
  unfold requestBits
  dsimp only
  split <;> split <;> split <;> omega

/-- SEQ moves on by one. -/
theorem PhyLane.asked_seq (l : PhyLane) {v : Nat} (hv : v < 2 ^ 12) :
    (l.asked v).request.toNat / 2 ^ 12 = (l.request.toNat / 2 ^ 12 + 1) % 16 := by
  rw [PhyLane.asked, BitVec.toNat_ofNat]
  omega

/-- The next request of a lane shows in PHY_TRAIN only. -/
structure LaneAsked (n k : Nat) (c d : Chip) : Prop where
  lane : ∃ v, v < 2 ^ 12 ∧ (d.phyOf n).lane k = ((c.phyOf n).lane k).asked v
  regs : sameRegs [Reg.PRT_PHY_TRAIN n] c d

theorem phyAsk_asked (e : Env) (n k : Nat) (c : Chip) : LaneAsked n k c (phyAsk e n k c) := by
  obtain ⟨v, w, hv, hask⟩ : ∃ v w, v < 2 ^ 12 ∧ phyAsk e n k c =
      (c.setPhy n ((c.phyOf n).setLane k (((c.phyOf n).lane k).asked v))).setF (Reg.PRT_PHY_TRAIN n) 16 7 w :=
    ⟨_, _, requestBits_lt _, rfl⟩
  rw [hask]
  exact ⟨⟨v, hv, by simp⟩, fun a ha => Chip.rd_setF_ne _ (mt List.mem_singleton.mpr ha)⟩

theorem prtState_of_train {n : Nat} {c d : Chip} (h : sameRegs [Reg.PRT_PHY_TRAIN n] c d) : prtState d n = prtState c n := by
  rw [prtState, Chip.f, h _ (by simp [prtAddrs]), prtState, Chip.f]

theorem phyStepShow_regs (e : Env) (n : Nat) (c : Chip) : sameRegs [Reg.PRT_PHY_TRAIN n] c (phyStepShow e n c) := fun a ha => by
  unfold phyStepShow
  dsimp only
  split
  · exact Chip.rd_setF_ne _ (mt List.mem_singleton.mpr ha)
  · exact Chip.rd_setF_ne _ (mt List.mem_singleton.mpr ha)

@[simp] theorem phyStepShow_lane (e : Env) (n k : Nat) (c : Chip) : ((phyStepShow e n c).phyOf n).lane k = (c.phyOf n).lane k := by
  unfold phyStepShow
  dsimp only
  split
  · rw [Chip.setF_phyOf, Chip.phyOf_setPhy]
    rfl
  · rfl

/-- A training trains one lane or both (R336). -/
theorem prtLanes_cases (c : Chip) (n : Nat) : (∃ k : Fin 2, prtLanes c n = [k.val]) ∨ prtLanes c n = [0, 1] := by
  unfold prtLanes prtForced
  split
  next k hk =>
    split at hk
    · cases hk
      exact .inl ⟨⟨_, fget_lt _ 27 1⟩, rfl⟩
    · cases hk
  next => exact .inr rfl

/-- Where every lane that trains stands in LOCK, that is the step shown. -/
theorem phyStepShow_lock (e : Env) {n : Nat} {c : Chip} (h : ∀ k ∈ prtLanes c n, ((c.phyOf n).lane k).step = 2) :
    (phyStepShow e n c).f (Reg.PRT_PHY_TRAIN n) 28 4 = 2 := by
  have hshow : phyStepShow e n c = c.setF (Reg.PRT_PHY_TRAIN n) 28 4 2 := by
    rcases prtLanes_cases c n with ⟨k, hl⟩ | hl
    · have hk := h k (by simp [hl])
      simp [phyStepShow, hl, hk]
    · have h0 := h 0 (by simp [hl])
      have h1 := h 1 (by simp [hl])
      simp [phyStepShow, hl, h0, h1]
  rw [hshow]
  exact Chip.f_setF_same _ _ _ _ _ (by decide)

/-- Step 1 is met: the lanes that train stand in LOCK. -/
theorem phyLocked_locks (e : Env) {n : Nat} {c : Chip} :
    (phyLocked e n c).f (Reg.PRT_PHY_TRAIN n) 28 4 = 2 ∧ (∀ k ∈ prtLanes c n, (((phyLocked e n c).phyOf n).lane k).step = 2) ∧
    sameRegs [Reg.PRT_PHY_TRAIN n] c (phyLocked e n c) := by
  obtain ⟨x, hstep, hlocked⟩ : ∃ x : PhySt, (∀ k ∈ prtLanes c n, (x.lane k).step = 2) ∧
      phyLocked e n c = phyStepShow e n (c.setPhy n x) := by
    refine ⟨_, fun k hk => ?_, rfl⟩
    rcases prtLanes_cases c n with ⟨j, hl⟩ | hl
    · obtain rfl : k = j.val := by simpa [hl] using hk
      obtain rfl | rfl : j = 0 ∨ j = 1 := by omega
      · simp [hl, PhySt.setLane, PhySt.lane]
      · simp [hl, PhySt.setLane, PhySt.lane]
    · obtain rfl | rfl : k = 0 ∨ k = 1 := by simpa [hl] using hk
      · simp [hl, PhySt.setLane, PhySt.lane]
      · simp [hl, PhySt.setLane, PhySt.lane]
  have hlock : (phyLocked e n c).f (Reg.PRT_PHY_TRAIN n) 28 4 = 2 := by
    rw [hlocked]
    exact phyStepShow_lock e (by rw [Chip.phyOf_setPhy]; exact hstep)
  refine ⟨hlock, fun k hk => ?_, ?_⟩
  · rw [hlocked, phyStepShow_lane, Chip.phyOf_setPhy]
    exact hstep k hk
  · rw [hlocked]
    exact phyStepShow_regs e n (c.setPhy n x)

/-- A lane's step 2 is met: it equalises, its lock shown, and asks for the first time (R333, R334). -/
structure LaneEqualises (n : Nat) (lane : Fin 2) (c d : Chip) : Prop where
  step : ((d.phyOf n).lane lane).step = 3
  waiting : ((d.phyOf n).lane lane).waiting = true
  lock : d.b (Reg.PRT_PHY_STAT n) (16 + 2 * lane) = false
  others : ∀ i, i ≠ 16 + 2 * lane.val → d.b (Reg.PRT_PHY_STAT n) i = c.b (Reg.PRT_PHY_STAT n) i
  state : prtState d n = prtState c n
  regs : sameRegs (prtWords n) c d

theorem lockMet_equalises (e : Env) (n : Nat) (lane : Fin 2) (c : Chip) {x : PhySt} (hx : (x.lane lane).step = 3) :
    LaneEqualises n lane c (phyStepShow e n (phyAsk e n lane ((c.setPhy n x).setB (Reg.PRT_PHY_STAT n) (16 + 2 * lane) false))) := by
  generalize hu : (c.setPhy n x).setB (Reg.PRT_PHY_STAT n) (16 + 2 * lane) false = u
  have hulane : ((u.phyOf n).lane lane).step = 3 := by rw [← hu, Chip.setB_phyOf, Chip.phyOf_setPhy, hx]
  have hustat : u.rd (Reg.PRT_PHY_STAT n) = fsetb (c.rd (Reg.PRT_PHY_STAT n)) (16 + 2 * lane) false := by
    rw [← hu, Chip.rd_setB, if_pos rfl, Chip.setPhy_rd]
  obtain ⟨⟨v, -, hlane⟩, hask⟩ := phyAsk_asked e n lane u
  have hregs := sameRegs_trans hask (phyStepShow_regs e n _)
  have hstat := (hregs (Reg.PRT_PHY_STAT n) (by simp [prtAddrs])).trans hustat
  constructor
  case step => rw [phyStepShow_lane, hlane]; exact hulane
  case waiting => rw [phyStepShow_lane, hlane]; rfl
  case lock => rw [Chip.b, hstat, fbit_fsetb_same _ _ _ (by omega)]
  case others => intro i hi; rw [Chip.b, hstat, fbit_fsetb_ne _ _ hi, Chip.b]
  case state => rw [prtState, Chip.f, hstat, fget_fsetb_ne _ _ _ _ _ (.inl (by omega)), prtState, Chip.f]
  case regs =>
    refine sameRegs_trans (fun a ha => ?_) (sameRegs_mono (by simp) hregs)
    simp only [List.mem_cons, not_or] at ha
    rw [← hu, Chip.rd_setB_ne _ ha.1, Chip.setPhy_rd]

/-- The eye shown of a lane (R333). -/
theorem eyeShown_same (c : Chip) (n : Nat) (lane : Fin 2) (h w : BitVec 8) :
    (c.setF (Reg.PRT_PHY_EYE n) (16 * lane) 16 (h.toNat * 256 + w.toNat)).f (Reg.PRT_PHY_EYE n) (16 * lane) 16 = h.toNat * 256 + w.toNat := by
  rw [Chip.f_setF_same _ _ _ _ _ (by omega)]
  exact Nat.mod_eq_of_lt (by omega)

theorem eyeShown_regs (c : Chip) (n lo v : Nat) : sameRegs [Reg.PRT_PHY_EYE n] c (c.setF (Reg.PRT_PHY_EYE n) lo 16 v) :=
  fun _ ha => Chip.rd_setF_ne _ (mt List.mem_singleton.mpr ha)

/-- A lane's eye is wide enough: it has passed, its eye shown (R333, R334). -/
theorem wideEye_passes (e : Env) (n : Nat) (lane : Fin 2) (h w : BitVec 8) (c : Chip) {x : PhySt} (hx : (x.lane lane).step = 4) {d : Chip}
    (hd : phyStepShow e n ((c.setF (Reg.PRT_PHY_EYE n) (16 * lane) 16 (h.toNat * 256 + w.toNat)).setPhy n x) = d) :
    ((d.phyOf n).lane lane).step = 4 ∧ d.f (Reg.PRT_PHY_EYE n) (16 * lane) 16 = h.toNat * 256 + w.toNat ∧ prtState d n = prtState c n ∧
    sameRegs (prtWords n) c d := by
  have heye := eyeShown_regs c n (16 * lane) (h.toNat * 256 + w.toNat)
  have hshow := phyStepShow_regs e n ((c.setF (Reg.PRT_PHY_EYE n) (16 * lane) 16 (h.toNat * 256 + w.toNat)).setPhy n x)
  subst hd
  refine ⟨?_, ?_, ?_, sameRegs_trans (sameRegs_mono (by simp) heye) (sameRegs_mono (by simp) hshow)⟩
  · rw [phyStepShow_lane, Chip.phyOf_setPhy, hx]
  · rw [Chip.f, hshow _ (by simp [prtAddrs])]
    exact eyeShown_same c n lane h w
  · rw [prtState_of_train hshow]
    exact Chip.f_setF_ne _ _ _ _ _ _ (by simp [prtAddrs])

/-! ### An attempt or a lane that fails (R335, R336) -/

/-- An attempt has failed with a code: the port waits for its retry (R335). -/
structure AttemptFailed (n code : Nat) (c d : Chip) : Prop where
  state : prtState d n = 1
  retry : (d.phyOf n).retry = true
  flagged : d.b (Reg.PRT_PERR n) 3 = true
  step : d.f (Reg.PRT_PHY_TRAIN n) 28 4 = 0
  code : d.f (Reg.PRT_PHY_TRAIN n) 24 4 = code
  regs : sameRegs (prtWords n) c d

theorem phyFail_failed {c : Chip} (hctl : c.ctl = true) (e : Env) (n : Nat) {code : Nat} (hcode : code < 16) (lane : Nat) :
    AttemptFailed n code c (phyFail e n code lane c) := by
  obtain ⟨x, detail, hx, hfail⟩ : ∃ (x : PhySt) (detail : Nat), x.retry = true ∧ phyFail e n code lane c = prtLog e n 0x12 detail (prtSet n 1
      (((((c.setF (Reg.PRT_PHY_TRAIN n) 28 4 0).setF (Reg.PRT_PHY_TRAIN n) 24 4 code).setF (Reg.PRT_PHY_TRAIN n) 23 1 lane).setB
        (Reg.PRT_PERR n) 3 true).setPhy n x)) := ⟨_, _, rfl, rfl⟩
  generalize hv : ((((c.setF (Reg.PRT_PHY_TRAIN n) 28 4 0).setF (Reg.PRT_PHY_TRAIN n) 24 4 code).setF (Reg.PRT_PHY_TRAIN n) 23 1 lane).setB
    (Reg.PRT_PERR n) 3 true).setPhy n x = v at hfail
  have hvw : sameRegs [Reg.PRT_PHY_TRAIN n, Reg.PRT_PERR n] c v := fun a ha => by
    simp only [List.mem_cons, List.not_mem_nil, or_false, not_or] at ha
    rw [← hv, Chip.setPhy_rd, Chip.rd_setB_ne _ ha.2, Chip.rd_setF_ne _ ha.1, Chip.rd_setF_ne _ ha.1, Chip.rd_setF_ne _ ha.1]
  have hset := prtSet_regs n 1 v
  have hwords : sameRegs (prtWords n) c (prtSet n 1 v) := sameRegs_trans (sameRegs_mono (by simp) hvw) (sameRegs_mono (by simp) hset)
  have hlog := prtLog_regs ((ctl_of_sameRegs hwords).trans hctl) e n 0x12 detail
  have htrain : (prtLog e n 0x12 detail (prtSet n 1 v)).rd (Reg.PRT_PHY_TRAIN n) = v.rd (Reg.PRT_PHY_TRAIN n) :=
    (hlog _ (by simp [prtAddrs])).trans (hset _ (by simp [prtAddrs]))
  have hvtrain : v.rd (Reg.PRT_PHY_TRAIN n) = fset (fset (fset (c.rd (Reg.PRT_PHY_TRAIN n)) 28 4 0) 24 4 code) 23 1 lane := by
    rw [← hv, Chip.setPhy_rd, Chip.rd_setB_ne _ (by simp [prtAddrs])]
    simp only [Chip.rd_setF, if_true]
  rw [hfail]
  constructor
  case state => rw [prtState, Chip.f, hlog _ (by simp [prtAddrs])]; exact prtState_prtSet n (by decide) v
  case retry => rw [prtLog_phyOf, prtSet_phyOf, ← hv, Chip.phyOf_setPhy, hx]
  case flagged =>
    rw [Chip.b, hlog _ (by simp [prtAddrs]), hset _ (by simp [prtAddrs]), ← hv, Chip.setPhy_rd]
    exact Chip.b_setB_same _ _ _ _ (by decide)
  case step =>
    rw [Chip.f, htrain, hvtrain, fget_fset_ne _ _ _ _ _ _ (by decide), fget_fset_ne _ _ _ _ _ _ (by decide), fget_fset_same _ _ _ _ (by decide)]
    rfl
  case code =>
    rw [Chip.f, htrain, hvtrain, fget_fset_ne _ _ _ _ _ _ (by decide), fget_fset_same _ _ _ _ (by decide)]
    exact Nat.mod_eq_of_lt hcode
  case regs => exact sameRegs_trans hwords (sameRegs_mono (by simp) hlog)

/-- A lane fails while the other one trains or has passed: the attempt goes on (R336). -/
theorem phyLaneFail_goes_on (e : Env) {n : Nat} {lane : Fin 2} (code : Nat) {c : Chip} (hforced : prtForced c n = none)
    (hlo : 2 ≤ ((c.phyOf n).lane (1 - lane.val)).step) (hhi : ((c.phyOf n).lane (1 - lane.val)).step ≤ 4) :
    ∃ l : PhyLane, l.step = 0 ∧ l.fail = code ∧ phyLaneFail e n lane code c = phyStepShow e n (c.setPhy n ((c.phyOf n).setLane lane l)) := by
  refine ⟨{ (c.phyOf n).lane lane with step := 0, fail := code }, rfl, rfl, ?_⟩
  generalize hl : ({ (c.phyOf n).lane lane with step := 0, fail := code } : PhyLane) = l
  generalize hc1 : c.setPhy n ((c.phyOf n).setLane lane l) = c1
  have hregs : sameRegs (prtWords n) c c1 := fun _ _ => by rw [← hc1, Chip.setPhy_rd]
  have hlanes : prtLanes c1 n = [0, 1] := by rw [prtLanes_of_sameRegs hregs, prtLanes, hforced]
  have hmem : 1 - lane.val ∈ prtLanes c1 n := by
    rw [hlanes]
    obtain rfl | rfl : lane = 0 ∨ lane = 1 := by omega
    · decide
    · decide
  have hother : ((c1.phyOf n).lane (1 - lane.val)).step = ((c.phyOf n).lane (1 - lane.val)).step := by
    rw [← hc1, Chip.phyOf_setPhy, PhySt.lane_setLane_other]
  have hgoes : ((phyPassed c1 n).isEmpty && !phyBusy c1 n) = false := by
    by_cases h4 : ((c.phyOf n).lane (1 - lane.val)).step = 4
    · have hpassed : 1 - lane.val ∈ phyPassed c1 n := List.mem_filter.mpr ⟨hmem, by rw [hother, h4]; rfl⟩
      rw [List.isEmpty_eq_false_iff.mpr (List.ne_nil_of_mem hpassed), Bool.false_and]
    · have hbusy : phyBusy c1 n = true := List.any_eq_true.mpr ⟨_, hmem, by
        rw [hother, Bool.or_eq_true, beq_iff_eq, beq_iff_eq]
        omega⟩
      rw [hbusy, Bool.not_true, Bool.and_false]
  simp only [phyLaneFail, hforced, hl, hc1, hgoes, Option.isSome_none, Bool.false_eq_true, if_false]

/-! ### The port comes up (R335, R336, R359) -/

theorem prtSetAdmit_none {c : Chip} (hctl : c.ctl = true) (e : Env) (n : Nat) : prtAdmit (prtSetAdmit e n 0 c) n = 0 ∧
    sameRegs [Reg.PRT_TP_STAT n, Reg.CHIP_LOG_WR] c (prtSetAdmit e n 0 c) ∧ (prtSetAdmit e n 0 c).phyOf n = c.phyOf n := by
  unfold prtSetAdmit
  split
  next h => exact ⟨h, fun _ _ => rfl, rfl⟩
  next =>
    have hset : sameRegs [Reg.PRT_TP_STAT n] c (c.setF (Reg.PRT_TP_STAT n) 30 2 0) := fun a ha => Chip.rd_setF_ne _ (mt List.mem_singleton.mpr ha)
    have hlog := prtLog_regs ((ctl_of_sameRegs (n := n) (sameRegs_mono (by simp) hset)).trans hctl) e n 0x23
    refine ⟨?_, sameRegs_trans (sameRegs_mono (by simp) hset) (sameRegs_mono (by simp) (hlog _)), prtLog_phyOf _ _ _ _ _ _⟩
    rw [prtAdmit, Chip.f, hlog _ _ (by simp [prtAddrs])]
    exact Chip.f_setF_same _ _ _ _ _ (by decide)

theorem phyPassed_of_sameRegs {n : Nat} {c d : Chip} (h : sameRegs (prtWords n) c d) (hphy : d.phyOf n = c.phyOf n) :
    phyPassed d n = phyPassed c n := by
  rw [phyPassed, phyPassed, prtLanes_of_sameRegs h, hphy]

theorem phyUp_shown (e : Env) (n : Nat) (c : Chip) : ∃ (v : Chip) (detail : Nat), phyUp e n c = prtLog e n 0x10 detail (phyTell e n
      (prtSet n (if (phyPassed (prtSetAdmit e n 0 c) n).length = 1 then 4 else 3) v)) ∧
    v.f (Reg.PRT_PHY_TRAIN n) 28 4 = 0 ∧ sameRegs [Reg.PRT_PHY_STAT n, Reg.PRT_PHY_TRAIN n, Reg.PRT_PERR n] (prtSetAdmit e n 0 c) v := by
  unfold phyUp
  dsimp only
  generalize prtSetAdmit e n 0 c = u
  split
  next k hp =>
    have hlen : (phyPassed u n).length = 1 := by rw [hp]; rfl
    rw [if_pos hlen]
    refine ⟨_, _, rfl, (Chip.f_setB_ne _ _ _ _ _ (by simp [prtAddrs])).trans ?_, fun a ha => ?_⟩
    · have hstat : ((((u.setF (Reg.PRT_PHY_TRAIN n) 28 4 0).setB (Reg.PRT_PHY_STAT n) (8 + (1 - k)) (prtForced u n).isNone).setF
          (Reg.PRT_PHY_STAT n) 28 1 k)).f (Reg.PRT_PHY_TRAIN n) 28 4 = 0 :=
        (Chip.f_setF_ne _ _ _ _ _ _ (by simp [prtAddrs])).trans ((Chip.f_setB_ne _ _ _ _ _ (by simp [prtAddrs])).trans
          (Chip.f_setF_same _ _ _ _ _ (by decide)))
      split
      · exact (Chip.f_setF_apart _ _ _ _ _ _ _ (by decide)).trans ((Chip.f_setF_apart _ _ _ _ _ _ _ (by decide)).trans hstat)
      · exact hstat
    · simp only [List.mem_cons, List.not_mem_nil, or_false, not_or] at ha
      obtain ⟨hstat, htrain, hperr⟩ := ha
      rw [Chip.setPhy_rd, Chip.rd_setB_ne _ hperr]
      split <;> simp only [Chip.rd_setF_ne _ hstat, Chip.rd_setF_ne _ htrain, Chip.rd_setB_ne _ hstat]
  next hp =>
    have hlen : (phyPassed u n).length ≠ 1 := fun hlen => by
      obtain ⟨k, hk⟩ := List.length_eq_one_iff.mp hlen
      exact hp k hk
    rw [if_neg hlen]
    exact ⟨_, _, rfl, Chip.f_setF_same _ _ _ _ _ (by decide), fun a ha => Chip.rd_setF_ne _ fun h => ha (by simp [h])⟩

/-- A port that comes up (R336). -/
structure PortCameUp (n : Nat) (c d : Chip) : Prop where
  state : prtState d n = if (phyPassed c n).length = 1 then 4 else 3
  up : d.b Reg.PRT_UP n = true
  notAdmitted : prtAdmit d n = 0
  step : d.f (Reg.PRT_PHY_TRAIN n) 28 4 = 0
  regs : sameRegs (prtWords n) c d

theorem phyUp_up {n : Nat} (hn : n < 32) {c : Chip} (hctl : c.ctl = true) (e : Env) : PortCameUp n c (phyUp e n c) := by
  obtain ⟨hadmit, hadmitRegs, hphy⟩ := prtSetAdmit_none hctl e n
  obtain ⟨v, detail, hup, hstep, hregs⟩ := phyUp_shown e n c
  rw [phyPassed_of_sameRegs (sameRegs_mono (by simp) hadmitRegs) hphy] at hup
  generalize hst : (if (phyPassed c n).length = 1 then 4 else 3 : Nat) = st at hup
  have hstate : st = 3 ∨ st = 4 := by subst hst; split <;> simp
  have hset : sameRegs [Reg.PRT_PHY_STAT n, Reg.PRT_UP, Reg.PRT_DEGR] v (phyTell e n (prtSet n st v)) := prtSet_regs n st v
  have hwords : sameRegs (prtWords n) c (phyTell e n (prtSet n st v)) := sameRegs_trans (sameRegs_mono (by simp) hadmitRegs)
    (sameRegs_trans (sameRegs_mono (by simp) hregs) (sameRegs_mono (by simp) hset))
  have hlog := prtLog_regs ((ctl_of_sameRegs hwords).trans hctl) e n 0x10 detail
  rw [hup]
  constructor
  case state =>
    rw [hst, prtState, Chip.f, hlog _ (by simp [prtAddrs])]
    exact prtState_prtSet n (by omega) v
  case up =>
    rw [Chip.b, hlog _ (by simp [prtAddrs])]
    refine (prtSet_up hn (by omega) v).trans ?_
    rcases hstate with rfl | rfl <;> rfl
  case notAdmitted =>
    rw [prtAdmit, Chip.f, hlog _ (by simp [prtAddrs]), hset _ (by simp [prtAddrs]), hregs _ (by simp [prtAddrs])]
    exact hadmit
  case step =>
    rw [Chip.f, hlog _ (by simp [prtAddrs]), hset _ (by simp [prtAddrs])]
    exact hstep
  case regs => exact sameRegs_trans hwords (sameRegs_mono (by simp) hlog)

/-! ### The commands -/

/-- Neither clock monitor is asserted. -/
theorem monitors_of_field {c : Chip} {a : Nat} (h : c.f a 20 2 = 0) : c.b a 20 = false ∧ c.b a 21 = false := by
  have hbit (i : Nat) (hi : i < 2) : c.b a (20 + i) = false := by
    have htest := fget_testBit (c.rd a) 20 2 i
    rw [← Chip.f, h, Nat.zero_testBit, decide_eq_true hi, Bool.true_and] at htest
    exact htest.symm
  exact ⟨hbit 0 (by decide), hbit 1 (by decide)⟩

theorem exec_portTrainingStart_of_due {s : State} {n : Fin 32} (hlive : prtLive s.env s.chip n = true)
    (hdue : (s.chip.phyOf n).due = true ∨ prtState s.chip n = 0) :
    exec (.portTrainingStart n) s = .next (onChip (fun e c => phyTrain e n (phyFall e n 4 c)) s) := by
  refine congrArg Host.Outcome.next (onChip_congr (if_pos ?_))
  rcases hdue with hdue | hdue <;> simp [hlive, hdue]

theorem exec_trainingRetry_of_due {s : State} {n : Fin 32} (hlive : prtLive s.env s.chip n = true) (hstate : prtState s.chip n = 1)
    (hretry : (s.chip.phyOf n).retry = true) (hdue : retryDue s.env s.chip n = true) :
    exec (.trainingRetry n) s = .next (onChip (fun e => phyTrain e n) s) :=
  congrArg Host.Outcome.next (onChip_congr (if_pos (by simp [hlive, hstate, hretry, hdue])))

section
variable {s : State} {n : Fin 32} {lane : Fin 2} {blk : LineBlock} (rx : Bool) (hlive : prtLive s.env s.chip n = true) (hkind : blk.kind = .train)
include hlive hkind

theorem exec_trainBlock_of_idle (hstate : prtState s.chip n ≠ 2)
    (huse : prtUp s.chip n = false ∨ (prtOut s.chip n lane = false ∧ (prtLanes s.chip n).contains lane.val = true)) :
    exec (.trainBlockReceived n lane blk rx) s = .next (onChip (fun e c =>
      phyTrainBlock e n lane blk.payload (phyRestart e n 4 (rx && prtUp c n) c)) s) := by
  refine congrArg Host.Outcome.next (onChip_congr ?_)
  have hin : (prtUp s.chip n && (prtOut s.chip n lane || !(prtLanes s.chip n).contains lane.val)) = false := by
    rcases huse with hup | ⟨hout, hlane⟩
    · rw [hup, Bool.false_and]
    · rw [hout, hlane, Bool.not_true, Bool.or_self, Bool.and_false]
  simp only [hlive, hkind, hstate, hin, if_false]
  rfl

theorem exec_trainBlock_of_training (hstate : prtState s.chip n = 2) (hlane : (prtLanes s.chip n).contains lane.val = true) :
    exec (.trainBlockReceived n lane blk rx) s = .next (onChip (fun e => phyTrainBlock e n lane blk.payload) s) := by
  refine congrArg Host.Outcome.next (onChip_congr ?_)
  simp only [hlive, hkind, hstate, hlane, if_true]
  rfl

end

section
variable {s : State} {n : Fin 32} (lane : Fin 2) (h w : BitVec 8) (hlive : prtLive s.env s.chip n = true) (hstate : prtState s.chip n = 2)
include hlive hstate

theorem exec_stepDone_of_clock (hlimit : s.env.time.up < stepLimit (s.chip.phyOf n) 1) (hclock : s.chip.f (Reg.PRT_PHY_STAT n) 20 2 = 0)
    (hstep : s.chip.f (Reg.PRT_PHY_TRAIN n) 28 4 = 1) :
    exec (.trainingStepDone n 1 lane h w) s = .next (onChip (fun e => phyLocked e n) s) := by
  obtain ⟨hlol, hlos⟩ := monitors_of_field hclock
  have hwhole : s.env.time.up < stepLimit (s.chip.phyOf n) 5 := Nat.lt_of_lt_of_le hlimit (Nat.add_le_add_left (by decide) _)
  refine congrArg Host.Outcome.next (onChip_congr ?_)
  simp [hlive, hstate, hlimit, hwhole, hstep, hlol, hlos]

section
variable (hwhole : s.env.time.up < stepLimit (s.chip.phyOf n) 5)
include hwhole

theorem exec_stepDone_of_lock (hlimit : s.env.time.up < stepLimit (s.chip.phyOf n) 2)
    (hsignal : s.chip.b (Reg.PRT_PHY_STAT n) (17 + 2 * lane) = false) (hheld : lockHeld s.env ((s.chip.phyOf n).lane lane) = true)
    (hstep : ((s.chip.phyOf n).lane lane).step = 2) : exec (.trainingStepDone n 2 lane h w) s =
    .next (onChip (fun e c => phyStepShow e n (phyAsk e n lane ((c.setPhy n ((c.phyOf n).setLane lane
      { (c.phyOf n).lane lane with step := 3 })).setB (Reg.PRT_PHY_STAT n) (16 + 2 * lane) false))) s) := by
  refine congrArg Host.Outcome.next (onChip_congr ?_)
  simp [hlive, hstate, hlimit, hwhole, hsignal, hheld, hstep]

theorem exec_stepDone_of_wide (hseen : eyeSeen s.env ((s.chip.phyOf n).lane lane) = true) (hstep : ((s.chip.phyOf n).lane lane).step = 3)
    (hh : s.chip.f (Reg.PRT_PHY_CFG n) 16 8 ≤ h.toNat) (hw : s.chip.f (Reg.PRT_PHY_CFG n) 8 8 ≤ w.toNat) :
    exec (.trainingStepDone n 3 lane h w) s = .next (onChip (fun e c => phyStepShow e n ((c.setF (Reg.PRT_PHY_EYE n) (16 * lane) 16
      (h.toNat * 256 + w.toNat)).setPhy n ((c.phyOf n).setLane lane { (c.phyOf n).lane lane with step := 4 }))) s) := by
  refine congrArg Host.Outcome.next (onChip_congr ?_)
  simp [hlive, hstate, hwhole, hseen, hstep, hh, hw]

theorem exec_stepDone_of_narrow (hseen : eyeSeen s.env ((s.chip.phyOf n).lane lane) = true) (hstep : ((s.chip.phyOf n).lane lane).step = 3)
    (hsmall : h.toNat < s.chip.f (Reg.PRT_PHY_CFG n) 16 8 ∨ w.toNat < s.chip.f (Reg.PRT_PHY_CFG n) 8 8)
    (hreqs : ((s.chip.phyOf n).lane lane).reqs < 64) : exec (.trainingStepDone n 3 lane h w) s =
    .next (onChip (fun e c => phyAsk e n lane (c.setF (Reg.PRT_PHY_EYE n) (16 * lane) 16 (h.toNat * 256 + w.toNat))) s) := by
  have hnarrow : ¬ (s.chip.f (Reg.PRT_PHY_CFG n) 16 8 ≤ h.toNat ∧ s.chip.f (Reg.PRT_PHY_CFG n) 8 8 ≤ w.toNat) := by omega
  refine congrArg Host.Outcome.next (onChip_congr ?_)
  simp [hlive, hstate, hwhole, hseen, hstep, hnarrow, hreqs]

theorem exec_stepDone_of_aligned (hlimit : s.env.time.up < stepLimit (s.chip.phyOf n) 4) (hskew : w.toNat ≤ 8)
    (hstep : s.chip.f (Reg.PRT_PHY_TRAIN n) 28 4 = 4) (hbusy : phyBusy s.chip n = false) :
    exec (.trainingStepDone n 4 lane h w) s = .next (onChip (fun _ c => c.setF (Reg.PRT_PHY_TRAIN n) 28 4 5) s) := by
  refine congrArg Host.Outcome.next (onChip_congr ?_)
  simp [hlive, hstate, hlimit, hwhole, hskew, hstep, hbusy]

theorem exec_stepDone_of_ready (hstep : s.chip.f (Reg.PRT_PHY_TRAIN n) 28 4 = 5)
    (hready : (phyPassed s.chip n).all (fun k => ((s.chip.phyOf n).lane k).ready) = true) :
    exec (.trainingStepDone n 5 lane h w) s = .next (onChip (fun e => phyUp e n) s) := by
  refine congrArg Host.Outcome.next (onChip_congr ?_)
  simp only [hlive, hstate, hwhole, hstep, hready]
  rfl

end

/-- A limit reached in a step of the whole port fails the attempt with the step's code (R335). -/
theorem exec_stepTimeout_of_port {step : Nat} (los : Bool) (hlimit : stepLimit (s.chip.phyOf n) step ≤ s.env.time.up)
    (hkind : step = 1 ∨ step = 4 ∨ step = 5) (hstep : step ≠ 5 → s.chip.f (Reg.PRT_PHY_TRAIN n) 28 4 = step)
    (hbusy : step = 4 → phyBusy s.chip n = false) : exec (.trainingStepTimeout n step lane los) s =
    .next (onChip (fun e c => phyFail e n (if step = 1 then (if los || c.b (Reg.PRT_PHY_STAT n) 21 then 1 else 2) else step + 1) 0 c) s) := by
  refine congrArg Host.Outcome.next (onChip_congr ?_)
  rcases hkind with rfl | rfl | rfl
  · simp [hlive, hstate, hlimit, hstep]
  · simp [hlive, hstate, hlimit, hstep, hbusy]
  · simp [hlive, hstate, hlimit]

/-- A limit reached in a step of a lane, or its last request without a pass, fails the lane (R335). -/
theorem exec_stepTimeout_of_lane {step : Nat} (los : Bool) (hkind : (step = 2 ∧ ((s.chip.phyOf n).lane lane).step = 2 ∧
      stepLimit (s.chip.phyOf n) 2 ≤ s.env.time.up) ∨ (step = 3 ∧ ((s.chip.phyOf n).lane lane).step = 3 ∧
      ((s.chip.phyOf n).lane lane).reqs = 64 ∧ eyeSeen s.env ((s.chip.phyOf n).lane lane) = true)) :
    exec (.trainingStepTimeout n step lane los) s = .next (onChip (fun e => phyLaneFail e n lane (step + 1)) s) := by
  refine congrArg Host.Outcome.next (onChip_congr ?_)
  rcases hkind with ⟨rfl, hstep, hlimit⟩ | ⟨rfl, hstep, hreqs, hseen⟩
  · simp [hlive, hstate, hstep, hlimit]
  · simp [hlive, hstate, hstep, hreqs, hseen]

end

theorem exec_stepTimeout_of_early {s : State} {n : Fin 32} {step : Nat} (lane : Fin 2) (los : Bool) (h3 : step ≠ 3)
    (hearly : s.env.time.up < stepLimit (s.chip.phyOf n) step) : exec (.trainingStepTimeout n step lane los) s = .next s := by
  refine congrArg Host.Outcome.next (onChip_of_same (if_pos ?_))
  simp [h3, hearly]

end Sys2Proof.Machine

/-- Settles O31: a training begins with the port's words at their presets; each step that is met, and each limit reached, is one operation on the
port's own words, whose lane facts follow from what it does to the lane. -/
theorem portTraining : Obligations.PortTraining := by
  refine ⟨fun s n hlive hdue => ?start, fun s n hlive hstate hretry hdue => ?retry, fun s n lane blk rx hlive hkind hstate huse => ?trainIdle,
    fun s n lane blk rx hlive hstate hlane hkind => ?train, fun s n lane h w hlive hstate hlimit hclock hstep => ?clock,
    fun s n lane h w hlive hstate hlimit hwhole hsignal hheld hstep => ?lock,
    fun s n lane h w hlive hstate hwhole hseen hstep hh hw => ?wide,
    fun s n lane h w hlive hstate hwhole hseen hstep hsmall hreqs => ?narrow,
    fun s n lane h w hlive hstate hlimit hwhole hskew hstep hbusy => ?aligned,
    fun s n lane h w hlive hstate hwhole hstep hready => ?ready,
    fun s n step lane los hlive hstate hlimit hkind hstep hbusy => ?portLimit,
    fun s n step lane los hlive hstate hforced hkind hlo hhi => ?laneLimit, fun s n step lane los h3 hearly => ?early⟩
  case start =>
    have hfell := phyFall_fell (ctl_of_prtLive hlive) s.env n 4
    have hbegun := phyTrain_begins s.env n.isLt (phyFall s.env n 4 s.chip)
    exact ⟨_, exec_portTrainingStart_of_due hlive hdue, hbegun.state, hbegun.step, hbegun.trip, hbegun.taps, hbegun.noneOut, hbegun.notUp,
      hbegun.due, hbegun.retry, onChip_onlyChip _ s, sameRegs_trans (sameRegs_mono (by simp) hfell.regs) (sameRegs_mono (by simp) hbegun.regs)⟩
  case retry =>
    have hbegun := phyTrain_begins s.env n.isLt s.chip
    exact ⟨_, exec_trainingRetry_of_due hlive hstate hretry hdue, hbegun.state, hbegun.step, hbegun.trip, hbegun.taps, hbegun.noneOut, hbegun.notUp,
      hbegun.attempts (by rw [hstate]; decide), onChip_onlyChip _ s, sameRegs_mono (by simp) hbegun.regs⟩
  case trainIdle =>
    obtain ⟨⟨d, hbegun⟩, hregs⟩ := phyRestart_begins hlive 4 (rx && prtUp s.chip n)
    have htaken := phyTrainBlock_taken s.env n lane blk.payload (phyRestart s.env n 4 (rx && prtUp s.chip n) s.chip)
    refine ⟨_, exec_trainBlock_of_idle rx hlive hkind hstate huse, ?_, htaken.step.trans hbegun.step, htaken.seq, ?_, onChip_onlyChip _ s,
      sameRegs_trans hregs (sameRegs_mono (by simp) htaken.regs)⟩
    · exact htaken.state.trans hbegun.state
    · refine htaken.ready.trans ?_
      rw [hbegun.lane]
      rfl
  case train =>
    have htaken := phyTrainBlock_taken s.env n lane blk.payload s.chip
    exact ⟨_, exec_trainBlock_of_training rx hlive hkind hstate hlane, htaken.state.trans hstate, htaken.seq, htaken.ready, htaken.answer,
      htaken.taps, onChip_onlyChip _ s, htaken.regs⟩
  case clock =>
    obtain ⟨hshown, hlanes, hregs⟩ := phyLocked_locks s.env (n := n) (c := s.chip)
    exact ⟨_, exec_stepDone_of_clock lane h w hlive hstate hlimit hclock hstep, hshown, hlanes,
      (prtState_of_train hregs).trans hstate, onChip_onlyChip _ s, sameRegs_mono (by simp) hregs⟩
  case lock =>
    have heq := lockMet_equalises s.env n lane s.chip
      (x := (s.chip.phyOf n).setLane lane { (s.chip.phyOf n).lane lane with step := 3 }) (by rw [PhySt.lane_setLane])
    exact ⟨_, exec_stepDone_of_lock lane h w hlive hstate hwhole hlimit hsignal hheld hstep, heq.step, heq.lock,
      (heq.others _ (by omega)).trans hsignal, heq.waiting, heq.state.trans hstate, onChip_onlyChip _ s, heq.regs⟩
  case wide =>
    obtain ⟨hpassed, heye, hst, hregs⟩ := wideEye_passes s.env n lane h w s.chip
      (x := (s.chip.phyOf n).setLane lane { (s.chip.phyOf n).lane lane with step := 4 }) (by rw [PhySt.lane_setLane]) rfl
    exact ⟨_, exec_stepDone_of_wide lane h w hlive hstate hwhole hseen hstep hh hw, hpassed, heye, hst.trans hstate, onChip_onlyChip _ s, hregs⟩
  case narrow =>
    obtain ⟨⟨v, hv, hlane⟩, hask⟩ := phyAsk_asked s.env n lane (s.chip.setF (Reg.PRT_PHY_EYE n) (16 * lane) 16 (h.toNat * 256 + w.toNat))
    refine ⟨_, exec_stepDone_of_narrow lane h w hlive hstate hwhole hseen hstep hsmall hreqs, ?_, ?_, ?_, ?_, ?_, onChip_onlyChip _ s,
      sameRegs_trans (sameRegs_mono (by simp) (eyeShown_regs s.chip n _ _)) (sameRegs_mono (by simp) hask)⟩ <;> rw [onChip_chip]
    · rw [hlane]
      exact hstep
    · rw [hlane]
      rfl
    · rw [hlane]
      rfl
    · rw [hlane]
      exact PhyLane.asked_seq _ hv
    · rw [Chip.f, hask _ (by simp [prtAddrs])]
      exact eyeShown_same s.chip n lane h w
  case aligned =>
    exact ⟨_, exec_stepDone_of_aligned lane h w hlive hstate hwhole hlimit hskew hstep hbusy, Chip.f_setF_same _ _ _ _ _ (by decide),
      onChip_onlyChip _ s, fun a ha => Chip.rd_setF_ne _ (mt List.mem_singleton.mpr ha)⟩
  case ready =>
    have hup := phyUp_up n.isLt (ctl_of_prtLive hlive) s.env
    exact ⟨_, exec_stepDone_of_ready lane h w hlive hstate hwhole hstep hready, hup.state, hup.up, hup.notAdmitted, hup.step, onChip_onlyChip _ s,
      hup.regs⟩
  case portLimit =>
    have hcode : (if step = 1 then (if los || s.chip.b (Reg.PRT_PHY_STAT n) 21 then 1 else 2) else step + 1) < 16 := by
      split
      · split <;> decide
      · omega
    have hfailed := phyFail_failed (ctl_of_prtLive hlive) s.env n hcode 0
    exact ⟨_, exec_stepTimeout_of_port lane hlive hstate los hlimit hkind hstep hbusy, hfailed.state, hfailed.retry, hfailed.flagged, hfailed.step,
      hfailed.code, onChip_onlyChip _ s, hfailed.regs⟩
  case laneLimit =>
    obtain ⟨l, hl, hfail, hgoes⟩ := phyLaneFail_goes_on s.env (step + 1) hforced hlo hhi
    have hregs := phyStepShow_regs s.env n (s.chip.setPhy n ((s.chip.phyOf n).setLane lane l))
    refine ⟨_, exec_stepTimeout_of_lane lane hlive hstate los hkind, ?_, ?_, ?_, onChip_onlyChip _ s, ?_⟩ <;> rw [onChip_chip, hgoes]
    · rw [phyStepShow_lane, Chip.phyOf_setPhy, PhySt.lane_setLane, hl]
    · rw [phyStepShow_lane, Chip.phyOf_setPhy, PhySt.lane_setLane, hfail]
    · exact (prtState_of_train hregs).trans hstate
    · exact hregs
  case early => exact exec_stepTimeout_of_early lane los h3 hearly
end

section
/-! PROOF. The words of a port's transport, and what each operation on an accepted bundle does to them (ch. 11, R364 to R384). -/
open Sys2Proof Sys2Proof.Machine
namespace Sys2Proof.Machine

/-! ### The words of a port's transport -/

/-- The addresses of a port's transport words, as numbers. -/
theorem tpAddrs : (∀ n, Reg.PRT_MAP n = 0x40 * n + 0x40032400) ∧ (∀ n, Reg.PRT_TP_SEQ n = 0x40 * n + 0x40032424) ∧
    (∀ n, Reg.PRT_TP_SIZE n = 0x40 * n + 0x40032428) ∧ (∀ n, Reg.PRT_TP_CNT n = 0x40 * n + 0x4003242C) ∧
    (∀ n, Reg.PRT_TP_ERR n = 0x40 * n + 0x40032430) ∧ (∀ n, Reg.PRT_TP_NODE n = 0x40 * n + 0x40032434) ∧
    (∀ n, Reg.PRT_TUN_STAT n = 0x40 * n + 0x40032438) ∧ (∀ n, Reg.PRT_TUN_CNT n = 0x40 * n + 0x4003243C) ∧ Reg.PRT_LOST = 0x40032050 :=
  ⟨fun _ => Nat.add_comm _ _, fun _ => Nat.add_comm _ _, fun _ => Nat.add_comm _ _, fun _ => Nat.add_comm _ _, fun _ => Nat.add_comm _ _,
    fun _ => Nat.add_comm _ _, fun _ => Nat.add_comm _ _, fun _ => Nat.add_comm _ _, rfl⟩

/-- The words of the outlets whose frames these records carry. -/
abbrev tunWords (l : List TpRec) : List Nat := l.map (fun r => Reg.SES_TUN r.outlet)
/-- The words that a reset of the acknowledged sub-layer writes on its port, with the place in the log ring. -/
abbrev resetWords (n : Nat) : List Nat := [Reg.PRT_TUN_STAT n, Reg.PRT_TUN_CNT n, Reg.PRT_PERR n, Reg.CHIP_LOG_WR]
/-- The words that the records of a bundle and its acknowledgement write on their port. -/
abbrev takenWords (n : Nat) : List Nat := Reg.PRT_TP_ERR n :: resetWords n
/-- The words that an upward bundle writes on its port. -/
abbrev upWords (n : Nat) : List Nat :=
  [Reg.PRT_TP_CNT n, Reg.PRT_TP_ERR n, Reg.PRT_TP_NODE n, Reg.PRT_TP_STAT n, Reg.PRT_TP_SEQ n, Reg.PRT_TP_SIZE n, Reg.PRT_PERR n, Reg.PRT_LOST,
    Reg.PRT_TUN_STAT n, Reg.PRT_TUN_CNT n, Reg.CHIP_LOG_WR]
/-- The words that show a bundle's header and its acceptance. -/
abbrev shownWords (n : Nat) : List Nat := [Reg.PRT_TP_STAT n, Reg.PRT_LOST, Reg.PRT_TP_SIZE n, Reg.PRT_TP_SEQ n, Reg.PRT_TP_NODE n]

/-- The Service region's words lie above those of Control. -/
theorem notMem_tunWords {a : Nat} (h : a < 0x70000000) (l : List TpRec) : a ∉ tunWords l := by
  simp only [tunWords, List.mem_map, not_exists, not_and, Reg.SES_TUN]
  omega

/-- No part has a port whose words lie beyond the PRT page. -/
theorem shownWords_range {n a : Nat} (hn : n < 32) (ha : a ∈ shownWords n) : 0x40032000 ≤ a ∧ a < 0x40033000 := by
  simp only [prtAddrs, tpAddrs, List.mem_cons, List.not_mem_nil, or_false] at ha
  omega

theorem resetWords_subset (n : Nat) : resetWords n ⊆ takenWords n := List.subset_cons_self _ _
theorem takenWords_subset (n : Nat) : takenWords n ⊆ upWords n := by simp

theorem append_tunWords_subset {k k' : List Nat} {l l' : List TpRec} (hk : k ⊆ k') (hl : l ⊆ l') : k ++ tunWords l ⊆ k' ++ tunWords l' :=
  List.append_subset.mpr ⟨List.subset_append_of_subset_left _ hk, List.subset_append_of_subset_right _ (List.map_subset _ hl)⟩

/-- What a bundle writes leaves the state of the regions. -/
theorem ctl_of_bundleWords {n : Nat} {l : List TpRec} {c d : Chip} (h : sameRegs (upWords n ++ tunWords l) c d) : d.ctl = c.ctl :=
  Chip.ctl_of_rd (h _ (by
    rw [List.mem_append, not_or]
    refine ⟨?_, notMem_tunWords (by decide) l⟩
    simp only [prtAddrs, tpAddrs, List.mem_cons, List.not_mem_nil, or_false, not_or]
    omega))

theorem ctl_of_upWords {n : Nat} {c d : Chip} (h : sameRegs (upWords n) c d) : d.ctl = c.ctl :=
  ctl_of_bundleWords (l := []) (sameRegs_mono (List.subset_append_left _ _) h)

/-! ### Words written and effects repeated -/

theorem sameRegs_wr {l : List Nat} {c d : Chip} {a : Nat} (ha : a ∈ l) (v : Word) (h : sameRegs l c d) : sameRegs l c (d.wr a v) :=
  fun b hb => (Chip.rd_wr_ne d v (ne_of_mem_of_not_mem ha hb).symm).trans (h b hb)

theorem sameRegs_ite {p : Prop} [Decidable p] {l : List Nat} {c d e : Chip} (hd : sameRegs l c d) (he : sameRegs l c e) :
    sameRegs l c (if p then d else e) := by
  split
  · exact hd
  · exact he

/-- A loop whose effects write one word each writes those words alone. -/
theorem eachOf_sameRegs {β : Type} {f : β → Chip → Chip} {g : β → Nat} (hf : ∀ x c, sameRegs [g x] c (f x c)) (l : List β) (c : Chip) :
    sameRegs (l.map g) c (eachOf l f c) := fun a ha =>
  eachOf_kept (g := fun c : Chip => c.rd a)
    (fun x hx c => hf x c a (fun h => ha (List.mem_map.mpr ⟨x, hx, (List.mem_singleton.mp h).symm⟩))) c

theorem tpOf_of_tp {c d : Chip} (h : d.tp = c.tp) (n : Nat) : d.tpOf n = c.tpOf n := by rw [Chip.tpOf, h, Chip.tpOf]

@[simp] theorem prtFlag_tp (n i : Nat) (c : Chip) : (prtFlag n i c).tp = c.tp := rfl
@[simp] theorem prtLog_tp (e : Env) (n cls detail : Nat) (c : Chip) : (prtLog e n cls detail c).tp = c.tp := Chip.log1_tp _ _ _ _ _ _

theorem prtFlag_regs (n i : Nat) (c : Chip) : sameRegs [Reg.PRT_PERR n] c (prtFlag n i c) := fun _ ha =>
  Chip.rd_setB_ne _ (mt List.mem_singleton.mpr ha)

theorem prtFlag_set (n : Nat) {i : Nat} (h : i < 32) (c : Chip) : (prtFlag n i c).b (Reg.PRT_PERR n) i = true := Chip.b_setB_same _ _ _ _ h

/-! ### The reset of the acknowledged sub-layer (R381) -/

theorem tunAcked_regs (l : List TpRec) (c : Chip) : sameRegs (tunWords l) c (tunAcked l c) :=
  eachOf_sameRegs (fun _ _ _ ha => Chip.rd_setF_ne _ (mt List.mem_singleton.mpr ha)) l c

theorem tunAcked_tp (l : List TpRec) (c : Chip) : (tunAcked l c).tp = c.tp := by
  unfold tunAcked
  refine eachOf_kept (g := Chip.tp) (fun _ _ _ => ?_) c
  rfl

theorem tunLost_regs (l : List TpRec) (c : Chip) : sameRegs (tunWords l) c (tunLost l c) :=
  eachOf_sameRegs (fun _ _ => sameRegs_wr List.mem_cons_self _ (sameRegs_wr List.mem_cons_self _ (fun _ _ => rfl))) l c

theorem tunLost_tp (l : List TpRec) (c : Chip) : (tunLost l c).tp = c.tp := by
  unfold tunLost
  refine eachOf_kept (g := Chip.tp) (fun _ _ _ => ?_) c
  rfl

/-- A port's sub-layer after a reset, of its own or the node's. -/
structure TunnelReset (n : Nat) (own : Bool) (c d : Chip) : Prop where
  tp : d.tpOf n = { c.tpOf n with tx := [], trst := true, wait := own, parts := [] }
  series : d.rd (Reg.PRT_TUN_STAT n) = 0
  counted : d.f (Reg.PRT_TUN_CNT n) 0 8 = min (c.f (Reg.PRT_TUN_CNT n) 0 8 + 1) 255
  flagged : d.b (Reg.PRT_PERR n) 31 = true
  regs : sameRegs (resetWords n ++ tunWords (c.tpOf n).tx) c d

theorem tunReset_resets {n : Nat} (hn : n < 32) {c : Chip} (hctl : c.ctl = true) (e : Env) (own : Bool) :
    TunnelReset n own c (tunReset e n own c) := by
  obtain ⟨u, detail, hreset, hu, hutp⟩ : ∃ (u : Chip) (detail : Nat), tunReset e n own c =
        prtLog e n 0x22 detail (prtFlag n 31 ((u.wr (Reg.PRT_TUN_STAT n) 0).sat (Reg.PRT_TUN_CNT n) 0 8 1)) ∧
      sameRegs (tunWords (c.tpOf n).tx) c u ∧ u.tpOf n = { c.tpOf n with tx := [], trst := true, wait := own, parts := [] } :=
    ⟨_, _, rfl, tunLost_regs _ (c.setTp n _), (tpOf_of_tp (tunLost_tp _ _) n).trans (c.tpOf_setTp n _)⟩
  have hmarked : sameRegs (resetWords n ++ tunWords (c.tpOf n).tx) c
      (prtFlag n 31 ((u.wr (Reg.PRT_TUN_STAT n) 0).sat (Reg.PRT_TUN_CNT n) 0 8 1)) :=
    sameRegs_wr (by simp) _ (sameRegs_wr (by simp) _ (sameRegs_wr (by simp) _ (sameRegs_mono (List.subset_append_right _ _) hu)))
  have hbundle := sameRegs_mono (append_tunWords_subset (List.Subset.trans (resetWords_subset n) (takenWords_subset n)) (List.Subset.refl _)) hmarked
  have hlog := prtLog_regs ((ctl_of_bundleWords hbundle).trans hctl) e n 0x22 detail
  rw [hreset]
  constructor
  case tp => exact (tpOf_of_tp (prtLog_tp _ _ _ _ _) n).trans hutp
  case series =>
    rw [hlog _ (by simp [prtAddrs, tpAddrs])]
    simp [prtFlag, Chip.rd_setB, Chip.rd_sat, prtAddrs, tpAddrs]
  case counted =>
    have hcnt : u.rd (Reg.PRT_TUN_CNT n) = c.rd (Reg.PRT_TUN_CNT n) := hu _ (notMem_tunWords (by simp only [tpAddrs]; omega) _)
    rw [Chip.f, hlog _ (by simp [prtAddrs, tpAddrs]), prtFlag_regs _ _ _ _ (by simp [prtAddrs, tpAddrs]), ← Chip.f,
      Chip.f_sat_same _ _ _ _ _ (by decide), Chip.f_wr_ne _ _ _ _ (by simp [tpAddrs]), Chip.f, hcnt]
    rfl
  case flagged =>
    rw [Chip.b, hlog _ (by simp [prtAddrs])]
    exact prtFlag_set n (by decide) _
  case regs => exact sameRegs_trans hmarked (sameRegs_mono (by simp) hlog)

/-! ### The records of a bundle (R364 to R380) -/

/-- What the records and the acknowledgement of an accepted bundle leave of its port: the mark that the frame has its bundle, and every word but
those that a record may write; no record that awaits its acknowledgement is added. -/
structure RecordsTaken (n : Nat) (c d : Chip) : Prop where
  done : (d.tpOf n).done = (c.tpOf n).done
  tx : (d.tpOf n).tx ⊆ (c.tpOf n).tx
  regs : sameRegs (takenWords n ++ tunWords (c.tpOf n).tx) c d

namespace RecordsTaken
variable {n : Nat} {c d f : Chip}

theorem refl : RecordsTaken n c c := ⟨rfl, List.Subset.refl _, fun _ _ => rfl⟩

theorem trans (h : RecordsTaken n c d) (h' : RecordsTaken n d f) : RecordsTaken n c f :=
  ⟨h'.done.trans h.done, List.Subset.trans h'.tx h.tx,
    sameRegs_trans h.regs (sameRegs_mono (append_tunWords_subset (List.Subset.refl _) h.tx) h'.regs)⟩

theorem of_tp (htp : d.tp = c.tp) (h : sameRegs (takenWords n) c d) : RecordsTaken n c d :=
  ⟨by rw [tpOf_of_tp htp], by rw [tpOf_of_tp htp]; exact List.Subset.refl _, sameRegs_mono (List.subset_append_left _ _) h⟩

theorem ite {p : Prop} [Decidable p] (hd : RecordsTaken n c d) (hf : RecordsTaken n c f) : RecordsTaken n c (if p then d else f) := by
  split
  · exact hd
  · exact hf

theorem ctl (h : RecordsTaken n c d) : d.ctl = c.ctl :=
  ctl_of_bundleWords (sameRegs_mono (append_tunWords_subset (takenWords_subset n) (List.Subset.refl _)) h.regs)

/-- No record writes a word that shows the bundle's acceptance. -/
theorem rd_shown (h : RecordsTaken n c d) (hn : n < 32) {a : Nat} (ha : a ∈ shownWords n) : d.rd a = c.rd a := by
  obtain ⟨-, hhi⟩ := shownWords_range hn ha
  refine h.regs a (List.not_mem_append ?_ (notMem_tunWords (by omega) _))
  simp only [prtAddrs, tpAddrs, List.mem_cons, List.not_mem_nil, or_false, not_or] at ha ⊢
  omega

end RecordsTaken

theorem prtFlag_taken (n i : Nat) (c : Chip) : RecordsTaken n c (prtFlag n i c) := .of_tp rfl (sameRegs_mono (by simp) (prtFlag_regs n i c))

theorem prtSkip_taken (n i : Nat) (c : Chip) : RecordsTaken n c (prtSkip n i c) :=
  .of_tp rfl (sameRegs_wr (by simp) _ (sameRegs_wr (by simp) _ (fun _ _ => rfl)))

/-- TACK takes the records that it passes from those that wait (R379, R380). -/
theorem takeTack_taken (n tack : Nat) (c : Chip) : RecordsTaken n c (takeTack n tack c) := by
  obtain ⟨done, htack⟩ : ∃ done : TpRec → Bool, takeTack n tack c =
      tunAcked ((c.tpOf n).tx.filter done) (c.setTp n { c.tpOf n with tx := (c.tpOf n).tx.filter (fun r => !done r) }) := ⟨_, rfl⟩
  have htp : (takeTack n tack c).tpOf n = { c.tpOf n with tx := (c.tpOf n).tx.filter (fun r => !done r) } := by
    rw [htack, tpOf_of_tp (tunAcked_tp _ _), Chip.tpOf_setTp]
  refine ⟨by rw [htp], by rw [htp]; exact List.filter_subset_self _, ?_⟩
  rw [htack]
  exact sameRegs_mono (List.subset_append_of_subset_right _ (List.map_subset _ (List.filter_subset_self _))) (tunAcked_regs _ (c.setTp n _))

/-- TRST ends this chip's own reset, or resets the sub-layer for the node (R381, R384). -/
theorem takeTrst_taken {n : Nat} (hn : n < 32) {c : Chip} (hctl : c.ctl = true) (e : Env) : RecordsTaken n c (takeTrst e n c) := by
  unfold takeTrst
  dsimp only
  split
  · refine ⟨?_, ?_, fun _ _ => rfl⟩ <;> rw [Chip.tpOf_setTp]
    exact List.Subset.refl _
  · have hreset := tunReset_resets hn hctl e false
    refine .ite .refl ⟨by rw [hreset.tp], by rw [hreset.tp]; exact List.nil_subset _, ?_⟩
    exact sameRegs_mono (append_tunWords_subset (resetWords_subset n) (List.Subset.refl _)) hreset.regs

/-- A record that is not acknowledged goes to the input image. -/
theorem takeRecord_taken (n : Nat) (r : TpWords) (c : Chip) : RecordsTaken n c (takeRecord n r c) := by
  have himage (f : Image → Image) : RecordsTaken n c (c.onImg f) := .of_tp rfl (fun _ _ => rfl)
  have hstage (s : Nat) : RecordsTaken n c (takeStage s r c) := .of_tp rfl (fun _ _ => rfl)
  have houtlet (o : Nat) : RecordsTaken n c (takeOutlet o r c) := .of_tp rfl (fun _ _ => rfl)
  unfold takeRecord
  dsimp only
  exact .ite (.ite (hstage _) .refl) (.ite (.ite (houtlet _) .refl) (.ite (himage _) (.ite (himage _) (.ite (himage _) .refl))))

theorem takePart_taken (n : Nat) (r : TpWords) (c : Chip) : RecordsTaken n c (takePart n r c).1 := by
  have hkeep (l : List (Nat × List Byte)) : RecordsTaken n c (c.setTp n { c.tpOf n with parts := l }) := by
    refine ⟨?_, ?_, fun _ _ => rfl⟩ <;> rw [Chip.tpOf_setTp]
    exact List.Subset.refl _
  unfold takePart
  dsimp only
  split
  · exact hkeep _
  split
  · exact hkeep _
  split <;> exact hkeep _

/-- An acknowledged record moves the expected number on, or is counted (R379). -/
theorem takeAck_taken (n : Nat) (r : TpWords) (c : Chip) : RecordsTaken n c (takeAck n r c).1 := by
  have hcount (a : Nat) (ha : a ∈ takenWords n) (v : Word) : RecordsTaken n c (c.wr a v) := .of_tp rfl (sameRegs_wr ha _ (fun _ _ => rfl))
  unfold takeAck
  dsimp only
  split
  · exact .refl
  split
  · have hnext := hcount (Reg.PRT_TUN_STAT n) (by simp)
    split
    · have hpart := (hnext _).trans (takePart_taken n r (c.wrap (Reg.PRT_TUN_STAT n) 0 16 1))
      split <;> exact hpart
    · exact hnext _
  split <;> exact hcount (Reg.PRT_TUN_CNT n) (by simp) _

theorem tpTake_taken (n units : Nat) (recs : List TpWords) (seen : List (Nat × Nat)) (c : Chip) :
    RecordsTaken n c (tpTake n units recs seen c).1 := by
  induction recs generalizing seen c with
  | nil => exact .refl
  | cons r t ih =>
    unfold tpTake
    dsimp only
    split
    case isTrue => exact (prtSkip_taken n _ c).trans (ih _ _)
    split
    case isTrue => exact (prtSkip_taken n _ c).trans (ih _ _)
    split
    case isTrue => exact (prtSkip_taken n _ c).trans (ih _ _)
    split
    case isTrue => exact (takeRecord_taken n r c).trans (ih _ _)
    case isFalse => exact (takeAck_taken n r c).trans (ih _ _)

/-- Units that the node does not announce read as without feedback (R22). -/
theorem shortUnits_taken (n units : Nat) (c : Chip) : RecordsTaken n c (shortUnits n units c) := by
  unfold shortUnits
  dsimp only
  refine .ite .refl ((prtFlag_taken n 17 c).trans (.of_tp ?_ fun a _ => ?_))
  · refine eachOf_kept (g := Chip.tp) (fun _ _ _ => ?_) _
    split <;> rfl
  · refine eachOf_kept (g := fun c : Chip => c.rd a) (fun _ _ _ => ?_) _
    split <;> rfl

theorem recMissing_taken (n units : Nat) (c : Chip) : RecordsTaken n c (recMissing n units c) := .ite (prtFlag_taken n 28 c) .refl

end Sys2Proof.Machine
end

section
/-! PROOF. An upward bundle judged and accepted (ch. 11, R357 to R379, R384), and where its deliveries go. -/
open Sys2Proof Sys2Proof.Machine
namespace Sys2Proof.Machine

/-! ### The header (R359) -/

theorem prtSetAdmit_tp (e : Env) (n a : Nat) (c : Chip) : (prtSetAdmit e n a c).tp = c.tp := by
  unfold prtSetAdmit
  split
  · rfl
  · exact prtLog_tp _ _ _ _ _

theorem prtSetAdmit_regs {c : Chip} (hctl : c.ctl = true) (e : Env) (n a : Nat) :
    sameRegs [Reg.PRT_TP_STAT n, Reg.CHIP_LOG_WR] c (prtSetAdmit e n a c) := by
  have hset : sameRegs (upWords n) c (c.setF (Reg.PRT_TP_STAT n) 30 2 a) := sameRegs_wr (by simp) _ (fun _ _ => rfl)
  have hlog := prtLog_regs ((ctl_of_upWords hset).trans hctl) e n 0x23
  exact sameRegs_ite (fun _ _ => rfl) (sameRegs_trans (sameRegs_wr (by simp) _ (fun _ _ => rfl)) (sameRegs_mono (by simp) (hlog _)))

theorem prtAdmit_prtSetAdmit (e : Env) (n : Nat) {a : Nat} (ha : a < 4) (c : Chip) : prtAdmit (prtSetAdmit e n a c) n = a := by
  unfold prtSetAdmit
  split
  next h => exact h
  next =>
    rw [prtAdmit, Chip.f, prtLog, Chip.log1_rd_ne _ _ _ _ _ _ (by simp [prtAddrs]) (by simp only [prtAddrs, Reg.CHIP_LOG_LOST]; omega)]
    exact (Chip.f_setF_same _ _ _ _ _ (by decide)).trans (Nat.mod_eq_of_lt ha)

/-- What a header shows of its node, whether or not the node is admitted (R21, R22, R359). -/
def headerShown (n : Nat) (h0 h1 : BitVec 64) (c : Chip) : Chip :=
  let c2 := ((c.wr (Reg.PRT_TP_NODE n) (word (dget h1 0 32))).setF (Reg.PRT_TP_STAT n) 21 9 (dget h0 13 3 * 64 + dget h0 7 6)).setF
    (Reg.PRT_TP_STAT n) 18 3 (dget h0 4 3)
  let c3 := if h0.getLsbD 5 then prtFlag n 29 c2 else c2
  let c4 := if h0.getLsbD 4 then prtFlag n 30 c3 else c3
  if dget h0 13 3 = mapClass c n then c4 else prtFlag n 16 c4

theorem tpHeader_eq (e : Env) (n : Nat) (h0 h1 : BitVec 64) (unsynced : Bool) (c : Chip) : tpHeader e n h0 h1 unsynced c =
    if mapClass c n = 0 then headerShown n h0 h1 c
    else prtSetAdmit e n (if unsynced then 3 else if dget h0 13 3 = mapClass c n then 1 else 2) (headerShown n h0 h1 c) := rfl

theorem headerShown_tp (n : Nat) (h0 h1 : BitVec 64) (c : Chip) : (headerShown n h0 h1 c).tp = c.tp := by
  simp only [headerShown, apply_ite Chip.tp, prtFlag_tp, Chip.setF_tp, Chip.wr_tp, ite_self]

/-- The node's word, and the flags and fields about it. -/
theorem headerShown_regs (n : Nat) (h0 h1 : BitVec 64) (c : Chip) : sameRegs [Reg.PRT_TP_STAT n, Reg.PRT_PERR n]
    (c.wr (Reg.PRT_TP_NODE n) (word (dget h1 0 32))) (headerShown n h0 h1 c) := by
  intro a ha
  simp only [List.mem_cons, List.not_mem_nil, or_false, not_or] at ha
  obtain ⟨hstat, hperr⟩ := ha
  simp only [headerShown, prtFlag, apply_ite Chip.rd, ite_apply, Chip.rd_setB_ne _ hperr, Chip.rd_setF_ne _ hstat, ite_self]

/-- What a header does to its port: the node's word, and the words that tell of it. -/
structure HeaderTaken (n : Nat) (h1 : BitVec 64) (c d : Chip) : Prop where
  node : d.rd (Reg.PRT_TP_NODE n) = word (dget h1 0 32)
  tp : d.tp = c.tp
  regs : sameRegs (upWords n) c d

theorem tpHeader_taken {c : Chip} (hctl : c.ctl = true) (e : Env) (n : Nat) (h0 h1 : BitVec 64) (unsynced : Bool) :
    HeaderTaken n h1 c (tpHeader e n h0 h1 unsynced c) := by
  have hshown := headerShown_regs n h0 h1 c
  have hregs : sameRegs (upWords n) c (headerShown n h0 h1 c) :=
    sameRegs_trans (sameRegs_wr (by simp) _ (fun _ _ => rfl)) (sameRegs_mono (by simp) hshown)
  have hnode : (headerShown n h0 h1 c).rd (Reg.PRT_TP_NODE n) = word (dget h1 0 32) :=
    (hshown _ (by simp [prtAddrs, tpAddrs])).trans (Chip.rd_wr_same _ _ _)
  have hctl' := (ctl_of_upWords hregs).trans hctl
  rw [tpHeader_eq]
  split
  · exact ⟨hnode, headerShown_tp _ _ _ _, hregs⟩
  · have hadmit := prtSetAdmit_regs hctl' e n (if unsynced then 3 else if dget h0 13 3 = mapClass c n then 1 else 2)
    exact ⟨(hadmit _ (by simp [prtAddrs, tpAddrs])).trans hnode, (prtSetAdmit_tp _ _ _ _).trans (headerShown_tp _ _ _ _),
      sameRegs_trans hregs (sameRegs_mono (by simp) hadmit)⟩

/-- A synchronised node of the class mapped is admitted. -/
theorem tpHeader_admits (e : Env) {n : Nat} {h0 : BitVec 64} (h1 : BitVec 64) {c : Chip} (hmap : mapClass c n ≠ 0)
    (hclass : dget h0 13 3 = mapClass c n) : prtAdmit (tpHeader e n h0 h1 false c) n = 1 := by
  rw [tpHeader_eq, if_neg hmap, if_neg Bool.false_ne_true, if_pos hclass]
  exact prtAdmit_prtSetAdmit e n (by decide) _

/-! ### An accepted bundle (R357, R375) -/

/-- The port's words and its mark when a bundle is accepted, before its records are taken. -/
def acceptShown (e : Env) (n : Nat) (b : UpBundle) (c : Chip) : Chip :=
  prtRegain e n ((((c.setTp n { c.tpOf n with done := true, crc := some (word (dget b.term 32 32)) }).wr (Reg.PRT_TP_SEQ n)
    (word (dget (b.blocks.getD 0 0) 16 16 * 65536 + dget (b.blocks.getD 1 0) 48 16))).setF (Reg.PRT_TP_SIZE n) 16 16 (b.blocks.length + 2)).setF
    (Reg.PRT_TP_STAT n) 8 8 0)

/-- What an accepted bundle shows of its port. -/
structure BundleShown (n : Nat) (b : UpBundle) (c d : Chip) : Prop where
  admitted : prtAdmit d n = prtAdmit c n
  done : (d.tpOf n).done = true
  missed : missRun d n = 0
  found : d.b Reg.PRT_LOST n = false
  size : d.f (Reg.PRT_TP_SIZE n) 16 16 = (b.blocks.length + 2) % 65536
  seq : d.rd (Reg.PRT_TP_SEQ n) = word (dget (b.blocks.getD 0 0) 16 16 * 65536 + dget (b.blocks.getD 1 0) 48 16)
  node : d.rd (Reg.PRT_TP_NODE n) = c.rd (Reg.PRT_TP_NODE n)

theorem BundleShown.of_rd {n : Nat} {b : UpBundle} {c d f : Chip} (h : BundleShown n b c d) (hdone : (f.tpOf n).done = (d.tpOf n).done)
    (hrd : ∀ a ∈ shownWords n, f.rd a = d.rd a) : BundleShown n b c f := by
  constructor
  case admitted => rw [← h.admitted, prtAdmit, Chip.f, hrd _ (by simp), prtAdmit, Chip.f]
  case done => rw [hdone, h.done]
  case missed => rw [← h.missed, missRun, Chip.f, hrd _ (by simp), missRun, Chip.f]
  case found => rw [← h.found, Chip.b, hrd _ (by simp), Chip.b]
  case size => rw [← h.size, Chip.f, hrd _ (by simp), Chip.f]
  case seq => rw [hrd _ (by simp), h.seq]
  case node => rw [hrd _ (by simp), h.node]

/-- What accepting a bundle does: what it shows, and the words that it may write, of the port and of the outlets whose records wait. -/
structure BundleAccepted (n : Nat) (b : UpBundle) (c d : Chip) : Prop extends BundleShown n b c d where
  tx : (d.tpOf n).tx ⊆ (c.tpOf n).tx
  regs : sameRegs (upWords n ++ tunWords (c.tpOf n).tx) c d

/-- PORT_REGAINED: the port is no longer lost (R375). -/
theorem prtRegain_found {n : Nat} (hn : n < 32) {c : Chip} (hctl : c.ctl = true) (e : Env) : (prtRegain e n c).b Reg.PRT_LOST n = false ∧
    (prtRegain e n c).tp = c.tp ∧ sameRegs [Reg.PRT_LOST, Reg.CHIP_LOG_WR] c (prtRegain e n c) := by
  unfold prtRegain
  split
  next =>
    have hset : sameRegs (upWords n) c (c.setB Reg.PRT_LOST n false) := sameRegs_wr (by simp) _ (fun _ _ => rfl)
    have hlog := prtLog_regs ((ctl_of_upWords hset).trans hctl) e n 0x21 0
    refine ⟨?_, prtLog_tp _ _ _ _ _, sameRegs_trans (sameRegs_wr (by simp) _ (fun _ _ => rfl)) (sameRegs_mono (by simp) hlog)⟩
    rw [Chip.b, hlog _ (by simp [prtAddrs, tpAddrs])]
    exact Chip.b_setB_same _ _ _ _ hn
  next h => exact ⟨Bool.not_eq_true _ ▸ h, rfl, fun _ _ => rfl⟩

theorem acceptShown_accepted {n : Nat} (hn : n < 32) {c : Chip} (hctl : c.ctl = true) (e : Env) (b : UpBundle) :
    BundleAccepted n b c (acceptShown e n b c) := by
  obtain ⟨d, hshown, hdone, htx, hrd⟩ : ∃ d, acceptShown e n b c = prtRegain e n d ∧ (d.tpOf n).done = true ∧
      (d.tpOf n).tx = (c.tpOf n).tx ∧ ∀ a, d.rd a = if a = Reg.PRT_TP_STAT n then fset (c.rd (Reg.PRT_TP_STAT n)) 8 8 0
        else if a = Reg.PRT_TP_SIZE n then fset (c.rd (Reg.PRT_TP_SIZE n)) 16 16 (b.blocks.length + 2)
        else if a = Reg.PRT_TP_SEQ n then word (dget (b.blocks.getD 0 0) 16 16 * 65536 + dget (b.blocks.getD 1 0) 48 16) else c.rd a := by
    refine ⟨_, rfl, ?_, ?_, fun a => ?_⟩
    · exact congrArg TpSt.done (c.tpOf_setTp n _)
    · exact (congrArg TpSt.tx (c.tpOf_setTp n _)).trans rfl
    · simp [Chip.rd_setF, Chip.rd_wr, prtAddrs, tpAddrs]
  have hregs : sameRegs (upWords n ++ tunWords (c.tpOf n).tx) c d := fun a ha => by
    simp only [List.mem_append, List.mem_cons, not_or] at ha
    simp only [hrd, ha, if_false]
  obtain ⟨hfound, htp, hregain⟩ := prtRegain_found hn ((ctl_of_bundleWords hregs).trans hctl) e
  have hpast (a : Nat) (ha : a ∉ [Reg.PRT_LOST, Reg.CHIP_LOG_WR]) : (acceptShown e n b c).rd a = d.rd a := by rw [hshown, hregain a ha]
  refine ⟨?shown, ?tx, ?regs⟩
  case shown =>
    constructor
    case admitted =>
      rw [prtAdmit, Chip.f, hpast _ (by simp [prtAddrs, tpAddrs]), hrd, if_pos rfl, fget_fset_ne _ _ _ _ _ _ (by decide), prtAdmit, Chip.f]
    case done => rw [hshown, tpOf_of_tp htp, hdone]
    case missed =>
      rw [missRun, Chip.f, hpast _ (by simp [prtAddrs, tpAddrs]), hrd, if_pos rfl, fget_fset_same _ _ _ _ (by decide), Nat.zero_mod]
    case found => rw [hshown, hfound]
    case size => simp [Chip.f, hpast, hrd, prtAddrs, tpAddrs, fget_fset_same]
    case seq => simp [hpast, hrd, prtAddrs, tpAddrs]
    case node => simp [hpast, hrd, prtAddrs, tpAddrs]
  case tx => rw [hshown, tpOf_of_tp htp, htx]; exact List.Subset.refl _
  case regs => rw [hshown]; exact sameRegs_trans hregs (sameRegs_mono (by simp) hregain)

/-- Once a bundle is accepted, its acknowledgement and its records are taken. -/
theorem tpAccept_records {n : Nat} (hn : n < 32) {e : Env} {b : UpBundle} {c : Chip} (hctl : (acceptShown e n b c).ctl = true)
    (recs : List TpWords) : RecordsTaken n (acceptShown e n b c) (tpAccept e n b recs c).1 := by
  have htack := takeTack_taken n (dget (b.blocks.getD 1 0) 32 16) (acceptShown e n b c)
  have htrst := htack.trans (.ite (p := (b.blocks.getD 0 0).getLsbD 3 = true) (takeTrst_taken hn (htack.ctl.trans hctl) e) .refl)
  have hshort := htrst.trans (.ite (p := mapClass c n ≤ 2) (shortUnits_taken n (dget (b.blocks.getD 0 0) 7 6) _) .refl)
  have htake := hshort.trans (tpTake_taken n (dget (b.blocks.getD 0 0) 7 6) recs [] _)
  exact htake.trans (.ite (recMissing_taken n _ _) .refl)

/-- No record of a bundle undoes what its acceptance shows. -/
theorem BundleAccepted.records {n : Nat} (hn : n < 32) {b : UpBundle} {c d f : Chip} (h : BundleAccepted n b c d) (hrec : RecordsTaken n d f) :
    BundleAccepted n b c f :=
  ⟨h.toBundleShown.of_rd hrec.done (fun _ ha => hrec.rd_shown hn ha), List.Subset.trans hrec.tx h.tx,
    sameRegs_trans h.regs (sameRegs_mono (append_tunWords_subset (takenWords_subset n) h.tx) hrec.regs)⟩

theorem tpAccept_accepted {n : Nat} (hn : n < 32) {c : Chip} (hctl : c.ctl = true) (e : Env) (b : UpBundle) (recs : List TpWords) :
    BundleAccepted n b c (tpAccept e n b recs c).1 := by
  have hshown := acceptShown_accepted hn hctl e b
  exact hshown.records hn (tpAccept_records hn ((ctl_of_bundleWords hshown.regs).trans hctl) recs)

/-! ### A bundle judged (R357, R384) -/

/-- A bundle of at least two blocks came whole and upward, and nothing on the wire stands against it. -/
structure WholeBundle (c : Chip) (n : Nat) (b : UpBundle) : Prop where
  clean : bundleClean c n b = true
  whole : b.whole = true
  length : b.blocks.length = dget b.start 48 16
  two : 2 ≤ b.blocks.length
  upward : b.start.getLsbD 47 = true

section
variable {e : Env} {c : Chip} {n : Nat} {b : UpBundle} (h : WholeBundle c n b)
include h

theorem WholeBundle.wire : bundleStarted c n b = true ∧ bundleOut c n b = false ∧ bundleAborted c n b = false ∧ bundleBroken c n b = false := by
  have hclean := h.clean
  simp only [bundleClean, Bool.and_eq_true, Bool.not_eq_true'] at hclean
  obtain ⟨⟨⟨hstarted, hout⟩, haborted⟩, hbroken⟩ := hclean
  exact ⟨hstarted, hout, haborted, hbroken⟩

theorem WholeBundle.form : (b.whole && !bundleBroken c n b && b.blocks.length == dget b.start 48 16 && decide (2 ≤ b.blocks.length)) = true := by
  obtain ⟨-, -, -, hbroken⟩ := h.wire
  rw [h.whole, hbroken, beq_iff_eq.mpr h.length, decide_eq_true h.two]
  rfl

/-- A wrong CRC is counted, and nothing else of the bundle is looked at. -/
theorem tpUpward_of_wrongCrc (hcrc : dget b.term 32 32 ≠ (blocksCrc b.blocks).toNat) (hearly : bundleLate c b = false) :
    tpUpward e n b c = (prtCrcErr n c, []) := by
  obtain ⟨-, hout, haborted, -⟩ := h.wire
  simp only [tpUpward, hout, haborted, h.form, h.upward, hearly, beq_eq_false_iff_ne.mpr hcrc]
  rfl

theorem tpUpward_of_otherFrame (hcrc : dget b.term 32 32 = (blocksCrc b.blocks).toNat)
    (hframe : dget (b.blocks.getD 0 0) 32 32 ≠ e.time.frameNo.toNat % 2 ^ 32) (hsynced : dget (b.blocks.getD 0 0) 32 32 ≠ 0xFFFFFFFF)
    (hearly : bundleLate c b = false) : tpUpward e n b c = (prtFrameErr n c, []) := by
  obtain ⟨-, hout, haborted, -⟩ := h.wire
  simp only [tpUpward, hout, haborted, h.form, h.upward, hcrc, hearly, beq_self_eq_true, beq_eq_false_iff_ne.mpr hframe,
    beq_eq_false_iff_ne.mpr hsynced]
  rfl

/-- The first bundle of the present frame, of a node of the class mapped, is accepted before the cut-off. -/
theorem tpUpward_of_first {recs : List TpWords} (hcrc : dget b.term 32 32 = (blocksCrc b.blocks).toNat)
    (hframe : dget (b.blocks.getD 0 0) 32 32 = e.time.frameNo.toNat % 2 ^ 32) (hsynced : e.time.frameNo.toNat % 2 ^ 32 ≠ 0xFFFFFFFF)
    (hearly : bundleLate c b = false) (hfirst : (c.tpOf n).done = false) (hmap : mapClass c n ≠ 0)
    (hclass : dget (b.blocks.getD 0 0) 13 3 = mapClass c n) (hrecs : tpRecords b.blocks.length (b.blocks.drop 2) = some recs) :
    tpUpward e n b c = tpAccept e n b recs (tpHeader e n (b.blocks.getD 0 0) (b.blocks.getD 1 0) false c) := by
  obtain ⟨-, hout, haborted, -⟩ := h.wire
  have hadmit := tpHeader_admits e (b.blocks.getD 1 0) hmap hclass
  simp only [tpUpward, hout, haborted, h.form, h.upward, hcrc, hearly, hframe, beq_self_eq_true, beq_eq_false_iff_ne.mpr hsynced, hfirst, hmap,
    hrecs, Bool.false_eq_true, if_false, Bool.not_true, Bool.or_self, hadmit, ne_eq, not_true_eq_false, or_self]

/-- A bundle of two header blocks carries no record: it delivers nothing, and writes its port's words and those that its acknowledgement names. -/
theorem tpUpward_headers (hn : n < 32) (hctl : c.ctl = true) (hcrc : dget b.term 32 32 = (blocksCrc b.blocks).toNat) (hlen : b.blocks.length = 2) :
    (tpUpward e n b c).2 = [] ∧ sameRegs (upWords n ++ tunWords (c.tpOf n).tx) c (tpUpward e n b c).1 := by
  obtain ⟨-, hout, haborted, -⟩ := h.wire
  have hnone : tpRecords b.blocks.length (b.blocks.drop 2) = some [] := by
    rw [List.drop_of_length_le hlen.le]
    simp [tpRecords]
  have hport {d : Chip} (hd : sameRegs (upWords n) c d) : sameRegs (upWords n ++ tunWords (c.tpOf n).tx) c d :=
    sameRegs_mono (List.subset_append_left _ _) hd
  have hheader (unsynced : Bool) {d : Chip} (hd : sameRegs (upWords n) c d) :
      HeaderTaken n (b.blocks.getD 1 0) d (tpHeader e n (b.blocks.getD 0 0) (b.blocks.getD 1 0) unsynced d) :=
    tpHeader_taken ((ctl_of_upWords hd).trans hctl) e n _ _ unsynced
  obtain ⟨d, hd, htp, hregs⟩ : ∃ d, d = (if bundleLate c b then prtFlag n 21 (c.sat (Reg.PRT_TP_CNT n) 0 16 1) else c) ∧ d.tp = c.tp ∧
      sameRegs (upWords n) c d := by
    refine ⟨_, rfl, ?_, sameRegs_ite (sameRegs_wr (by simp) _ (sameRegs_wr (by simp) _ (fun _ _ => rfl))) (fun _ _ => rfl)⟩
    split <;> rfl
  simp only [tpUpward, hout, haborted, h.form, h.upward, hcrc, hnone, beq_self_eq_true, Bool.false_eq_true, if_false, Bool.not_true, Bool.or_self,
    ← hd]
  split
  case isTrue =>
    have hframe : sameRegs (upWords n) c (prtFrameErr n d) := sameRegs_wr (by simp) _ (sameRegs_wr (by simp) _ hregs)
    exact ⟨rfl, hport (sameRegs_ite (sameRegs_trans hframe (hheader true hframe).regs) hframe)⟩
  split
  case isTrue => exact ⟨rfl, hport hregs⟩
  split
  case isTrue => exact ⟨rfl, hport (sameRegs_wr (by simp) _ hregs)⟩
  have htaken := hheader (dget (b.blocks.getD 0 0) 32 32 == 0xFFFFFFFF) hregs
  have hshown := sameRegs_trans hregs htaken.regs
  split
  case isTrue => exact ⟨rfl, hport hshown⟩
  case isFalse =>
    have haccept := (tpAccept_accepted hn ((ctl_of_upWords hshown).trans hctl) e b []).regs
    rw [tpOf_of_tp (htaken.tp.trans htp)] at haccept
    exact ⟨rfl, sameRegs_trans (hport hshown) haccept⟩

end

end Sys2Proof.Machine
end

section
/-! PROOF. UPWARD_BUNDLE, PORT_LOST, NODE_STAGES_UNAVAILABLE, ACK_RESEND and TUN_RESET (ch. 11, R357 to R384). -/
open Sys2Proof Sys2Proof.Machine
namespace Sys2Proof.Machine

/-! ### Deliveries (R364, R393) -/

/-- A vehicle frame writes one word of its outlet, or none. -/
theorem sesReceive_regs (e : Env) (o : Nat) (bytes : List Byte) (cm : ChipMem) :
    (sesReceive e o bytes cm).1.tp = cm.1.tp ∧ sameRegs [Reg.SES_TUN o] cm.1 (sesReceive e o bytes cm).1 := by
  unfold sesReceive
  dsimp only
  split
  · exact ⟨rfl, fun _ _ => rfl⟩
  split <;> exact ⟨rfl, sameRegs_wr (by simp) _ (fun _ _ => rfl)⟩

/-- What the deliveries of a bundle leave: the queue, the part and the time, the ports' transport, and the Control words past the log's. -/
structure Delivered (s t : State) : Prop where
  env : t.env = s.env
  pending : t.pending = s.pending
  tp : t.chip.tp = s.chip.tp
  rd : ∀ a, 0x40001000 ≤ a → a < 0x70000000 → t.chip.rd a = s.chip.rd a

theorem deliver_delivered (n : Nat) (x : Delivery) (s : State) : Delivered s (deliver n x s) := by
  cases x with
  | safety words =>
    change Delivered s (if hthOn s then onHeath (fun e h => netATake n (halves words) e (h, [])) s else s)
    split
    · refine ⟨rfl, rfl, ?_, fun a hlo _ => ?_⟩ <;> rw [onHeath_chip]
      · exact Chip.putOrKeep_tp _ _ _
      · exact Chip.putOrKeep_rd_ne _ _ _ (by simp only [Reg.CHIP_LOG_WR]; omega) (by simp only [Reg.CHIP_LOG_LOST]; omega)
    · exact ⟨rfl, rfl, rfl, fun _ _ _ => rfl⟩
  | vehicle o bytes =>
    obtain ⟨htp, hregs⟩ := sesReceive_regs s.env o bytes (s.chip, s.mem)
    exact ⟨rfl, rfl, htp, fun a _ hhi => hregs a (notMem_tunWords hhi [{ outlet := o }])⟩
  | stream o bytes =>
    change Delivered s (if s.env.part.hasMet then { s with met := s.met.onSt (fun t => { t with inbox := t.inbox ++ [(o, bytes)] }) } else s)
    split <;> exact ⟨rfl, rfl, rfl, fun _ _ _ => rfl⟩

theorem eachOf_delivered (n : Nat) (l : List Delivery) (s : State) : Delivered s (eachOf l (deliver n) s) := by
  induction l generalizing s with
  | nil => exact ⟨rfl, rfl, rfl, fun _ _ _ => rfl⟩
  | cons x l ih =>
    have hfirst := deliver_delivered n x s
    have hrest := ih (deliver n x s)
    exact ⟨hrest.env.trans hfirst.env, hrest.pending.trans hfirst.pending, hrest.tp.trans hfirst.tp,
      fun a hlo hhi => (hrest.rd a hlo hhi).trans (hfirst.rd a hlo hhi)⟩

/-! ### UPWARD_BUNDLE -/

/-- The state that a bundle judged leaves, before its deliveries. -/
def State.bundleJudged (s : State) (n : Nat) (b : UpBundle) : State := { s with chip := (tpUpward s.env n b s.chip).1 }

theorem exec_upwardBundle_of_up {s : State} {n : Fin 32} {b : UpBundle} (hctl : s.chip.ctl = true) (hport : n.val < s.env.part.ports)
    (hup : prtUp s.chip n = true) (hfence : s.chip.portFenced n = false) (hstarted : bundleStarted s.chip n b = true) :
    exec (.upwardBundle n b) s = .next (eachOf (tpUpward s.env n b s.chip).2 (deliver n) (s.bundleJudged n b)) := by
  refine congrArg Host.Outcome.next (if_pos ?_)
  rw [hctl, decide_eq_true hport, hup, hfence, hstarted]
  rfl

theorem BundleShown.delivered {n : Nat} (hn : n < 32) {b : UpBundle} {c : Chip} {s t : State} (h : BundleShown n b c s.chip)
    (hdel : Delivered s t) : BundleShown n b c t.chip :=
  h.of_rd (congrArg TpSt.done (tpOf_of_tp hdel.tp n)) fun a ha => by
    obtain ⟨hlo, hhi⟩ := shownWords_range hn ha
    exact hdel.rd a (by omega) (by omega)

/-- A bundle with an error is counted in TP_ERR and flagged, and does nothing else (R357). -/
theorem bundleError_spec (n : Nat) {i lo : Nat} (hi : i < 32) (hlo : lo + 8 ≤ 32) (c : Chip) {d : Chip}
    (hd : d = prtFlag n i (c.sat (Reg.PRT_TP_ERR n) lo 8 1)) : d.f (Reg.PRT_TP_ERR n) lo 8 = min (c.f (Reg.PRT_TP_ERR n) lo 8 + 1) 255 ∧
      d.b (Reg.PRT_PERR n) i = true ∧ sameRegs [Reg.PRT_TP_ERR n, Reg.PRT_PERR n] c d := by
  subst hd
  refine ⟨?_, prtFlag_set n hi _, sameRegs_wr (by simp) _ (sameRegs_wr (by simp) _ (fun _ _ => rfl))⟩
  rw [Chip.f, prtFlag_regs _ _ _ _ (by simp [prtAddrs, tpAddrs]), ← Chip.f, Chip.f_sat_same _ _ _ _ _ hlo]
  rfl

/-- Where a bundle delivers nothing, judging it is an effect on the chip alone. -/
theorem exec_upwardBundle_of_silent {s : State} {n : Fin 32} {b : UpBundle} {d : Chip} (hctl : s.chip.ctl = true)
    (hport : n.val < s.env.part.ports) (hup : prtUp s.chip n = true) (hfence : s.chip.portFenced n = false)
    (hstarted : bundleStarted s.chip n b = true) (hjudged : tpUpward s.env n b s.chip = (d, [])) :
    exec (.upwardBundle n b) s = .next (onChip (fun _ _ => d) s) := by
  rw [exec_upwardBundle_of_up hctl hport hup hfence hstarted, State.bundleJudged, hjudged]
  rfl

/-! ### PORT_LOST -/

/-- A port found lost, before the entry (R375). -/
def lostMarked (n : Nat) (c : Chip) : Chip := prtFlag n 19 (c.setB Reg.PRT_LOST n true)

theorem exec_portLost_of_missed {s : State} {n : Fin 32} (hctl : s.chip.ctl = true) (hmap : mapClass s.chip n ≠ 0)
    (hmissed : 4 ≤ missRun s.chip n) (hfound : s.chip.b Reg.PRT_LOST n = false) :
    exec (.portLost n) s = .next (onChip (fun e c => prtLog e n 0x20 0 (lostMarked n c)) s) := by
  refine congrArg Host.Outcome.next (onChip_congr (if_pos ?_))
  rw [hctl, bne_iff_ne.mpr hmap, decide_eq_true hmissed, hfound]
  rfl

theorem lostMarked_regs (n : Nat) (c : Chip) : sameRegs [Reg.PRT_LOST, Reg.PRT_PERR n] c (lostMarked n c) :=
  sameRegs_wr (by simp) _ (sameRegs_wr (by simp) _ (fun _ _ => rfl))

theorem prtLog_logged (n : Nat) {c d : Chip} (hlog : d.log = c.log) (hwr : d.rd Reg.CHIP_LOG_WR = c.rd Reg.CHIP_LOG_WR) (hctl : d.ctl = true)
    (e : Env) (cls detail : Nat) : logged c (prtLog e n cls detail d) ⟨e.time.stamp, srcWord 0x16 0 cls, word (detail + n)⟩ :=
  logged_log1 hlog hwr hctl e 0x16 0 cls (detail + n)

/-- A word below the ports' own is no port's PERR. -/
theorem ne_PRT_PERR {a : Nat} (h : a < 0x40032400) (n : Nat) : a ≠ Reg.PRT_PERR n := by
  simp only [prtAddrs]
  omega

theorem lostMarked_lost {n : Nat} (hn : n < 32) (c : Chip) : (lostMarked n c).b Reg.PRT_LOST n = true := by
  rw [lostMarked, prtFlag, Chip.b_setB_ne _ _ _ _ (ne_PRT_PERR (by decide) n), Chip.b_setB_same _ _ _ _ hn]

theorem lostMarked_LOG_WR (n : Nat) (c : Chip) : (lostMarked n c).rd Reg.CHIP_LOG_WR = c.rd Reg.CHIP_LOG_WR :=
  (Chip.rd_setB_ne _ (ne_PRT_PERR (by decide) n)).trans (Chip.rd_setB_ne _ (by decide))

/-! ### NODE_STAGES_UNAVAILABLE -/

theorem stgInAddr (j : Nat) : Reg.ALC_STG_IN j = 0x1000 * (j / 64) + 0x20 * (j % 64) + 0x40004408 := by
  rw [Reg.ALC_STG_IN, Nat.add_assoc, Nat.add_comm]

theorem ALC_STG_IN_injective : Function.Injective Reg.ALC_STG_IN := fun i j h => by
  rw [stgInAddr, stgInAddr] at h
  omega

/-- A stage of a port without bundles reads without current, and unavailable but where it is fenced (R376). -/
def stageHeld (v : Word) : Word := fset (fset v 30 2 (if fget v 30 2 = 3 then 3 else 0)) 0 16 0

/-- One round of NODE_STAGES_UNAVAILABLE: the port's `i`-th stage. -/
def holdStage (n i : Nat) (c : Chip) : Chip :=
  let r := Reg.ALC_STG_IN (mapFirst c n + i)
  (c.setF r 30 2 (if c.f r 30 2 = 3 then 3 else 0)).setF r 0 16 0

theorem holdStage_rd (n i : Nat) (c : Chip) (a : Nat) :
    (holdStage n i c).rd a = if a = Reg.ALC_STG_IN (mapFirst c n + i) then stageHeld (c.rd a) else c.rd a := by
  by_cases h : a = Reg.ALC_STG_IN (mapFirst c n + i)
  · subst h
    simp only [holdStage, Chip.rd_setF, if_true]
    rfl
  · simp only [holdStage, Chip.rd_setF, h, if_false]

theorem exec_nodeStagesUnavailable_of_missed {s : State} {n : Fin 32} (hctl : s.chip.ctl = true) (hmap : mapClass s.chip n = 1)
    (hheld : s.chip.f Reg.PRT_TP_GCFG 28 4 ≤ missRun s.chip n) :
    exec (.nodeStagesUnavailable n) s = .next (onChip (fun _ c => eachBelow (mapCount c n) (holdStage n) c) s) := by
  refine congrArg Host.Outcome.next (onChip_congr (if_pos ?_))
  rw [hctl, beq_iff_eq.mpr hmap, decide_eq_true hheld]
  rfl

/-- The stages' words lie below the port's map word. -/
theorem mapWord_notMem_stages (c : Chip) (n k : Nat) (hk : k ≤ mapCount c n) :
    Reg.PRT_MAP n ∉ (List.range k).map (fun i => Reg.ALC_STG_IN (mapFirst c n + i)) := by
  have hfirst : mapFirst c n < 2 ^ 9 := fget_lt _ _ _
  have hcount : mapCount c n < 2 ^ 6 := fget_lt _ _ _
  simp only [List.mem_map, List.mem_range, not_exists, not_and, tpAddrs, stgInAddr]
  intro i hi
  have hcounted := Nat.lt_of_lt_of_le hi hk
  omega

/-- After `k` rounds the first `k` stages of the port are held, and every other word stands. -/
theorem holdStages_rd (n : Nat) (c : Chip) {k : Nat} (hk : k ≤ mapCount c n) (a : Nat) :
    (eachBelow k (holdStage n) c).rd a =
      if a ∈ (List.range k).map (fun i => Reg.ALC_STG_IN (mapFirst c n + i)) then stageHeld (c.rd a) else c.rd a := by
  induction k generalizing a with
  | zero => rfl
  | succ k ih =>
    have hround : eachBelow (k + 1) (holdStage n) c = holdStage n k (eachBelow k (holdStage n) c) := by
      simp only [eachBelow, List.range_succ, List.foldl_append, List.foldl_cons, List.foldl_nil]
    have hmap : mapFirst (eachBelow k (holdStage n) c) n = mapFirst c n := by
      rw [mapFirst, Chip.f, ih (by omega), if_neg (mapWord_notMem_stages c n k (by omega)), mapFirst, Chip.f]
    have hnew : Reg.ALC_STG_IN (mapFirst c n + k) ∉ (List.range k).map (fun i => Reg.ALC_STG_IN (mapFirst c n + i)) := by
      simp [ALC_STG_IN_injective.eq_iff]
    have hmem : a ∈ (List.range (k + 1)).map (fun i => Reg.ALC_STG_IN (mapFirst c n + i)) ↔
        a = Reg.ALC_STG_IN (mapFirst c n + k) ∨ a ∈ (List.range k).map (fun i => Reg.ALC_STG_IN (mapFirst c n + i)) := by
      rw [List.range_succ, List.map_append, List.mem_append, List.map_singleton, List.mem_singleton, or_comm]
    rw [hround, holdStage_rd, hmap, ih (by omega), if_congr hmem rfl rfl]
    by_cases ha : a = Reg.ALC_STG_IN (mapFirst c n + k)
    · rw [if_pos ha, if_pos (Or.inl ha), if_neg (ha ▸ hnew)]
    · rw [if_neg ha, if_congr (or_iff_right ha) rfl rfl]

/-! ### ACK_RESEND and TUN_RESET -/

/-- Every record that has been sent is to be sent again (R380). -/
def allDue (x : TpSt) : TpSt := { x with tx := x.tx.map (fun r => if 0 < r.times then { r with due := true } else r) }

theorem exec_ackResend_of_stale {s : State} {n : Fin 32} {r : TpRec} (hctl : s.chip.ctl = true) (hstale : tunStale s.env s.chip n = some r)
    (htimes : r.times ≤ s.chip.f Reg.PRT_TP_GCFG 12 4) :
    exec (.ackResend n) s = .next (onChip (fun _ c => c.setTp n (allDue (c.tpOf n))) s) := by
  refine congrArg Host.Outcome.next (onChip_congr ?_)
  simp only [hctl, hstale, htimes, if_true]
  rfl

theorem exec_tunReset_of_last {s : State} {n : Fin 32} {r : TpRec} (hctl : s.chip.ctl = true) (hstale : tunStale s.env s.chip n = some r)
    (htimes : s.chip.f Reg.PRT_TP_GCFG 12 4 < r.times) : exec (.tunReset n) s = .next (onChip (fun e c => tunReset e n true c) s) := by
  refine congrArg Host.Outcome.next (onChip_congr ?_)
  simp only [hctl, hstale, htimes, if_true]

end Sys2Proof.Machine

/-- Settles O33: a bundle is judged by its first failing test, and one that passes all shows its port's words, which none of its records or deliveries
writes; the other commands are one operation each on the port's words, the port's stages or the records that wait. -/
theorem upwardTransport : Obligations.UpwardTransport := by
  refine ⟨fun s n b recs hctl hport hup hfence hclean hwhole hlength htwo hupward hcrc hframe hsynced hearly hfirst hmap hclass hrecs => ?accepted,
    fun s n b hctl hport hup hfence hclean hwhole hlength htwo hupward hcrc hlen => ?headers,
    fun s n b hctl hport hup hfence hclean hwhole hlength htwo hupward hcrc hearly => ?wrongCrc,
    fun s n b hctl hport hup hfence hclean hwhole hlength htwo hupward hcrc hframe hsynced hearly => ?otherFrame,
    fun s n hctl hmap hmissed hfound => ?lost, fun s n i hctl hmap hheld hi => ?stages,
    fun s n r hctl hstale htimes => ?resend, fun s n r hctl hstale htimes => ?reset⟩
  case accepted =>
    have hb : WholeBundle s.chip n b := ⟨hclean, hwhole, hlength, htwo, hupward⟩
    have hexec := exec_upwardBundle_of_up hctl hport hup hfence hb.wire.1
    have hheader := tpHeader_taken hctl s.env n (b.blocks.getD 0 0) (b.blocks.getD 1 0) false
    have haccept := tpAccept_accepted n.isLt ((ctl_of_upWords hheader.regs).trans hctl) s.env b recs
    rw [← tpUpward_of_first hb hcrc hframe hsynced hearly hfirst hmap hclass hrecs] at haccept
    have hdel := eachOf_delivered n (tpUpward s.env n b s.chip).2 (s.bundleJudged n b)
    have hshown := haccept.toBundleShown.delivered n.isLt (s := s.bundleJudged n b) hdel
    exact ⟨_, hexec, hshown.admitted.trans (tpHeader_admits s.env _ hmap hclass), hshown.done, hshown.missed, hshown.found, hshown.size, hshown.seq,
      hshown.node.trans hheader.node, hdel.env, hdel.pending⟩
  case headers =>
    have hb : WholeBundle s.chip n b := ⟨hclean, hwhole, hlength, htwo, hupward⟩
    obtain ⟨hnone, hregs⟩ := tpUpward_headers hb (e := s.env) n.isLt hctl hcrc hlen
    exact ⟨_, exec_upwardBundle_of_silent hctl hport hup hfence hb.wire.1 (Prod.ext rfl hnone), onChip_onlyChip _ s, hregs⟩
  case wrongCrc =>
    have hb : WholeBundle s.chip n b := ⟨hclean, hwhole, hlength, htwo, hupward⟩
    obtain ⟨hcounted, hflagged, hregs⟩ := bundleError_spec n (i := 22) (lo := 24) (by decide) (by decide) s.chip rfl
    exact ⟨_, exec_upwardBundle_of_silent hctl hport hup hfence hb.wire.1 (tpUpward_of_wrongCrc hb hcrc hearly), hcounted, hflagged, rfl, rfl,
      onChip_onlyChip _ s, hregs⟩
  case otherFrame =>
    have hb : WholeBundle s.chip n b := ⟨hclean, hwhole, hlength, htwo, hupward⟩
    obtain ⟨hcounted, hflagged, hregs⟩ := bundleError_spec n (i := 23) (lo := 16) (by decide) (by decide) s.chip rfl
    exact ⟨_, exec_upwardBundle_of_silent hctl hport hup hfence hb.wire.1 (tpUpward_of_otherFrame hb hcrc hframe hsynced hearly), hcounted,
      hflagged, rfl, rfl, onChip_onlyChip _ s, hregs⟩
  case lost =>
    have hmarked := lostMarked_regs n s.chip
    have hctl' := (ctl_of_upWords (n := n) (sameRegs_mono (by simp) hmarked)).trans hctl
    have hlog := prtLog_regs hctl' s.env n 0x20 0
    refine ⟨_, exec_portLost_of_missed hctl hmap hmissed hfound, ?_, ?_, ?_, onChip_onlyChip _ s,
      sameRegs_trans (sameRegs_mono (by simp) hmarked) (sameRegs_mono (by simp) hlog)⟩
    · exact (congrArg (fbit · n) (hlog _ (by simp [prtAddrs, tpAddrs]))).trans (lostMarked_lost n.isLt s.chip)
    · exact (congrArg (fbit · 19) (hlog _ (by simp [prtAddrs]))).trans (prtFlag_set n (by decide) _)
    · have hput := prtLog_logged n.val (c := s.chip) (d := lostMarked n s.chip) rfl (lostMarked_LOG_WR n s.chip) hctl' s.env 0x20 0
      rwa [Nat.zero_add] at hput
  case stages =>
    have hrd := holdStages_rd n s.chip (Nat.le_refl (mapCount s.chip n))
    have hstage := hrd (Reg.ALC_STG_IN (mapFirst s.chip n + i))
    rw [if_pos (List.mem_map.mpr ⟨i, List.mem_range.mpr hi, rfl⟩)] at hstage
    refine ⟨_, exec_nodeStagesUnavailable_of_missed hctl hmap hheld, ?_, ?_, onChip_onlyChip _ s, fun a ha => (hrd a).trans (if_neg ha)⟩
    · rw [onChip_chip, Chip.f, hstage, stageHeld, fget_fset_ne _ _ _ _ _ _ (by decide), fget_fset_same _ _ _ _ (by decide), Chip.f]
      split <;> rfl
    · rw [onChip_chip, Chip.f, hstage, stageHeld, fget_fset_same _ _ _ _ (by decide), Nat.zero_mod]
  case resend =>
    exact ⟨_, exec_ackResend_of_stale hctl hstale htimes, congrArg TpSt.tx (s.chip.tpOf_setTp n (allDue (s.chip.tpOf n))), onChip_onlyChip _ s,
      fun _ _ => rfl⟩
  case reset =>
    have hreset := tunReset_resets n.isLt hctl s.env true
    exact ⟨_, exec_tunReset_of_last hctl hstale htimes, congrArg TpSt.tx hreset.tp, congrArg TpSt.trst hreset.tp, congrArg TpSt.wait hreset.tp,
      congrArg TpSt.parts hreset.tp, hreset.series, hreset.counted, hreset.flagged, onChip_onlyChip _ s, hreset.regs⟩
end

section
/-! PROOF. A write that its checks pass as it stands, and where an entry of a session goes in the ring (ch. 4, R125; ch. 5, R30, R167). -/
open Sys2Proof Sys2Proof.Machine
namespace Sys2Proof.Machine

/-! ### A write taken as it stands (R125) -/

/-- What passes is dropped by no check on the way. -/
theorem Verdict.pass_of_ite {q : Prop} [Decidable q] {x t : State} {y : Verdict} {d : RegDesc} {w : Word}
    (h : (if q then .dropped x else y) = .pass t d w) : y = .pass t d w := by
  split at h
  · cases h
  · exact h

/-- Only a register's word passes the checks: without its reserved bits, of which one that is set raises RSVD_WR (R125). -/
theorem checkWrite_pass {s t : State} {p : Plane} {a : Nat} {v w : Word} {d : RegDesc} (h : checkWrite s p a 4 v = .pass t d w) :
    w = v &&& ~~~word d.rsv ∧ ∃ g, t = s.rsvMark g d v := by
  cases hplace : placeOf s.env.part (a / 4 * 4) with
  | unmapped => simp only [checkWrite, hplace, reduceCtorEq] at h
  | absent st =>
    simp only [checkWrite, hplace] at h
    split at h <;> cases h
  | reg g d' j =>
    have hmark (hpass : .pass (s.rsvMark g d' v) d' (v &&& ~~~word d'.rsv) = Verdict.pass t d w) :
        w = v &&& ~~~word d.rsv ∧ ∃ g, t = s.rsvMark g d v := by
      cases hpass
      exact ⟨rfl, g, rfl⟩
    simp only [checkWrite, hplace] at h
    have hcode := Verdict.pass_of_ite (Verdict.pass_of_ite (Verdict.pass_of_ite (Verdict.pass_of_ite h)))
    cases hacc : d'.acc <;> simp only [hacc] at hcode
    case rws => split at hcode <;> cases hcode
    case ro | rc => exact hmark (Verdict.pass_of_ite hcode)
    case rw | w1c | wo => exact hmark hcode
  | blank g => simp only [checkWrite, hplace, apply_ite (· = Verdict.pass t d w), reduceCtorEq, ite_self] at h
  | win x inEntry =>
    simp only [checkWrite, hplace] at h
    have hopen := Verdict.pass_of_ite (Verdict.pass_of_ite (Verdict.pass_of_ite (Verdict.pass_of_ite (Verdict.pass_of_ite
      (Verdict.pass_of_ite (Verdict.pass_of_ite (Verdict.pass_of_ite h)))))))
    split at hopen <;> cases hopen

/-- A write whose command is handed the very word written is the command's effect alone. -/
theorem onWrite_of_takes {s : State} {p : Plane} {a : Nat} {v : Word} (h : s.takes p a v = some v) (f : Word → State → State) :
    onWrite p a v f s = f v s := by
  unfold State.takes at h
  split at h
  case isFalse => cases h
  next hopen =>
    simp only [Bool.and_eq_true, Bool.not_eq_true'] at hopen
    obtain ⟨hreach, hfree⟩ := hopen
    split at h
    next t d w hpass =>
      cases h
      obtain ⟨hbits, g, rfl⟩ := checkWrite_pass hpass
      have hrsv : v &&& word d.rsv = 0 := by
        rw [hbits, BitVec.and_assoc]
        simp
      simp only [onWrite, hreach, hpass, hfree, State.rsvMark, hrsv, Bool.false_eq_true, if_true, if_false]
    · cases h

/-! ### Entries of a session (R30, R412) -/

/-- No entry of the ring ranks below one of a session. -/
theorem logBefore_session {en : LogEntry} {i k : Nat} (hsrc : en.src = srcWord 0x20 i k) (x : LogEntry) : logBefore en x = false := by
  have hnum : (srcWord 0x20 i k).toNat = 0x200000 + i % 256 * 256 + k % 256 := by
    rw [srcWord, toNat_word]
    omega
  have htype : fget (srcWord 0x20 i k) 16 16 = 0x20 := by
    rw [fget, hnum]
    omega
  have hlast : logRank (srcWord 0x20 i k) = 3 := by simp [logRank, htype]
  have hrank : logRank x.src ≤ 3 := by
    unfold logRank
    dsimp only
    repeat' split
    all_goals decide
  have hcan : (srcWord 0x20 i k / 256 == 0x2200) = false := beq_eq_false_iff_ne.mpr fun h => by
    have hdiv : (0x200000 + i % 256 * 256 + k % 256) / 256 = 0x2200 := hnum ▸ congrArg BitVec.toNat h
    omega
  rw [logBefore, hsrc, hlast, hcan, decide_eq_false (Nat.not_lt.mpr hrank)]
  rfl

/-- So it goes to the place that LOG_WR names. -/
theorem Chip.logNext_session (c : Chip) {en : LogEntry} {i k : Nat} (hsrc : en.src = srcWord 0x20 i k) :
    c.logNext en = c.n Reg.CHIP_LOG_WR := logPlace_last _ _ _ _ fun _ => logBefore_session hsrc _

/-- The next entry of a session does not move the one before it. -/
theorem logged_put_session {c d : Chip} {en next : LogEntry} {i k j l : Nat} (hen : en.src = srcWord 0x20 i k)
    (hnext : next.src = srcWord 0x20 j l) (h : logged c d en) (hwr : d.rd Reg.CHIP_LOG_WR = c.rd Reg.CHIP_LOG_WR + 1) :
    logged c (d.put next) en := by
  have hmoved : d.n Reg.CHIP_LOG_WR = (c.n Reg.CHIP_LOG_WR + 1) % 2 ^ 32 := by
    rw [Chip.n, hwr, BitVec.toNat_add]
    rfl
  have hother : c.n Reg.CHIP_LOG_WR % 4096 ≠ d.n Reg.CHIP_LOG_WR % 4096 := by omega
  rw [logged, Chip.logNext_session c hen] at h ⊢
  exact (Chip.put_others d next _ (Chip.logNext_session d hnext) hother).trans h

end Sys2Proof.Machine
end

section
/-! PROOF. An outlet's session words, and what a change of state, a command and a write of a session do to them (ch. 12, R394 to R401). -/
open Sys2Proof Sys2Proof.Machine
namespace Sys2Proof.Machine

/-! ### The words of an outlet's session -/

/-- The addresses of an outlet's words, as numbers. -/
theorem sesAddrs : (∀ o, Reg.SES_DEM_I o = 0x1000 * (o / 32) + 0x40 * (o % 32) + 0x70000400) ∧
    (∀ o, Reg.SES_STATE o = 0x1000 * (o / 32) + 0x40 * (o % 32) + 0x70000408) ∧
    (∀ o, Reg.SES_EVT o = 0x1000 * (o / 32) + 0x40 * (o % 32) + 0x70000410) ∧
    (∀ o, Reg.SES_CREDIT o = 0x1000 * (o / 32) + 0x40 * (o % 32) + 0x70000414) ∧
    (∀ o, Reg.SES_TIMER o = 0x1000 * (o / 32) + 0x40 * (o % 32) + 0x7000041C) ∧
    (∀ o, Reg.SES_ENERGY o = 0x1000 * (o / 32) + 0x40 * (o % 32) + 0x70000428) ∧
    (∀ o, Reg.ALC_OUT_IN o = 0x20 * o + 0x4000C410) ∧ Reg.CHIP_LOG_WR = 0x40000068 ∧ Reg.CHIP_LOG_LOST = 0x4000006C ∧
    Reg.CHIP_RGN_STAT = 0x40000048 := by
  refine ⟨fun o => ?_, fun o => ?_, fun o => ?_, fun o => ?_, fun o => ?_, fun o => ?_, fun o => Nat.add_comm _ _, rfl, rfl, rfl⟩ <;>
    exact (Nat.add_assoc _ _ _).trans (Nat.add_comm _ _)

/-- The words that leaving one state and reaching another may write beside SES.STATE and SES.EVT (R399 to R401). -/
abbrev turnWords (o : Nat) : List Nat := [Reg.SES_CREDIT o, Reg.ALC_OUT_IN o, Reg.SES_ENERGY o]

theorem sesState_notMem (o : Nat) : Reg.SES_STATE o ∉ turnWords o ++ logRegs := by
  simp only [sesAddrs, List.mem_append, List.mem_cons, List.not_mem_nil, or_false, not_or]
  omega

theorem sesEvt_notMem (o : Nat) : Reg.SES_EVT o ∉ turnWords o ++ logRegs := by
  simp only [sesAddrs, List.mem_append, List.mem_cons, List.not_mem_nil, or_false, not_or]
  omega

/-! ### A change of state (R397, R398, R412) -/

/-- The cause that a change of state records, if it has one. -/
def sesCaused (o : Nat) (cause : Option Nat) (c : Chip) : Chip := match cause with | some k => c.setF (Reg.SES_STATE o) 24 4 k | none => c

/-- The new state, flagged, with STATE_AGE zero, before its entry. -/
def sesMarked (o new : Nat) (cause : Option Nat) (c : Chip) : Chip :=
  (sesFlag o 0 ((sesCaused o cause c).setF (Reg.SES_STATE o) 28 4 new)).setF (Reg.SES_STATE o) 0 16 0

/-- The entry of a change of state (R412). -/
def sesEntry (e : Env) (o old new : Nat) (cause : Option Nat) : LogEntry :=
  ⟨e.time.stamp, srcWord 0x20 (o / 32) 0x01, word (new * 2 ^ 28 + old * 2 ^ 24 + cause.getD 0 * 2 ^ 20 + o)⟩

/-- What leaving CHARGING, or reaching IDLE, PLUGGED or STOPPING, does (R399 to R401). -/
def sesTurn (o old new : Nat) (c : Chip) : Chip :=
  let d := if old = 5 then sesTaper o false c else c
  if new = 0 then outInSet o 24 false (outInSet o 25 false d)
  else if new = 1 then (d.wr (Reg.SES_ENERGY o) 0).setSes o { d.sesOf o with erem := 0 }
  else if new = 6 then d.setSes o { d.sesOf o with low := 0, iso := true }
  else d

theorem sesSet_of_ne {e : Env} {o new : Nat} {cause : Option Nat} {c : Chip} (h : new ≠ sesState c o) : sesSet e o new cause c =
    sesTurn o (sesState c o) new ((sesMarked o new cause c).putAt (sesEntry e o (sesState c o) new cause)) := by
  cases cause <;> exact if_neg h

theorem sesTurn_regs (o old new : Nat) (c : Chip) : sameRegs (turnWords o) c (sesTurn o old new c) := by
  have hleft : sameRegs (turnWords o) c (if old = 5 then sesTaper o false c else c) :=
    sameRegs_ite (sameRegs_wr (by simp) _ (fun _ _ => rfl)) (fun _ _ => rfl)
  have hout (i : Nat) {d : Chip} (hd : sameRegs (turnWords o) c d) : sameRegs (turnWords o) c (outInSet o i false d) :=
    sameRegs_wr (by simp) _ (sameRegs_wr (by simp) _ hd)
  exact sameRegs_ite (hout 24 (hout 25 hleft)) (sameRegs_ite (sameRegs_wr (by simp) _ hleft) (sameRegs_ite hleft hleft))

theorem sesTurn_log (o old new : Nat) (c : Chip) : (sesTurn o old new c).log = c.log := by
  unfold sesTurn
  dsimp only
  repeat' split
  all_goals rfl

theorem sesMarked_log (o new : Nat) (cause : Option Nat) (c : Chip) : (sesMarked o new cause c).log = c.log := by cases cause <;> rfl

theorem sesMarked_regs (o new : Nat) (cause : Option Nat) (c : Chip) :
    sameRegs [Reg.SES_STATE o, Reg.SES_EVT o] c (sesMarked o new cause c) := by
  refine sameRegs_wr (by simp) _ (sameRegs_wr (by simp) _ (sameRegs_wr (by simp) _ ?_))
  cases cause
  · exact fun _ _ => rfl
  · exact sameRegs_wr (by simp) _ (fun _ _ => rfl)

/-- A change of state leaves what its mark wrote. -/
theorem sesSet_rd {e : Env} {o new : Nat} {cause : Option Nat} {c : Chip} (h : new ≠ sesState c o) {a : Nat} (ha : a ∉ turnWords o ++ logRegs) :
    (sesSet e o new cause c).rd a = (sesMarked o new cause c).rd a := by
  obtain ⟨hturn, hlog⟩ := not_or.mp (List.mem_append.not.mp ha)
  simp only [List.mem_cons, List.not_mem_nil, or_false, not_or] at hlog
  rw [sesSet_of_ne h, sesTurn_regs _ _ _ _ a hturn, Chip.putAt_rd_ne _ _ hlog.1 hlog.2]

theorem sesMarked_STATE (o new : Nat) (cause : Option Nat) (c : Chip) : (sesMarked o new cause c).rd (Reg.SES_STATE o) =
    fset (fset ((sesCaused o cause c).rd (Reg.SES_STATE o)) 28 4 new) 0 16 0 := by
  have hne : Reg.SES_STATE o ≠ Reg.SES_EVT o := by simp [sesAddrs]
  rw [sesMarked, Chip.rd_setF, if_pos rfl, sesFlag, Chip.rd_setB_ne _ hne, Chip.rd_setF, if_pos rfl]

section
variable {e : Env} {o new : Nat} {c : Chip} (h : new ≠ sesState c o)
include h

theorem sesState_sesSet (cause : Option Nat) (hnew : new < 16) : sesState (sesSet e o new cause c) o = new := by
  rw [sesState, Chip.f, sesSet_rd h (sesState_notMem o), sesMarked_STATE, fget_fset_ne _ _ _ _ _ _ (by decide),
    fget_fset_same _ _ _ _ (by decide)]
  exact Nat.mod_eq_of_lt hnew

theorem sesSet_cause {k : Nat} (hk : k < 16) : (sesSet e o new (some k) c).f (Reg.SES_STATE o) 24 4 = k := by
  rw [Chip.f, sesSet_rd h (sesState_notMem o), sesMarked_STATE, fget_fset_ne _ _ _ _ _ _ (by decide), fget_fset_ne _ _ _ _ _ _ (by decide)]
  exact (Chip.f_setF_same _ _ _ _ _ (by decide)).trans (Nat.mod_eq_of_lt hk)

/-- Of the flags, a change of state sets that of a change alone. -/
theorem sesSet_flag (cause : Option Nat) {i : Nat} (hi : i ≠ 0) : (sesSet e o new cause c).b (Reg.SES_EVT o) i = c.b (Reg.SES_EVT o) i := by
  have hne : Reg.SES_EVT o ≠ Reg.SES_STATE o := by simp [sesAddrs]
  rw [Chip.b, sesSet_rd h (sesEvt_notMem o), ← Chip.b, sesMarked, Chip.b_setF_ne _ _ _ _ _ hne, sesFlag, Chip.b_setB_apart _ _ _ _ _ hi,
    Chip.b_setF_ne _ _ _ _ _ hne]
  cases cause
  · rfl
  · exact Chip.b_setF_ne _ _ _ _ _ hne

end

/-! ### Commands (R396, R397) -/

/-- The commands' codes lead from a state to another one. -/
theorem sesCmdTo_moves {cmd st dst : Nat} (h : sesCmdTo cmd st = some dst) : cmd ≠ 0 ∧ dst ≠ st ∧ dst < 16 := by
  unfold sesCmdTo at h
  split at h <;> cases h <;> decide

/-- The command leaves the latch. -/
def sesTaken (o : Nat) (c : Chip) : Chip := c.setSes o { c.sesOf o with cmd := 0 }

section
variable {c : Chip} {o : Nat}

theorem sesCommand_of_taken (e : Env) {dst : Nat} (hgood : sesRefused c o (c.sesOf o).cmd = false)
    (hto : sesCmdTo (c.sesOf o).cmd (sesState c o) = some dst) :
    sesCommand e o c = sesSet e o dst (if (c.sesOf o).cmd = 5 then some 1 else none) (sesTaken o c) := by
  obtain ⟨hcmd, -⟩ := sesCmdTo_moves hto
  simp only [sesCommand, hcmd, hgood, hto, Bool.false_eq_true, if_false]
  rfl

theorem sesCommand_of_refused (e : Env) (hcmd : (c.sesOf o).cmd ≠ 0) (hbad : sesRefused c o (c.sesOf o).cmd = true) :
    sesCommand e o c = sesFlag o 8 (sesTaken o c) := by
  simp only [sesCommand, hcmd, hbad, if_false, if_true]
  rfl

/-- A command whose refusal conditions are unmet moves the session to where it leads. -/
theorem sesCommand_moves (e : Env) {dst : Nat} (hgood : sesRefused c o (c.sesOf o).cmd = false)
    (hto : sesCmdTo (c.sesOf o).cmd (sesState c o) = some dst) : sesState (sesCommand e o c) o = dst := by
  obtain ⟨-, hnew, hdst⟩ := sesCmdTo_moves hto
  rw [sesCommand_of_taken e hgood hto]
  exact sesState_sesSet (c := sesTaken o c) hnew _ hdst

/-- A firmware STOP records cause 1 (R398). -/
theorem sesCommand_stops (e : Env) {dst : Nat} (hgood : sesRefused c o (c.sesOf o).cmd = false) (hstop : (c.sesOf o).cmd = 5)
    (hto : sesCmdTo (c.sesOf o).cmd (sesState c o) = some dst) :
    sesState (sesCommand e o c) o = dst ∧ (sesCommand e o c).f (Reg.SES_STATE o) 24 4 = 1 := by
  refine ⟨sesCommand_moves e hgood hto, ?_⟩
  obtain ⟨-, hnew, -⟩ := sesCmdTo_moves hto
  rw [sesCommand_of_taken e hgood hto, if_pos hstop]
  exact sesSet_cause (c := sesTaken o c) hnew (by decide)

theorem sesCommand_refused (e : Env) (hcmd : (c.sesOf o).cmd ≠ 0) (hbad : sesRefused c o (c.sesOf o).cmd = true) :
    sesState (sesCommand e o c) o = sesState c o ∧ (sesCommand e o c).b (Reg.SES_EVT o) 8 = true := by
  have hne : Reg.SES_STATE o ≠ Reg.SES_EVT o := by simp [sesAddrs]
  rw [sesCommand_of_refused e hcmd hbad]
  exact ⟨Chip.f_setB_ne _ _ _ _ _ hne, Chip.b_setB_same _ _ _ _ (by decide)⟩

end

/-- A command's code stands in SES.CMD of its outlet, and no other register changes (R396). -/
theorem sesCmdWrite_spec {s : State} {p : Plane} {o code : Nat} (hsvc : s.chip.svc = true)
    (htake : s.takes p (Reg.SES_CMD o) (word code) = some (word code)) : (sesCmdWrite p o code s).chip.rd (Reg.SES_CMD o) = word code ∧
      onlyChip s (sesCmdWrite p o code s) ∧ sameRegs [Reg.SES_CMD o] s.chip (sesCmdWrite p o code s).chip := by
  rw [sesCmdWrite, if_pos hsvc, onWrite_of_takes htake]
  exact ⟨Chip.rd_wr_same _ _ _, onChip_onlyChip _ s, sameRegs_wr (by simp) _ (fun _ _ => rfl)⟩

/-! ### CREDIT_SET (R400) -/

/-- What a write of SES.CREDIT_SET leaves in REMAIN. -/
def creditLeft (c : Chip) (o : Nat) (v : Word) : Nat := if fbit v 30 then min (sesRemain c o + fget v 0 30) (2 ^ 30 - 1) else fget v 0 30

theorem creditLeft_lt (c : Chip) (o : Nat) (v : Word) : creditLeft c o v < 2 ^ 30 := by
  unfold creditLeft
  split
  · omega
  · exact fget_lt v 0 30

/-- The taper is another bit of SES.CREDIT than the field REMAIN and EN. -/
theorem sesTaper_credit (o : Nat) (on : Bool) (c : Chip) :
    sesRemain (sesTaper o on c) o = sesRemain c o ∧ sesPrepaid (sesTaper o on c) o = sesPrepaid c o :=
  ⟨Chip.f_setB_apart _ _ _ _ _ _ (by decide), Chip.b_setB_apart _ _ _ _ _ (by decide)⟩

theorem sesCreditSet_spec (o : Nat) (v : Word) (c : Chip) : sesRemain (sesCreditSet o v c) o = creditLeft c o v ∧
    sesPrepaid (sesCreditSet o v c) o = fbit v 31 ∧ sameRegs [Reg.SES_CREDIT o] c (sesCreditSet o v c) := by
  obtain ⟨d, hd, hdef⟩ : ∃ d, d = (c.setF (Reg.SES_CREDIT o) 0 30 (creditLeft c o v)).setB (Reg.SES_CREDIT o) 31 (fbit v 31) ∧
      (sesCreditSet o v c = sesTaper o false d ∨ sesCreditSet o v c = d) := ⟨_, rfl, ite_eq_or_eq _ _ _⟩
  have hleft : sesRemain d o = creditLeft c o v := by
    rw [hd, sesRemain, Chip.f_setB_apart _ _ _ _ _ _ (by decide), Chip.f_setF_same _ _ _ _ _ (by decide)]
    exact Nat.mod_eq_of_lt (creditLeft_lt c o v)
  have hon : sesPrepaid d o = fbit v 31 := hd ▸ Chip.b_setB_same _ _ _ _ (by decide)
  have hregs : sameRegs [Reg.SES_CREDIT o] c d := hd ▸ sameRegs_wr (by simp) _ (sameRegs_wr (by simp) _ (fun _ _ => rfl))
  obtain ⟨hremain, hen⟩ := sesTaper_credit o false d
  rcases hdef with h | h <;> rw [h]
  · exact ⟨hremain.trans hleft, hen.trans hon, sameRegs_wr (by simp) _ hregs⟩
  · exact ⟨hleft, hon, hregs⟩

theorem exec_creditSet_of_taken {s : State} {p : Plane} {o : Fin 64} {v : Word} (hsvc : s.chip.svc = true)
    (htake : s.takes p (Reg.SES_CREDIT_SET o) v = some v) :
    exec (.creditSet p o v) s = .next (onChip (fun _ => sesCreditSet o v) s) :=
  congrArg Host.Outcome.next ((if_pos hsvc).trans (onWrite_of_takes htake _))

/-! ### TUN_SW_WRITE (R393, R394) -/

/-- Places from one index of a tunnel ring forward to another. -/
def ringAhead (x y : Nat) : Nat := (x + 64 - y) % 64

/-- SES.TUN_SW with both of its fields taken. -/
def tunTaken (o : Nat) (v : Word) (c : Chip) : Chip := (c.setF (Reg.SES_TUN_SW o) 26 6 (fget v 26 6)).setF (Reg.SES_TUN_SW o) 20 6 (fget v 20 6)

/-- Where RX_RD stays behind the frames received, and TX_WR leaves the unsent ones their places, both are taken, and the frames queued note the
checkpoints before them. -/
theorem exec_tunSwWrite_of_advance {s : State} {p : Plane} {o : Fin 64} {v : Word} (hsvc : s.chip.svc = true)
    (htake : s.takes p (Reg.SES_TUN_SW o) v = some v)
    (hread : ringAhead (fget v 26 6) (s.chip.f (Reg.SES_TUN_SW o) 26 6) ≤
      ringAhead (s.chip.f (Reg.SES_TUN o) 26 6) (s.chip.f (Reg.SES_TUN_SW o) 26 6))
    (hroom : ringAhead (fget v 20 6) (s.chip.f (Reg.SES_TUN_SW o) 20 6) +
      ringAhead (s.chip.f (Reg.SES_TUN_SW o) 20 6) (s.chip.f (Reg.SES_TUN o) 20 6) ≤ 32) :
    exec (.tunSwWrite p o v) s = .next (onChip (fun _ c => sesQueued o (c.f (Reg.SES_TUN_SW o) 20 6)
      (ringAhead (fget v 20 6) (c.f (Reg.SES_TUN_SW o) 20 6)) (tunTaken o v c)) s) := by
  have hwrite := Nat.le_sub_of_add_le hroom
  unfold ringAhead at hread hwrite
  refine congrArg Host.Outcome.next ((if_pos hsvc).trans ((onWrite_of_takes htake _).trans (onChip_congr ?_)))
  simp only [sesTunWrite, hread, hwrite, decide_true, Bool.and_self, if_true]
  rfl

theorem tunTaken_fields (o : Nat) (v : Word) (c : Chip) :
    (tunTaken o v c).f (Reg.SES_TUN_SW o) 26 6 = fget v 26 6 ∧ (tunTaken o v c).f (Reg.SES_TUN_SW o) 20 6 = fget v 20 6 := by
  have hfit (lo : Nat) : fget v lo 6 % 2 ^ 6 = fget v lo 6 := Nat.mod_eq_of_lt (fget_lt v lo 6)
  rw [tunTaken, Chip.f_setF_apart _ _ _ _ _ _ _ (by decide), Chip.f_setF_same _ _ _ _ _ (by decide), Chip.f_setF_same _ _ _ _ _ (by decide)]
  exact ⟨hfit 26, hfit 20⟩

end Sys2Proof.Machine

/-- Settles O34: a write that its checks pass as it stands is its command's effect alone, and a latched command is one change of state, from a state
to another one, or the flag of a refusal. -/
theorem sessionCommands : Obligations.SessionCommands := by
  refine ⟨fun s p o hsvc htake => ⟨_, rfl, sesCmdWrite_spec hsvc htake⟩, fun s p o hsvc htake => ⟨_, rfl, sesCmdWrite_spec hsvc htake⟩,
    fun s p o hsvc htake => ⟨_, rfl, sesCmdWrite_spec hsvc htake⟩, fun s p o hsvc htake => ⟨_, rfl, sesCmdWrite_spec hsvc htake⟩,
    fun s p o hsvc htake => ⟨_, rfl, sesCmdWrite_spec hsvc htake⟩, fun s p o hsvc htake => ⟨_, rfl, sesCmdWrite_spec hsvc htake⟩,
    fun s p o v hsvc htake _ => ?credit, fun s p o v hsvc htake hread hroom => ?tunnel, fun e c o hgood => ?taken,
    fun e c o hcmd hbad => sesCommand_refused e hcmd hbad⟩
  case credit =>
    obtain ⟨hleft, hon, hregs⟩ := sesCreditSet_spec o v s.chip
    exact ⟨_, exec_creditSet_of_taken hsvc htake, hleft, hon, onChip_onlyChip _ s, hregs⟩
  case tunnel =>
    obtain ⟨hrd, hwr⟩ := tunTaken_fields o v s.chip
    have hregs : sameRegs [Reg.SES_TUN_SW o] s.chip (tunTaken o v s.chip) := sameRegs_wr (by simp) _ (sameRegs_wr (by simp) _ (fun _ _ => rfl))
    refine ⟨_, exec_tunSwWrite_of_advance hsvc htake hread hroom, hrd, hwr, onChip_onlyChip _ s, hregs⟩
  case taken =>
    have hmoves {dst : Nat} := sesCommand_moves (dst := dst) e hgood
    have hstops {dst : Nat} := sesCommand_stops (dst := dst) e hgood
    refine ⟨fun hcmd hst => hmoves (by rw [hcmd, hst]; rfl), fun hcmd hst => hmoves (by rw [hcmd, hst]; rfl),
      fun hcmd hst => hmoves (by rw [hcmd, hst]; rfl), fun hcmd hst => hmoves (by rw [hcmd, hst]; rfl), fun hcmd hst => ?ends,
      fun hcmd hst => ?stopping, fun hcmd hst => hmoves (by rw [hcmd, hst]; rfl)⟩
    case ends => rcases hst with hst | hst <;> exact hstops hcmd (by rw [hcmd, hst]; rfl)
    case stopping => rcases hst with hst | hst <;> exact hstops hcmd (by rw [hcmd, hst]; rfl)
end

section
/-! PROOF. A contactor's disagreement, an opening that is forced, a timer that reaches 0, and the rings of CRY (ch. 12, R398 to R412;
ch. 17, R606). -/
open Sys2Proof Sys2Proof.Machine
namespace Sys2Proof.Machine

/-! ### The entry of a change of state (R412) -/

/-- A word of the chip page is none of a session's. -/
theorem chipPage_ne_session {a : Nat} (h : a < 0x40001000) (o : Nat) :
    a ≠ Reg.SES_DEM_I o ∧ a ≠ Reg.SES_STATE o ∧ a ≠ Reg.SES_EVT o ∧ a ∉ turnWords o := by
  simp only [sesAddrs, List.mem_cons, List.not_mem_nil, or_false, not_or]
  omega

/-- A mark, what a change of state brings with it and a flag leave the chip page. -/
theorem sesMarked_chipPage (o new : Nat) (cause : Option Nat) (c : Chip) {a : Nat} (h : a < 0x40001000) :
    (sesMarked o new cause c).rd a = c.rd a := by
  obtain ⟨-, hstate, hevt, -⟩ := chipPage_ne_session h o
  exact sesMarked_regs o new cause c a (by simp [hstate, hevt])

theorem sesTurn_chipPage (o old new : Nat) (c : Chip) {a : Nat} (h : a < 0x40001000) : (sesTurn o old new c).rd a = c.rd a := by
  obtain ⟨-, -, -, hturn⟩ := chipPage_ne_session h o
  exact sesTurn_regs o old new c a hturn

theorem sesFlag_chipPage (o i : Nat) (c : Chip) {a : Nat} (h : a < 0x40001000) : (sesFlag o i c).rd a = c.rd a := by
  obtain ⟨-, -, hevt, -⟩ := chipPage_ne_session h o
  exact Chip.rd_setB_ne _ hevt

theorem sesFlag_ctl (o i : Nat) (c : Chip) : (sesFlag o i c).ctl = c.ctl := Chip.ctl_of_rd (sesFlag_chipPage o i c (by decide))

section
variable {e : Env} {o new : Nat} {c : Chip} (h : new ≠ sesState c o) (hctl : c.ctl = true) (cause : Option Nat)
include h hctl

/-- While the Control region runs, a change of state stores its entry. -/
theorem sesSet_of_ctl : sesSet e o new cause c =
    sesTurn o (sesState c o) new ((sesMarked o new cause c).put (sesEntry e o (sesState c o) new cause)) := by
  rw [sesSet_of_ne h, Chip.putAt_of_ctl _ _ ((Chip.ctl_of_rd (sesMarked_chipPage _ _ _ _ (by decide))).trans hctl)]

theorem sesSet_LOG_WR : (sesSet e o new cause c).rd Reg.CHIP_LOG_WR = c.rd Reg.CHIP_LOG_WR + 1 := by
  rw [sesSet_of_ctl h hctl, sesTurn_chipPage _ _ _ _ (by decide), Chip.put_rd_LOG_WR, sesMarked_chipPage _ _ _ _ (by decide)]

/-- The entry of a session that was stored last stays where it is. -/
theorem logged_sesSet {b : Chip} {en : LogEntry} {i k : Nat} (hsrc : en.src = srcWord 0x20 i k) (hlog : logged b c en)
    (hwr : c.rd Reg.CHIP_LOG_WR = b.rd Reg.CHIP_LOG_WR + 1) : logged b (sesSet e o new cause c) en := by
  have hmarked : logged b (sesMarked o new cause c) en := by rwa [logged, sesMarked_log]
  have hput := logged_put_session (next := sesEntry e o (sesState c o) new cause) hsrc rfl hmarked 
    ((sesMarked_chipPage o new cause c (by decide)).trans hwr)
  rwa [logged, sesSet_of_ctl h hctl, sesTurn_log]

end

/-! ### ISO_FAULT (R398, R402, R412) -/

/-- A disagreement of the contactor flagged, with its entry. -/
def isoShown (e : Env) (o : Nat) (c : Chip) : Chip :=
  (sesFlag o 9 c).log1 e 0x20 (o / 32) 0x02 ((if c.b (Reg.SES_STATE o) 21 then 64 else 0) + o)

/-- The fault of a session whose contactor disagrees. -/
def isoFaulted (e : Env) (o : Nat) (c : Chip) : Chip :=
  let d := sesSet e o 8 (some 9) (isoShown e o c)
  sesValid o (d.setSes o { d.sesOf o with taken := true, iso := false })

theorem exec_isoFault_of_disagrees {s : State} {o : Fin 64} (hsvc : s.chip.svc = true)
    (hport : (outletPort s.env.part s.chip o).isSome = true) (hdis : sesDisagrees s.chip o = true) (hst : sesState s.chip o ≠ 8) :
    exec (.isoFault o) s = .next (onChip (fun e c => isoFaulted e o c) s) := by
  refine congrArg Host.Outcome.next (onChip_congr ?_)
  simp only [hsvc, hport, hdis, hst, Bool.and_self, if_true, if_false]
  rfl

/-- Outside CHARGING, VALID is cleared and no other register changes (R397). -/
theorem sesValid_rd {o : Nat} {c : Chip} (h : sesState c o ≠ 5) (a : Nat) :
    (sesValid o c).rd a = if a = Reg.SES_DEM_I o then fsetb (c.rd (Reg.SES_DEM_I o)) 31 false else c.rd a := by
  rw [sesValid, if_neg h]
  exact Chip.rd_setB _ _ _ _ _

theorem sesValid_kept (o : Nat) (c : Chip) : (sesValid o c).log = c.log ∧ (sesValid o c).ses = c.ses := by
  unfold sesValid
  split <;> exact ⟨rfl, rfl⟩

/-- What a disagreement of the contactor leaves to see of its session. -/
structure IsoFaulted (e : Env) (o : Nat) (c d : Chip) : Prop where
  state : sesState d o = 8
  cause : d.f (Reg.SES_STATE o) 24 4 = 9
  flagged : d.b (Reg.SES_EVT o) 9 = true
  stored : d.rd Reg.CHIP_LOG_WR = c.rd Reg.CHIP_LOG_WR + 2
  entry : logged c d ⟨e.time.stamp, srcWord 0x20 (o / 32) 2, word ((if c.b (Reg.SES_STATE o) 21 then 64 else 0) + o)⟩

theorem IsoFaulted.of_rd {e : Env} {o : Nat} {b c d : Chip} (h : IsoFaulted e o b c) (hlog : d.log = c.log)
    (hrd : ∀ a, a ≠ Reg.SES_DEM_I o → d.rd a = c.rd a) : IsoFaulted e o b d := by
  have hstate : d.rd (Reg.SES_STATE o) = c.rd (Reg.SES_STATE o) := hrd _ (by simp [sesAddrs])
  constructor
  case state => rw [← h.state, sesState, Chip.f, hstate, sesState, Chip.f]
  case cause => rw [← h.cause, Chip.f, hstate, Chip.f]
  case flagged => rw [← h.flagged, Chip.b, hrd _ (by simp [sesAddrs]), Chip.b]
  case stored => rw [hrd _ (chipPage_ne_session (by decide) o).1, h.stored]
  case entry => rw [logged, hlog]; exact h.entry

section
variable {c : Chip} {o : Nat} (hctl : c.ctl = true) (e : Env)
include hctl

/-- Beside its entry, a disagreement shows as its flag alone. -/
theorem isoShown_rd {a : Nat} (ha : a ≠ Reg.CHIP_LOG_WR) : (isoShown e o c).rd a = (sesFlag o 9 c).rd a :=
  Chip.log1_rd_of_ctl ((sesFlag_ctl o 9 c).trans hctl) _ _ _ _ _ ha

theorem isoShown_LOG_WR : (isoShown e o c).rd Reg.CHIP_LOG_WR = c.rd Reg.CHIP_LOG_WR + 1 := by
  rw [isoShown, Chip.log1, Chip.putAt_of_ctl _ _ ((sesFlag_ctl o 9 c).trans hctl), Chip.put_rd_LOG_WR, sesFlag_chipPage _ _ _ (by decide)]

theorem isoShown_logged : logged c (isoShown e o c)
    ⟨e.time.stamp, srcWord 0x20 (o / 32) 2, word ((if c.b (Reg.SES_STATE o) 21 then 64 else 0) + o)⟩ :=
  logged_log1 (c := c) (d := sesFlag o 9 c) rfl (sesFlag_chipPage o 9 c (by decide)) ((sesFlag_ctl o 9 c).trans hctl) e _ _ _ _

theorem isoFaulted_set (hst : sesState c o ≠ 8) : IsoFaulted e o c (sesSet e o 8 (some 9) (isoShown e o c)) := by
  have hshown : (isoShown e o c).ctl = true := (Chip.ctl_of_rd (isoShown_rd hctl e (by decide))).trans ((sesFlag_ctl o 9 c).trans hctl)
  have hwr := isoShown_LOG_WR hctl e (o := o)
  have hnew : 8 ≠ sesState (isoShown e o c) o := by
    rw [sesState, Chip.f, isoShown_rd hctl e (by simp only [sesAddrs]; omega), sesFlag, Chip.rd_setB_ne _ (by simp [sesAddrs])]
    exact hst.symm
  constructor
  case state => exact sesState_sesSet hnew _ (by decide)
  case cause => exact sesSet_cause hnew (by decide)
  case flagged =>
    rw [sesSet_flag hnew _ (by decide), Chip.b, isoShown_rd hctl e (by simp only [sesAddrs]; omega)]
    exact Chip.b_setB_same _ _ _ _ (by decide)
  case stored => rw [sesSet_LOG_WR hnew hshown, hwr, BitVec.add_assoc]; rfl
  case entry => exact logged_sesSet hnew hshown _ rfl (isoShown_logged hctl e) hwr

/-- The session is FAULTED with its contactor commanded open, and asks for nothing. -/
theorem isoFaulted_spec (hst : sesState c o ≠ 8) : IsoFaulted e o c (isoFaulted e o c) ∧ ((isoFaulted e o c).sesOf o).iso = false ∧
    ((isoFaulted e o c).sesOf o).taken = true ∧ (isoFaulted e o c).b (Reg.SES_DEM_I o) 31 = false := by
  have hset := isoFaulted_set hctl e hst
  obtain ⟨f, hf, hfaulted⟩ : ∃ f, f = (sesSet e o 8 (some 9) (isoShown e o c)).setSes o
      { (sesSet e o 8 (some 9) (isoShown e o c)).sesOf o with taken := true, iso := false } ∧ isoFaulted e o c = sesValid o f := ⟨_, rfl, rfl⟩
  have hses : f.sesOf o = { (sesSet e o 8 (some 9) (isoShown e o c)).sesOf o with taken := true, iso := false } := hf ▸ Chip.sesOf_setSes _ _ _
  have hkept : IsoFaulted e o c f := hset.of_rd (by rw [hf]; rfl) (fun a _ => by rw [hf]; rfl)
  have hrd := sesValid_rd (o := o) (c := f) (by rw [hkept.state]; decide)
  obtain ⟨hlog, hsame⟩ := sesValid_kept o f
  have hof : (sesValid o f).sesOf o = f.sesOf o := by rw [Chip.sesOf, hsame, Chip.sesOf]
  rw [hfaulted, hof, hses]
  refine ⟨hkept.of_rd hlog fun a ha => (hrd a).trans (if_neg ha), rfl, rfl, ?_⟩
  rw [Chip.b, hrd, if_pos rfl]
  exact fbit_fsetb_same _ _ _ (by decide)

end

/-! ### OPEN_FORCED and SES_TIMER (R401, R407) -/

theorem exec_openForced_of_late {s : State} {o : Fin 64} (hsvc : s.chip.svc = true) (hst : sesState s.chip o = 6)
    (hiso : (s.chip.sesOf o).iso = true) (hlate : s.chip.f (Reg.SES_SCFG (o / 32)) 24 8 ≤ s.chip.f (Reg.SES_STATE o) 0 16) :
    exec (.openForced o) s = .next (onChip (fun _ c => sesFlag o 11 (c.setSes o { c.sesOf o with iso := false })) s) := by
  refine congrArg Host.Outcome.next (onChip_congr (if_pos ?_))
  rw [hsvc, hst, hiso, decide_eq_true hlate]
  rfl

/-- A timer that reached 0 is disabled and flagged, and with STOP it has expired. -/
def sesExpired (o : Nat) (c : Chip) : Chip :=
  let d := sesFlag o 10 (c.setB (Reg.SES_TIMER o) 31 false)
  if c.b (Reg.SES_TIMER o) 30 then d.setSes o { d.sesOf o with expired := true } else d

theorem exec_sesTimer_of_zero {s : State} {o : Fin 64} (hsvc : s.chip.svc = true) (hen : s.chip.b (Reg.SES_TIMER o) 31 = true)
    (hzero : s.chip.f (Reg.SES_TIMER o) 0 24 = 0) : exec (.sesTimer o) s = .next (onChip (fun _ c => sesExpired o c) s) := by
  refine congrArg Host.Outcome.next (onChip_congr (if_pos ?_))
  rw [hsvc, hen, hzero]
  rfl

/-- The words of an expiry do not tell whether it stops the session. -/
theorem sesExpired_rd (o : Nat) (c : Chip) : (sesExpired o c).rd = (sesFlag o 10 (c.setB (Reg.SES_TIMER o) 31 false)).rd := by
  unfold sesExpired
  dsimp only
  split <;> rfl

theorem sesExpired_expired (o : Nat) (c : Chip) :
    ((sesExpired o c).sesOf o).expired = ((c.sesOf o).expired || c.b (Reg.SES_TIMER o) 30) := by
  unfold sesExpired
  dsimp only
  split
  next hstop => rw [Chip.sesOf_setSes, hstop, Bool.or_true]
  next hgo => rw [Bool.eq_false_of_not_eq_true hgo, Bool.or_false]; rfl

/-! ### The rings of CRY (R408, R606) -/

theorem CrySt.ring_setRing (x : CrySt) (k : Nat) (l : List CryJob) : (x.setRing k l).ring k = l := tget_tset_same _ _ _ _
theorem CrySt.slot_fill_ne (x : CrySt) {n m : Nat} (h : m ≠ n) : (x.fill n).slot m = x.slot m := tget_tset_ne _ _ _ h

theorem exec_cryJob_of_svc {s : State} {x : CryReq} (hsvc : s.chip.svc = true) : exec (.cryJob x) s = .next (onChip (fun _ c =>
    { c with cry := c.cry.setRing x.ring (c.cry.ring x.ring ++ [{ names := x.names, fills := x.fills }]) }) s) :=
  congrArg Host.Outcome.next (onChip_congr (if_pos hsvc))

/-- A ring without its oldest job. -/
def cryDropped (k : Nat) (l : List CryJob) (c : Chip) : Chip := { c with cry := c.cry.setRing k l }

/-- A key made in its slot, before it is copied. -/
def cryFilled (n : Nat) (c : Chip) : Chip := { c with cry := c.cry.fill n }

/-- What a job does as it completes: with a key to make, it fills its slot, which an active chip copies. -/
def cryDone (j : CryJob) (c : Chip) : Chip := match j.fills with | some n => cryCopy n (cryFilled n c) | none => c

theorem exec_cryJobComplete_of_oldest {s : State} {k : Fin 4} {j : CryJob} {l : List CryJob} (hsvc : s.chip.svc = true)
    (hring : s.chip.cry.ring k = j :: l) : exec (.cryJobComplete k) s = .next (onChip (fun _ c => cryDone j (cryDropped k l c)) s) := by
  refine congrArg Host.Outcome.next (onChip_congr ((if_pos hsvc).trans ?_))
  obtain ⟨names, fills⟩ := j
  cases fills <;> simp only [hring] <;> rfl

theorem cryCopy_cry (n : Fin 256) (c : Chip) : (cryCopy n c).cry = c.cry := by
  unfold cryCopy
  split <;> rfl

theorem cryCopy_rd (n : Fin 256) (c : Chip) : (cryCopy n c).rd = c.rd := by
  unfold cryCopy
  split <;> rfl

/-- An active chip with a keyed link sends a key slot to its partner (R606). -/
theorem cryCopy_sesOut {n : Fin 256} {c : Chip} (hrole : c.role = 1) (hup : c.linkUp = true) (hkeyed : c.pair.keyed = true) :
    (cryCopy n c).pair.sesOut = c.pair.sesOut ++ [(0, .key n (c.cry.slot n) true)] := by
  rw [cryCopy, if_pos (by rw [hrole, hup, hkeyed]; rfl)]
  rfl

theorem cryDone_ring (j : CryJob) (c : Chip) (k : Nat) : (cryDone j c).cry.ring k = c.cry.ring k := by
  unfold cryDone
  split
  · rw [cryCopy_cry]; rfl
  · rfl

theorem cryDone_rd (j : CryJob) (c : Chip) : (cryDone j c).rd = c.rd := by
  unfold cryDone
  split
  · rw [cryCopy_rd]; rfl
  · rfl

/-- No slot but the one that it fills changes. -/
theorem cryDone_slot {j : CryJob} {n : Fin 256} (h : j.fills ≠ some n) (c : Chip) : (cryDone j c).cry.slot n = c.cry.slot n := by
  unfold cryDone
  split
  next m hm =>
    have hne : n.val ≠ m.val := fun heq => h (hm.trans (congrArg some (Fin.ext heq.symm)))
    rw [cryCopy_cry]
    exact CrySt.slot_fill_ne _ hne
  · rfl

theorem cryDone_copied {j : CryJob} {n : Fin 256} (h : j.fills = some n) {c : Chip} (hrole : c.role = 1) (hup : c.linkUp = true)
    (hkeyed : c.pair.keyed = true) : (cryDone j c).pair.sesOut = c.pair.sesOut ++ [(0, .key n ((cryDone j c).cry.slot n) true)] := by
  have hdone : cryDone j c = cryCopy n (cryFilled n c) := by rw [cryDone, h]
  rw [hdone, cryCopy_cry]
  exact cryCopy_sesOut (c := cryFilled n c) hrole hup hkeyed

end Sys2Proof.Machine

/-- Settles O35: the entry of a disagreement keeps its place before that of the change of state that follows it, since no entry ranks below a session's;
each of the other events is one change of its outlet's words or of CRY's rings and slots. -/
theorem sessionEvents : Obligations.SessionEvents := by
  refine ⟨fun s o hsvc hctl hport hdis hst => ?fault, fun s o hsvc hst hiso hlate => ?forced, fun s o hsvc hen hzero => ?timer,
    fun s x hsvc => ?job, fun s k j l hsvc hring => ?complete⟩
  case fault =>
    obtain ⟨h, hiso, htaken, hvalid⟩ := isoFaulted_spec hctl s.env hst
    exact ⟨_, exec_isoFault_of_disagrees hsvc hport hdis hst, h.state, h.cause, hiso, htaken, h.flagged, hvalid, h.stored, h.entry,
      onChip_onlyChip _ s⟩
  case forced =>
    exact ⟨_, exec_openForced_of_late hsvc hst hiso hlate, congrArg SesOut.iso (Chip.sesOf_setSes _ _ _), Chip.b_setB_same _ _ _ _ (by decide),
      onChip_onlyChip _ s, sameRegs_wr (by simp) _ (fun _ _ => rfl)⟩
  case timer =>
    have hne : Reg.SES_TIMER o ≠ Reg.SES_EVT o := by simp [sesAddrs]
    have hrd := sesExpired_rd o s.chip
    refine ⟨_, exec_sesTimer_of_zero hsvc hen hzero, ?_, ?_, sesExpired_expired _ _, onChip_onlyChip _ s, fun a ha => ?_⟩
    · rw [onChip_chip, Chip.b, hrd, sesFlag, Chip.rd_setB_ne _ hne]
      exact Chip.b_setB_same _ _ _ _ (by decide)
    · rw [onChip_chip, Chip.b, hrd]
      exact Chip.b_setB_same _ _ _ _ (by decide)
    · rw [onChip_chip, hrd]
      exact sameRegs_wr (by simp) _ (sameRegs_wr (by simp) _ (fun _ _ => rfl)) a ha
  case job => exact ⟨_, exec_cryJob_of_svc hsvc, CrySt.ring_setRing _ _ _, rfl, onChip_onlyChip _ s, fun _ _ => rfl⟩
  case complete =>
    refine ⟨_, exec_cryJobComplete_of_oldest hsvc hring, ?_, fun n hn => cryDone_slot hn _,
      fun n hn hrole hup hkeyed => cryDone_copied hn (c := cryDropped k l s.chip) hrole hup hkeyed, onChip_onlyChip _ s, fun a _ => ?_⟩
    · exact (cryDone_ring j _ k).trans (CrySt.ring_setRing _ _ _)
    · exact congrFun (cryDone_rd j _) a
end
